-- ==== Sys2Proof/Word.lean ====
section
/-!
DEFINITION. The word types of the part (R10: a word is 16 bits, a syllable 32, a word address 24) and the few
closed sets of names that commands and state share.
-/
namespace Sys2Proof

/-- A word, the only unit that engines and block registers address (R10). -/
abbrev W16 := BitVec 16
/-- A word address of the map (R20). -/
abbrev Addr := BitVec 24
/-- A syllable (R10, R94). -/
abbrev Syl := BitVec 32
/-- An octet of a frame, a command or a key (R10). -/
abbrev Octet := BitVec 8
/-- Words by address, in one canonical form: addresses strictly rising, no entry equal to its default. -/
abbrev Cells := List (Nat × BitVec 16)

/-- Who issues an access to the word address map (R26): a task on engine k, E0's service bank, or the debug
access port. -/
inductive Initiator where
  | engine (k : Fin 8)
  | service
  | debug
deriving DecidableEq, Repr

/-- The two RF chains (R125, R173): A sub-GHz, B 2.4 GHz. -/
inductive Chain where
  | A
  | B
deriving DecidableEq, Repr

/-- The three converters of the gauge (R313). -/
inductive Conv where
  | sd0
  | sd1
  | sar
deriving DecidableEq, Repr

/-- The clock sources with a missing-edge detector (R293). -/
inductive ClkSource where
  | xo32m
  | xo32k
  | rc16m
  | rc32k
  | rc4m
deriving DecidableEq, Repr

/-- The result of one serial transfer or received octet as the wire gave it (R326 to R329). -/
inductive WireResult where
  | ok
  | i2cNack
  | i2cArbLost
  | busTimeout
  | uartError
deriving DecidableEq, Repr

/-- A complex number with integer parts: a sample as the converter gives it (R171). -/
structure Cx where
  re : Int
  im : Int
deriving DecidableEq, Repr, Inhabited

/-- A sync event (R177): network time in fractions, and, of SUN FSK, the group and coding of the SFD matched (R141, R145). -/
structure SyncAt where
  time : BitVec 67
  group : Bool
  coded : Bool
deriving DecidableEq, Repr

/-- A PHY header as the lane's demodulator meets it (R146, R149, R150, R158, R166 to R168, R179). -/
inductive PhyHeader where
  /-- Uncoded SUN FSK: its reserved bits are 0, 4-octet FCS, the DW bit, length. -/
  | fsk (clean fcs4 whiten : Bool) (length : BitVec 11)
  /-- Coded SUN FSK: the soft values of the PHR's 32 coded bits and of the 48 that follow, in coded order. -/
  | fskCoded (soft : List Int)
  /-- SUN FSK mode switch: checksum, parity and reserved bits right, the parameter entry, and the target mode. -/
  | fskSwitch (bch parity clean : Bool) (entry : BitVec 2) (target : Octet)
  /-- SUN OFDM: HCS right, reserved bits 0, RATE, length, 4-octet FCS, scrambler seed and interleaving bit. -/
  | ofdm (hcsOk clean : Bool) (rate : BitVec 5) (length : BitVec 11) (fcs4 : Bool) (seed : BitVec 2) (interleaved : Bool)
  /-- O-QPSK: the PHR octet. -/
  | oqpsk (phr : Octet)
  /-- Sprint: the soft values of the header symbols' 96 positions. -/
  | sprint (soft : List Int)
  /-- Sprint: the two long training symbols and the two header symbols, by active subcarrier. -/
  | sprintRaw (y1 y2 : List Cx) (symbols : List (List Cx))
deriving DecidableEq, Repr

/-- A PSDU as the lane's demodulator meets it (R166 to R168, R188). -/
inductive RxPsdu where
  /-- Octets of an uncoded mode, before dewhitening, or of a coded mode as its decoder released them. -/
  | octets (os : List Octet)
  /-- Coded SUN FSK: the soft values from the PHR's first coded bit on, in coded order. -/
  | fskCoded (soft : List Int)
  /-- OFDM: the soft values of each data symbol's positions. -/
  | soft (symbols : List (List Int))
  /-- OFDM: the two long training symbols and each data symbol, by active subcarrier. -/
  | raw (y1 y2 : List Cx) (symbols : List (List Cx))
deriving DecidableEq, Repr

/-- How a Pannier store operation ends (R257, R347, R357). -/
inductive StoreResult where
  | ok
  | badDescriptor
  | authFail
  | slotBad
  | slotDenied
  | absent
  | timeout
  | ecc
  | programFail
  | eraseFail
  | range
  | writeProtected
deriving DecidableEq, Repr

/-- The type of a dictionary command's origin (R370). -/
inductive Origin where
  | none
  | wire
  | mesh (zone : BitVec 8) (node : BitVec 16)
  | internal (source : BitVec 8)
deriving DecidableEq, Repr

/-- ORIGIN as the 32-bit value of R370. -/
def Origin.code : Origin → BitVec 32
  | .none => 0
  | .wire => 0x40000000
  | .mesh z n => 0x80000000 ||| (z.setWidth 32 <<< 16) ||| n.setWidth 32
  | .internal s => 0xC0000000 ||| s.setWidth 32

/-- Number of a chain: 0 for A, 1 for B, as in `LNK_HOPADDR.CHAIN` and the RADIO entry's CHAIN (R37). -/
def Chain.ix : Chain → Nat
  | .A => 0
  | .B => 1

/-- The other chain. -/
def Chain.other : Chain → Chain
  | .A => .B
  | .B => .A

/-- Number of a converter, as in ring 45 requests (R321). -/
def Conv.ix : Conv → Nat
  | .sd0 => 0
  | .sd1 => 1
  | .sar => 2

/-- Bits hi..lo of a number. -/
def bits (v hi lo : Nat) : Nat := (v / 2 ^ lo) % 2 ^ (hi + 1 - lo)

/-- Bit b of a number. -/
def bit (v b : Nat) : Bool := v.testBit b

/-- Bits hi..lo of v replaced by the low bits of f. -/
def putBits (v hi lo f : Nat) : Nat :=
  v - bits v hi lo * 2 ^ lo + (f % 2 ^ (hi + 1 - lo)) * 2 ^ lo

/-- A number read as a two's complement value of w bits. -/
def signed (w v : Nat) : Int := if v % 2 ^ w < 2 ^ (w - 1) then ((v % 2 ^ w : Nat) : Int) else ((v % 2 ^ w : Nat) : Int) - ((2 ^ w : Nat) : Int)

/-- An integer as a two's complement number of w bits. -/
def unsigned (w : Nat) (v : Int) : Nat := (v % ((2 ^ w : Nat) : Int)).toNat

/-- The quotient rounded up. -/
def ceilDiv (a b : Nat) : Nat := (a + b - 1) / b

/-- The integer clamped into lo..hi. -/
def clampInt (lo hi v : Int) : Int := if v < lo then lo else if hi < v then hi else v

/-- Division rounded to the nearest integer, halves away from zero. -/
def roundDiv (a : Int) (b : Nat) : Int :=
  if 0 ≤ a then ((a.toNat * 2 + b) / (2 * b) : Nat) else - (((-a).toNat * 2 + b) / (2 * b) : Nat)

end Sys2Proof
end

