-- ==== Sys2Proof/Syntax.lean ====
section
/-!
DEFINITION. The commands that the part takes: one constructor per row of the command table, with the row's rule and
what it says, in the table's order but for the rows without operands, which stand last (compiled Lean has 244 tags for
constructors with operands, so the machine can be run). Operands are what the row leaves to its sender: who makes an
access, which unit, which place, and what the outside world shows at that instant (a measurement, the octets of a frame,
a level). `k` and `adv` of a syllable row are the engine and how many fabric cycles have passed since the engine's last
command.
-/
namespace Sys2Proof

/-- A command (the opcode table's rows). -/
inductive Instr where
  /-- REGISTER_WRITE (R13). A write to a register field without behaviour of its own applies the access codes,
  reserved-encoding refusal, multi-word holding and unmapped-address handling. -/
  | registerWrite (who : Initiator) (addr : Addr) (data : W16)
  /-- DEBUG_RESUME (R111). The debug access port resumes an engine halted by BRK. -/
  | debugResume (k : Fin 8) (halting : Bool)
  /-- SAMPLE_PRELOAD (R450). The boundary-scan SAMPLE/PRELOAD instruction. -/
  | samplePreload (outside data : BitVec 70)
  /-- DEMAND_WAKE_COMPLETE (R18). Once the woken domain reports ready, the stalled access completes with its
  normal result and the domain stays on. -/
  | demandWakeComplete (d : Fin 16)
  /-- SEQ_CTRL_COMMIT (R39). A write of COMMIT starts the whole-table check of the route sheet. -/
  | seqCtrlCommit (who : Initiator)
  /-- SEQ_CTRL_RELEASE (R40). A write of RELEASE requests that the sequencer stop at the next slot boundary. -/
  | seqCtrlRelease (who : Initiator)
  /-- SEQ_CTRL_POP (R53). A write of POP discards the head breach record. -/
  | seqCtrlPop (who : Initiator)
  /-- SEQ_CTRL_CLRCNT (R53). A write of CLRCNT clears every breach class counter. -/
  | seqCtrlClrcnt (who : Initiator)
  /-- SEQ_TBLDATA_ACCESS (R39). An access to SEQ_TBLDATA reads or writes the table word at SEQ_TBLADDR and
  increments the address. -/
  | seqTbldataAccess (who : Initiator) (w : Option W16)
  /-- ENTRY_FETCH (R41). The sequencer fetches each lap's next entry at least 4 µs before its instant. -/
  | entryFetch (n : Fin 8)
  /-- BUDGET_EXPIRY (R52). The end of a monitored entry's BUDGET fixes the comparison instant for guarded tasks
  and records OVERRUN for work not yet complete. -/
  | budgetExpiry (m : Fin 32)
  /-- RESERVE_WINDOW_END (R54). At window end the sequencer stops or drops unfinished third runs, restores the
  reserve engine's domain and fires the deferred entries. -/
  | reserveWindowEnd (rwin : Octet)
  /-- THIRD_RUN_START (R54). With the reserve domain and gear ready and a free commit buffer, the next queued
  third run starts on the reserve engine. -/
  | thirdRunStart (rwin : Octet)
  /-- DISPATCH (R64). A dispatch event at ENGk_DISPATCH starts the task on the engine or the tandem pair when the
  first bundle is due, after checking serviceability. -/
  | dispatch (k : Fin 8)
  /-- RADIO_TRANSMIT_DEDICATED (R193). A dedicated transmit cell fetches the eligible descriptor at A, prepares
  it, and transmits at A + 300 µs. -/
  | radioTransmitDedicated (c : Chain)
  /-- RADIO_TRANSMIT_SHARED (R202). A shared transmit cell applies the class backoff and, if the count is 0,
  transmits at A + 1,400 µs after CCA. -/
  | radioTransmitShared (c : Chain)
  /-- RADIO_RECEIVE (R193). A receive cell settles and opens a listening window of width g around the expected
  frame start. -/
  | radioReceive (c : Chain)
  /-- RADIO_SCAN (R193). A scan cell listens from A + 300 µs until 200 µs before the end of its slot. -/
  | radioScan (c : Chain)
  /-- RADIO_CONTROL_TRANSMIT (R197). A control transmit cell sends the head of ring 1, or else of relay priority
  class 0. -/
  | radioControlTransmit (c : Chain)
  /-- RADIO_CONTROL_RECEIVE (R47). A control receive cell listens and accepts only control frames, which it posts
  to ring 0. -/
  | radioControlReceive (c : Chain)
  /-- FC_RESERVATION_DURABLE (R211). The new frame-counter reservation becomes durable and a sealing waiting on it
  resumes. -/
  | fcReservationDurable (j : Fin 16)
  /-- CALIBRATION_GAP (R127). A calibration-gap event opens a gap in which a due calibration, and then a due tuner
  search, may start on an idle chain. -/
  | calibrationGap (c : Chain)
  /-- ENG_FLAG (R263). An event at ENGk_FLAG sets bit k of ENG_FLAGIN. -/
  | engFlag (k : Fin 8)
  /-- E0_SVC (R263). An event at E0_SVCn sets bit n of ENG_SVCIN and wakes E0's service bank. -/
  | e0Svc (n : Fin 16)
  /-- CONVERSION_START (R313). An event at GAU_SD0, GAU_SD1 or GAU_SAR starts a conversion on the third PER edge,
  unless the converter is busy. -/
  | conversionStart (c : Conv)
  /-- GAU_DAC_LOAD (R322). An event at GAU_DACn loads the staged DAC code into the output. -/
  | gauDacLoad (n : Fin 2)
  /-- GAU_PWM_RESTART (R323). An event at GAU_PWMn restarts the PWM period on its arrival edge. -/
  | gauPwmRestart (n : Fin 4)
  /-- GAU_IEX_TOGGLE (R315). An event at GAU_IEXn inverts the excitation source's EN. -/
  | gauIexToggle (n : Fin 2)
  /-- CAD_CAP (R309). An event at CAD_CAPn latches network time into RISE and FALL, sets WIDTH 0, completes a pair
  and fires CCn. -/
  | cadCap (n : Fin 8)
  /-- GPIO_TASK (R325). An event at GPIO_TASKk applies ACTION to the OUT bit of the pin that PER_TASKk names. -/
  | gpioTask (k : Fin 8)
  /-- LNK_ABORT (R263). An event at LNK_ABORTx aborts the chain's transmit attempt if it is still before its
  commit point. -/
  | lnkAbort (c : Chain)
  /-- CBL_FIRE_WRITE (R263). A write of CBL_FIRE fires the named producer's event with hop 0, which entry-bound
  consumers ignore. -/
  | cblFireWrite (who : Initiator) (producer : BitVec 7)
  /-- CBL_LVDATA_ACCESS (R266). An access to CBL_LVDATA reads or writes the gate of the cable at CBL_LVADDR and
  increments the address. -/
  | cblLvdataAccess (who : Initiator) (w : Option W16)
  /-- BUNDLE_ISSUE (R95). The engine fetches and issues one whole bundle per cycle, checking bundle structure,
  fetch errors and the end of instruction memory. -/
  | bundleIssue (k : Fin 8) (adv : BitVec 4)
  /-- DATA_TRAP (R112). A faulting load raises its data trap in the cycle its result would have become visible,
  leaving the destination unwritten. -/
  | dataTrap (k : Fin 8) (adv : BitVec 4)
  /-- ENGINE_ECC_WRITE_BACK (R60). A corrected scratchpad word or instruction syllable is written back in the
  memory's next cycle that no access uses. -/
  | engineEccWriteBack (k : Fin 8) (spad : Bool) (a : BitVec 15)
  /-- NOP (R102). No operation. -/
  | nop (k : Fin 8) (adv : BitVec 4)
  /-- ADD (R102). d := s + t, setting C V N Z. -/
  | add (k : Fin 8) (adv : BitVec 4) (d x y : BitVec 5)
  /-- ADC (R102). d := s + t + C. -/
  | adc (k : Fin 8) (adv : BitVec 4) (d x y : BitVec 5)
  /-- SUB (R102). d := s − t with borrow in C. -/
  | sub (k : Fin 8) (adv : BitVec 4) (d x y : BitVec 5)
  /-- SBC (R102). d := s − t − C. -/
  | sbc (k : Fin 8) (adv : BitVec 4) (d x y : BitVec 5)
  /-- ADDS (R102). Signed saturating addition. -/
  | adds (k : Fin 8) (adv : BitVec 4) (d x y : BitVec 5)
  /-- SUBS (R102). Signed saturating subtraction. -/
  | subs (k : Fin 8) (adv : BitVec 4) (d x y : BitVec 5)
  /-- AND (R102). Bitwise and. -/
  | and (k : Fin 8) (adv : BitVec 4) (d x y : BitVec 5)
  /-- OR (R102). Bitwise or. -/
  | or (k : Fin 8) (adv : BitVec 4) (d x y : BitVec 5)
  /-- XOR (R102). Bitwise exclusive or. -/
  | xor (k : Fin 8) (adv : BitVec 4) (d x y : BitVec 5)
  /-- ANDN (R102). d := s and not t. -/
  | andn (k : Fin 8) (adv : BitVec 4) (d x y : BitVec 5)
  /-- SHL (R102). Left shift by t[4:0]. -/
  | shl (k : Fin 8) (adv : BitVec 4) (d x y : BitVec 5)
  /-- SHR (R102). Logical right shift by t[4:0]. -/
  | shr (k : Fin 8) (adv : BitVec 4) (d x y : BitVec 5)
  /-- SAR (R102). Arithmetic right shift by t[4:0]. -/
  | sar (k : Fin 8) (adv : BitVec 4) (d x y : BitVec 5)
  /-- ROL (R102). Rotate left by t[3:0]. -/
  | rol (k : Fin 8) (adv : BitVec 4) (d x y : BitVec 5)
  /-- MIN (R102). Signed minimum. -/
  | min (k : Fin 8) (adv : BitVec 4) (d x y : BitVec 5)
  /-- MAX (R102). Signed maximum. -/
  | max (k : Fin 8) (adv : BitVec 4) (d x y : BitVec 5)
  /-- MINU (R102). Unsigned minimum. -/
  | minu (k : Fin 8) (adv : BitVec 4) (d x y : BitVec 5)
  /-- MAXU (R102). Unsigned maximum. -/
  | maxu (k : Fin 8) (adv : BitVec 4) (d x y : BitVec 5)
  /-- ABS (R102). Absolute value, with 8000h giving 7FFFh and setting SAT. -/
  | abs (k : Fin 8) (adv : BitVec 4) (d x : BitVec 5)
  /-- NEG (R102). d := 0 − s. -/
  | neg (k : Fin 8) (adv : BitVec 4) (d x : BitVec 5)
  /-- CMPEQ (R102). d := 1 if s = t. -/
  | cmpeq (k : Fin 8) (adv : BitVec 4) (d x y : BitVec 5)
  /-- CMPNE (R102). d := 1 if s ≠ t. -/
  | cmpne (k : Fin 8) (adv : BitVec 4) (d x y : BitVec 5)
  /-- CMPLT (R102). Signed less-than compare. -/
  | cmplt (k : Fin 8) (adv : BitVec 4) (d x y : BitVec 5)
  /-- CMPLTU (R102). Unsigned less-than compare. -/
  | cmpltu (k : Fin 8) (adv : BitVec 4) (d x y : BitVec 5)
  /-- MOVZ (R102). d := s if t = 0. -/
  | movz (k : Fin 8) (adv : BitVec 4) (d x y : BitVec 5)
  /-- MOVNZ (R102). d := s if t ≠ 0. -/
  | movnz (k : Fin 8) (adv : BitVec 4) (d x y : BitVec 5)
  /-- PACK (R102). Packs two low octets into one word. -/
  | pack (k : Fin 8) (adv : BitVec 4) (d x y : BitVec 5)
  /-- UNPKL (R102). d := s[7:0]. -/
  | unpkl (k : Fin 8) (adv : BitVec 4) (d x : BitVec 5)
  /-- UNPKH (R102). d := s[15:8]. -/
  | unpkh (k : Fin 8) (adv : BitVec 4) (d x : BitVec 5)
  /-- SWAPB (R102). Swaps the octets of s. -/
  | swapb (k : Fin 8) (adv : BitVec 4) (d x : BitVec 5)
  /-- SEXB (R102). Sign-extends s[7:0]. -/
  | sexb (k : Fin 8) (adv : BitVec 4) (d x : BitVec 5)
  /-- CLZ (R102). Counts the leading zeros of s. -/
  | clz (k : Fin 8) (adv : BitVec 4) (d x : BitVec 5)
  /-- POPC (R102). Counts the ones in s. -/
  | popc (k : Fin 8) (adv : BitVec 4) (d x : BitVec 5)
  /-- ADDI (R102). Adds a sign-extended immediate. -/
  | addi (k : Fin 8) (adv : BitVec 4) (d x : BitVec 5) (imm : BitVec 12)
  /-- ANDI (R102). And with a zero-extended immediate. -/
  | andi (k : Fin 8) (adv : BitVec 4) (d x : BitVec 5) (imm : BitVec 12)
  /-- ORI (R102). Or with a zero-extended immediate. -/
  | ori (k : Fin 8) (adv : BitVec 4) (d x : BitVec 5) (imm : BitVec 12)
  /-- XORI (R102). Exclusive or with a zero-extended immediate. -/
  | xori (k : Fin 8) (adv : BitVec 4) (d x : BitVec 5) (imm : BitVec 12)
  /-- SHLI (R102). Left shift by an immediate. -/
  | shli (k : Fin 8) (adv : BitVec 4) (d x : BitVec 5) (imm : BitVec 12)
  /-- SHRI (R102). Logical right shift by an immediate. -/
  | shri (k : Fin 8) (adv : BitVec 4) (d x : BitVec 5) (imm : BitVec 12)
  /-- SARI (R102). Arithmetic right shift by an immediate. -/
  | sari (k : Fin 8) (adv : BitVec 4) (d x : BitVec 5) (imm : BitVec 12)
  /-- CMPEQI (R102). Compares for equality with an immediate. -/
  | cmpeqi (k : Fin 8) (adv : BitVec 4) (d x : BitVec 5) (imm : BitVec 12)
  /-- CMPLTI (R102). Signed less-than compare with an immediate. -/
  | cmplti (k : Fin 8) (adv : BitVec 4) (d x : BitVec 5) (imm : BitVec 12)
  /-- MOVI (R102). d := IMM16. -/
  | movi (k : Fin 8) (adv : BitVec 4) (d : BitVec 5) (imm : W16)
  /-- MOVC (R102). Reads a control register. -/
  | movc (k : Fin 8) (adv : BitVec 4) (d : BitVec 5) (cr : BitVec 4)
  /-- MOVTC (R92). Writes a control register, ignoring RO fields, and traps GUARDOP for c12 and c13 in a buffered
  run. -/
  | movtc (k : Fin 8) (adv : BitVec 4) (x : BitVec 5) (cr : BitVec 4)
  /-- MUL (R103). Low word of the signed product. -/
  | mul (k : Fin 8) (adv : BitVec 4) (d x y : BitVec 5)
  /-- MULH (R103). High word of the signed product. -/
  | mulh (k : Fin 8) (adv : BitVec 4) (d x y : BitVec 5)
  /-- MULHU (R103). High word of the unsigned product. -/
  | mulhu (k : Fin 8) (adv : BitVec 4) (d x y : BitVec 5)
  /-- MULQ (R103). Rounded saturating Q15 product. -/
  | mulq (k : Fin 8) (adv : BitVec 4) (d x y : BitVec 5)
  /-- MPY (R103). acc := signed product. -/
  | mpy (k : Fin 8) (adv : BitVec 4) (x y : BitVec 5) (ac : BitVec 2)
  /-- MAC (R103). Adds the signed product to the accumulator. -/
  | mac (k : Fin 8) (adv : BitVec 4) (x y : BitVec 5) (ac : BitVec 2)
  /-- MSU (R103). Subtracts the signed product from the accumulator. -/
  | msu (k : Fin 8) (adv : BitVec 4) (x y : BitVec 5) (ac : BitVec 2)
  /-- MACU (R103). Adds the unsigned product to the accumulator. -/
  | macu (k : Fin 8) (adv : BitVec 4) (x y : BitVec 5) (ac : BitVec 2)
  /-- MACQ (R103). Adds the doubled signed product to the accumulator. -/
  | macq (k : Fin 8) (adv : BitVec 4) (x y : BitVec 5) (ac : BitVec 2)
  /-- ACLR (R103). Clears an accumulator. -/
  | aclr (k : Fin 8) (adv : BitVec 4) (ac : BitVec 2)
  /-- ASHL (R103). Shifts the accumulator left by IMM5. -/
  | ashl (k : Fin 8) (adv : BitVec 4) (ac : BitVec 2) (imm : BitVec 5)
  /-- ASHR (R103). Shifts the accumulator right arithmetically by IMM5. -/
  | ashr (k : Fin 8) (adv : BitVec 4) (ac : BitVec 2) (imm : BitVec 5)
  /-- AADD (R103). Adds another accumulator to the accumulator. -/
  | aadd (k : Fin 8) (adv : BitVec 4) (ac : BitVec 2) (imm : BitVec 5)
  /-- ALD (R103). Loads an accumulator from two g registers. -/
  | ald (k : Fin 8) (adv : BitVec 4) (x y : BitVec 5) (ac : BitVec 2)
  /-- AEXT (R103). Extracts a rounded, shifted, saturated word from the accumulator. -/
  | aext (k : Fin 8) (adv : BitVec 4) (d : BitVec 5) (ac : BitVec 2) (imm : BitVec 5)
  /-- AEXTL (R103). d := acc[15:0]. -/
  | aextl (k : Fin 8) (adv : BitVec 4) (d : BitVec 5) (ac : BitVec 2)
  /-- AEXTH (R103). d := acc[31:16]. -/
  | aexth (k : Fin 8) (adv : BitVec 4) (d : BitVec 5) (ac : BitVec 2)
  /-- AEXTG (R103). d := sext(acc[39:32]). -/
  | aextg (k : Fin 8) (adv : BitVec 4) (d : BitVec 5) (ac : BitVec 2)
  /-- LA (R104). Loads a 24-bit address register. -/
  | la (k : Fin 8) (adv : BitVec 4) (a : BitVec 3) (imm : Addr)
  /-- LD (R104). Loads a word from the effective address, checked against the map and served by scratchpad,
  crossbar, window or commit buffer. -/
  | ld (k : Fin 8) (adv : BitVec 4) (g : BitVec 5) (a : BitVec 3) (mode : BitVec 2) (imm : BitVec 12)
  /-- ST (R104). Stores a word, or appends it to the commit buffer in a buffered run. -/
  | st (k : Fin 8) (adv : BitVec 4) (g : BitVec 5) (a : BitVec 3) (mode : BitVec 2) (imm : BitVec 12)
  /-- LDIM (R104). Reads a word of the engine's own instruction memory. -/
  | ldim (k : Fin 8) (adv : BitVec 4) (g x : BitVec 5)
  /-- ADA (R104). a[A] := a[B] + sext(IMM16). -/
  | ada (k : Fin 8) (adv : BitVec 4) (a b : BitVec 3) (imm : W16)
  /-- MOVGA (R104). Forms an address register from two g registers. -/
  | movga (k : Fin 8) (adv : BitVec 4) (a : BitVec 3) (x y : BitVec 5)
  /-- MOVAG (R104). Moves part of an address register to a g register. -/
  | movag (k : Fin 8) (adv : BitVec 4) (g : BitVec 5) (a : BitVec 3) (h : Bool)
  /-- QAVL (R250). Returns the descriptors ready for the consumer. -/
  | qavl (k : Fin 8) (adv : BitVec 4) (g : BitVec 5) (ring : BitVec 6)
  /-- QSPACE (R250). Returns the free places for the producer. -/
  | qspace (k : Fin 8) (adv : BitVec 4) (g : BitVec 5) (ring : BitVec 6)
  /-- QHEAD (R250). Returns the address of the head descriptor. -/
  | qhead (k : Fin 8) (adv : BitVec 4) (a : BitVec 3) (ring : BitVec 6)
  /-- QTAIL (R250). Returns the address of the next free place. -/
  | qtail (k : Fin 8) (adv : BitVec 4) (a : BitVec 3) (ring : BitVec 6)
  /-- QPOST (R250). Advances the producer index by N, or is refused under R251 or buffered. -/
  | qpost (k : Fin 8) (adv : BitVec 4) (ring : BitVec 6) (n : BitVec 11)
  /-- QFETCH (R250). Advances the consumer index, or CQR on a request ring, freeing places. -/
  | qfetch (k : Fin 8) (adv : BitVec 4) (ring : BitVec 6) (n : BitVec 11)
  /-- QEVT (R107). Fires the engine's producer event N on the cable matrix, or traps GUARDOP in a buffered run. -/
  | qevt (k : Fin 8) (adv : BitVec 4) (n : BitVec 2)
  /-- BR (R108). Branches to TARGET after one delay bundle. -/
  | br (k : Fin 8) (adv : BitVec 4) (target : BitVec 14)
  /-- BZ (R108). Branches if g[G] = 0. -/
  | bz (k : Fin 8) (adv : BitVec 4) (g : BitVec 5) (target : BitVec 14)
  /-- BNZ (R108). Branches if g[G] ≠ 0. -/
  | bnz (k : Fin 8) (adv : BitVec 4) (g : BitVec 5) (target : BitVec 14)
  /-- BLTZ (R108). Branches if g[G] is negative. -/
  | bltz (k : Fin 8) (adv : BitVec 4) (g : BitVec 5) (target : BitVec 14)
  /-- BGEZ (R108). Branches if g[G] is not negative. -/
  | bgez (k : Fin 8) (adv : BitVec 4) (g : BitVec 5) (target : BitVec 14)
  /-- BDEC (R108). Decrements g[G] and branches if the result is nonzero. -/
  | bdec (k : Fin 8) (adv : BitVec 4) (g : BitVec 5) (target : BitVec 14)
  /-- CALL (R108). Writes the link to g31 and branches. -/
  | call (k : Fin 8) (adv : BitVec 4) (target : BitVec 14)
  /-- JR (R108). Branches to g[G][13:0]. -/
  | jr (k : Fin 8) (adv : BitVec 4) (g : BitVec 5)
  /-- TRAP (R108). Raises SOFT with code TARGET[7:0]. -/
  | trap (k : Fin 8) (adv : BitVec 4) (code : Octet)
  /-- RETT (R115). Clears INTRAP and resumes at TPC, then at TNPC if DS is set. -/
  | rett (k : Fin 8) (adv : BitVec 4)
  /-- TEND (R110). Ends the task after its bundle, forming the digest in a buffered run and returning E0 to its
  service bank. -/
  | tend (k : Fin 8) (adv : BitVec 4)
  /-- BRK (R111). Halts the engine if debug halting is enabled and unlocked; otherwise no operation. -/
  | brk (k : Fin 8) (adv : BitVec 4)
  /-- OFF_SLOT_SERVED (R70). A waiting off-slot access is served in its first usable cycle and completes 4 cycles
  later. -/
  | offSlotServed (port : BitVec 4) (adv : BitVec 4)
  /-- CROSSBAR_TIMEOUT (R71). An access unserved for 256 cycles completes with an error response, raising BUSERR
  for a load. -/
  | crossbarTimeout (port : BitVec 4)
  /-- DRAIN_ENTRY (R78). A drained buffer entry is performed in the first in-slot cycle for its bank, with the
  drain ending after its last entry. -/
  | drainEntry (k : Fin 8) (adv : BitVec 4)
  /-- DRAIN_ENTRY_TIMEOUT (R78). A drained entry not served within 256 cycles is discarded with a second OFF_SLOT
  record. -/
  | drainEntryTimeout (k : Fin 8)
  /-- ENG_LDDATA_WRITE (R62). Writes one word into the target engine's memory at ENG_LDADDR and increments the
  address. -/
  | engLddataWrite (who : Initiator) (data : W16)
  /-- ENG_LDCTL_DONE (R62). Writing DONE sets LOADED of the target engine. -/
  | engLdctlDone (who : Initiator) (k : Fin 8)
  /-- ENG_TEST_START (R88). Starts a self-test of one engine if no test runs and the engine is on and idle or
  retired. -/
  | engTestStart (who : Initiator) (k : Fin 8)
  /-- SELF_TEST_DONE (R88). The self-test ends after 180,000 engine cycles, setting TESTPASS on success and
  leaving memories cleared. -/
  | selfTestDone (pass : Bool)
  /-- ENG_REINT_WRITE (R89). With CONFIRM A5h and a retired, tested and loaded engine, the engine returns to
  service and the sequencer applies R58. -/
  | engReintWrite (who : Initiator) (confirm : Octet) (k : Fin 8)
  /-- ENG_RETSET_WRITE (R86). While the sheet is idle, sets retirement bits in the order of the writes. -/
  | engRetsetWrite (who : Initiator) (set : BitVec 8)
  /-- RING_GPDATA_ACCESS (R69). An access to RING_GPDATA reads or writes four port codes of the pattern memory and
  increments the address. -/
  | ringGpdataAccess (who : Initiator) (w : Option W16)
  /-- RING_GPCUR_WRITE (R72). A write of RING_GPCUR changes the current grant pattern from the next fabric cycle.
  -/
  | ringGpcurWrite (who : Initiator) (pattern : BitVec 6)
  /-- RESERVATION_GRANT (R252). A waiting hardware producer is granted the ring's reservation in request order,
  writes the place and posts it. -/
  | reservationGrant (ring : BitVec 6)
  /-- RING_ABORT_WRITE (R259). A write of RING_ABORT requests the abort of the named descriptor. -/
  | ringAbortWrite (who : Initiator) (ring : BitVec 6) (place : BitVec 10)
  /-- CANCEL_ON_POST (R261). A descriptor posted while its consumer is disabled is completed CANCELLED_BY_DISABLE
  by the ring controller. -/
  | cancelOnPost (ring : BitVec 6)
  /-- PREPARE_DONE (R278). When every block has answered or 32 cycles pass, the entry goes to COMMIT or, on one
  refusal, is aborted. -/
  | prepareDone (noReply : Option (BitVec 5))
  /-- WAKE_COMPARE_MATCH (R301). A wake compare whose target the sleep counter reaches disarms, sets FIRED and
  raises its wake source. -/
  | wakeCompareMatch (n : Fin 8)
  /-- WAKE_PIN (R275). An active level or edge on WKUP0–WKUP3 raises a wake request for its wake set. -/
  | wakePin (n : Fin 4) (level window : Bool)
  /-- PWR_DOMCMD_WRITE (R276). Queues a domain transition, subject to retired-engine and committed-sheet rules. -/
  | pwrDomcmdWrite (who : Initiator) (d : Fin 16) (st : BitVec 2)
  /-- PWR_GEARSET_WRITE (R291). Sets the target gear while the sheet is idle. -/
  | pwrGearsetWrite (who : Initiator) (g : BitVec 3)
  /-- SRAM_ECC_WRITE_BACK (R282). A corrected shared SRAM or pattern word is written back in the bank's next idle
  cycle. -/
  | sramEccWriteBack (a : Addr)
  /-- CLK_GATE_WRITE (R287). Writing 1 raises a quiesce request to a unit, and writing 0 opens the gate. -/
  | clkGateWrite (who : Initiator) (mask : BitVec 15)
  /-- GATE_CLOSE (R287). The unit acknowledges the quiesce request and its gate closes. -/
  | gateClose (n : Fin 15)
  /-- GATE_REFUSED (R287). No acknowledgement within 64 unit cycles leaves the gate open and gives a class 7
  record. -/
  | gateRefused (n : Fin 15)
  /-- CLOCK_SOURCE_FAILURE (R295). A tripped missing-edge detector forces outputs safe, records the reason and
  starts the fallback. -/
  | clockSourceFailure (src : ClkSource)
  /-- FREQUENCY_COUNT (R293). A frequency count window ends, qualifying a source or declaring a failure. -/
  | frequencyCount (src : ClkSource) (count : W16)
  /-- PRIMARY_RESTART (R297). While on a fallback, the failed primary is restarted every 100 ms or 1 s. -/
  | primaryRestart (src : ClkSource)
  /-- CLK_CTRL_RECHECK (R293). Starts one count of every running source. -/
  | clkCtrlRecheck (who : Initiator)
  /-- COMPARE_FIRE (R303). A compare-mode channel fires CCn when network time reaches its target, advancing or
  rebasing a periodic target. -/
  | compareFire (n : Fin 8)
  /-- CAD_WC_WRITE (R302). Writing word 2 of a wake compare target arms it. -/
  | cadWcWrite (who : Initiator) (n : Fin 8) (v : W16)
  /-- CAD_CC_TGT_WRITE (R302). Writing the highest target word arms a compare-mode channel. -/
  | cadCcTgtWrite (who : Initiator) (n : Fin 8) (v : W16)
  /-- CAD_CC_PER_WRITE (R304). Writing PER recomputes the pending target from its anchor. -/
  | cadCcPerWrite (who : Initiator) (n : Fin 8) (v : W16)
  /-- CAD_CC_CFG_WRITE (R305). Changing MODE to off or capture disarms an armed channel. -/
  | cadCcCfgWrite (who : Initiator) (n : Fin 8) (v : W16)
  /-- CAPTURE_EDGE (R307). A selected edge on CAPn is captured, completes a pair as EDGE states and fires CCn. -/
  | captureEdge (n : Fin 8) (rising : Bool)
  /-- CAPTURE_LATCH_READ (R308). Reading word 0 of CAD_CCn_RISE latches RISE, FALL and WIDTH and clears NEW. -/
  | captureLatchRead (who : Initiator) (n : Fin 8)
  /-- SNAP_LATCH_READ (R308). Reading word 0 of CAD_SNAP latches its upper words. -/
  | snapLatchRead (who : Initiator)
  /-- PPS_INPUT_EDGE (R312). An active edge on the PPS input fires PPS_IN. -/
  | ppsInputEdge (rising : Bool)
  /-- CONVERSION_DONE (R320). A conversion ends and posts its record to ring 44, firing its producer and judging
  limits. -/
  | conversionDone (c : Conv) (raw : BitVec 24) (sar : List W16) (refFault excFault openInput overRange : Bool)
  /-- GAU_DAC_LOADNOW (R322). Writing LOADNOW loads the staged DAC code. -/
  | gauDacLoadnow (who : Initiator) (n : Fin 2)
  /-- DAC_SETTLED (R322). The DAC output settles 10 µs after a load and GAU_DAC fires. -/
  | dacSettled (n : Fin 2)
  /-- PWM_PERIOD_START (R323). A PWM period starts and fires GAU_PWMn. -/
  | pwmPeriodStart (n : Fin 4)
  /-- GAUGE_DISABLE (R319). Writing GAU_CTRL.EN 00b stops acceptance and cancels work before its commit point. -/
  | gaugeDisable (who : Initiator)
  /-- GPIO_EDGE (R325). A selected pin edge sets EVTFLAG and fires PER_GPIOA or PER_GPIOB. -/
  | gpioEdge (pin : Fin 48) (rising : Bool)
  /-- TRANSFER_START (R326). A START write or cable event starts the staged serial transfer unless the unit is
  busy. -/
  | transferStart (u : Fin 6)
  /-- TRANSFER_END (R326). A serial transfer ends with its CODE, sets DONE and fires PER_SER. -/
  | transferEnd (u : Fin 6) (got : List W16) (w : WireResult)
  /-- UART_RX_OCTET (R329). A received UART octet enters RXDATA or sets UART_ERROR, and firing PER_SER at RXTHR.
  -/
  | uartRxOctet (second : Bool) (octet : Octet) (bad : Bool)
  /-- SERIAL_DISABLE (R326). Writing a serial unit's EN 00b cancels a transfer that has not reached its first bit.
  -/
  | serialDisable (who : Initiator) (u : Fin 6) (began : Bool)
  /-- SETTLE_START (R119). At the lead before an operation the chain checks range, dwell, temperature, VPA and
  tuner profile, admits lanes and starts settling. -/
  | settleStart (c : Chain) (temp : BitVec 8) (vpa : BitVec 12)
  /-- LOCK_QUALIFIED (R120). The lock detector qualifies the synthesiser and the chain is LOCKED. -/
  | lockQualified (c : Chain)
  /-- LOCK_LOST (R120). Phase error leaving the window cuts the operation and returns the chain to IDLE. -/
  | lockLost (c : Chain)
  /-- GRANT_CHECK (R121). At C − 4 µs a transmission is abandoned with NO_GRANT if the other chain transmits or
  COEX_GNT is absent. -/
  | grantCheck (c : Chain) (gnt : Bool)
  /-- PA_ENABLE (R121). At C − 2 µs the PA enables if lock is qualified, which is the descriptor's commit point.
  -/
  | paEnable (c : Chain)
  /-- TX_FIRST_SYMBOL (R118). The first symbol leaves at C exactly and RFx_TX fires. -/
  | txFirstSymbol (c : Chain)
  /-- TX_END (R118). The last symbol ends, dwell is charged, and the chain turns to receive or ramps to IDLE. -/
  | txEnd (c : Chain)
  /-- MODE_SWITCH_CARRIER_END (R151). After the 40 µs carrier of a mode switch the target PPDU starts. -/
  | modeSwitchCarrierEnd (c : Chain)
  /-- TURNAROUND_DONE (R118). The 12 µs turnaround ends and the chain is in RX or TX. -/
  | turnaroundDone (c : Chain)
  /-- RECEIVE_START (R175). At the receive instant admitted lanes enter SEARCH, after the grant check at R − 4 µs.
  -/
  | receiveStart (c : Chain) (gnt : Bool)
  /-- LISTEN_END (R175). At the listening end searching lanes go to OFF, and a cell without a hit counts a miss.
  -/
  | listenEnd (c : Chain)
  /-- RECEIVE_END (R175). The receive operation ends when the last lane finishes, and the chain goes to IDLE. -/
  | receiveEnd (c : Chain)
  /-- MISMATCH_MEASURE (R133). At C + 20 µs the reflection result sets ADVISE and may reduce power by 6 or 12 dB.
  -/
  | mismatchMeasure (gamma : Octet)
  /-- CALIBRATION_DONE (R118). A full calibration ends after 180 µs, recording CALTEMP and returning the chain to
  IDLE. -/
  | calibrationDone (c : Chain) (temp : BitVec 8)
  /-- SEARCH_DONE (R135). A tuner search ends, writing the best setting to the profile and clearing SEARCH_DUE and
  ADVISE. -/
  | searchDone (gammas : List Octet)
  /-- RFX_CTRL_CALREQ (R127). Writing CALREQ sets CAL_DUE. -/
  | rfxCtrlCalreq (who : Initiator) (c : Chain)
  /-- RFA_CTRL_SEARCH (R135). Writing SEARCH sets SEARCH_DUE, except in bypass. -/
  | rfaCtrlSearch (who : Initiator)
  /-- COEX_REQUEST (R138). COEX_REQ asserts REQLEAD before the operation's instant, with COEX_PRI giving priority.
  -/
  | coexRequest (c : Chain)
  /-- COEX_GNT_DEASSERT (R138). A deasserted grant during an operation stops the PA or receiver within 1 µs. -/
  | coexGntDeassert (c : Chain)
  /-- COEX_RELEASE (R138). COEX_REQ and COEX_PRI release 2 µs after the operation ends. -/
  | coexRelease (c : Chain)
  /-- DETECTION (R177). The primary correlator detects a preamble and the lane enters SYNC with P_cur set. -/
  | detection (k : Fin 10) (p : BitVec 12)
  /-- SYNC_EVENT (R177). The sync event moves the lane to HEADER and fixes the receive timestamp. -/
  | syncEvent (k : Fin 10) (e : SyncAt)
  /-- SYNC_LOST (R178). Four weak windows or the sync limit return the lane to SEARCH as a false detection. -/
  | syncLost (k : Fin 10)
  /-- HEADER_CHECK (R177). The header check result either commits the frame and reserves a ring place or returns
  the lane to SEARCH. -/
  | headerCheck (k : Fin 10) (h : PhyHeader)
  /-- MODE_SWITCH_TIMEOUT (R152). After 1,000 µs without a confirmed header the lane returns to its configured
  mode. -/
  | modeSwitchTimeout (k : Fin 10)
  /-- CANDIDATE (R182). The second correlator's candidate is judged once, giving a silent restart or a breakaway.
  `seen` are the preambles of one detection window: power in half dBm, and distance of the preamble timing from the
  current frame's in 1/768 µs (R181); `snr` is in sixteenths of a dB, `offset` in ppb (R184). -/
  | candidate (k : Fin 10) (seen : List (BitVec 12 × Nat)) (got : List Octet) (snr : BitVec 12) (offset : BitVec 24)
  /-- FRAME_END (R188). After the last PSDU symbol the lane hands the frame to the link controller, which runs
  filter steps 1–8, and returns to SEARCH. -/
  | frameEnd (k : Fin 10) (psdu : RxPsdu) (snr : BitVec 12) (offset : BitVec 24)
  /-- RSSINOW_UPDATE (R184). RSSINOW is updated every 8 µs while the lane is not OFF. `p` and `e` are the mean power
  over 32 µs and over 8 symbol periods, in sixteenths of a dBm. -/
  | rssinowUpdate (k : Fin 10) (p e : BitVec 12)
  /-- LANE_DISABLE (R191). Writing EN 00b stops the lane, letting a frame past its commit point complete first. -/
  | laneDisable (who : Initiator) (k : Fin 10)
  /-- ACK_TRANSMIT (R204). At frame end + GAP the acknowledgement is sent, or withheld under R205, ending the
  receive operation. -/
  | ackTransmit (c : Chain) (gnt : Bool)
  /-- ACK_WAIT_EXPIRY (R203). No preamble by T_ack + WAIT ends the attempt with NO_ACK. -/
  | ackWaitExpiry (c : Chain)
  /-- CCA_END (R201). At the end of D the channel is judged busy, ending the attempt CCA_BUSY, or clear. -/
  | ccaEnd (c : Chain) (p : BitVec 12)
  /-- LINK_DISABLE (R200). Writing LNK_CTRL.EN 00b cancels descriptors before their commit point and rejects
  frames. -/
  | linkDisable (who : Initiator)
  /-- LNK_HOPDATA_ACCESS (R192). An access to LNK_HOPDATA reads or writes a hop entry and increments the address.
  -/
  | lnkHopdataAccess (who : Initiator) (w : Option W16)
  /-- MSH_STAGECTL_WRITE (R227). With CONFIRM A5h, changes the role and sets MSH_STAGE as the rule allows. -/
  | mshStagectlWrite (who : Initiator) (v : W16)
  /-- SEEN_SCRUB (R233). The background scrub clears dead seen-cache entries and counts DUAL entries that arrived
  single. -/
  | seenScrub (set : BitVec 12)
  /-- RELAY_DISABLE (R239). Writing MSH_CTRL.EN 00b stops new relays and cancels relays before their commit point.
  -/
  | relayDisable (who : Initiator)
  /-- MSH_PATHDATA_ACCESS (R235). An access to MSH_PATHDATA reads or writes a path entry and increments the
  address. -/
  | mshPathdataAccess (who : Initiator) (w : Option W16)
  /-- MSH_NBRDATA_ACCESS (R246). An access to MSH_NBRDATA reads or writes a neighbour word between judgements and
  increments the address. -/
  | mshNbrdataAccess (who : Initiator) (w : Option W16)
  /-- VAULT_COMPLETION (R343). A vault operation finishes and writes its result words and completion record. -/
  | vaultCompletion (unit : Fin 3)
  /-- NONCE_RESERVATION_DURABLE (R345). A slot's new nonce reservation becomes durable and a waiting seal resumes.
  -/
  | nonceReservationDurable (slot : Octet)
  /-- VLT_CTRL_RESEED (R354). Writing RESEED reseeds the DRBG. -/
  | vltCtrlReseed (who : Initiator)
  /-- VAULT_DISABLE (R357). Writing VLT_CTRL.EN 00b cancels pending requests and denies internal-path seals and
  opens. -/
  | vaultDisable (who : Initiator)
  /-- JNL_CTRL_COMMIT (R382). Queues the entry staged in JNL_STAGEw. -/
  | jnlCtrlCommit (who : Initiator)
  /-- FRAME_HEADER (R396). A Waifeti header is checked, raises the wake request and is acknowledged or not. -/
  | frameHeader (addr : BitVec 6) (type : BitVec 4) (len : BitVec 11) (fseq : BitVec 3) (hchk : Octet)
  /-- CMD (R398). A CMD frame body is written to a receive slot and posted to ring 0, or answered as a repeat. -/
  | cmd (body : List Octet) (crc : BitVec 16)
  /-- FETCH (R398). A FETCH frame returns the oldest pending response, which leaves only when accepted. -/
  | fetch (accept : Bool)
  /-- ASSIGN (R394). An ASSIGN frame gives an eligible unassigned unit its address and raises CHAIN_OUT. -/
  | assign (value : Octet) (crc : BitVec 16)
  /-- STATUS (R398). A STATUS frame returns the unit's status octets and clears CABLEIRQ when accepted. -/
  | status (accept : Bool)
  /-- RESET (R399). A RESET frame is posted and, if its nonce and tag pass, performs a SOFT reset or releases the
  address. -/
  | reset (body : List Octet) (crc : BitVec 16)
  /-- RESPONSE_EXPIRY (R400). A response not fetched within RSPLIFE × 10 ms is discarded. -/
  | responseExpiry (slot : Fin 4)
  /-- WFL_RSPCTL_WRITE (R398). Marks a response slot pending with its length. -/
  | wflRspctlWrite (who : Initiator) (slot : Fin 4) (len : BitVec 11)
  /-- WFL_RXFREE_WRITE (R398). Frees receive slots. -/
  | wflRxfreeWrite (who : Initiator) (slots : BitVec 4)
  /-- WFL_ADDRCTL_RELEASE (R399). With CONFIRM A5h, returns the unit's address to 0 and lowers CHAIN_OUT. -/
  | wflAddrctlRelease (who : Initiator) (confirm : Octet)
  /-- WAIFETI_DISABLE (R402). Writing WFL_CFG.EN 00b stops acknowledging headers until pending responses are
  fetched. -/
  | waifetiDisable (who : Initiator)
  /-- SYS_MWDATA_WRITE (R404). Writes one MRAM word at SYS_MWADDR through the write port. -/
  | sysMwdataWrite (who : Initiator) (data : W16)
  /-- SYS_E0LDDATA_WRITE (R406). Writes one word of E0's service image and increments the address. -/
  | sysE0lddataWrite (who : Initiator) (data : W16)
  /-- PANNIER_STORE_REQUEST (R247). The Pannier store interface takes a generic request from rings 40–43 and
  starts the store operation it names. -/
  | pannierStoreRequest (ring : Fin 4)
  /-- PANNIER_STORE_COMPLETION (R262). A Pannier store operation ends, writes its status and completion record,
  and fires PAN_DONE. -/
  | pannierStoreCompletion (ring : Fin 4) (status : StoreResult) (result : W16)
  /-- CHAIN_IN_CHANGE (R395). CHAIN_IN rising while the unit is unassigned makes it pull WIRQ low, and the unit
  becomes eligible for ASSIGN. -/
  | chainInChange (level : Bool)
  /-- VIO_SUPPLY_LOSS (R433). When VIO1 or VIO2 is lost while VBAT stays, the balls of that ring go high
  impedance, their inputs read 0, and the wake pins and freewheel on VIO1 stop acting. -/
  | vioSupplyLoss (second : Bool)
  /-- VIO_SUPPLY_RETURN (R433). When VIO1 or VIO2 returns, the balls, wake pins and freewheel of that ring act
  again. -/
  | vioSupplyReturn (second : Bool)
  /-- POWER_ON_RESET (R12). Power-on resets the always-on domain and every switched domain, returns the gear to G0
  and queues the start set. -/
  | powerOnReset
  /-- BROWN_OUT (R436). VBAT below the brown-out threshold applies POR with CAUSE 2h. -/
  | brownOut
  /-- OVER_TEMPERATURE (R436). A junction above 150 °C applies the brown-out reset, which is released below 135
  °C. -/
  | overTemperature
  /-- JTAG_SYSTEM_RESET (R405). A system reset requested through JTAG performs a SOFT reset with CAUSE 5h. -/
  | jtagSystemReset
  /-- BYPASS (R450). The boundary-scan BYPASS instruction. -/
  | bypass
  /-- EXTEST (R450). The boundary-scan EXTEST instruction. -/
  | extest
  /-- CLAMP (R450). The boundary-scan CLAMP instruction. -/
  | clamp
  /-- HIGHZ (R450). The boundary-scan HIGHZ instruction. -/
  | highz
  /-- COMMIT_CHECK_COMPLETE (R39). The table check ends, and either locks the RWL fields and runs the laps from
  their origins, or refuses with INDEX and CODE. -/
  | commitCheckComplete
  /-- SLOT_START (R33). At each slot boundary the ASN advances, and the lap positions, the crossbar phase and
  pending placement, release and retired-domain actions take effect. -/
  | slotStart
  /-- ENTRY_FIRE (R41). On the network-time tick equal to an entry's instant, the sequencer raises the entry's
  action through its producer cables, in lap and table order, at most 4 per tick. -/
  | entryFire
  /-- GRANT (R45). A GRANT event at RING_GRANT loads the crossbar grant pattern on the next fabric cycle. -/
  | grant
  /-- DOMAIN (R276). A DOMAIN event at PWR_DOMAIN queues a domain transition, with banks for PD8. -/
  | domain
  /-- GEAR (R45). A GEAR event at PWR_GEAR sets the derailleur's target gear. -/
  | gear
  /-- WAKECMP (R44). A WAKECMP event at AON_WAKECMP sets and arms a wake compare at sc(instant) + floor(DELTA × 64
  / 62500). -/
  | wakecmp
  /-- START_CONFIRMED (R46). The first START_CONFIRMED mark after a start clears the boot-attempt counter, sets
  CONFIRMED and writes a journal entry. -/
  | startConfirmed
  /-- CAD_PPSOUT (R312). An event at CAD_PPSOUT starts a PPS output pulse and fires CAD_PPS. -/
  | cadPpsout
  /-- CAD_NTSNAP (R309). An event at CAD_NTSNAP latches the arrival tick into CAD_SNAP. -/
  | cadNtsnap
  /-- PER_GPIOSNAP (R325). An event at PER_GPIOSNAP latches all 48 GPIO inputs into SNAP. -/
  | perGpiosnap
  /-- WFL_IRQ (R400). An event at WFL_IRQ sets CABLEIRQ, which pulls WIRQ low. -/
  | wflIrq
  /-- ABORT_REQUEST_ARRIVAL (R259). The abort reaches the consuming block and is answered ABORTED, ABORT_TOO_LATE
  or BAD_DESCRIPTOR in RING_ABORTSTAT. -/
  | abortRequestArrival
  /-- TRANSITION_START (R276). When the transition in progress ends, the power controller takes up the next queued
  transition, demand wakes first. -/
  | transitionStart
  /-- WAKE_STEP_READY (R274). A wake step's ready signal starts the next of regulator, clock, memory and logic,
  and the domain reports ready after logic. -/
  | wakeStepReady
  /-- ENTRY_COMPLETE (R280). COMMIT ends with the domain in retention or off, canaries written, and any latched
  wake run next. -/
  | entryComplete
  /-- GEAR_STEP_END (R289). A 20 µs gear step ends and the derailleur starts the next step towards its target. -/
  | gearStepEnd
  /-- PLL_LOCK_LOST (R290). The fabric falls to G0, the PLL restarts and CLK_EVT fires with reason 9. -/
  | pllLockLost
  /-- BANK_REBUILD (R286). On PWR_EVT the lead engine's service rebuilds each LOST bank from its declared source
  and clears its bit. -/
  | bankRebuild
  /-- XO_PRESTART (R294). XO32M is started CLK_XLEAD sleep ticks ahead of an enabled wake compare target. -/
  | xoPrestart
  /-- NT_REBUILD (R300). After a PD10 wake or clock failure, network time is rebuilt at the next sleep-counter
  edge. -/
  | ntRebuild
  /-- ARM (R311). A ring 47 ARM request writes PER and a target and arms a compare-mode channel. -/
  | arm
  /-- DISARM (R311). A ring 47 DISARM request disarms a channel. -/
  | disarm
  /-- PPS_AUTO (R312). With AUTO set, a PPS pulse starts at each whole second of network time. -/
  | ppsAuto
  /-- PPS_PULSE_END (R312). The PPS output pulse ends after WIDTH × 10 µs. -/
  | ppsPulseEnd
  /-- CONVERT (R321). A ring 45 CONVERT request starts a conversion when the converter is free. -/
  | convert
  /-- DACSET (R321). A ring 45 DACSET request loads a DAC code. -/
  | dacset
  /-- ACCEPT_DECISION (R208). The link controller ends its judgement through security, replay and control checks,
  then acknowledges, detects duplicates, judges stage and time, and posts or relays. -/
  | acceptDecision
  /-- DWELL_SUBWINDOW_ADVANCE (R215). Advancing network time clears the oldest dwell sub-windows. -/
  | dwellSubwindowAdvance
  /-- TIME_STEP (R219). On the first tick after the receive operation ends, network time is stepped and the rate
  trim updated. -/
  | timeStep
  /-- TRIM_FRACTION (R219). When the accumulated trim reaches one fraction, network time gains or loses 3.90625
  ns. -/
  | trimFraction
  /-- STAGE_STORE (R228). The dictionary service stores the stage and role in points 1202h.01 and .02 within 1 ms.
  -/
  | stageStore
  /-- STAGE_RESTORE (R228). At start and at a wake of PD11 from off, the service restores the stored stage and
  role. -/
  | stageRestore
  /-- HOLDOFF_END (R233). The holdoff after a PD11 DOM reset ends after LIFE coarse steps. -/
  | holdoffEnd
  /-- RELAY_POST (R238). A relay descriptor is placed on its ring within 200 µs after the frame it copies. -/
  | relayPost
  /-- HOLD_APPLY (R240). Once the hold's journal entry is durable, the relay engine sets hold times, aborts held
  relays and posts HOLD_APPLIED. -/
  | holdApply
  /-- HOLD_COUNTDOWN (R240). Every 100 ms each hold count decrements, and HOLD_ENDED is posted at 0. -/
  | holdCountdown
  /-- ORIGINATE_FLOOD (R241). A ring 29 FLOOD descriptor is assigned a SEQ, entered in the seen cache and queued.
  -/
  | originateFlood
  /-- ORIGINATE_PATH (R242). A ring 29 PATH descriptor is queued to its path's neighbour, twice if DUAL. -/
  | originatePath
  /-- ORIGINATE_HOLD (R241). A ring 29 HOLD descriptor is applied locally and queued in class 0. -/
  | originateHold
  /-- CCM_SEAL (R341). CCM seal with a vault-assigned nonce. -/
  | ccmSeal
  /-- CCM_DECRYPT (R347). CCM decryption, with zero-fill on tag failure. -/
  | ccmDecrypt
  /-- CCM_OPEN (R347). CCM tag verification only. -/
  | ccmOpen
  /-- GCM_SEAL (R341). GCM seal with a vault-assigned nonce. -/
  | gcmSeal
  /-- GCM_DECRYPT (R347). GCM decryption, with zero-fill on tag failure. -/
  | gcmDecrypt
  /-- GCM_OPEN (R347). GCM tag verification only. -/
  | gcmOpen
  /-- CMAC_GEN (R341). Generates a CMAC tag. -/
  | cmacGen
  /-- CMAC_VERIFY (R341). Verifies a CMAC tag. -/
  | cmacVerify
  /-- SHA256 (R348). Continues or finishes a SHA-256 digest in a context at AUX. -/
  | sha256
  /-- SHA384 (R348). Continues or finishes a SHA-384 digest in a context at AUX. -/
  | sha384
  /-- ECDSA_SIGN (R349). Signs with a P-384 private key. -/
  | ecdsaSign
  /-- ECDSA_VERIFY (R349). Verifies a P-384 signature. -/
  | ecdsaVerify
  /-- LMS_VERIFY (R350). Verifies an LMS signature. -/
  | lmsVerify
  /-- DUAL_VERIFY (R352). Verifies both an ECDSA and an LMS signature over one message. -/
  | dualVerify
  /-- KEY_INSTALL (R352). Opens a wrapped blob and writes a new slot record, resetting bound link counters. -/
  | keyInstall
  /-- KEY_EXPORT (R352). Wraps an exportable key out as a blob. -/
  | keyExport
  /-- KEY_ERASE (R341). Erases a slot. -/
  | keyErase
  /-- KEY_GENERATE (R341). Generates a key or key pair into slots. -/
  | keyGenerate
  /-- PUBKEY_READ (R341). Reads out an exportable public key. -/
  | pubkeyRead
  /-- RANDOM (R354). Returns DRBG octets. -/
  | random
  /-- ENROL (R332). Enrols or re-enrols the PUF root and generates the device keys. -/
  | enrol
  /-- ATTEST (R353). Builds, reserves an LMS leaf for, signs and releases an attestation statement. -/
  | attest
  /-- EXTEND (R353). Extends MEAS0 or MEAS1 with data. -/
  | extend
  /-- DEBUG_UNLOCK (R356). Verifies a signed unlock statement and clears the debug lock. -/
  | debugUnlock
  /-- LMS_RESERVATION_DURABLE (R351). The LMS leaf reservation becomes durable and LMS signing starts. -/
  | lmsReservationDurable
  /-- RESEED_COMPLETE (R354). A reseed with passing health tests clears RNGFAIL and serves pending requests. -/
  | reseedComplete
  /-- READ (R367). The dictionary service reads a point. -/
  | read
  /-- WRITE (R373). The dictionary service journals and writes a point. -/
  | write
  /-- JOURNAL_READ (R367). The dictionary service returns up to 16 journal entries. -/
  | journalRead
  /-- HOLD (R377). A HOLD command is journaled and posted to ring 29 as KIND HOLD. -/
  | hold
  /-- CANCEL (R376). Cancels an EXEC of the same origin if it is before its commit point. -/
  | cancel
  /-- REINTEGRATE_ENGINE (R88). EXEC 2010h.02 wakes, self-tests, loads and reintegrates a retired engine, or
  resets for E0. -/
  | reintegrateEngine
  /-- COMMIT_SHEET (R364). EXEC 9001h.01 loads a sheet image and writes SEQ_CTRL.COMMIT. -/
  | commitSheet
  /-- RELEASE_SHEET (R364). EXEC 9001h.02 writes SEQ_CTRL.RELEASE. -/
  | releaseSheet
  /-- ATTEST_EXEC (R385). EXEC B000h.01 fills the issuer octets and posts ATTEST. -/
  | attestExec
  /-- DEBUG_UNLOCK_EXEC (R364). EXEC B002h.01 posts DEBUG_UNLOCK with the statement in B002h.02. -/
  | debugUnlockExec
  /-- LEAVE_KICKSTAND (R413). EXEC D000h.03 clears the boot-attempt count and performs a SOFT reset with CAUSE 8h.
  -/
  | leaveKickstand
  /-- SYSTEM_RESET (R405). EXEC D000h.04 performs a SOFT reset with CAUSE 3h. -/
  | systemReset
  /-- OPEN_STAGING (R417). EXEC D010h.02 checks the staged header and opens staging. -/
  | openStaging
  /-- BODY_CHUNK (R418). A write of D010h.03 makes one body chunk durable at the expected offset. -/
  | bodyChunk
  /-- CLOSE_STAGING (R418). EXEC D010h.05 checks length, records and digest, and marks the image staged. -/
  | closeStaging
  /-- ACTIVATE (R419). EXEC D011h.01 arms the activation at TA and TS and arms WC7. -/
  | activate
  /-- ACTIVATION_START (R420). At TA the loader re-verifies staging, writes COPY_START and starts copying
  sections. -/
  | activationStart
  /-- SECTION_DONE (R420). A section copy completes and is journaled, and COPY_DONE follows after the header. -/
  | sectionDone
  /-- SWITCH_RELEASE (R422). During slot s − 1 the loader releases the old sheet. -/
  | switchRelease
  /-- JOURNAL_ACCEPT (R382). The journal writer accepts the next waiting entry in source order. -/
  | journalAccept
  /-- JOURNAL_ENTRY_DURABLE (R382). An entry becomes durable, JNL_DURABLE advances and fires, and a waiting
  command commits. -/
  | journalEntryDurable
  /-- JOURNAL_TIMEOUT (R379). An entry not durable within 100 µs refuses the command with JOURNAL_UNAVAILABLE. -/
  | journalTimeout
  /-- PING (R390). A PING frame wakes and probes only. -/
  | ping
  /-- FRAME_ABANDON (R401). No WCK edge for 100 µs inside a frame abandons it and frees its slot. -/
  | frameAbandon
  /-- IDLE_RESYNC (R401). 40 consecutive WDI 1s return the freewheel to looking for idle. -/
  | idleResync
  /-- BOOT_START (R406). When PD0 is ready after a reset, E0 starts at 2800h, increments the boot-attempt count
  and chooses a normal start or kickstand. -/
  | bootStart
  /-- START_IMAGE_CHECK_DONE (R410). Completion of the running image's verification lets the start continue, or
  enters kickstand with a reason. -/
  | startImageCheckDone
  /-- START_XO_TIMEOUT (R407). XO32M unqualified 20 ms after release makes the start continue at G0 into kickstand
  with reason 0006h. -/
  | startXoTimeout
  /-- MRAM_WORD_DURABLE (R404). A word becomes durable 250 ns after its write starts and the port serves the next
  request. -/
  | mramWordDurable
  /-- PLL_RELOCK (R290). The restarted PLL regains lock, PLLLOCK sets, and the next GEAR entry is obeyed again. -/
  | pllRelock
  /-- ENTROPY_HEALTH_FAILURE (R354). The entropy source fails its health tests, setting RNGFAIL and incrementing
  VLT_RNGFAILCNT. -/
  | entropyHealthFailure
  /-- SLEEP_COUNTER_EDGE (R300). Each sleep-counter edge advances the sleep counter and, while PD10 is on, is
  timestamped to update the pair (sc_a, nt_a) kept in AON. -/
  | sleepCounterEdge
deriving DecidableEq, Repr

end Sys2Proof
end

