-- ==== Sys2Proof/WellFormed.lean ====
section
/-!
DEFINITION. Well-formed commands: the few lists and addresses among the operands lie within what the part can meet.
Every other operand's type has exactly the values that its field or event can take.
-/
namespace Sys2Proof

/-- Soft values lie from -7 to +7 (R167). -/
def softOk (vs : List Int) : Bool := vs.all fun v => -7 ≤ v && v ≤ 7

/-- A header's soft values are as many as its coded bits (R157, R179), a Sprint symbol has 52 active subcarriers (R153). -/
def PhyHeader.wf : PhyHeader → Bool
  | .fskCoded soft => soft.length == 80 && softOk soft
  | .sprint soft => soft.length == 96 && softOk soft
  | .sprintRaw y1 y2 symbols => symbols.length == 2 && (y1 :: y2 :: symbols).all fun y => y.length == 52
  | .fsk .. => true
  | .fskSwitch .. => true
  | .ofdm .. => true
  | .oqpsk .. => true

/-- A PSDU is no longer than R143 allows, and its soft values are soft values (R167). -/
def RxPsdu.wf : RxPsdu → Bool
  | .octets os => os.length ≤ 2047
  | .fskCoded vs => softOk vs && vs.length ≤ 16 * 2050
  | .soft symbols => symbols.all softOk && symbols.length ≤ 16384
  | .raw _ _ symbols => symbols.length ≤ 16384

/-- The operands are ones that the outside world can give: a list no longer than the frame, FIFO or search that brings
it (R135, R316, R326, R389), a word address of shared SRAM (R20), an instruction or scratchpad word (R60). -/
def Instr.wf : Instr → Bool
  | .registerWrite .. => true
  | .debugResume .. => true
  | .samplePreload .. => true
  | .demandWakeComplete .. => true
  | .seqCtrlCommit .. => true
  | .seqCtrlRelease .. => true
  | .seqCtrlPop .. => true
  | .seqCtrlClrcnt .. => true
  | .seqTbldataAccess .. => true
  | .entryFetch .. => true
  | .budgetExpiry .. => true
  | .reserveWindowEnd .. => true
  | .thirdRunStart .. => true
  | .dispatch .. => true
  | .radioTransmitDedicated .. => true
  | .radioTransmitShared .. => true
  | .radioReceive .. => true
  | .radioScan .. => true
  | .radioControlTransmit .. => true
  | .radioControlReceive .. => true
  | .fcReservationDurable .. => true
  | .calibrationGap .. => true
  | .engFlag .. => true
  | .e0Svc .. => true
  | .conversionStart .. => true
  | .gauDacLoad .. => true
  | .gauPwmRestart .. => true
  | .gauIexToggle .. => true
  | .cadCap .. => true
  | .gpioTask .. => true
  | .lnkAbort .. => true
  | .cblFireWrite .. => true
  | .cblLvdataAccess .. => true
  | .bundleIssue .. => true
  | .dataTrap .. => true
  | .engineEccWriteBack _ spad a => spad || a.toNat < 0x4000
  | .nop .. => true
  | .add .. => true
  | .adc .. => true
  | .sub .. => true
  | .sbc .. => true
  | .adds .. => true
  | .subs .. => true
  | .and .. => true
  | .or .. => true
  | .xor .. => true
  | .andn .. => true
  | .shl .. => true
  | .shr .. => true
  | .sar .. => true
  | .rol .. => true
  | .min .. => true
  | .max .. => true
  | .minu .. => true
  | .maxu .. => true
  | .abs .. => true
  | .neg .. => true
  | .cmpeq .. => true
  | .cmpne .. => true
  | .cmplt .. => true
  | .cmpltu .. => true
  | .movz .. => true
  | .movnz .. => true
  | .pack .. => true
  | .unpkl .. => true
  | .unpkh .. => true
  | .swapb .. => true
  | .sexb .. => true
  | .clz .. => true
  | .popc .. => true
  | .addi .. => true
  | .andi .. => true
  | .ori .. => true
  | .xori .. => true
  | .shli .. => true
  | .shri .. => true
  | .sari .. => true
  | .cmpeqi .. => true
  | .cmplti .. => true
  | .movi .. => true
  | .movc .. => true
  | .movtc .. => true
  | .mul .. => true
  | .mulh .. => true
  | .mulhu .. => true
  | .mulq .. => true
  | .mpy .. => true
  | .mac .. => true
  | .msu .. => true
  | .macu .. => true
  | .macq .. => true
  | .aclr .. => true
  | .ashl .. => true
  | .ashr .. => true
  | .aadd .. => true
  | .ald .. => true
  | .aext .. => true
  | .aextl .. => true
  | .aexth .. => true
  | .aextg .. => true
  | .la .. => true
  | .ld .. => true
  | .st .. => true
  | .ldim .. => true
  | .ada .. => true
  | .movga .. => true
  | .movag .. => true
  | .qavl .. => true
  | .qspace .. => true
  | .qhead .. => true
  | .qtail .. => true
  | .qpost .. => true
  | .qfetch .. => true
  | .qevt .. => true
  | .br .. => true
  | .bz .. => true
  | .bnz .. => true
  | .bltz .. => true
  | .bgez .. => true
  | .bdec .. => true
  | .call .. => true
  | .jr .. => true
  | .trap .. => true
  | .rett .. => true
  | .tend .. => true
  | .brk .. => true
  | .offSlotServed .. => true
  | .crossbarTimeout .. => true
  | .drainEntry .. => true
  | .drainEntryTimeout .. => true
  | .engLddataWrite .. => true
  | .engLdctlDone .. => true
  | .engTestStart .. => true
  | .selfTestDone .. => true
  | .engReintWrite .. => true
  | .engRetsetWrite .. => true
  | .ringGpdataAccess .. => true
  | .ringGpcurWrite .. => true
  | .reservationGrant .. => true
  | .ringAbortWrite .. => true
  | .cancelOnPost .. => true
  | .prepareDone .. => true
  | .wakeCompareMatch .. => true
  | .wakePin .. => true
  | .pwrDomcmdWrite .. => true
  | .pwrGearsetWrite .. => true
  | .sramEccWriteBack a => 0x100000 ≤ a.toNat && a.toNat < 0x200000
  | .clkGateWrite .. => true
  | .gateClose .. => true
  | .gateRefused .. => true
  | .clockSourceFailure .. => true
  | .frequencyCount .. => true
  | .primaryRestart .. => true
  | .clkCtrlRecheck .. => true
  | .compareFire .. => true
  | .cadWcWrite .. => true
  | .cadCcTgtWrite .. => true
  | .cadCcPerWrite .. => true
  | .cadCcCfgWrite .. => true
  | .captureEdge .. => true
  | .captureLatchRead .. => true
  | .snapLatchRead .. => true
  | .ppsInputEdge .. => true
  | .conversionDone _ _ samples _ _ _ _ => samples.length ≤ 9
  | .gauDacLoadnow .. => true
  | .dacSettled .. => true
  | .pwmPeriodStart .. => true
  | .gaugeDisable .. => true
  | .gpioEdge .. => true
  | .transferStart .. => true
  | .transferEnd _ got _ => got.length ≤ 16
  | .uartRxOctet .. => true
  | .serialDisable .. => true
  | .settleStart .. => true
  | .lockQualified .. => true
  | .lockLost .. => true
  | .grantCheck .. => true
  | .paEnable .. => true
  | .txFirstSymbol .. => true
  | .txEnd .. => true
  | .modeSwitchCarrierEnd .. => true
  | .turnaroundDone .. => true
  | .receiveStart .. => true
  | .listenEnd .. => true
  | .receiveEnd .. => true
  | .mismatchMeasure .. => true
  | .calibrationDone .. => true
  | .searchDone gammas => gammas.length ≤ 101
  | .rfxCtrlCalreq .. => true
  | .rfaCtrlSearch .. => true
  | .coexRequest .. => true
  | .coexGntDeassert .. => true
  | .coexRelease .. => true
  | .detection .. => true
  | .syncEvent .. => true
  | .syncLost .. => true
  | .headerCheck _ h => h.wf
  | .modeSwitchTimeout .. => true
  | .candidate _ seen got _ _ => seen.length ≤ 64 && got.length ≤ 2047
  | .frameEnd _ psdu _ _ => psdu.wf
  | .rssinowUpdate .. => true
  | .laneDisable .. => true
  | .ackTransmit .. => true
  | .ackWaitExpiry .. => true
  | .ccaEnd .. => true
  | .linkDisable .. => true
  | .lnkHopdataAccess .. => true
  | .mshStagectlWrite .. => true
  | .seenScrub .. => true
  | .relayDisable .. => true
  | .mshPathdataAccess .. => true
  | .mshNbrdataAccess .. => true
  | .vaultCompletion .. => true
  | .nonceReservationDurable .. => true
  | .vltCtrlReseed .. => true
  | .vaultDisable .. => true
  | .jnlCtrlCommit .. => true
  | .frameHeader .. => true
  | .cmd body _ => body.length ≤ 2047
  | .fetch .. => true
  | .assign .. => true
  | .status .. => true
  | .reset body _ => body.length ≤ 2047
  | .responseExpiry .. => true
  | .wflRspctlWrite .. => true
  | .wflRxfreeWrite .. => true
  | .wflAddrctlRelease .. => true
  | .waifetiDisable .. => true
  | .sysMwdataWrite .. => true
  | .sysE0lddataWrite .. => true
  | .pannierStoreRequest .. => true
  | .pannierStoreCompletion .. => true
  | .chainInChange .. => true
  | .vioSupplyLoss .. => true
  | .vioSupplyReturn .. => true
  | .powerOnReset => true
  | .brownOut => true
  | .overTemperature => true
  | .jtagSystemReset => true
  | .bypass => true
  | .extest => true
  | .clamp => true
  | .highz => true
  | .commitCheckComplete => true
  | .slotStart => true
  | .entryFire => true
  | .grant => true
  | .domain => true
  | .gear => true
  | .wakecmp => true
  | .startConfirmed => true
  | .cadPpsout => true
  | .cadNtsnap => true
  | .perGpiosnap => true
  | .wflIrq => true
  | .abortRequestArrival => true
  | .transitionStart => true
  | .wakeStepReady => true
  | .entryComplete => true
  | .gearStepEnd => true
  | .pllLockLost => true
  | .bankRebuild => true
  | .xoPrestart => true
  | .ntRebuild => true
  | .arm => true
  | .disarm => true
  | .ppsAuto => true
  | .ppsPulseEnd => true
  | .convert => true
  | .dacset => true
  | .acceptDecision => true
  | .dwellSubwindowAdvance => true
  | .timeStep => true
  | .trimFraction => true
  | .stageStore => true
  | .stageRestore => true
  | .holdoffEnd => true
  | .relayPost => true
  | .holdApply => true
  | .holdCountdown => true
  | .originateFlood => true
  | .originatePath => true
  | .originateHold => true
  | .ccmSeal => true
  | .ccmDecrypt => true
  | .ccmOpen => true
  | .gcmSeal => true
  | .gcmDecrypt => true
  | .gcmOpen => true
  | .cmacGen => true
  | .cmacVerify => true
  | .sha256 => true
  | .sha384 => true
  | .ecdsaSign => true
  | .ecdsaVerify => true
  | .lmsVerify => true
  | .dualVerify => true
  | .keyInstall => true
  | .keyExport => true
  | .keyErase => true
  | .keyGenerate => true
  | .pubkeyRead => true
  | .random => true
  | .enrol => true
  | .attest => true
  | .extend => true
  | .debugUnlock => true
  | .lmsReservationDurable => true
  | .reseedComplete => true
  | .read => true
  | .write => true
  | .journalRead => true
  | .hold => true
  | .cancel => true
  | .reintegrateEngine => true
  | .commitSheet => true
  | .releaseSheet => true
  | .attestExec => true
  | .debugUnlockExec => true
  | .leaveKickstand => true
  | .systemReset => true
  | .openStaging => true
  | .bodyChunk => true
  | .closeStaging => true
  | .activate => true
  | .activationStart => true
  | .sectionDone => true
  | .switchRelease => true
  | .journalAccept => true
  | .journalEntryDurable => true
  | .journalTimeout => true
  | .ping => true
  | .frameAbandon => true
  | .idleResync => true
  | .bootStart => true
  | .startImageCheckDone => true
  | .startXoTimeout => true
  | .mramWordDurable => true
  | .pllRelock => true
  | .entropyHealthFailure => true
  | .sleepCounterEdge => true

end Sys2Proof
end

