-- ==== Sys2Proof/Decode.lean ====
section
/-!
DEFINITION. The decoder that the host asks for. The command table gives no row any bits: a command reaches the part on
a bus, a pin, a clock or a timer, not as a word of one format, so no word spells one. (The syllables of Spoke code are
read by Machine/Operands.lean: they are data of an engine's memory, not words of this table.)
-/
namespace Sys2Proof

/-- The command that a word of the table's format spells: the table gives no format. -/
def decodeTableWord (_nbits _w : Nat) : Option Instr := none

end Sys2Proof
end

