-- ==== Sys2Proof/Config.lean ====
section
/-!
DEFINITION. What the spec leaves to the part or to chance: free values, as constants without a body. Nothing can be
proved of the number any of them gives.
-/
namespace Sys2Proof.Config

/-- The n-th free value of w bits that a run draws (log entry 4): random draws, keys, unstated results. -/
opaque freeValue : (w : Nat) → Nat → BitVec w

/-- AES-CCM* over a key identity, a nonce and octets (R341): the octets sealed, tag included. -/
opaque ccmSeal : (key nonce level : Nat) → (header body : List Octet) → List Octet

/-- The body that CCM* opening recovers, none where the tag does not verify (R347). -/
opaque ccmOpen : (key nonce level : Nat) → (header body : List Octet) → Option (List Octet)

/-- A digest or cipher result of the vault as a word list of the length asked for (R341 to R353), by operation code,
key identity and input words. -/
opaque vaultResult : (op key : Nat) → (input : List W16) → (words : Nat) → List W16

/-- Whether a signature, tag or wrapped key verifies (R347 to R352), by operation code, key identity and input. -/
opaque vaultVerifies : (op key : Nat) → (input : List W16) → Bool

/-- SHA-384 of octets (R348), as a 384-bit number. -/
opaque sha384 : List Octet → BitVec 384

/-- SHA-256 of octets (R348), as a 256-bit number. -/
opaque sha256 : List Octet → BitVec 256

/-- Device identity drawn from the root (R335). -/
opaque deviceId : Nat → BitVec 64

/-! What R147 leaves to IEEE 802.15.4 of SUN OFDM, by mode code (log entry 12). -/

/-- Symbols of the STF and LTF, and of the PHR. -/
opaque ofdmTraining : (mode : Nat) → Nat
opaque ofdmPhr : (mode : Nat) → Nat

/-- The scrambler's n output bits for a seed index. -/
opaque ofdmScrambler : (seed n : Nat) → List Bool

/-- Coded-bit number at each place of a symbol's tones, copies included; by mode code and interleaving setting. -/
opaque ofdmPlaces : (mode : Nat) → (interleaved : Bool) → List Nat

/-- The active subcarriers' k, their LTF values, and the pilots of symbol n counted from the PHR's first: k and value. -/
opaque ofdmTones : (mode : Nat) → List Int
opaque ofdmLtf : (mode : Nat) → List Int
opaque ofdmPilots : (mode n : Nat) → List (Int × Int)

/-! What R145 leaves to IEEE 802.15.4 of coded SUN FSK (log entry 12): by RSC. -/

/-- Outputs A and B of the coder in a state for the bit fed into its register, and the input bit that feeds it. -/
opaque fskCoder : (rsc : Bool) → (state : Nat) → (fed : Bool) → Bool × Bool × Bool

/-! What R166 to R168 leave open of the arithmetic (log entry 106). -/

/-- Angle of a complex number, and a number turned by a fraction of that unit of angle. -/
opaque arg : Cx → Int
opaque turn : Cx → (num : Int) → (den : Nat) → Cx

/-- Noise estimate of a frame from its two long training symbols. -/
opaque ltfNoise : (y1 y2 : List Cx) → Nat

/-- Magnitude of a soft value before it saturates at 7: bits per subcarrier, which bit, the equalised value over a
divisor, |h|² and the noise. -/
opaque softLevel : (bpsc i : Nat) → (x : Cx) → (den gain noise : Nat) → Nat

/-- Which of two equally good paths the decoder keeps, by trellis step and state. -/
opaque trellisTie : (step state : Nat) → Bool

/-- Word i of the boot ROM, which fills E0's resident region from instruction-memory word 5000h on (R406): the manual
does not give its contents (log entry 17). -/
opaque bootRom : (i : Nat) → BitVec 16

/-- A flash device answers on the Pannier store's chip selects: the board decides (log entry 25). -/
opaque storePresent : Bool

end Sys2Proof.Config
end

