-- ==== Sys2Proof/Machine/Addresses.lean ====
section
/-!
DEFINITION. Word addresses of the registers by the manual's names (R24 and the register tables). An array's name
takes its index, which never leads past the array's end; a name of several words is the address of the lowest (R10).
-/
namespace Sys2Proof.Machine.A

/-- `SEQ_CTRL` (R58). -/
def SEQ_CTRL : Nat := 0x400002
/-- `SEQ_STAT` (R58). -/
def SEQ_STAT : Nat := 0x400003
/-- `SEQ_ERR` (R58). -/
def SEQ_ERR : Nat := 0x400004
/-- `SEQ_ERRCODE` (R58). -/
def SEQ_ERRCODE : Nat := 0x400005
/-- `SEQ_SLOTLEN` (R58). -/
def SEQ_SLOTLEN : Nat := 0x400006
/-- `SEQ_EPOCH` (R58). -/
def SEQ_EPOCH : Nat := 0x400008
/-- `SEQ_ASN` (R58). -/
def SEQ_ASN : Nat := 0x40000C
/-- `SEQ_LAPn_BASE` (R58). -/
def SEQ_LAP_BASE (n : Nat) : Nat := 0x400010 + 8 * (n % 8)
/-- `SEQ_LAPn_COUNT` (R58). -/
def SEQ_LAP_COUNT (n : Nat) : Nat := 0x400011 + 8 * (n % 8)
/-- `SEQ_LAPn_CFG` (R58). -/
def SEQ_LAP_CFG (n : Nat) : Nat := 0x400012 + 8 * (n % 8)
/-- `SEQ_LAPn_ORIGIN` (R58). -/
def SEQ_LAP_ORIGIN (n : Nat) : Nat := 0x400013 + 8 * (n % 8)
/-- `SEQ_TBLADDR` (R58). -/
def SEQ_TBLADDR : Nat := 0x400050
/-- `SEQ_TBLDATA` (R58). -/
def SEQ_TBLDATA : Nat := 0x400051
/-- `SEQ_MONFREE` (R58). -/
def SEQ_MONFREE : Nat := 0x400052
/-- `SEQ_BRCNTk` (R58). -/
def SEQ_BRCNT (n : Nat) : Nat := 0x400060 + 1 * (n % 16)
/-- `SEQ_BRLOG0` (R58). -/
def SEQ_BRLOG0 : Nat := 0x400070
/-- `SEQ_BRLOG1` (R58). -/
def SEQ_BRLOG1 : Nat := 0x400071
/-- `SEQ_BRLOG2` (R58). -/
def SEQ_BRLOG2 : Nat := 0x400072
/-- `SEQ_BRLOG3` (R58). -/
def SEQ_BRLOG3 : Nat := 0x400073
/-- `SEQ_BRLOGSTAT` (R58). -/
def SEQ_BRLOGSTAT : Nat := 0x400074
/-- `RING_GPADDR` (R72). -/
def RING_GPADDR : Nat := 0x403F00
/-- `RING_GPDATA` (R72). -/
def RING_GPDATA : Nat := 0x403F01
/-- `RING_GPCUR` (R72). -/
def RING_GPCUR : Nat := 0x403F02
/-- `ENG_RETIRED` (R90). -/
def ENG_RETIRED : Nat := 0x412002
/-- `ENG_RETSET` (R90). -/
def ENG_RETSET : Nat := 0x412003
/-- `ENG_REINT` (R90). -/
def ENG_REINT : Nat := 0x412004
/-- `ENG_TEST` (R90). -/
def ENG_TEST : Nat := 0x412005
/-- `ENG_DBGSEL` (R90). -/
def ENG_DBGSEL : Nat := 0x412006
/-- `ENG_LDCTL` (R90). -/
def ENG_LDCTL : Nat := 0x412008
/-- `ENG_LDADDR` (R90). -/
def ENG_LDADDR : Nat := 0x412009
/-- `ENG_LDDATA` (R90). -/
def ENG_LDDATA : Nat := 0x41200A
/-- `ENG_STATn` (R90). -/
def ENG_STAT (n : Nat) : Nat := 0x412010 + 1 * (n % 8)
/-- `ENG_MISCNT` (R90). -/
def ENG_MISCNT : Nat := 0x412020
/-- `ENG_SPLITCNT` (R90). -/
def ENG_SPLITCNT : Nat := 0x412021
/-- `ENG_UNRESCNT` (R90). -/
def ENG_UNRESCNT : Nat := 0x412022
/-- `ENG_ECCCNT` (R90). -/
def ENG_ECCCNT : Nat := 0x412023
/-- `RFA_CTRL` of chain A, `RFB_CTRL` of chain B (R139). -/
def RF_CTRL (c : Chain) : Nat := 0x406002 + 0x1000 * c.ix
/-- `RFA_STAT` of chain A, `RFB_STAT` of chain B (R139). -/
def RF_STAT (c : Chain) : Nat := 0x406003 + 0x1000 * c.ix
/-- `RFA_CHBASE` of chain A, `RFB_CHBASE` of chain B (R139). -/
def RF_CHBASE (c : Chain) : Nat := 0x406004 + 0x1000 * c.ix
/-- `RFA_CHSPACE` of chain A, `RFB_CHSPACE` of chain B (R139). -/
def RF_CHSPACE (c : Chain) : Nat := 0x406006 + 0x1000 * c.ix
/-- `RFA_TXPWR` of chain A, `RFB_TXPWR` of chain B (R139). -/
def RF_TXPWR (c : Chain) : Nat := 0x406007 + 0x1000 * c.ix
/-- `RFA_CALTEMP` of chain A, `RFB_CALTEMP` of chain B (R139). -/
def RF_CALTEMP (c : Chain) : Nat := 0x406008 + 0x1000 * c.ix
/-- `RFA_LATECNT` of chain A, `RFB_LATECNT` of chain B (R139). -/
def RF_LATECNT (c : Chain) : Nat := 0x40600A + 0x1000 * c.ix
/-- `RFA_GNTCNT` of chain A, `RFB_GNTCNT` of chain B (R139). -/
def RF_GNTCNT (c : Chain) : Nat := 0x40600B + 0x1000 * c.ix
/-- `RFA_BLANKCNT` of chain A, `RFB_BLANKCNT` of chain B (R139). -/
def RF_BLANKCNT (c : Chain) : Nat := 0x40600C + 0x1000 * c.ix
/-- `RFA_TUNE` (R139). -/
def RFA_TUNE : Nat := 0x406010
/-- `RFA_MMTHR` (R139). -/
def RFA_MMTHR : Nat := 0x406011
/-- `RFA_MMTHR2` (R139). -/
def RFA_MMTHR2 : Nat := 0x406012
/-- `RFA_MMSTAT` (R139). -/
def RFA_MMSTAT : Nat := 0x406013
/-- `RFA_TPROFk` (R139). -/
def RFA_TPROF (n : Nat) : Nat := 0x406014 + 2 * (n % 4)
/-- `RFA_COEX` of chain A, `RFB_COEX` of chain B (R139). -/
def RF_COEX (c : Chain) : Nat := 0x406020 + 0x1000 * c.ix
/-- `MOD_FSKPRE` (R170). -/
def MOD_FSKPRE : Nat := 0x409002
/-- `MOD_SPRINT` (R170). -/
def MOD_SPRINT : Nat := 0x409003
/-- `MOD_OFDM` (R170). -/
def MOD_OFDM : Nat := 0x409004
/-- `RXE_WINSTAT` (R191). -/
def RXE_WINSTAT : Nat := 0x408002
/-- `RXE_LANEk_CFG` (R191). -/
def RXE_LANE_CFG (n : Nat) : Nat := 0x408010 + 16 * (n % 10)
/-- `RXE_LANEk_OFS` (R191). -/
def RXE_LANE_OFS (n : Nat) : Nat := 0x408011 + 16 * (n % 10)
/-- `RXE_LANEk_CAP` (R191). -/
def RXE_LANE_CAP (n : Nat) : Nat := 0x408012 + 16 * (n % 10)
/-- `RXE_LANEk_STAT` (R191). -/
def RXE_LANE_STAT (n : Nat) : Nat := 0x408013 + 16 * (n % 10)
/-- `RXE_LANEk_BUF` (R191). -/
def RXE_LANE_BUF (n : Nat) : Nat := 0x408014 + 16 * (n % 10)
/-- `RXE_LANEk_SLOTW` (R191). -/
def RXE_LANE_SLOTW (n : Nat) : Nat := 0x408016 + 16 * (n % 10)
/-- `RXE_LANEk_LEVEL` (R191). -/
def RXE_LANE_LEVEL (n : Nat) : Nat := 0x408017 + 16 * (n % 10)
/-- `RXE_LANEk_DETCNT` (R191). -/
def RXE_LANE_DETCNT (n : Nat) : Nat := 0x408018 + 16 * (n % 10)
/-- `RXE_LANEk_FALSECNT` (R191). -/
def RXE_LANE_FALSECNT (n : Nat) : Nat := 0x408019 + 16 * (n % 10)
/-- `RXE_LANEk_RESTARTCNT` (R191). -/
def RXE_LANE_RESTARTCNT (n : Nat) : Nat := 0x40801A + 16 * (n % 10)
/-- `RXE_LANEk_OVERCNT` (R191). -/
def RXE_LANE_OVERCNT (n : Nat) : Nat := 0x40801B + 16 * (n % 10)
/-- `RXE_LANEk_POSTCNT` (R191). -/
def RXE_LANE_POSTCNT (n : Nat) : Nat := 0x40801C + 16 * (n % 10)
/-- `RXE_LANEk_DROPCNT` (R191). -/
def RXE_LANE_DROPCNT (n : Nat) : Nat := 0x40801D + 16 * (n % 10)
/-- `RXE_LANEk_MSREFCNT` (R191). -/
def RXE_LANE_MSREFCNT (n : Nat) : Nat := 0x40801E + 16 * (n % 10)
/-- `LNK_CTRL` (R215). -/
def LNK_CTRL : Nat := 0x40A002
/-- `LNK_SHORT` (R215). -/
def LNK_SHORT : Nat := 0x40A003
/-- `LNK_PANID` (R215). -/
def LNK_PANID : Nat := 0x40A004
/-- `LNK_EXT` (R215). -/
def LNK_EXT : Nat := 0x40A005
/-- `LNK_FILT` (R215). -/
def LNK_FILT : Nat := 0x40A009
/-- `LNK_ACKGAP` (R215). -/
def LNK_ACKGAP : Nat := 0x40A00A
/-- `LNK_ACKWAIT` (R215). -/
def LNK_ACKWAIT : Nat := 0x40A00B
/-- `LNK_CCA` (R215). -/
def LNK_CCA : Nat := 0x40A00C
/-- `LNK_CCADUR` (R215). -/
def LNK_CCADUR : Nat := 0x40A00D
/-- `LNK_BE` (R215). -/
def LNK_BE : Nat := 0x40A00E
/-- `LNK_DSN` (R215). -/
def LNK_DSN : Nat := 0x40A00F
/-- `LNK_HOPLEN` (R215). -/
def LNK_HOPLEN : Nat := 0x40A010
/-- `LNK_HOPADDR` (R215). -/
def LNK_HOPADDR : Nat := 0x40A011
/-- `LNK_HOPDATA` (R215). -/
def LNK_HOPDATA : Nat := 0x40A012
/-- `LNK_DWCHAIN` (R215). -/
def LNK_DWCHAIN : Nat := 0x40A013
/-- `LNK_DWPROFp`, p = 1 to 3 (R215). -/
def LNK_DWPROF (p : Nat) : Nat := 0x40A014 + 2 * ((p - 1) % 3)
/-- `LNK_KEYMAPj` (R215). -/
def LNK_KEYMAP (n : Nat) : Nat := 0x40A020 + 2 * (n % 16)
/-- `LNK_FCj` (R215). -/
def LNK_FC (n : Nat) : Nat := 0x40A040 + 2 * (n % 16)
/-- `LNK_FCSERRCNT` (R215). -/
def LNK_FCSERRCNT : Nat := 0x40A060
/-- `LNK_FILTCNT` (R215). -/
def LNK_FILTCNT : Nat := 0x40A061
/-- `LNK_AUTHFAILCNT` (R215). -/
def LNK_AUTHFAILCNT : Nat := 0x40A062
/-- `LNK_REPLAYCNT` (R215). -/
def LNK_REPLAYCNT : Nat := 0x40A063
/-- `LNK_DUPCNT` (R215). -/
def LNK_DUPCNT : Nat := 0x40A064
/-- `LNK_ACKSENTCNT` (R215). -/
def LNK_ACKSENTCNT : Nat := 0x40A065
/-- `LNK_ACKFAILCNT` (R215). -/
def LNK_ACKFAILCNT : Nat := 0x40A066
/-- `LNK_CTRLDROPCNT` (R215). -/
def LNK_CTRLDROPCNT : Nat := 0x40A067
/-- `LNK_NOACKCNT` (R215). -/
def LNK_NOACKCNT : Nat := 0x40A068
/-- `LNK_CCABUSYCNT` (R215). -/
def LNK_CCABUSYCNT : Nat := 0x40A069
/-- `LNK_DWELLCNT` (R215). -/
def LNK_DWELLCNT : Nat := 0x40A06A
/-- `MSH_CTRL` (R246). -/
def MSH_CTRL : Nat := 0x40B002
/-- `MSH_TSTAT` (R246). -/
def MSH_TSTAT : Nat := 0x40B003
/-- `MSH_LASTCORR` (R246). -/
def MSH_LASTCORR : Nat := 0x40B004
/-- `MSH_TRIM` (R246). -/
def MSH_TRIM : Nat := 0x40B006
/-- `MSH_STAGE` (R246). -/
def MSH_STAGE : Nat := 0x40B008
/-- `MSH_STAGESET` (R246). -/
def MSH_STAGESET : Nat := 0x40B00A
/-- `MSH_STAGECTL` (R246). -/
def MSH_STAGECTL : Nat := 0x40B00C
/-- `MSH_SYNCOFS` (R246). -/
def MSH_SYNCOFS : Nat := 0x40B00D
/-- `MSH_SEQ` (R246). -/
def MSH_SEQ : Nat := 0x40B00E
/-- `MSH_SEENLIFE` (R246). -/
def MSH_SEENLIFE : Nat := 0x40B00F
/-- `MSH_RPOOL` (R246). -/
def MSH_RPOOL : Nat := 0x40B010
/-- `MSH_RSLOTW` (R246). -/
def MSH_RSLOTW : Nat := 0x40B012
/-- `MSH_RSLOTS` (R246). -/
def MSH_RSLOTS : Nat := 0x40B013
/-- `MSH_RCLASSc` (R246). -/
def MSH_RCLASS (n : Nat) : Nat := 0x40B020 + 2 * (n % 16)
/-- `MSH_HOLDc` (R246). -/
def MSH_HOLD (n : Nat) : Nat := 0x40B040 + 1 * (n % 16)
/-- `MSH_PATHADDR` (R246). -/
def MSH_PATHADDR : Nat := 0x40B050
/-- `MSH_PATHDATA` (R246). -/
def MSH_PATHDATA : Nat := 0x40B051
/-- `MSH_NBRADDR` (R246). -/
def MSH_NBRADDR : Nat := 0x40B052
/-- `MSH_NBRDATA` (R246). -/
def MSH_NBRDATA : Nat := 0x40B053
/-- `MSH_RELAYCNT` (R246). -/
def MSH_RELAYCNT : Nat := 0x40B060
/-- `MSH_TTLENDCNT` (R246). -/
def MSH_TTLENDCNT : Nat := 0x40B061
/-- `MSH_SUPCNT` (R246). -/
def MSH_SUPCNT : Nat := 0x40B062
/-- `MSH_HELDCNT` (R246). -/
def MSH_HELDCNT : Nat := 0x40B063
/-- `MSH_QFULLCNT` (R246). -/
def MSH_QFULLCNT : Nat := 0x40B064
/-- `MSH_EVICTCNT` (R246). -/
def MSH_EVICTCNT : Nat := 0x40B065
/-- `MSH_ELIMCNT` (R246). -/
def MSH_ELIMCNT : Nat := 0x40B066
/-- `MSH_SINGLECNT` (R246). -/
def MSH_SINGLECNT : Nat := 0x40B067
/-- `MSH_HDRERRCNT` (R246). -/
def MSH_HDRERRCNT : Nat := 0x40B068
/-- `MSH_EVTDROPCNT` (R246). -/
def MSH_EVTDROPCNT : Nat := 0x40B069
/-- `MSH_STALECNT` (R246). -/
def MSH_STALECNT : Nat := 0x40B06A
/-- `MSH_RLYFAILCNT` (R246). -/
def MSH_RLYFAILCNT : Nat := 0x40B06B
/-- `RING_OUTST` (R270). -/
def RING_OUTST : Nat := 0x403002
/-- `RING_ABORT` (R270). -/
def RING_ABORT : Nat := 0x403003
/-- `RING_ABORTSTAT` (R270). -/
def RING_ABORTSTAT : Nat := 0x403004
/-- `RING_REFCNT` (R270). -/
def RING_REFCNT : Nat := 0x403005
/-- `RING_CFGn` (R270). -/
def RING_CFG (n : Nat) : Nat := 0x403100 + 8 * (n % 64)
/-- `RING_BASEn` (R270). -/
def RING_BASE (n : Nat) : Nat := 0x403101 + 8 * (n % 64)
/-- `RING_IDXn` (R270). -/
def RING_IDX (n : Nat) : Nat := 0x403103 + 8 * (n % 64)
/-- `RING_STATn` (R270). -/
def RING_STAT (n : Nat) : Nat := 0x403105 + 8 * (n % 64)
/-- `CBL_ENw` (R270). -/
def CBL_EN (n : Nat) : Nat := 0x404010 + 1 * (n % 40)
/-- `CBL_LVADDR` (R270). -/
def CBL_LVADDR : Nat := 0x404040
/-- `CBL_LVDATA` (R270). -/
def CBL_LVDATA : Nat := 0x404041
/-- `CBL_LEVERS` (R270). -/
def CBL_LEVERS : Nat := 0x404042
/-- `CBL_STAT` (R270). -/
def CBL_STAT : Nat := 0x404043
/-- `CBL_CUTCABLE` (R270). -/
def CBL_CUTCABLE : Nat := 0x404044
/-- `CBL_CUTCNT` (R270). -/
def CBL_CUTCNT : Nat := 0x404045
/-- `CBL_FIRE` (R270). -/
def CBL_FIRE : Nat := 0x404046
/-- `CBL_CONSc` (R270). -/
def CBL_CONS (n : Nat) : Nat := 0x404100 + 1 * (n % 80)
/-- `ENG_FLAGIN` (R270). -/
def ENG_FLAGIN : Nat := 0x412030
/-- `ENG_SVCIN` (R270). -/
def ENG_SVCIN : Nat := 0x412031
/-- `PWR_DSTAT0` (R298). -/
def PWR_DSTAT (n : Nat) : Nat := 0x401002 + 1 * (n % 2)
/-- `PWR_BANKSTATEw` (R298). -/
def PWR_BANKSTATE (n : Nat) : Nat := 0x401004 + 1 * (n % 4)
/-- `PWR_BANKLOST` (R298). -/
def PWR_BANKLOST : Nat := 0x401008
/-- `PWR_XSTAT` (R298). -/
def PWR_XSTAT : Nat := 0x40100A
/-- `PWR_REFUSE` (R298). -/
def PWR_REFUSE : Nat := 0x40100B
/-- `PWR_DWLAST` (R298). -/
def PWR_DWLAST : Nat := 0x40100C
/-- `PWR_DWCNT` (R298). -/
def PWR_DWCNT : Nat := 0x40100D
/-- `PWR_REFCNT` (R298). -/
def PWR_REFCNT : Nat := 0x40100E
/-- `PWR_WABORTCNT` (R298). -/
def PWR_WABORTCNT : Nat := 0x40100F
/-- `PWR_WLOSTCNT` (R298). -/
def PWR_WLOSTCNT : Nat := 0x401010
/-- `PWR_LOSTCNT` (R298). -/
def PWR_LOSTCNT : Nat := 0x401011
/-- `PWR_ECCCNT` (R298). -/
def PWR_ECCCNT : Nat := 0x401012
/-- `PWR_SEALCNT` (R298). -/
def PWR_SEALCNT : Nat := 0x401013
/-- `PWR_GEAR` (R298). -/
def PWR_GEAR : Nat := 0x401014
/-- `PWR_GEARSET` (R298). -/
def PWR_GEARSET : Nat := 0x401015
/-- `PWR_DOMCMD` (R298). -/
def PWR_DOMCMD : Nat := 0x401016
/-- `PWR_DOMBANKS` (R298). -/
def PWR_DOMBANKS : Nat := 0x401017
/-- `PWR_WSRCs` (R298). -/
def PWR_WSRC (n : Nat) : Nat := 0x401020 + 1 * (n % 13)
/-- `PWR_WSETm` (R298). -/
def PWR_WSET (n : Nat) : Nat := 0x401030 + 1 * (n % 8)
/-- `PWR_WPEND` (R298). -/
def PWR_WPEND : Nat := 0x401038
/-- `PWR_REBUILDb` (R298). -/
def PWR_REBUILD (n : Nat) : Nat := 0x401040 + 1 * (n % 32)
/-- `CLK_CTRL` (R298). -/
def CLK_CTRL : Nat := 0x402002
/-- `CLK_STAT` (R298). -/
def CLK_STAT : Nat := 0x402003
/-- `CLK_XLEAD` (R298). -/
def CLK_XLEAD : Nat := 0x402004
/-- `CLK_CHKPER` (R298). -/
def CLK_CHKPER : Nat := 0x402005
/-- `CLK_MCOUNT` (R298). -/
def CLK_MCOUNT : Nat := 0x402006
/-- `CLK_KCOUNT` (R298). -/
def CLK_KCOUNT : Nat := 0x402007
/-- `CLK_RCOUNT` (R298). -/
def CLK_RCOUNT : Nat := 0x402008
/-- `CLK_GATE` (R298). -/
def CLK_GATE : Nat := 0x402009
/-- `CLK_GATESTAT` (R298). -/
def CLK_GATESTAT : Nat := 0x40200A
/-- `CLK_GATEREF` (R298). -/
def CLK_GATEREF : Nat := 0x40200B
/-- `CLK_FAILHIST` (R298). -/
def CLK_FAILHIST : Nat := 0x40200C
/-- `CLK_FAILCNT` (R298). -/
def CLK_FAILCNT : Nat := 0x40200D
/-- `CAD_SLEEP` (R312). -/
def CAD_SLEEP : Nat := 0x405002
/-- `CAD_WCSTAT` (R312). -/
def CAD_WCSTAT : Nat := 0x405005
/-- `CAD_WCn` (R312). -/
def CAD_WC (n : Nat) : Nat := 0x405010 + 4 * (n % 8)
/-- `CAD_NT` (R312). -/
def CAD_NT : Nat := 0x405040
/-- `CAD_SNAP` (R312). -/
def CAD_SNAP : Nat := 0x405044
/-- `CAD_PPSCFG` (R312). -/
def CAD_PPSCFG : Nat := 0x405048
/-- `CAD_DROPCNT` (R312). -/
def CAD_DROPCNT : Nat := 0x405049
/-- `CAD_CCn_CFG` (R312). -/
def CAD_CC_CFG (n : Nat) : Nat := 0x405100 + 32 * (n % 8)
/-- `CAD_CCn_STAT` (R312). -/
def CAD_CC_STAT (n : Nat) : Nat := 0x405101 + 32 * (n % 8)
/-- `CAD_CCn_TGT` (R312). -/
def CAD_CC_TGT (n : Nat) : Nat := 0x405102 + 32 * (n % 8)
/-- `CAD_CCn_PER` (R312). -/
def CAD_CC_PER (n : Nat) : Nat := 0x405106 + 32 * (n % 8)
/-- `CAD_CCn_RISE` (R312). -/
def CAD_CC_RISE (n : Nat) : Nat := 0x405108 + 32 * (n % 8)
/-- `CAD_CCn_FALL` (R312). -/
def CAD_CC_FALL (n : Nat) : Nat := 0x40510C + 32 * (n % 8)
/-- `CAD_CCn_WIDTH` (R312). -/
def CAD_CC_WIDTH (n : Nat) : Nat := 0x405110 + 32 * (n % 8)
/-- `GAU_CTRL` (R329). -/
def GAU_CTRL : Nat := 0x40D002
/-- `GAU_SDn_CFG` (R329). -/
def GAU_SD_CFG (n : Nat) : Nat := 0x40D010 + 8 * (n % 2)
/-- `GAU_IEXn` (R329). -/
def GAU_IEX (n : Nat) : Nat := 0x40D020 + 1 * (n % 2)
/-- `GAU_SARSEQ` (R329). -/
def GAU_SARSEQ : Nat := 0x40D028
/-- `GAU_LIMCFG` (R329). -/
def GAU_LIMCFG : Nat := 0x40D029
/-- `GAU_LIMs_LO` (R329). -/
def GAU_LIM_LO (n : Nat) : Nat := 0x40D02A + 2 * (n % 3)
/-- `GAU_LIMs_HI` (R329). -/
def GAU_LIM_HI (n : Nat) : Nat := 0x40D02B + 2 * (n % 3)
/-- `GAU_DACn_CODE` (R329). -/
def GAU_DAC_CODE (n : Nat) : Nat := 0x40D030 + 2 * (n % 2)
/-- `GAU_DACn_CFG` (R329). -/
def GAU_DAC_CFG (n : Nat) : Nat := 0x40D031 + 2 * (n % 2)
/-- `GAU_PWMn_CFG` (R329). -/
def GAU_PWM_CFG (n : Nat) : Nat := 0x40D040 + 4 * (n % 4)
/-- `GAU_PWMn_PERIOD` (R329). -/
def GAU_PWM_PERIOD (n : Nat) : Nat := 0x40D041 + 4 * (n % 4)
/-- `GAU_PWMn_DUTY` (R329). -/
def GAU_PWM_DUTY (n : Nat) : Nat := 0x40D042 + 4 * (n % 4)
/-- `GAU_DROPCNT` (R329). -/
def GAU_DROPCNT : Nat := 0x40D050
/-- `PER_Pp_DIR` (R329). -/
def PER_P_DIR (n : Nat) : Nat := 0x40E010 + 8 * (n % 6)
/-- `PER_Pp_OUT` (R329). -/
def PER_P_OUT (n : Nat) : Nat := 0x40E011 + 8 * (n % 6)
/-- `PER_Pp_IN` (R329). -/
def PER_P_IN (n : Nat) : Nat := 0x40E012 + 8 * (n % 6)
/-- `PER_Pp_EVTFLAG` (R329). -/
def PER_P_EVTFLAG (n : Nat) : Nat := 0x40E013 + 8 * (n % 6)
/-- `PER_Pp_SNAP` (R329). -/
def PER_P_SNAP (n : Nat) : Nat := 0x40E014 + 8 * (n % 6)
/-- `PER_Pp_FUNC` (R329). -/
def PER_P_FUNC (n : Nat) : Nat := 0x40E015 + 8 * (n % 6)
/-- `PER_Pp_EVT` (R329). -/
def PER_P_EVT (n : Nat) : Nat := 0x40E016 + 8 * (n % 6)
/-- `PER_TASKk` (R329). -/
def PER_TASK (n : Nat) : Nat := 0x40E040 + 1 * (n % 8)
/-- `PER_SERSRC` (R329). -/
def PER_SERSRC : Nat := 0x40E050
/-- `PER_Su_CFG` (R329). -/
def PER_S_CFG (n : Nat) : Nat := 0x40E100 + 16 * (n % 6)
/-- `PER_Su_CTRL` (R329). -/
def PER_S_CTRL (n : Nat) : Nat := 0x40E101 + 16 * (n % 6)
/-- `PER_Su_STAT` (R329). -/
def PER_S_STAT (n : Nat) : Nat := 0x40E102 + 16 * (n % 6)
/-- `PER_Su_TXDATA` (R329). -/
def PER_S_TXDATA (n : Nat) : Nat := 0x40E103 + 16 * (n % 6)
/-- `PER_Su_RXDATA` (R329). -/
def PER_S_RXDATA (n : Nat) : Nat := 0x40E104 + 16 * (n % 6)
/-- `PER_Su_AUX` (R329). -/
def PER_S_AUX (n : Nat) : Nat := 0x40E105 + 16 * (n % 6)
/-- `VLT_CTRL` (R357). -/
def VLT_CTRL : Nat := 0x40C002
/-- `VLT_STAT` (R357). -/
def VLT_STAT : Nat := 0x40C003
/-- `VLT_DEVID` (R357). -/
def VLT_DEVID : Nat := 0x40C004
/-- `VLT_LMSQ` (R357). -/
def VLT_LMSQ : Nat := 0x40C008
/-- `VLT_LMSWARN` (R357). -/
def VLT_LMSWARN : Nat := 0x40C00A
/-- `VLT_DBGCHAL` (R357). -/
def VLT_DBGCHAL : Nat := 0x40C00C
/-- `VLT_SLOTBADw` (R357). -/
def VLT_SLOTBAD (n : Nat) : Nat := 0x40C010 + 1 * (n % 16)
/-- `VLT_SLOTSEL` (R357). -/
def VLT_SLOTSEL : Nat := 0x40C020
/-- `VLT_SLOTATTR` (R357). -/
def VLT_SLOTATTR : Nat := 0x40C021
/-- `VLT_SLOTGEN` (R357). -/
def VLT_SLOTGEN : Nat := 0x40C022
/-- `VLT_AUTHFAILCNT` (R357). -/
def VLT_AUTHFAILCNT : Nat := 0x40C030
/-- `VLT_DENYCNT` (R357). -/
def VLT_DENYCNT : Nat := 0x40C031
/-- `VLT_SLOTBADCNT` (R357). -/
def VLT_SLOTBADCNT : Nat := 0x40C032
/-- `VLT_RNGFAILCNT` (R357). -/
def VLT_RNGFAILCNT : Nat := 0x40C033
/-- `JNL_CTRL` (R385). -/
def JNL_CTRL : Nat := 0x413002
/-- `JNL_STAT` (R385). -/
def JNL_STAT : Nat := 0x413003
/-- `JNL_HEAD` (R385). -/
def JNL_HEAD : Nat := 0x413004
/-- `JNL_DURABLE` (R385). -/
def JNL_DURABLE : Nat := 0x413006
/-- `JNL_STAGEw`, w = 6 to 15 (R385). -/
def JNL_STAGE (w : Nat) : Nat := 0x413010 + w % 16
/-- `WFL_ADDR` (R402). -/
def WFL_ADDR : Nat := 0x410002
/-- `WFL_ADDRCTL` (R402). -/
def WFL_ADDRCTL : Nat := 0x410003
/-- `WFL_WAKECNT` (R402). -/
def WFL_WAKECNT : Nat := 0x410004
/-- `WFL_CFG` (R402). -/
def WFL_CFG : Nat := 0x410010
/-- `WFL_STAT` (R402). -/
def WFL_STAT : Nat := 0x410011
/-- `WFL_RXBASE` (R402). -/
def WFL_RXBASE : Nat := 0x410012
/-- `WFL_RSPBASE` (R402). -/
def WFL_RSPBASE : Nat := 0x410014
/-- `WFL_RXFREE` (R402). -/
def WFL_RXFREE : Nat := 0x410016
/-- `WFL_RSPCTL` (R402). -/
def WFL_RSPCTL : Nat := 0x410017
/-- `WFL_NONCE` (R402). -/
def WFL_NONCE : Nat := 0x410018
/-- `WFL_HDRERRCNT` (R402). -/
def WFL_HDRERRCNT : Nat := 0x410020
/-- `WFL_NAKCNT` (R402). -/
def WFL_NAKCNT : Nat := 0x410021
/-- `WFL_CRCERRCNT` (R402). -/
def WFL_CRCERRCNT : Nat := 0x410022
/-- `WFL_REPEATCNT` (R402). -/
def WFL_REPEATCNT : Nat := 0x410023
/-- `WFL_ABANDONCNT` (R402). -/
def WFL_ABANDONCNT : Nat := 0x410024
/-- `WFL_RSPDROPCNT` (R402). -/
def WFL_RSPDROPCNT : Nat := 0x410025
/-- `SYS_PART` (R429). -/
def SYS_PART : Nat := 0x411002
/-- `SYS_STEP` (R429). -/
def SYS_STEP : Nat := 0x411003
/-- `SYS_RESETCAUSE` (R429). -/
def SYS_RESETCAUSE : Nat := 0x411004
/-- `SYS_BOOTCNT` (R429). -/
def SYS_BOOTCNT : Nat := 0x411005
/-- `SYS_STARTREASON` (R429). -/
def SYS_STARTREASON : Nat := 0x411006
/-- `SYS_MWADDR` (R429). -/
def SYS_MWADDR : Nat := 0x411010
/-- `SYS_MWDATA` (R429). -/
def SYS_MWDATA : Nat := 0x411012
/-- `SYS_MWSTAT` (R429). -/
def SYS_MWSTAT : Nat := 0x411013
/-- `SYS_E0LDADDR` (R429). -/
def SYS_E0LDADDR : Nat := 0x411018
/-- `SYS_E0LDDATA` (R429). -/
def SYS_E0LDDATA : Nat := 0x411019
/-- `<BLOCK>_FLAGS` of window w (R25). -/
def FLAGS (w : Nat) : Nat := 0x400001 + 0x1000 * (w % 20)
end Sys2Proof.Machine.A
end

