-- ==== Sys2Proof/Machine/RegMap.lean ====
section
/-!
DEFINITION. The register maps of the twenty block windows (R24, R25, and the register tables of every chapter), as
data: each register's word address, number of words, copies and their stride, power domain, reset source and fields
with access code, reset value and the values a write may give. Names are the manual's.
-/
namespace Sys2Proof.Machine

/-- Access codes of R11 (bits no field covers are RSV). -/
inductive Acc where
  | rw
  | ro
  | wo
  | w1c
  | rwl
deriving DecidableEq, Repr

/-- Reset sources of R12. -/
inductive Src where
  | dom
  | soft
  | por
deriving DecidableEq, Repr

/-- Which values of a field are not reserved encodings (R13, R14): any, a range, a list, or a rule that looks at
more than the value (`ctxOk`). -/
inductive Enc where
  | any
  | rng (lo hi : Nat)
  | oneOf (l : List Nat)
  | ctx
deriving DecidableEq, Repr

/-- One field of a register, bits counted over the whole register. -/
structure Field where
  hi : Nat
  lo : Nat
  acc : Acc
  /-- Reset value, by the register's index. -/
  rst : Nat → Nat
  enc : Enc

/-- One register, or an array of equal registers. Domain 16 is AON. -/
structure Reg where
  base : Nat
  words : Nat
  count : Nat
  stride : Nat
  dom : Nat
  src : Src
  fields : List Field

/-- `RING_CFGn.CLASS` under R247: 0 post, 1 request, 2 engine, 3 unused. -/
def ringClass (n : Nat) : Nat :=
  if n = 0 then 0 else if n ≤ 17 then 1 else if n ≤ 28 then 0 else if n = 29 then 1 else if n ≤ 31 then 3
  else if n ≤ 43 then 1 else if n = 44 then 0 else if n = 45 then 1 else if n = 46 then 0 else if n = 47 then 1
  else 2

/-- Domain of each window's common registers (R24, R25); 16 is AON. -/
def windowDom (w : Nat) : Nat :=
  [10, 16, 16, 8, 10, 16, 12, 13, 11, 11, 11, 11, 14, 15, 15, 15, 16, 16, 16, 9].getD w 16

/-- The identity and flag registers of a window (R25). -/
def commonRegs (w : Nat) : List Reg :=
  [⟨0x400000 + w * 0x1000, 1, 1, 0, windowDom w, .por,
      [⟨15, 10, .ro, fun _ => 2, .any⟩, ⟨9, 5, .ro, fun _ => w, .any⟩]⟩,
   ⟨0x400001 + w * 0x1000, 1, 1, 0, windowDom w, .dom, [⟨0, 0, .w1c, fun _ => 0, .any⟩]⟩]

/-- Registers of window SEQ, part 1. -/
def regsSEQ0 : List Reg :=
  [
   -- SEQ_CTRL (R58)
   ⟨0x400002, 1, 1, 0, 10, .dom,
     [⟨3, 3, .wo, fun _ => 0, .any⟩, ⟨2, 2, .wo, fun _ => 0, .any⟩, ⟨1, 1, .wo, fun _ => 0, .any⟩, ⟨0, 0, .wo, fun _ => 0, .any⟩]⟩,
   -- SEQ_STAT (R58)
   ⟨0x400003, 1, 1, 0, 10, .dom,
     [⟨11, 10, .ro, fun _ => 0, .any⟩, ⟨9, 6, .ro, fun _ => 0, .any⟩, ⟨5, 5, .ro, fun _ => 0, .any⟩, ⟨4, 4, .ro, fun _ => 0, .any⟩, ⟨3, 2, .ro, fun _ => 0, .any⟩]⟩,
   -- SEQ_ERR (R58)
   ⟨0x400004, 1, 1, 0, 10, .dom,
     [⟨12, 0, .ro, fun _ => 0, .any⟩]⟩,
   -- SEQ_ERRCODE (R58)
   ⟨0x400005, 1, 1, 0, 10, .dom,
     [⟨3, 0, .ro, fun _ => 0, .any⟩]⟩,
   -- SEQ_SLOTLEN (R58)
   ⟨0x400006, 2, 1, 0, 10, .dom,
     [⟨20, 0, .rwl, fun _ => 0x4E200, .any⟩]⟩,
   -- SEQ_EPOCH (R58)
   ⟨0x400008, 4, 1, 0, 10, .dom,
     [⟨63, 0, .rwl, fun _ => 0, .any⟩]⟩,
   -- SEQ_ASN (R58)
   ⟨0x40000C, 3, 1, 0, 10, .dom,
     [⟨39, 0, .ro, fun _ => 0, .any⟩]⟩,
   -- SEQ_LAPn_BASE (R58)
   ⟨0x400010, 1, 8, 8, 10, .dom,
     [⟨12, 0, .rwl, fun _ => 0, .any⟩]⟩,
   -- SEQ_LAPn_COUNT (R58)
   ⟨0x400011, 1, 8, 8, 10, .dom,
     [⟨13, 0, .rwl, fun _ => 0, .rng 0 8192⟩]⟩,
   -- SEQ_LAPn_CFG (R58)
   ⟨0x400012, 1, 8, 8, 10, .dom,
     [⟨15, 15, .rwl, fun _ => 0, .any⟩, ⟨11, 0, .rwl, fun _ => 0, .any⟩]⟩,
   -- SEQ_LAPn_ORIGIN (R58)
   ⟨0x400013, 3, 8, 8, 10, .dom,
     [⟨39, 0, .rwl, fun _ => 0, .any⟩]⟩,
   -- SEQ_TBLADDR (R58)
   ⟨0x400050, 1, 1, 0, 10, .dom,
     [⟨15, 0, .rw, fun _ => 0, .any⟩]⟩]

/-- Registers of window SEQ, part 2. -/
def regsSEQ1 : List Reg :=
  [
   -- SEQ_TBLDATA (R58)
   ⟨0x400051, 1, 1, 0, 10, .dom,
     [⟨15, 0, .rwl, fun _ => 0, .any⟩]⟩,
   -- SEQ_MONFREE (R58)
   ⟨0x400052, 1, 1, 0, 10, .dom,
     [⟨5, 0, .ro, fun _ => 0x20, .any⟩]⟩,
   -- SEQ_BRCNTk (R58)
   ⟨0x400060, 1, 16, 1, 10, .dom,
     [⟨15, 0, .ro, fun _ => 0, .any⟩]⟩,
   -- SEQ_BRLOG0 (R58)
   ⟨0x400070, 1, 1, 0, 10, .dom,
     [⟨15, 0, .ro, fun _ => 0, .any⟩]⟩,
   -- SEQ_BRLOG1 (R58)
   ⟨0x400071, 1, 1, 0, 10, .dom,
     [⟨15, 0, .ro, fun _ => 0, .any⟩]⟩,
   -- SEQ_BRLOG2 (R58)
   ⟨0x400072, 1, 1, 0, 10, .dom,
     [⟨15, 0, .ro, fun _ => 0, .any⟩]⟩,
   -- SEQ_BRLOG3 (R58)
   ⟨0x400073, 1, 1, 0, 10, .dom,
     [⟨15, 0, .ro, fun _ => 0, .any⟩]⟩,
   -- SEQ_BRLOGSTAT (R58)
   ⟨0x400074, 1, 1, 0, 10, .dom,
     [⟨8, 8, .w1c, fun _ => 0, .any⟩, ⟨4, 0, .ro, fun _ => 0, .any⟩]⟩]

/-- All registers of window SEQ. -/
def regsSEQ : List Reg := commonRegs 0 ++ regsSEQ0 ++ regsSEQ1

/-- Registers of window PWR, part 1. -/
def regsPWR0 : List Reg :=
  [
   -- PWR_DSTAT0 (R298)
   ⟨0x401002, 1, 2, 1, 16, .por,
     [⟨1, 0, .ro, fun _ => 0, .any⟩, ⟨3, 2, .ro, fun _ => 0, .any⟩, ⟨5, 4, .ro, fun _ => 0, .any⟩, ⟨7, 6, .ro, fun _ => 0, .any⟩, ⟨9, 8, .ro, fun _ => 0, .any⟩, ⟨11, 10, .ro, fun _ => 0, .any⟩, ⟨13, 12, .ro, fun _ => 0, .any⟩, ⟨15, 14, .ro, fun _ => 0, .any⟩]⟩,
   -- PWR_BANKSTATEw (R298)
   ⟨0x401004, 1, 4, 1, 16, .por,
     [⟨1, 0, .ro, fun _ => 0, .any⟩, ⟨3, 2, .ro, fun _ => 0, .any⟩, ⟨5, 4, .ro, fun _ => 0, .any⟩, ⟨7, 6, .ro, fun _ => 0, .any⟩, ⟨9, 8, .ro, fun _ => 0, .any⟩, ⟨11, 10, .ro, fun _ => 0, .any⟩, ⟨13, 12, .ro, fun _ => 0, .any⟩, ⟨15, 14, .ro, fun _ => 0, .any⟩]⟩,
   -- PWR_BANKLOST (R298)
   ⟨0x401008, 2, 1, 0, 16, .por,
     [⟨31, 0, .w1c, fun _ => 0, .any⟩]⟩,
   -- PWR_XSTAT (R298)
   ⟨0x40100A, 1, 1, 0, 16, .por,
     [⟨15, 15, .ro, fun _ => 0, .any⟩, ⟨14, 12, .ro, fun _ => 0, .any⟩, ⟨11, 8, .ro, fun _ => 0, .any⟩, ⟨4, 0, .ro, fun _ => 0, .any⟩]⟩,
   -- PWR_REFUSE (R298)
   ⟨0x40100B, 1, 1, 0, 16, .por,
     [⟨15, 14, .ro, fun _ => 0, .any⟩, ⟨13, 9, .ro, fun _ => 0, .any⟩, ⟨3, 0, .ro, fun _ => 0, .any⟩]⟩,
   -- PWR_DWLAST (R298)
   ⟨0x40100C, 1, 1, 0, 16, .por,
     [⟨15, 12, .ro, fun _ => 0, .any⟩, ⟨11, 7, .ro, fun _ => 0, .any⟩, ⟨6, 3, .ro, fun _ => 0, .any⟩]⟩,
   -- PWR_DWCNT (R298)
   ⟨0x40100D, 1, 1, 0, 16, .por,
     [⟨15, 0, .w1c, fun _ => 0, .any⟩]⟩,
   -- PWR_REFCNT (R298)
   ⟨0x40100E, 1, 1, 0, 16, .por,
     [⟨15, 0, .w1c, fun _ => 0, .any⟩]⟩,
   -- PWR_WABORTCNT (R298)
   ⟨0x40100F, 1, 1, 0, 16, .por,
     [⟨15, 0, .w1c, fun _ => 0, .any⟩]⟩,
   -- PWR_WLOSTCNT (R298)
   ⟨0x401010, 1, 1, 0, 16, .por,
     [⟨15, 0, .w1c, fun _ => 0, .any⟩]⟩,
   -- PWR_LOSTCNT (R298)
   ⟨0x401011, 1, 1, 0, 16, .por,
     [⟨15, 0, .w1c, fun _ => 0, .any⟩]⟩,
   -- PWR_ECCCNT (R298)
   ⟨0x401012, 1, 1, 0, 16, .por,
     [⟨15, 0, .w1c, fun _ => 0, .any⟩]⟩]

/-- Registers of window PWR, part 2. -/
def regsPWR1 : List Reg :=
  [
   -- PWR_SEALCNT (R298)
   ⟨0x401013, 1, 1, 0, 16, .por,
     [⟨15, 0, .ro, fun _ => 0, .any⟩]⟩,
   -- PWR_GEAR (R298)
   ⟨0x401014, 1, 1, 0, 16, .por,
     [⟨15, 15, .ro, fun _ => 0, .any⟩, ⟨14, 14, .ro, fun _ => 0, .any⟩, ⟨6, 4, .ro, fun _ => 0, .any⟩, ⟨2, 0, .ro, fun _ => 0, .any⟩]⟩,
   -- PWR_GEARSET (R298)
   ⟨0x401015, 1, 1, 0, 16, .por,
     [⟨2, 0, .wo, fun _ => 0, .rng 0 4⟩]⟩,
   -- PWR_DOMCMD (R298)
   ⟨0x401016, 1, 1, 0, 16, .por,
     [⟨5, 4, .wo, fun _ => 0, .rng 0 2⟩, ⟨3, 0, .wo, fun _ => 0, .any⟩]⟩,
   -- PWR_DOMBANKS (R298)
   ⟨0x401017, 2, 1, 0, 16, .por,
     [⟨31, 0, .rw, fun _ => 0, .any⟩]⟩,
   -- PWR_WSRCs (R298)
   ⟨0x401020, 1, 13, 1, 16, .por,
     [⟨15, 15, .rw, fun s => if s = 0 ∨ s = 8 then 1 else 0, .any⟩, ⟨14, 14, .rw, fun _ => 0, .ctx⟩, ⟨13, 13, .rw, fun _ => 0, .any⟩, ⟨2, 0, .rw, fun s => if s = 8 then 1 else 0, .any⟩]⟩,
   -- PWR_WSETm (R298)
   ⟨0x401030, 1, 8, 1, 16, .por,
     [⟨15, 0, .rw, fun m => if m = 0 then 0x400 else if m = 1 then 0x8301 else 0, .any⟩]⟩,
   -- PWR_WPEND (R298)
   ⟨0x401038, 1, 1, 0, 16, .por,
     [⟨12, 0, .ro, fun _ => 0, .any⟩]⟩,
   -- PWR_REBUILDb (R298)
   ⟨0x401040, 1, 32, 1, 16, .por,
     [⟨15, 14, .rwl, fun _ => 0, .rng 0 2⟩, ⟨11, 0, .rwl, fun _ => 0, .ctx⟩]⟩]

/-- All registers of window PWR. -/
def regsPWR : List Reg := commonRegs 1 ++ regsPWR0 ++ regsPWR1

/-- Registers of window CLK. -/
def regsCLK0 : List Reg :=
  [
   -- CLK_CTRL (R298)
   ⟨0x402002, 1, 1, 0, 16, .por,
     [⟨15, 15, .rw, fun _ => 0, .any⟩, ⟨0, 0, .wo, fun _ => 0, .any⟩]⟩,
   -- CLK_STAT (R298)
   ⟨0x402003, 1, 1, 0, 16, .por,
     [⟨15, 15, .ro, fun _ => 0, .any⟩, ⟨14, 14, .ro, fun _ => 0, .any⟩, ⟨13, 13, .ro, fun _ => 0, .any⟩, ⟨12, 12, .ro, fun _ => 1, .any⟩, ⟨11, 11, .ro, fun _ => 0, .any⟩, ⟨10, 10, .ro, fun _ => 0, .any⟩, ⟨9, 9, .ro, fun _ => 0, .any⟩, ⟨3, 0, .ro, fun _ => 0, .any⟩]⟩,
   -- CLK_XLEAD (R298)
   ⟨0x402004, 1, 1, 0, 16, .por,
     [⟨9, 0, .rw, fun _ => 0x28, .rng 16 1023⟩]⟩,
   -- CLK_CHKPER (R298)
   ⟨0x402005, 1, 1, 0, 16, .por,
     [⟨15, 8, .rw, fun _ => 0x10, .rng 1 255⟩, ⟨7, 0, .rw, fun _ => 0x40, .rng 1 255⟩]⟩,
   -- CLK_MCOUNT (R298)
   ⟨0x402006, 1, 1, 0, 16, .por,
     [⟨15, 0, .ro, fun _ => 0, .any⟩]⟩,
   -- CLK_KCOUNT (R298)
   ⟨0x402007, 1, 1, 0, 16, .por,
     [⟨15, 0, .ro, fun _ => 0, .any⟩]⟩,
   -- CLK_RCOUNT (R298)
   ⟨0x402008, 1, 1, 0, 16, .por,
     [⟨15, 0, .ro, fun _ => 0, .any⟩]⟩,
   -- CLK_GATE (R298)
   ⟨0x402009, 1, 1, 0, 16, .por,
     [⟨14, 0, .rw, fun _ => 0, .any⟩]⟩,
   -- CLK_GATESTAT (R298)
   ⟨0x40200A, 1, 1, 0, 16, .por,
     [⟨14, 0, .ro, fun _ => 0, .any⟩]⟩,
   -- CLK_GATEREF (R298)
   ⟨0x40200B, 1, 1, 0, 16, .por,
     [⟨14, 0, .w1c, fun _ => 0, .any⟩]⟩,
   -- CLK_FAILHIST (R298)
   ⟨0x40200C, 1, 1, 0, 16, .por,
     [⟨10, 1, .w1c, fun _ => 0, .any⟩]⟩,
   -- CLK_FAILCNT (R298)
   ⟨0x40200D, 1, 1, 0, 16, .por,
     [⟨15, 0, .w1c, fun _ => 0, .any⟩]⟩]

/-- All registers of window CLK. -/
def regsCLK : List Reg := commonRegs 2 ++ regsCLK0

/-- Registers of window RING. -/
def regsRING0 : List Reg :=
  [
   -- RING_GPADDR (R72)
   ⟨0x403F00, 1, 1, 0, 8, .dom,
     [⟨12, 0, .rw, fun _ => 0, .any⟩]⟩,
   -- RING_GPDATA (R72)
   ⟨0x403F01, 1, 1, 0, 8, .dom,
     [⟨15, 0, .rwl, fun _ => 0xFFFF, .any⟩]⟩,
   -- RING_GPCUR (R72)
   ⟨0x403F02, 1, 1, 0, 8, .dom,
     [⟨5, 0, .rwl, fun _ => 0, .any⟩]⟩,
   -- RING_OUTST (R270)
   ⟨0x403002, 1, 1, 0, 8, .dom,
     [⟨9, 0, .ro, fun _ => 0, .any⟩]⟩,
   -- RING_ABORT (R270)
   ⟨0x403003, 1, 1, 0, 8, .dom,
     [⟨15, 10, .wo, fun _ => 0, .any⟩, ⟨9, 0, .wo, fun _ => 0, .any⟩]⟩,
   -- RING_ABORTSTAT (R270)
   ⟨0x403004, 1, 1, 0, 8, .dom,
     [⟨15, 15, .ro, fun _ => 0, .any⟩, ⟨7, 0, .ro, fun _ => 0, .any⟩]⟩,
   -- RING_REFCNT (R270)
   ⟨0x403005, 1, 1, 0, 8, .dom,
     [⟨15, 0, .w1c, fun _ => 0, .any⟩]⟩,
   -- RING_CFGn (R270)
   ⟨0x403100, 1, 64, 8, 8, .dom,
     [⟨15, 15, .rwl, fun _ => 0, .ctx⟩, ⟨14, 13, .ro, ringClass, .any⟩, ⟨10, 8, .rwl, fun _ => 0, .oneOf [0, 4, 5, 6, 7]⟩, ⟨3, 0, .rwl, fun _ => 3, .ctx⟩]⟩,
   -- RING_BASEn (R270)
   ⟨0x403101, 2, 64, 8, 8, .dom,
     [⟨23, 0, .rwl, fun _ => 0x100000, .ctx⟩]⟩,
   -- RING_IDXn (R270)
   ⟨0x403103, 2, 64, 8, 8, .dom,
     [⟨23, 0, .rwl, fun _ => 0x100000, .ctx⟩]⟩,
   -- RING_STATn (R270)
   ⟨0x403105, 1, 64, 8, 8, .dom,
     [⟨15, 15, .w1c, fun _ => 0, .any⟩, ⟨14, 14, .w1c, fun _ => 0, .any⟩, ⟨13, 13, .w1c, fun _ => 0, .any⟩, ⟨12, 12, .ro, fun _ => 0, .any⟩, ⟨10, 0, .ro, fun _ => 0, .any⟩]⟩]

/-- All registers of window RING. -/
def regsRING : List Reg := commonRegs 3 ++ regsRING0

/-- Registers of window CBL. -/
def regsCBL0 : List Reg :=
  [
   -- CBL_ENw (R270)
   ⟨0x404010, 1, 40, 1, 10, .dom,
     [⟨15, 0, .rwl, fun w => if w = 0 then 0xFFFF else if w = 1 then 3 else 0, .any⟩]⟩,
   -- CBL_LVADDR (R270)
   ⟨0x404040, 1, 1, 0, 10, .dom,
     [⟨9, 0, .rw, fun _ => 0, .rng 0 639⟩]⟩,
   -- CBL_LVDATA (R270)
   ⟨0x404041, 1, 1, 0, 10, .dom,
     [⟨4, 4, .rwl, fun _ => 0, .any⟩, ⟨3, 0, .rwl, fun _ => 0, .any⟩]⟩,
   -- CBL_LEVERS (R270)
   ⟨0x404042, 1, 1, 0, 10, .dom,
     [⟨15, 0, .rw, fun _ => 0, .any⟩]⟩,
   -- CBL_STAT (R270)
   ⟨0x404043, 1, 1, 0, 10, .dom,
     [⟨0, 0, .w1c, fun _ => 0, .any⟩]⟩,
   -- CBL_CUTCABLE (R270)
   ⟨0x404044, 1, 1, 0, 10, .dom,
     [⟨9, 0, .ro, fun _ => 0, .any⟩]⟩,
   -- CBL_CUTCNT (R270)
   ⟨0x404045, 1, 1, 0, 10, .dom,
     [⟨15, 0, .w1c, fun _ => 0, .any⟩]⟩,
   -- CBL_FIRE (R270)
   ⟨0x404046, 1, 1, 0, 10, .dom,
     [⟨6, 0, .wo, fun _ => 0, .rng 0 95⟩]⟩,
   -- CBL_CONSc (R270)
   ⟨0x404100, 1, 80, 1, 10, .dom,
     [⟨15, 8, .w1c, fun _ => 0, .any⟩, ⟨2, 2, .w1c, fun _ => 0, .any⟩, ⟨1, 1, .w1c, fun _ => 0, .any⟩, ⟨0, 0, .ro, fun _ => 0, .any⟩]⟩]

/-- All registers of window CBL. -/
def regsCBL : List Reg := commonRegs 4 ++ regsCBL0

/-- Registers of window CAD, part 1. -/
def regsCAD0 : List Reg :=
  [
   -- CAD_SLEEP (R312)
   ⟨0x405002, 3, 1, 0, 16, .por,
     [⟨47, 0, .ro, fun _ => 0, .any⟩]⟩,
   -- CAD_WCSTAT (R312)
   ⟨0x405005, 1, 1, 0, 16, .por,
     [⟨15, 8, .w1c, fun _ => 0, .any⟩, ⟨7, 0, .ro, fun _ => 0, .any⟩]⟩,
   -- CAD_WCn (R312)
   ⟨0x405010, 3, 8, 4, 16, .por,
     [⟨47, 0, .rw, fun _ => 0, .any⟩]⟩,
   -- CAD_NT (R312)
   ⟨0x405040, 4, 1, 0, 10, .dom,
     [⟨63, 0, .ro, fun _ => 0, .any⟩]⟩,
   -- CAD_SNAP (R312)
   ⟨0x405044, 4, 1, 0, 10, .dom,
     [⟨63, 0, .ro, fun _ => 0, .any⟩]⟩,
   -- CAD_PPSCFG (R312)
   ⟨0x405048, 1, 1, 0, 10, .dom,
     [⟨15, 15, .rw, fun _ => 0, .any⟩, ⟨14, 14, .rw, fun _ => 0, .any⟩, ⟨13, 13, .rw, fun _ => 0, .any⟩, ⟨12, 0, .rw, fun _ => 0x1388, .rng 1 8191⟩]⟩,
   -- CAD_DROPCNT (R312)
   ⟨0x405049, 1, 1, 0, 15, .dom,
     [⟨15, 0, .w1c, fun _ => 0, .any⟩]⟩,
   -- CAD_CCn_CFG (R312)
   ⟨0x405100, 1, 8, 32, 15, .dom,
     [⟨15, 13, .rw, fun _ => 0, .ctx⟩, ⟨12, 11, .rw, fun _ => 1, .rng 1 3⟩, ⟨10, 10, .rw, fun _ => 0, .any⟩, ⟨9, 9, .rw, fun _ => 0, .any⟩]⟩,
   -- CAD_CCn_STAT (R312)
   ⟨0x405101, 1, 8, 32, 15, .dom,
     [⟨15, 15, .ro, fun _ => 0, .any⟩, ⟨14, 14, .w1c, fun _ => 0, .any⟩, ⟨13, 13, .w1c, fun _ => 0, .any⟩, ⟨12, 12, .ro, fun _ => 0, .any⟩, ⟨11, 11, .w1c, fun _ => 0, .any⟩]⟩,
   -- CAD_CCn_TGT (R312)
   ⟨0x405102, 4, 8, 32, 15, .dom,
     [⟨63, 0, .rw, fun _ => 0, .any⟩]⟩,
   -- CAD_CCn_PER (R312)
   ⟨0x405106, 2, 8, 32, 15, .dom,
     [⟨31, 0, .rw, fun _ => 0, .ctx⟩]⟩,
   -- CAD_CCn_RISE (R312)
   ⟨0x405108, 4, 8, 32, 15, .dom,
     [⟨63, 0, .ro, fun _ => 0, .any⟩]⟩]

/-- Registers of window CAD, part 2. -/
def regsCAD1 : List Reg :=
  [
   -- CAD_CCn_FALL (R312)
   ⟨0x40510C, 4, 8, 32, 15, .dom,
     [⟨63, 0, .ro, fun _ => 0, .any⟩]⟩,
   -- CAD_CCn_WIDTH (R312)
   ⟨0x405110, 2, 8, 32, 15, .dom,
     [⟨31, 0, .ro, fun _ => 0, .any⟩]⟩]

/-- All registers of window CAD. -/
def regsCAD : List Reg := commonRegs 5 ++ regsCAD0 ++ regsCAD1

/-- Registers of window RFA, part 1. -/
def regsRFA0 : List Reg :=
  [
   -- RFA_CTRL (R139)
   ⟨0x406002, 1, 1, 0, 12, .dom,
     [⟨1, 1, .wo, fun _ => 0, .any⟩, ⟨0, 0, .wo, fun _ => 0, .any⟩]⟩,
   -- RFA_STAT (R139)
   ⟨0x406003, 1, 1, 0, 12, .dom,
     [⟨15, 12, .ro, fun _ => 0, .any⟩, ⟨11, 11, .ro, fun _ => 0, .any⟩, ⟨10, 10, .ro, fun _ => 0, .any⟩, ⟨9, 9, .ro, fun _ => 0, .any⟩, ⟨8, 8, .ro, fun _ => 0, .any⟩, ⟨7, 7, .w1c, fun _ => 0, .any⟩, ⟨6, 6, .w1c, fun _ => 0, .any⟩, ⟨5, 5, .w1c, fun _ => 0, .any⟩, ⟨4, 4, .ro, fun _ => 0, .any⟩]⟩,
   -- RFA_CHBASE (R139)
   ⟨0x406004, 2, 1, 0, 12, .dom,
     [⟨25, 0, .rw, fun _ => 0, .any⟩]⟩,
   -- RFA_CHSPACE (R139)
   ⟨0x406006, 1, 1, 0, 12, .dom,
     [⟨15, 0, .rw, fun _ => 0x20, .any⟩]⟩,
   -- RFA_TXPWR (R139)
   ⟨0x406007, 1, 1, 0, 12, .dom,
     [⟨6, 0, .rw, fun _ => 0x28, .rng 0 72⟩]⟩,
   -- RFA_CALTEMP (R139)
   ⟨0x406008, 1, 1, 0, 12, .por,
     [⟨15, 8, .ro, fun _ => 0, .any⟩, ⟨7, 0, .rw, fun _ => 0x14, .rng 5 40⟩]⟩,
   -- RFA_LATECNT (R139)
   ⟨0x40600A, 1, 1, 0, 12, .dom,
     [⟨15, 0, .w1c, fun _ => 0, .any⟩]⟩,
   -- RFA_GNTCNT (R139)
   ⟨0x40600B, 1, 1, 0, 12, .dom,
     [⟨15, 0, .w1c, fun _ => 0, .any⟩]⟩,
   -- RFA_BLANKCNT (R139)
   ⟨0x40600C, 1, 1, 0, 12, .dom,
     [⟨15, 0, .w1c, fun _ => 0, .any⟩]⟩,
   -- RFA_TUNE (R139)
   ⟨0x406010, 1, 1, 0, 12, .dom,
     [⟨15, 15, .rw, fun _ => 0, .any⟩, ⟨14, 14, .rw, fun _ => 1, .any⟩, ⟨13, 12, .ro, fun _ => 0, .any⟩, ⟨11, 6, .ro, fun _ => 0x20, .any⟩, ⟨5, 0, .ro, fun _ => 0x20, .any⟩]⟩,
   -- RFA_MMTHR (R139)
   ⟨0x406011, 1, 1, 0, 12, .dom,
     [⟨15, 8, .rw, fun _ => 0x80, .ctx⟩, ⟨7, 0, .rw, fun _ => 0x55, .ctx⟩]⟩,
   -- RFA_MMTHR2 (R139)
   ⟨0x406012, 1, 1, 0, 12, .dom,
     [⟨7, 0, .rw, fun _ => 0xD1, .ctx⟩]⟩]

/-- Registers of window RFA, part 2. -/
def regsRFA1 : List Reg :=
  [
   -- RFA_MMSTAT (R139)
   ⟨0x406013, 1, 1, 0, 12, .dom,
     [⟨15, 8, .ro, fun _ => 0, .any⟩, ⟨7, 6, .ro, fun _ => 0, .any⟩, ⟨5, 5, .w1c, fun _ => 0, .any⟩, ⟨4, 4, .w1c, fun _ => 0, .any⟩, ⟨3, 2, .ro, fun _ => 0, .any⟩]⟩,
   -- RFA_TPROFk (R139)
   ⟨0x406014, 2, 4, 2, 12, .por,
     [⟨31, 26, .rw, fun _ => 0x20, .any⟩, ⟨25, 16, .rw, fun k => if k = 0 then 0x3C1 else 0, .any⟩, ⟨15, 10, .rw, fun _ => 0x20, .any⟩, ⟨9, 0, .rw, fun k => if k = 0 then 0x1D6 else 0, .any⟩]⟩,
   -- RFA_COEX (R139)
   ⟨0x406020, 1, 1, 0, 12, .dom,
     [⟨15, 14, .rw, fun _ => 0, .ctx⟩, ⟨13, 13, .rw, fun _ => 0, .any⟩, ⟨12, 12, .rw, fun _ => 0, .any⟩, ⟨8, 0, .rw, fun _ => 0x64, .rng 8 500⟩]⟩]

/-- All registers of window RFA. -/
def regsRFA : List Reg := commonRegs 6 ++ regsRFA0 ++ regsRFA1

/-- Registers of window RFB. -/
def regsRFB0 : List Reg :=
  [
   -- RFB_CTRL (R139)
   ⟨0x407002, 1, 1, 0, 13, .dom,
     [⟨0, 0, .wo, fun _ => 0, .any⟩]⟩,
   -- RFB_STAT (R139)
   ⟨0x407003, 1, 1, 0, 13, .dom,
     [⟨15, 12, .ro, fun _ => 0, .any⟩, ⟨11, 11, .ro, fun _ => 0, .any⟩, ⟨10, 10, .ro, fun _ => 0, .any⟩, ⟨9, 9, .ro, fun _ => 0, .any⟩, ⟨8, 8, .ro, fun _ => 0, .any⟩, ⟨7, 7, .w1c, fun _ => 0, .any⟩, ⟨6, 6, .w1c, fun _ => 0, .any⟩, ⟨5, 5, .w1c, fun _ => 0, .any⟩, ⟨4, 4, .ro, fun _ => 0, .any⟩]⟩,
   -- RFB_CHBASE (R139)
   ⟨0x407004, 2, 1, 0, 13, .dom,
     [⟨25, 0, .rw, fun _ => 0, .any⟩]⟩,
   -- RFB_CHSPACE (R139)
   ⟨0x407006, 1, 1, 0, 13, .dom,
     [⟨15, 0, .rw, fun _ => 0x20, .any⟩]⟩,
   -- RFB_TXPWR (R139)
   ⟨0x407007, 1, 1, 0, 13, .dom,
     [⟨6, 0, .rw, fun _ => 0x14, .rng 0 30⟩]⟩,
   -- RFB_CALTEMP (R139)
   ⟨0x407008, 1, 1, 0, 13, .por,
     [⟨15, 8, .ro, fun _ => 0, .any⟩, ⟨7, 0, .rw, fun _ => 0x14, .rng 5 40⟩]⟩,
   -- RFB_LATECNT (R139)
   ⟨0x40700A, 1, 1, 0, 13, .dom,
     [⟨15, 0, .w1c, fun _ => 0, .any⟩]⟩,
   -- RFB_GNTCNT (R139)
   ⟨0x40700B, 1, 1, 0, 13, .dom,
     [⟨15, 0, .w1c, fun _ => 0, .any⟩]⟩,
   -- RFB_BLANKCNT (R139)
   ⟨0x40700C, 1, 1, 0, 13, .dom,
     [⟨15, 0, .w1c, fun _ => 0, .any⟩]⟩,
   -- RFB_COEX (R139)
   ⟨0x407020, 1, 1, 0, 13, .dom,
     [⟨15, 14, .rw, fun _ => 0, .ctx⟩, ⟨13, 13, .rw, fun _ => 0, .any⟩, ⟨12, 12, .rw, fun _ => 0, .any⟩, ⟨8, 0, .rw, fun _ => 0x64, .rng 8 500⟩]⟩]

/-- All registers of window RFB. -/
def regsRFB : List Reg := commonRegs 7 ++ regsRFB0

/-- Registers of window RXE, part 1. -/
def regsRXE0 : List Reg :=
  [
   -- RXE_WINSTAT (R191)
   ⟨0x408002, 1, 1, 0, 11, .dom,
     [⟨13, 8, .ro, fun _ => 0, .any⟩, ⟨5, 0, .ro, fun _ => 0, .any⟩]⟩,
   -- RXE_LANEk_CFG (R191)
   ⟨0x408010, 1, 10, 16, 11, .dom,
     [⟨15, 14, .rw, fun _ => 1, .rng 0 1⟩, ⟨13, 8, .rw, fun _ => 0, .ctx⟩, ⟨7, 0, .rw, fun k => if k < 8 then 0 else 0x80, .ctx⟩]⟩,
   -- RXE_LANEk_OFS (R191)
   ⟨0x408011, 1, 10, 16, 11, .dom,
     [⟨9, 0, .rw, fun _ => 0, .ctx⟩]⟩,
   -- RXE_LANEk_CAP (R191)
   ⟨0x408012, 1, 10, 16, 11, .dom,
     [⟨12, 12, .rw, fun _ => 0, .any⟩, ⟨11, 8, .rw, fun _ => 6, .any⟩, ⟨7, 4, .rw, fun _ => 6, .rng 1 15⟩, ⟨3, 0, .rw, fun _ => 6, .rng 4 15⟩]⟩,
   -- RXE_LANEk_STAT (R191)
   ⟨0x408013, 1, 10, 16, 11, .dom,
     [⟨15, 13, .ro, fun _ => 0, .any⟩, ⟨12, 12, .ro, fun _ => 0, .any⟩, ⟨11, 11, .w1c, fun _ => 0, .any⟩]⟩,
   -- RXE_LANEk_BUF (R191)
   ⟨0x408014, 2, 10, 16, 11, .dom,
     [⟨23, 0, .rw, fun _ => 0x100000, .rng 1048576 2097151⟩]⟩,
   -- RXE_LANEk_SLOTW (R191)
   ⟨0x408016, 1, 10, 16, 11, .dom,
     [⟨10, 0, .rw, fun _ => 0x40, .rng 2 1024⟩]⟩,
   -- RXE_LANEk_LEVEL (R191)
   ⟨0x408017, 1, 10, 16, 11, .dom,
     [⟨15, 8, .ro, fun _ => 0x80, .any⟩, ⟨7, 0, .ro, fun _ => 0, .any⟩]⟩,
   -- RXE_LANEk_DETCNT (R191)
   ⟨0x408018, 1, 10, 16, 11, .dom,
     [⟨15, 0, .w1c, fun _ => 0, .any⟩]⟩,
   -- RXE_LANEk_FALSECNT (R191)
   ⟨0x408019, 1, 10, 16, 11, .dom,
     [⟨15, 0, .w1c, fun _ => 0, .any⟩]⟩,
   -- RXE_LANEk_RESTARTCNT (R191)
   ⟨0x40801A, 1, 10, 16, 11, .dom,
     [⟨15, 0, .w1c, fun _ => 0, .any⟩]⟩,
   -- RXE_LANEk_OVERCNT (R191)
   ⟨0x40801B, 1, 10, 16, 11, .dom,
     [⟨15, 0, .w1c, fun _ => 0, .any⟩]⟩]

/-- Registers of window RXE, part 2. -/
def regsRXE1 : List Reg :=
  [
   -- RXE_LANEk_POSTCNT (R191)
   ⟨0x40801C, 1, 10, 16, 11, .dom,
     [⟨15, 0, .w1c, fun _ => 0, .any⟩]⟩,
   -- RXE_LANEk_DROPCNT (R191)
   ⟨0x40801D, 1, 10, 16, 11, .dom,
     [⟨15, 0, .w1c, fun _ => 0, .any⟩]⟩,
   -- RXE_LANEk_MSREFCNT (R191)
   ⟨0x40801E, 1, 10, 16, 11, .dom,
     [⟨15, 0, .w1c, fun _ => 0, .any⟩]⟩]

/-- All registers of window RXE. -/
def regsRXE : List Reg := commonRegs 8 ++ regsRXE0 ++ regsRXE1

/-- Registers of window MOD. -/
def regsMOD0 : List Reg :=
  [
   -- MOD_FSKPRE (R170)
   ⟨0x409002, 1, 1, 0, 11, .dom,
     [⟨15, 15, .rw, fun _ => 1, .any⟩, ⟨14, 14, .rw, fun _ => 0, .any⟩, ⟨9, 0, .rw, fun _ => 8, .rng 4 1000⟩]⟩,
   -- MOD_SPRINT (R170)
   ⟨0x409003, 1, 1, 0, 11, .dom,
     [⟨8, 0, .rw, fun _ => 1, .rng 1 511⟩]⟩,
   -- MOD_OFDM (R170)
   ⟨0x409004, 1, 1, 0, 11, .dom,
     [⟨2, 2, .rw, fun _ => 1, .any⟩, ⟨1, 0, .rw, fun _ => 0, .any⟩]⟩]

/-- All registers of window MOD. -/
def regsMOD : List Reg := commonRegs 9 ++ regsMOD0

/-- Registers of window LNK, part 1. -/
def regsLNK0 : List Reg :=
  [
   -- LNK_CTRL (R215)
   ⟨0x40A002, 1, 1, 0, 11, .dom,
     [⟨15, 14, .rw, fun _ => 1, .rng 0 1⟩, ⟨0, 0, .w1c, fun _ => 1, .any⟩]⟩,
   -- LNK_SHORT (R215)
   ⟨0x40A003, 1, 1, 0, 11, .dom,
     [⟨15, 0, .rwl, fun _ => 0xFFFE, .rng 1 65535⟩]⟩,
   -- LNK_PANID (R215)
   ⟨0x40A004, 1, 1, 0, 11, .dom,
     [⟨15, 0, .rwl, fun _ => 0, .rng 0 65534⟩]⟩,
   -- LNK_EXT (R215)
   ⟨0x40A005, 4, 1, 0, 11, .dom,
     [⟨63, 0, .rwl, fun _ => 0, .any⟩]⟩,
   -- LNK_FILT (R215)
   ⟨0x40A009, 1, 1, 0, 11, .dom,
     [⟨3, 3, .rwl, fun _ => 0, .any⟩, ⟨2, 2, .rwl, fun _ => 1, .any⟩, ⟨1, 1, .rwl, fun _ => 1, .any⟩, ⟨0, 0, .rwl, fun _ => 1, .any⟩]⟩,
   -- LNK_ACKGAP (R215)
   ⟨0x40A00A, 1, 1, 0, 11, .dom,
     [⟨10, 0, .rwl, fun _ => 0x3E8, .rng 192 2000⟩]⟩,
   -- LNK_ACKWAIT (R215)
   ⟨0x40A00B, 1, 1, 0, 11, .dom,
     [⟨9, 0, .rwl, fun _ => 0x190, .rng 100 1000⟩]⟩,
   -- LNK_CCA (R215)
   ⟨0x40A00C, 1, 1, 0, 11, .dom,
     [⟨10, 8, .rwl, fun _ => 1, .rng 1 5⟩, ⟨7, 0, .rwl, fun _ => 0x46, .any⟩]⟩,
   -- LNK_CCADUR (R215)
   ⟨0x40A00D, 1, 1, 0, 11, .dom,
     [⟨5, 0, .rwl, fun _ => 8, .rng 1 63⟩]⟩,
   -- LNK_BE (R215)
   ⟨0x40A00E, 1, 1, 0, 11, .dom,
     [⟨7, 4, .rwl, fun _ => 7, .ctx⟩, ⟨3, 0, .rwl, fun _ => 1, .ctx⟩]⟩,
   -- LNK_DSN (R215)
   ⟨0x40A00F, 1, 1, 0, 11, .dom,
     [⟨7, 0, .rw, fun _ => 0, .any⟩]⟩,
   -- LNK_HOPLEN (R215)
   ⟨0x40A010, 1, 1, 0, 11, .dom,
     [⟨15, 8, .rwl, fun _ => 1, .rng 1 128⟩, ⟨7, 0, .rwl, fun _ => 1, .rng 1 128⟩]⟩]

/-- Registers of window LNK, part 2. -/
def regsLNK1 : List Reg :=
  [
   -- LNK_HOPADDR (R215)
   ⟨0x40A011, 1, 1, 0, 11, .dom,
     [⟨7, 7, .rw, fun _ => 0, .any⟩, ⟨6, 0, .rw, fun _ => 0, .any⟩]⟩,
   -- LNK_HOPDATA (R215)
   ⟨0x40A012, 1, 1, 0, 11, .dom,
     [⟨15, 14, .rwl, fun _ => 0, .any⟩, ⟨9, 0, .rwl, fun _ => 0, .any⟩]⟩,
   -- LNK_DWCHAIN (R215)
   ⟨0x40A013, 1, 1, 0, 11, .dom,
     [⟨3, 2, .rwl, fun _ => 0, .any⟩, ⟨1, 0, .rwl, fun _ => 0, .any⟩]⟩,
   -- LNK_DWPROFp (R215)
   ⟨0x40A014, 2, 3, 2, 11, .dom,
     [⟨31, 16, .rwl, fun _ => 0x190, .rng 1 6000⟩, ⟨15, 0, .rwl, fun _ => 0x9C4, .rng 1 60000⟩]⟩,
   -- LNK_KEYMAPj (R215)
   ⟨0x40A020, 2, 16, 2, 11, .dom,
     [⟨31, 31, .rwl, fun _ => 0, .any⟩, ⟨30, 30, .rwl, fun _ => 0, .any⟩, ⟨29, 29, .rwl, fun _ => 0, .any⟩, ⟨28, 28, .rwl, fun _ => 0, .any⟩, ⟨27, 27, .rwl, fun _ => 0, .any⟩, ⟨26, 24, .rwl, fun _ => 5, .rng 1 7⟩, ⟨15, 8, .rwl, fun _ => 0, .any⟩, ⟨7, 0, .rwl, fun _ => 0, .any⟩]⟩,
   -- LNK_FCj (R215)
   ⟨0x40A040, 2, 16, 2, 11, .dom,
     [⟨31, 0, .ro, fun _ => 0, .any⟩]⟩,
   -- LNK_FCSERRCNT (R215)
   ⟨0x40A060, 1, 1, 0, 11, .dom,
     [⟨15, 0, .w1c, fun _ => 0, .any⟩]⟩,
   -- LNK_FILTCNT (R215)
   ⟨0x40A061, 1, 1, 0, 11, .dom,
     [⟨15, 0, .w1c, fun _ => 0, .any⟩]⟩,
   -- LNK_AUTHFAILCNT (R215)
   ⟨0x40A062, 1, 1, 0, 11, .dom,
     [⟨15, 0, .w1c, fun _ => 0, .any⟩]⟩,
   -- LNK_REPLAYCNT (R215)
   ⟨0x40A063, 1, 1, 0, 11, .dom,
     [⟨15, 0, .w1c, fun _ => 0, .any⟩]⟩,
   -- LNK_DUPCNT (R215)
   ⟨0x40A064, 1, 1, 0, 11, .dom,
     [⟨15, 0, .w1c, fun _ => 0, .any⟩]⟩,
   -- LNK_ACKSENTCNT (R215)
   ⟨0x40A065, 1, 1, 0, 11, .dom,
     [⟨15, 0, .w1c, fun _ => 0, .any⟩]⟩]

/-- Registers of window LNK, part 3. -/
def regsLNK2 : List Reg :=
  [
   -- LNK_ACKFAILCNT (R215)
   ⟨0x40A066, 1, 1, 0, 11, .dom,
     [⟨15, 0, .w1c, fun _ => 0, .any⟩]⟩,
   -- LNK_CTRLDROPCNT (R215)
   ⟨0x40A067, 1, 1, 0, 11, .dom,
     [⟨15, 0, .w1c, fun _ => 0, .any⟩]⟩,
   -- LNK_NOACKCNT (R215)
   ⟨0x40A068, 1, 1, 0, 11, .dom,
     [⟨15, 0, .w1c, fun _ => 0, .any⟩]⟩,
   -- LNK_CCABUSYCNT (R215)
   ⟨0x40A069, 1, 1, 0, 11, .dom,
     [⟨15, 0, .w1c, fun _ => 0, .any⟩]⟩,
   -- LNK_DWELLCNT (R215)
   ⟨0x40A06A, 1, 1, 0, 11, .dom,
     [⟨15, 0, .w1c, fun _ => 0, .any⟩]⟩]

/-- All registers of window LNK. -/
def regsLNK : List Reg := commonRegs 10 ++ regsLNK0 ++ regsLNK1 ++ regsLNK2

/-- Registers of window MSH, part 1. -/
def regsMSH0 : List Reg :=
  [
   -- MSH_CTRL (R246)
   ⟨0x40B002, 1, 1, 0, 11, .dom,
     [⟨15, 14, .rw, fun _ => 1, .rng 0 1⟩, ⟨13, 12, .ro, fun _ => 0, .any⟩, ⟨11, 11, .rwl, fun _ => 0, .any⟩, ⟨7, 0, .rwl, fun _ => 0, .rng 0 254⟩]⟩,
   -- MSH_TSTAT (R246)
   ⟨0x40B003, 1, 1, 0, 11, .dom,
     [⟨15, 13, .ro, fun _ => 0, .any⟩, ⟨12, 12, .w1c, fun _ => 0, .any⟩, ⟨11, 11, .ro, fun _ => 1, .any⟩]⟩,
   -- MSH_LASTCORR (R246)
   ⟨0x40B004, 2, 1, 0, 11, .dom,
     [⟨31, 0, .ro, fun _ => 0, .any⟩]⟩,
   -- MSH_TRIM (R246)
   ⟨0x40B006, 2, 1, 0, 11, .dom,
     [⟨23, 0, .rw, fun _ => 0, .ctx⟩]⟩,
   -- MSH_STAGE (R246)
   ⟨0x40B008, 2, 1, 0, 11, .dom,
     [⟨31, 0, .ro, fun _ => 0, .any⟩]⟩,
   -- MSH_STAGESET (R246)
   ⟨0x40B00A, 2, 1, 0, 11, .dom,
     [⟨31, 0, .rw, fun _ => 0, .any⟩]⟩,
   -- MSH_STAGECTL (R246)
   ⟨0x40B00C, 1, 1, 0, 11, .dom,
     [⟨15, 8, .wo, fun _ => 0, .any⟩, ⟨1, 0, .wo, fun _ => 0, .rng 0 2⟩]⟩,
   -- MSH_SYNCOFS (R246)
   ⟨0x40B00D, 1, 1, 0, 11, .dom,
     [⟨15, 0, .rwl, fun _ => 0x7D0, .rng 0 39999⟩]⟩,
   -- MSH_SEQ (R246)
   ⟨0x40B00E, 1, 1, 0, 11, .dom,
     [⟨15, 0, .rw, fun _ => 0, .any⟩]⟩,
   -- MSH_SEENLIFE (R246)
   ⟨0x40B00F, 1, 1, 0, 11, .dom,
     [⟨6, 0, .rwl, fun _ => 0xF, .rng 1 127⟩]⟩,
   -- MSH_RPOOL (R246)
   ⟨0x40B010, 2, 1, 0, 11, .dom,
     [⟨23, 0, .rwl, fun _ => 0x100000, .rng 1048576 2097151⟩]⟩,
   -- MSH_RSLOTW (R246)
   ⟨0x40B012, 1, 1, 0, 11, .dom,
     [⟨10, 0, .rwl, fun _ => 0x80, .rng 16 1024⟩]⟩]

/-- Registers of window MSH, part 2. -/
def regsMSH1 : List Reg :=
  [
   -- MSH_RSLOTS (R246)
   ⟨0x40B013, 1, 1, 0, 11, .dom,
     [⟨6, 0, .rwl, fun _ => 0x10, .rng 1 64⟩]⟩,
   -- MSH_RCLASSc (R246)
   ⟨0x40B020, 2, 16, 2, 11, .dom,
     [⟨31, 31, .rwl, fun c => if c = 0 then 1 else 0, .any⟩, ⟨30, 29, .rwl, fun _ => 0, .any⟩, ⟨27, 24, .rwl, fun _ => 0, .any⟩, ⟨23, 16, .rwl, fun _ => 0, .ctx⟩, ⟨15, 12, .rwl, fun _ => 3, .rng 1 15⟩, ⟨10, 8, .rwl, fun _ => 5, .rng 1 7⟩, ⟨3, 0, .rwl, fun _ => 0, .any⟩]⟩,
   -- MSH_HOLDc (R246)
   ⟨0x40B040, 1, 16, 1, 11, .dom,
     [⟨15, 0, .ro, fun _ => 0, .any⟩]⟩,
   -- MSH_PATHADDR (R246)
   ⟨0x40B050, 1, 1, 0, 11, .dom,
     [⟨7, 0, .rw, fun _ => 0, .any⟩]⟩,
   -- MSH_PATHDATA (R246)
   ⟨0x40B051, 1, 1, 0, 11, .dom,
     [⟨15, 15, .rw, fun _ => 0, .any⟩, ⟨13, 10, .rw, fun _ => 0, .rng 1 15⟩, ⟨9, 0, .rw, fun _ => 0, .rng 0 1022⟩]⟩,
   -- MSH_NBRADDR (R246)
   ⟨0x40B052, 1, 1, 0, 11, .dom,
     [⟨13, 0, .rw, fun _ => 0, .any⟩]⟩,
   -- MSH_NBRDATA (R246)
   ⟨0x40B053, 1, 1, 0, 11, .dom,
     [⟨15, 0, .rw, fun _ => 0, .any⟩]⟩,
   -- MSH_RELAYCNT (R246)
   ⟨0x40B060, 1, 1, 0, 11, .dom,
     [⟨15, 0, .w1c, fun _ => 0, .any⟩]⟩,
   -- MSH_TTLENDCNT (R246)
   ⟨0x40B061, 1, 1, 0, 11, .dom,
     [⟨15, 0, .w1c, fun _ => 0, .any⟩]⟩,
   -- MSH_SUPCNT (R246)
   ⟨0x40B062, 1, 1, 0, 11, .dom,
     [⟨15, 0, .w1c, fun _ => 0, .any⟩]⟩,
   -- MSH_HELDCNT (R246)
   ⟨0x40B063, 1, 1, 0, 11, .dom,
     [⟨15, 0, .w1c, fun _ => 0, .any⟩]⟩,
   -- MSH_QFULLCNT (R246)
   ⟨0x40B064, 1, 1, 0, 11, .dom,
     [⟨15, 0, .w1c, fun _ => 0, .any⟩]⟩]

/-- Registers of window MSH, part 3. -/
def regsMSH2 : List Reg :=
  [
   -- MSH_EVICTCNT (R246)
   ⟨0x40B065, 1, 1, 0, 11, .dom,
     [⟨15, 0, .w1c, fun _ => 0, .any⟩]⟩,
   -- MSH_ELIMCNT (R246)
   ⟨0x40B066, 1, 1, 0, 11, .dom,
     [⟨15, 0, .w1c, fun _ => 0, .any⟩]⟩,
   -- MSH_SINGLECNT (R246)
   ⟨0x40B067, 1, 1, 0, 11, .dom,
     [⟨15, 0, .w1c, fun _ => 0, .any⟩]⟩,
   -- MSH_HDRERRCNT (R246)
   ⟨0x40B068, 1, 1, 0, 11, .dom,
     [⟨15, 0, .w1c, fun _ => 0, .any⟩]⟩,
   -- MSH_EVTDROPCNT (R246)
   ⟨0x40B069, 1, 1, 0, 11, .dom,
     [⟨15, 0, .w1c, fun _ => 0, .any⟩]⟩,
   -- MSH_STALECNT (R246)
   ⟨0x40B06A, 1, 1, 0, 11, .dom,
     [⟨15, 0, .w1c, fun _ => 0, .any⟩]⟩,
   -- MSH_RLYFAILCNT (R246)
   ⟨0x40B06B, 1, 1, 0, 11, .dom,
     [⟨15, 0, .w1c, fun _ => 0, .any⟩]⟩]

/-- All registers of window MSH. -/
def regsMSH : List Reg := commonRegs 11 ++ regsMSH0 ++ regsMSH1 ++ regsMSH2

/-- Registers of window VLT, part 1. -/
def regsVLT0 : List Reg :=
  [
   -- VLT_CTRL (R357)
   ⟨0x40C002, 1, 1, 0, 14, .dom,
     [⟨15, 14, .rw, fun _ => 1, .rng 0 1⟩, ⟨0, 0, .wo, fun _ => 0, .any⟩]⟩,
   -- VLT_STAT (R357)
   ⟨0x40C003, 1, 1, 0, 14, .dom,
     [⟨15, 14, .ro, fun _ => 0, .any⟩, ⟨13, 13, .ro, fun _ => 0, .any⟩, ⟨12, 12, .ro, fun _ => 1, .any⟩, ⟨11, 11, .ro, fun _ => 0, .any⟩, ⟨2, 0, .ro, fun _ => 0, .any⟩]⟩,
   -- VLT_DEVID (R357)
   ⟨0x40C004, 4, 1, 0, 14, .dom,
     [⟨63, 0, .ro, fun _ => 0, .any⟩]⟩,
   -- VLT_LMSQ (R357)
   ⟨0x40C008, 2, 1, 0, 14, .dom,
     [⟨15, 0, .ro, fun _ => 0, .any⟩]⟩,
   -- VLT_LMSWARN (R357)
   ⟨0x40C00A, 1, 1, 0, 14, .dom,
     [⟨15, 0, .rw, fun _ => 0x400, .rng 1 32768⟩]⟩,
   -- VLT_DBGCHAL (R357)
   ⟨0x40C00C, 4, 1, 0, 16, .soft,
     [⟨63, 0, .ro, fun _ => 0, .any⟩]⟩,
   -- VLT_SLOTBADw (R357)
   ⟨0x40C010, 1, 16, 1, 14, .dom,
     [⟨15, 0, .ro, fun _ => 0, .any⟩]⟩,
   -- VLT_SLOTSEL (R357)
   ⟨0x40C020, 1, 1, 0, 14, .dom,
     [⟨7, 0, .rw, fun _ => 0, .any⟩]⟩,
   -- VLT_SLOTATTR (R357)
   ⟨0x40C021, 1, 1, 0, 14, .dom,
     [⟨15, 0, .ro, fun _ => 0, .any⟩]⟩,
   -- VLT_SLOTGEN (R357)
   ⟨0x40C022, 2, 1, 0, 14, .dom,
     [⟨31, 0, .ro, fun _ => 0, .any⟩]⟩,
   -- VLT_AUTHFAILCNT (R357)
   ⟨0x40C030, 1, 1, 0, 14, .dom,
     [⟨15, 0, .w1c, fun _ => 0, .any⟩]⟩,
   -- VLT_DENYCNT (R357)
   ⟨0x40C031, 1, 1, 0, 14, .dom,
     [⟨15, 0, .w1c, fun _ => 0, .any⟩]⟩]

/-- Registers of window VLT, part 2. -/
def regsVLT1 : List Reg :=
  [
   -- VLT_SLOTBADCNT (R357)
   ⟨0x40C032, 1, 1, 0, 14, .dom,
     [⟨15, 0, .w1c, fun _ => 0, .any⟩]⟩,
   -- VLT_RNGFAILCNT (R357)
   ⟨0x40C033, 1, 1, 0, 14, .dom,
     [⟨15, 0, .w1c, fun _ => 0, .any⟩]⟩]

/-- All registers of window VLT. -/
def regsVLT : List Reg := commonRegs 12 ++ regsVLT0 ++ regsVLT1

/-- Registers of window GAU, part 1. -/
def regsGAU0 : List Reg :=
  [
   -- GAU_CTRL (R329)
   ⟨0x40D002, 1, 1, 0, 15, .dom,
     [⟨15, 14, .rw, fun _ => 1, .rng 0 1⟩, ⟨2, 0, .ro, fun _ => 0, .any⟩]⟩,
   -- GAU_SDn_CFG (R329)
   ⟨0x40D010, 1, 2, 8, 15, .dom,
     [⟨15, 13, .rw, fun _ => 2, .any⟩, ⟨12, 10, .rw, fun _ => 0, .any⟩, ⟨9, 8, .rw, fun _ => 0, .rng 0 1⟩, ⟨7, 7, .rw, fun _ => 0, .any⟩, ⟨6, 6, .rw, fun _ => 0, .any⟩, ⟨5, 5, .rw, fun _ => 0, .any⟩]⟩,
   -- GAU_IEXn (R329)
   ⟨0x40D020, 1, 2, 1, 15, .dom,
     [⟨15, 15, .rw, fun _ => 0, .any⟩, ⟨2, 0, .rw, fun _ => 0, .any⟩]⟩,
   -- GAU_SARSEQ (R329)
   ⟨0x40D028, 1, 1, 0, 15, .dom,
     [⟨8, 0, .rw, fun _ => 1, .rng 1 510⟩]⟩,
   -- GAU_LIMCFG (R329)
   ⟨0x40D029, 1, 1, 0, 15, .dom,
     [⟨6, 4, .rw, fun _ => 0, .any⟩, ⟨3, 0, .rw, fun _ => 0, .rng 0 8⟩]⟩,
   -- GAU_LIMs_LO (R329)
   ⟨0x40D02A, 1, 3, 2, 15, .dom,
     [⟨15, 0, .rw, fun s => if s < 2 then 0x8000 else 0x8000, .ctx⟩]⟩,
   -- GAU_LIMs_HI (R329)
   ⟨0x40D02B, 1, 3, 2, 15, .dom,
     [⟨15, 0, .rw, fun _ => 0x7FFF, .ctx⟩]⟩,
   -- GAU_DACn_CODE (R329)
   ⟨0x40D030, 1, 2, 2, 15, .dom,
     [⟨15, 0, .rw, fun _ => 0, .any⟩]⟩,
   -- GAU_DACn_CFG (R329)
   ⟨0x40D031, 1, 2, 2, 15, .dom,
     [⟨15, 15, .wo, fun _ => 0, .any⟩, ⟨0, 0, .rw, fun _ => 0, .any⟩]⟩,
   -- GAU_PWMn_CFG (R329)
   ⟨0x40D040, 1, 4, 4, 15, .dom,
     [⟨15, 15, .rw, fun _ => 0, .any⟩, ⟨14, 14, .rw, fun _ => 0, .any⟩]⟩,
   -- GAU_PWMn_PERIOD (R329)
   ⟨0x40D041, 1, 4, 4, 15, .dom,
     [⟨15, 0, .rw, fun _ => 2, .ctx⟩]⟩,
   -- GAU_PWMn_DUTY (R329)
   ⟨0x40D042, 2, 4, 4, 15, .dom,
     [⟨24, 0, .rw, fun _ => 0, .ctx⟩]⟩]

/-- Registers of window GAU, part 2. -/
def regsGAU1 : List Reg :=
  [
   -- GAU_DROPCNT (R329)
   ⟨0x40D050, 1, 1, 0, 15, .dom,
     [⟨15, 0, .w1c, fun _ => 0, .any⟩]⟩]

/-- All registers of window GAU. -/
def regsGAU : List Reg := commonRegs 13 ++ regsGAU0 ++ regsGAU1

/-- Registers of window PER, part 1. -/
def regsPER0 : List Reg :=
  [
   -- PER_Pp_DIR (R329)
   ⟨0x40E010, 1, 6, 8, 15, .dom,
     [⟨7, 0, .rw, fun _ => 0, .any⟩]⟩,
   -- PER_Pp_OUT (R329)
   ⟨0x40E011, 1, 6, 8, 15, .dom,
     [⟨7, 0, .rw, fun _ => 0, .any⟩]⟩,
   -- PER_Pp_IN (R329)
   ⟨0x40E012, 1, 6, 8, 15, .dom,
     [⟨7, 0, .ro, fun _ => 0, .any⟩]⟩,
   -- PER_Pp_EVTFLAG (R329)
   ⟨0x40E013, 1, 6, 8, 15, .dom,
     [⟨7, 0, .w1c, fun _ => 0, .any⟩]⟩,
   -- PER_Pp_SNAP (R329)
   ⟨0x40E014, 1, 6, 8, 15, .dom,
     [⟨7, 0, .ro, fun _ => 0, .any⟩]⟩,
   -- PER_Pp_FUNC (R329)
   ⟨0x40E015, 1, 6, 8, 15, .dom,
     [⟨1, 0, .rw, fun _ => 0, .ctx⟩, ⟨3, 2, .rw, fun _ => 0, .ctx⟩, ⟨5, 4, .rw, fun _ => 0, .ctx⟩, ⟨7, 6, .rw, fun _ => 0, .ctx⟩, ⟨9, 8, .rw, fun _ => 0, .ctx⟩, ⟨11, 10, .rw, fun _ => 0, .ctx⟩, ⟨13, 12, .rw, fun _ => 0, .ctx⟩, ⟨15, 14, .rw, fun _ => 0, .ctx⟩]⟩,
   -- PER_Pp_EVT (R329)
   ⟨0x40E016, 1, 6, 8, 15, .dom,
     [⟨1, 0, .rw, fun _ => 0, .any⟩, ⟨3, 2, .rw, fun _ => 0, .any⟩, ⟨5, 4, .rw, fun _ => 0, .any⟩, ⟨7, 6, .rw, fun _ => 0, .any⟩, ⟨9, 8, .rw, fun _ => 0, .any⟩, ⟨11, 10, .rw, fun _ => 0, .any⟩, ⟨13, 12, .rw, fun _ => 0, .any⟩, ⟨15, 14, .rw, fun _ => 0, .any⟩]⟩,
   -- PER_TASKk (R329)
   ⟨0x40E040, 1, 8, 1, 15, .dom,
     [⟨9, 8, .rw, fun _ => 0, .any⟩, ⟨5, 0, .rw, fun _ => 0, .rng 0 47⟩]⟩,
   -- PER_SERSRC (R329)
   ⟨0x40E050, 1, 1, 0, 15, .dom,
     [⟨5, 0, .w1c, fun _ => 0, .any⟩]⟩,
   -- PER_Su_CFG (R329)
   ⟨0x40E100, 1, 6, 16, 15, .dom,
     [⟨15, 14, .rw, fun _ => 0, .rng 0 1⟩, ⟨13, 8, .rw, fun _ => 0, .ctx⟩, ⟨7, 0, .rw, fun u => if u < 2 then 7 else if u < 4 then 0 else 8, .ctx⟩]⟩,
   -- PER_Su_CTRL (R329)
   ⟨0x40E101, 1, 6, 16, 15, .dom,
     [⟨15, 15, .wo, fun _ => 0, .any⟩, ⟨14, 8, .rw, fun _ => 0, .any⟩, ⟨7, 0, .rw, fun _ => 0, .ctx⟩]⟩,
   -- PER_Su_STAT (R329)
   ⟨0x40E102, 1, 6, 16, 15, .dom,
     [⟨15, 15, .ro, fun _ => 0, .any⟩, ⟨14, 14, .w1c, fun _ => 0, .any⟩, ⟨13, 9, .ro, fun _ => 0, .any⟩, ⟨7, 0, .ro, fun _ => 0, .any⟩]⟩]

/-- Registers of window PER, part 2. -/
def regsPER1 : List Reg :=
  [
   -- PER_Su_TXDATA (R329)
   ⟨0x40E103, 1, 6, 16, 15, .dom,
     [⟨15, 0, .wo, fun _ => 0, .any⟩]⟩,
   -- PER_Su_RXDATA (R329)
   ⟨0x40E104, 1, 6, 16, 15, .dom,
     [⟨15, 0, .ro, fun _ => 0, .any⟩]⟩,
   -- PER_Su_AUX (R329)
   ⟨0x40E105, 1, 6, 16, 15, .dom,
     [⟨15, 0, .rw, fun u => if u < 4 then 0 else 0x8B, .ctx⟩]⟩]

/-- All registers of window PER. -/
def regsPER : List Reg := commonRegs 14 ++ regsPER0 ++ regsPER1

/-- Window PAN has the common registers alone. -/
def regsPAN0 : List Reg := []

/-- All registers of window PAN. -/
def regsPAN : List Reg := commonRegs 15 ++ regsPAN0

/-- Registers of window WFL, part 1. -/
def regsWFL0 : List Reg :=
  [
   -- WFL_ADDR (R402)
   ⟨0x410002, 1, 1, 0, 16, .por,
     [⟨15, 15, .ro, fun _ => 0, .any⟩, ⟨14, 14, .ro, fun _ => 0, .any⟩, ⟨5, 0, .ro, fun _ => 0, .any⟩]⟩,
   -- WFL_ADDRCTL (R402)
   ⟨0x410003, 1, 1, 0, 16, .por,
     [⟨15, 8, .wo, fun _ => 0, .any⟩, ⟨0, 0, .wo, fun _ => 0, .any⟩]⟩,
   -- WFL_WAKECNT (R402)
   ⟨0x410004, 1, 1, 0, 16, .por,
     [⟨15, 0, .w1c, fun _ => 0, .any⟩]⟩,
   -- WFL_CFG (R402)
   ⟨0x410010, 1, 1, 0, 15, .dom,
     [⟨15, 14, .rw, fun _ => 1, .rng 0 1⟩, ⟨13, 13, .rw, fun _ => 1, .any⟩, ⟨7, 0, .rw, fun _ => 0x64, .rng 1 255⟩]⟩,
   -- WFL_STAT (R402)
   ⟨0x410011, 1, 1, 0, 15, .dom,
     [⟨15, 15, .ro, fun _ => 0, .any⟩, ⟨14, 14, .w1c, fun _ => 0, .any⟩, ⟨13, 11, .ro, fun _ => 0, .any⟩, ⟨3, 0, .ro, fun _ => 0, .any⟩]⟩,
   -- WFL_RXBASE (R402)
   ⟨0x410012, 2, 1, 0, 15, .dom,
     [⟨23, 0, .rwl, fun _ => 0x100000, .rng 1048576 2097151⟩]⟩,
   -- WFL_RSPBASE (R402)
   ⟨0x410014, 2, 1, 0, 15, .dom,
     [⟨23, 0, .rwl, fun _ => 0x100000, .rng 1048576 2097151⟩]⟩,
   -- WFL_RXFREE (R402)
   ⟨0x410016, 1, 1, 0, 15, .dom,
     [⟨3, 0, .wo, fun _ => 0, .any⟩]⟩,
   -- WFL_RSPCTL (R402)
   ⟨0x410017, 1, 1, 0, 15, .dom,
     [⟨15, 14, .wo, fun _ => 0, .any⟩, ⟨10, 0, .wo, fun _ => 0, .any⟩]⟩,
   -- WFL_NONCE (R402)
   ⟨0x410018, 2, 1, 0, 15, .dom,
     [⟨31, 0, .rw, fun _ => 0, .any⟩]⟩,
   -- WFL_HDRERRCNT (R402)
   ⟨0x410020, 1, 1, 0, 15, .dom,
     [⟨15, 0, .w1c, fun _ => 0, .any⟩]⟩,
   -- WFL_NAKCNT (R402)
   ⟨0x410021, 1, 1, 0, 15, .dom,
     [⟨15, 0, .w1c, fun _ => 0, .any⟩]⟩]

/-- Registers of window WFL, part 2. -/
def regsWFL1 : List Reg :=
  [
   -- WFL_CRCERRCNT (R402)
   ⟨0x410022, 1, 1, 0, 15, .dom,
     [⟨15, 0, .w1c, fun _ => 0, .any⟩]⟩,
   -- WFL_REPEATCNT (R402)
   ⟨0x410023, 1, 1, 0, 15, .dom,
     [⟨15, 0, .w1c, fun _ => 0, .any⟩]⟩,
   -- WFL_ABANDONCNT (R402)
   ⟨0x410024, 1, 1, 0, 15, .dom,
     [⟨15, 0, .w1c, fun _ => 0, .any⟩]⟩,
   -- WFL_RSPDROPCNT (R402)
   ⟨0x410025, 1, 1, 0, 15, .dom,
     [⟨15, 0, .w1c, fun _ => 0, .any⟩]⟩]

/-- All registers of window WFL. -/
def regsWFL : List Reg := commonRegs 16 ++ regsWFL0 ++ regsWFL1

/-- Registers of window SYS. -/
def regsSYS0 : List Reg :=
  [
   -- SYS_PART (R429)
   ⟨0x411002, 1, 1, 0, 16, .por,
     [⟨15, 0, .ro, fun _ => 0x9616, .any⟩]⟩,
   -- SYS_STEP (R429)
   ⟨0x411003, 1, 1, 0, 16, .por,
     [⟨7, 0, .ro, fun _ => 0x42, .any⟩]⟩,
   -- SYS_RESETCAUSE (R429)
   ⟨0x411004, 1, 1, 0, 16, .por,
     [⟨3, 0, .ro, fun _ => 1, .any⟩]⟩,
   -- SYS_BOOTCNT (R429)
   ⟨0x411005, 1, 1, 0, 16, .por,
     [⟨11, 8, .rw, fun _ => 3, .rng 2 7⟩, ⟨7, 7, .ro, fun _ => 0, .any⟩, ⟨3, 0, .rw, fun _ => 0, .any⟩]⟩,
   -- SYS_STARTREASON (R429)
   ⟨0x411006, 1, 1, 0, 16, .por,
     [⟨15, 0, .rw, fun _ => 0, .rng 0 11⟩]⟩,
   -- SYS_MWADDR (R429)
   ⟨0x411010, 2, 1, 0, 16, .por,
     [⟨23, 0, .rw, fun _ => 0x200000, .rng 2097152 4194303⟩]⟩,
   -- SYS_MWDATA (R429)
   ⟨0x411012, 1, 1, 0, 16, .por,
     [⟨15, 0, .wo, fun _ => 0, .any⟩]⟩,
   -- SYS_MWSTAT (R429)
   ⟨0x411013, 1, 1, 0, 16, .por,
     [⟨15, 15, .ro, fun _ => 0, .any⟩, ⟨14, 14, .w1c, fun _ => 0, .any⟩]⟩,
   -- SYS_E0LDADDR (R429)
   ⟨0x411018, 1, 1, 0, 16, .por,
     [⟨14, 0, .rw, fun _ => 0, .rng 0 20479⟩]⟩,
   -- SYS_E0LDDATA (R429)
   ⟨0x411019, 1, 1, 0, 16, .por,
     [⟨15, 0, .wo, fun _ => 0, .any⟩]⟩]

/-- All registers of window SYS. -/
def regsSYS : List Reg := commonRegs 17 ++ regsSYS0

/-- Registers of window ENG, part 1. -/
def regsENG0 : List Reg :=
  [
   -- ENG_RETIRED (R90)
   ⟨0x412002, 1, 1, 0, 16, .por,
     [⟨7, 0, .ro, fun _ => 0, .any⟩]⟩,
   -- ENG_RETSET (R90)
   ⟨0x412003, 1, 1, 0, 16, .por,
     [⟨7, 0, .wo, fun _ => 0, .any⟩]⟩,
   -- ENG_REINT (R90)
   ⟨0x412004, 1, 1, 0, 16, .por,
     [⟨15, 8, .wo, fun _ => 0, .any⟩, ⟨2, 0, .wo, fun _ => 0, .any⟩]⟩,
   -- ENG_TEST (R90)
   ⟨0x412005, 1, 1, 0, 16, .por,
     [⟨15, 15, .ro, fun _ => 0, .any⟩, ⟨3, 3, .wo, fun _ => 0, .any⟩, ⟨2, 0, .rw, fun _ => 0, .any⟩]⟩,
   -- ENG_DBGSEL (R90)
   ⟨0x412006, 1, 1, 0, 16, .por,
     [⟨2, 0, .rw, fun _ => 0, .any⟩]⟩,
   -- ENG_LDCTL (R90)
   ⟨0x412008, 1, 1, 0, 16, .por,
     [⟨15, 15, .wo, fun _ => 0, .any⟩, ⟨4, 4, .rw, fun _ => 0, .any⟩, ⟨2, 0, .rw, fun _ => 1, .rng 1 7⟩]⟩,
   -- ENG_LDADDR (R90)
   ⟨0x412009, 1, 1, 0, 16, .por,
     [⟨14, 0, .rw, fun _ => 0, .any⟩]⟩,
   -- ENG_LDDATA (R90)
   ⟨0x41200A, 1, 1, 0, 16, .por,
     [⟨15, 0, .wo, fun _ => 0, .any⟩]⟩,
   -- ENG_STATn (R90)
   ⟨0x412010, 1, 8, 1, 16, .por,
     [⟨15, 13, .ro, fun _ => 0, .any⟩, ⟨12, 11, .ro, fun _ => 0, .any⟩, ⟨10, 10, .ro, fun _ => 0, .any⟩, ⟨9, 9, .ro, fun _ => 0, .any⟩, ⟨8, 8, .ro, fun _ => 0, .any⟩, ⟨7, 0, .ro, fun _ => 0, .any⟩]⟩,
   -- ENG_MISCNT (R90)
   ⟨0x412020, 1, 1, 0, 16, .por,
     [⟨15, 0, .w1c, fun _ => 0, .any⟩]⟩,
   -- ENG_SPLITCNT (R90)
   ⟨0x412021, 1, 1, 0, 16, .por,
     [⟨15, 0, .w1c, fun _ => 0, .any⟩]⟩,
   -- ENG_UNRESCNT (R90)
   ⟨0x412022, 1, 1, 0, 16, .por,
     [⟨15, 0, .w1c, fun _ => 0, .any⟩]⟩]

/-- Registers of window ENG, part 2. -/
def regsENG1 : List Reg :=
  [
   -- ENG_ECCCNT (R90)
   ⟨0x412023, 1, 1, 0, 16, .por,
     [⟨15, 0, .w1c, fun _ => 0, .any⟩]⟩,
   -- ENG_FLAGIN (R270)
   ⟨0x412030, 1, 1, 0, 16, .por,
     [⟨7, 0, .w1c, fun _ => 0, .any⟩]⟩,
   -- ENG_SVCIN (R270)
   ⟨0x412031, 1, 1, 0, 16, .por,
     [⟨15, 0, .w1c, fun _ => 0, .any⟩]⟩]

/-- All registers of window ENG. -/
def regsENG : List Reg := commonRegs 18 ++ regsENG0 ++ regsENG1

/-- Registers of window JNL. -/
def regsJNL0 : List Reg :=
  [
   -- JNL_CTRL (R385)
   ⟨0x413002, 1, 1, 0, 9, .dom,
     [⟨0, 0, .wo, fun _ => 0, .any⟩]⟩,
   -- JNL_STAT (R385)
   ⟨0x413003, 1, 1, 0, 9, .dom,
     [⟨15, 15, .ro, fun _ => 0, .any⟩, ⟨14, 14, .ro, fun _ => 0, .any⟩, ⟨13, 13, .ro, fun _ => 0, .any⟩, ⟨2, 0, .ro, fun _ => 0, .any⟩]⟩,
   -- JNL_HEAD (R385)
   ⟨0x413004, 2, 1, 0, 9, .dom,
     [⟨31, 0, .ro, fun _ => 0, .any⟩]⟩,
   -- JNL_DURABLE (R385)
   ⟨0x413006, 2, 1, 0, 9, .dom,
     [⟨31, 0, .ro, fun _ => 0, .any⟩]⟩,
   -- JNL_STAGEw (R385)
   ⟨0x413016, 1, 10, 1, 9, .dom,
     [⟨15, 0, .rw, fun _ => 0, .any⟩]⟩]

/-- All registers of window JNL. -/
def regsJNL : List Reg := commonRegs 19 ++ regsJNL0

/-- The register map of a window by its number (R24). -/
def windowRegs (w : Nat) : List Reg :=
  match w with
  | 0 => regsSEQ
  | 1 => regsPWR
  | 2 => regsCLK
  | 3 => regsRING
  | 4 => regsCBL
  | 5 => regsCAD
  | 6 => regsRFA
  | 7 => regsRFB
  | 8 => regsRXE
  | 9 => regsMOD
  | 10 => regsLNK
  | 11 => regsMSH
  | 12 => regsVLT
  | 13 => regsGAU
  | 14 => regsPER
  | 15 => regsPAN
  | 16 => regsWFL
  | 17 => regsSYS
  | 18 => regsENG
  | 19 => regsJNL
  | _ => []

/-- Window number of a word address, if it lies in a window (R24). -/
def windowOf (a : Nat) : Option Nat :=
  if 0x400000 ≤ a ∧ a < 0x414000 then some ((a - 0x400000) / 0x1000) else none

/-- Index of the copy of `r` that holds word `a`, and the word's place in it. -/
def Reg.locate (r : Reg) (a : Nat) : Option (Nat × Nat) :=
  if a < r.base then none
  else
    let k := if r.count ≤ 1 then 0 else (a - r.base) / r.stride
    let w := a - r.base - k * r.stride
    if k < r.count ∧ w < r.words then some (k, w) else none

/-- The register of the map that holds word `a`, its index and the word's place (none: unmapped). -/
def findReg (a : Nat) : Option (Reg × Nat × Nat) :=
  match windowOf a with
  | none => none
  | some w => (windowRegs w).findSome? fun r => (r.locate a).map fun p => (r, p.1, p.2)

/-- Value a whole register takes at its reset. -/
def Reg.reset (r : Reg) (k : Nat) : Nat := r.fields.foldl (fun v f => v + (f.rst k) * 2 ^ f.lo) 0

/-- Reset value of one register word. -/
def regDefault (a : Nat) : W16 :=
  match findReg a with
  | none => 0
  | some (r, k, w) => BitVec.ofNat 16 (r.reset k / 2 ^ (16 * w))

end Sys2Proof.Machine
end

