-- ==== Sys2Proof/Machine/State.lean ====
section
/-!
DEFINITION. The state of the part as plain data: the register words of all twenty windows in one list, and the
state that no register shows (memories, engines, queues, tables). One home for each piece: a register that shows a
counter or a list held here is read from here (Machine/Bus.lean).
-/
namespace Sys2Proof.Machine

/-- No command of the table stops the machine: every step and event of the spec has an effect or none. The one
constructor is raised by no meaning (safe). -/
inductive Fault where
  /-- Raised by nobody: kept so that the type has a member. Safe. -/
  | unused
deriving DecidableEq, Repr

/-- Why a command has no meaning. -/
inductive Refusal where
  /-- Raised by Machine/Dispatch.lean for a row whose meaning is not written. Safe. -/
  | notModelled (mnemonic : String)
deriving DecidableEq, Repr

/-- A result in flight of an engine (R97): what lands, when its latency class has run out. -/
inductive Landing where
  | g (r : BitVec 5) (v : W16)
  | a (r : BitVec 3) (v : Addr)
  | c (r : BitVec 4) (v : W16)
  /-- Flags written (mask, value) and sticky flags ORed (R98). -/
  | flags (mask value sticky : W16)
  /-- A faulting load (R112): cause, code and faulting word address of its data trap. -/
  | trap (cause : BitVec 4) (code : BitVec 8) (addr : Addr)
  /-- INTRAP clears, the cycle after RETT (R115). -/
  | endTrap
deriving DecidableEq, Repr

/-- One result in flight: the engine cycles left until it is visible, and the result. -/
structure Flight where
  left : Nat
  land : Landing
deriving DecidableEq, Repr

/-- One set of the registers Spoke code sees (R91, R92), with its sequencing state. E0 has two (R66, R93). -/
structure Bank where
  g : Vector W16 32
  a : Vector Addr 8
  acc : Vector (BitVec 40) 4
  c : Vector W16 16
  /-- Syllable address of the next bundle. -/
  pc : BitVec 16
  /-- Target of a taken branch whose delay bundle is next (R108). -/
  target : Option (BitVec 16)
  /-- Engine cycles since the task's first bundle (c9, c10). -/
  cyc : BitVec 32
  flight : List Flight
  /-- Cycles left until the next bundle issues, its own included, after a trap or RETT (R114, R115). -/
  hold : Nat
  /-- TEND has issued and accesses before it are still to complete (R110). -/
  ending : Bool
deriving DecidableEq, Repr

/-- An entry of a commit buffer (R75). -/
inductive BufEntry where
  | store (addr : Addr) (data : W16)
  | post (ring : BitVec 6) (n : Nat)
  | fetch (ring : BitVec 6) (n : Nat)
deriving DecidableEq, Repr

/-- What a commit buffer is doing (R78, R82). -/
inductive BufState where
  | free
  | filling
  /-- The run of a tandem pair has ended on this engine and waits for the comparison (R78). -/
  | ended
  | held
  | draining
deriving DecidableEq, Repr

/-- What an engine's task is (R64, R73, R78, R451). -/
structure Task where
  task : Octet
  lap : Nat
  index : Nat
  rwin : Octet
  /-- A guarded task or a third run: effects are buffered (R75). -/
  buffered : Bool
  /-- The other engine of the tandem pair. -/
  mate : Option (Fin 8)
  primary : Bool
  /-- The pair agrees cycle by cycle so far (R73, R74). -/
  lockstep : Bool
  /-- Bundle addresses and requests of the cycles in which this engine is ahead of its mate (R74). -/
  trace : List Nat
  /-- The third run of reserve window RWIN (R54). -/
  third : Bool
  /-- Loads of the primary that its partner has yet to take, each with address, data and whether it was an error, and how
  many the partner has taken ahead of it (R73). -/
  given : List (Nat × W16 × Bool)
  ahead : Nat
  /-- Which commit buffer the task fills: 0 or 1. -/
  buf : Fin 2
deriving DecidableEq, Repr

/-- One of the two commit buffers of an engine (R75), with the result held beside it (R77, R83). -/
structure CommitBuf where
  st : BufState
  ents : List BufEntry
  /-- Digest and entry count formed at TEND; none is the absent result of R78. -/
  result : Option (BitVec 32 × Nat)
  lap : Nat
  index : Nat
  /-- The run of a tandem pair that has ended and is still to be compared. -/
  run : Option Task
deriving DecidableEq, Repr

/-- One engine (R59, R75, R91): its task bank, memories and commit buffers. Its STATE, LOADED, TESTPASS and SPLIT
are in `ENG_STATn`. -/
structure Engine where
  bank : Bank
  imem : Cells
  spad : Cells
  bufs : Vector CommitBuf 2
  task : Option Task
  /-- Halted by BRK (R111). -/
  halted : Bool
  /-- The bundle at the pc has been halted at by BRK and then resumed (R111). -/
  resumed : Bool
  /-- The standing TESTPASS and LOADED have been set since arbitration retired the engine (R89). -/
  passSince : Bool
  loadSince : Bool
deriving DecidableEq, Repr

/-- A bit error standing in a memory (R60, R282): the words concerned. `mem` is 0 for shared SRAM and the grant-pattern
memory, k + 1 and k + 9 for instruction memory and scratchpad of engine k, and 17 for the canary rows, whose `addr` is
bank × 4 + canary. `counted` marks a corrected single error whose write-back is still to come. -/
structure EccErr where
  mem : Nat
  addr : Nat
  double : Bool
  counted : Bool
deriving DecidableEq, Repr

/-- The error lies on a canary of bank b (R283). -/
def EccErr.onCanary (e : EccErr) (b : Nat) : Bool := e.mem == 17 && e.addr / 4 == b

/-- What a waiting access does when it is served. -/
inductive AccessKind where
  | load (r : BitVec 5)
  | store (data : W16)
  /-- A ring operation (R107): Q opcode, register, count. -/
  | ring (op : BitVec 6) (r : BitVec 5) (ring : BitVec 6) (n : Nat)
  | drain
  /-- A register write or read of the initiator itself. -/
  | write (data : W16)
  | read
deriving DecidableEq, Repr

/-- An access that waits for its grant slot or for a domain (R18, R70). -/
structure Access where
  who : Initiator
  port : Nat
  addr : Nat
  kind : AccessKind
  /-- Domain waited for; none for a grant slot. -/
  dom : Option Nat
  bank : Nat
deriving DecidableEq, Repr

/-- An event in the cable matrix on its way to a consumer (R265 to R270). -/
structure Event where
  cable : Nat
  cons : Nat
  hop : Nat
  /-- The consumer's cycle in which it arrives, counted as log entry 103 says. -/
  arrive : Nat × Nat
deriving DecidableEq, Repr

/-- The action of a route-sheet entry on its way to an entry-bound consumer (R263, R268). -/
structure EntryAct where
  cons : Nat
  lap : Nat
  index : Nat
  /-- The entry's eight words. -/
  words : List W16
  instant : Nat
  asn : Nat
  /-- Engines of choices that were judged not serviceable for this dispatch (R57, R63). -/
  passed : List (Fin 8)
deriving DecidableEq, Repr

/-- A fetched entry that waits for its instant (R41). -/
structure Fetched where
  lap : Nat
  index : Nat
  asn : Nat
  instant : Nat
  words : List W16
deriving DecidableEq, Repr

/-- A deadline monitor (R52). -/
structure Monitor where
  lap : Nat
  index : Nat
  asn : Nat
  instant : Nat
  deadline : Nat
  kind : Nat
  task : Nat
  /-- What completes it, by kind: engine, domain, gear or channel. -/
  subject : Nat
  overrun : Bool
deriving DecidableEq, Repr

/-- A MISMATCH whose third run is to come (R54, R83). -/
structure Mismatch where
  rwin : Nat
  task : Nat
  entry : Nat
  primary : Fin 8
  partner : Fin 8
  pbuf : Fin 2
  qbuf : Fin 2
  lap : Nat
  index : Nat
deriving DecidableEq, Repr

/-- A reserve window (R54). -/
structure Window where
  rwin : Nat
  lap : Nat
  index : Nat
  engine : Fin 8
  gear : Nat
  stop : Nat
  active : Bool
  /-- Domain state and gear in force when the window became active, and the tick of that. -/
  domWas : Nat
  gearWas : Nat
  since : Nat
  /-- The third run in progress. -/
  run : Option Mismatch
deriving DecidableEq, Repr

/-- An entry deferred by active reserve windows (R54). -/
structure Deferred where
  entry : Fetched
  windows : List Nat
  /-- Highest GEAR of the windows that deferred it, and the gear when the first of them became active. -/
  top : Nat
  was : Nat
deriving DecidableEq, Repr

/-- The sequencer's state beyond its registers (R33 to R58). -/
structure Seq where
  table : Cells
  /-- Per lap: the next entry's place in the lap, and the lap occurrence it belongs to. -/
  cursor : Vector (Nat × Nat) 8
  fetched : List Fetched
  /-- The tick of the last firing and how many entries fired on it (R41). -/
  lastTick : Nat
  lastCount : Nat
  /-- Levers that entries set on that tick (R266). -/
  levers : List Nat
  monitors : List Monitor
  log : List (List W16)
  mismatches : List Mismatch
  windows : List Window
  deferred : List Deferred
  /-- A placement to take effect at the next slot boundary (R56, R58). -/
  placeNext : Option Nat
  /-- DEGRADED as it will stand from the next slot boundary (R58). -/
  degradedNext : Option Bool
  /-- Retired engines whose domains go off at the next slot boundary (R85). -/
  offNext : List (Fin 8)
  /-- The START_CONFIRMED action has run since the start (R46). -/
  confirmedOnce : Bool
deriving DecidableEq, Repr

/-- One pending or running domain transition (R276, R50). -/
structure Transition where
  dom : Nat
  /-- 0 off, 1 retention, 2 on. -/
  target : Nat
  /-- Banks to which the target applies, PD8 only. -/
  banks : BitVec 32
  demand : Bool
  /-- Where the transition came from, for class 6 and 8 records (R53): lap and index of a DOMAIN entry. -/
  entry : Option (Nat × Nat)
deriving DecidableEq, Repr

/-- The phase of the transition in progress (`PWR_XSTAT.PHASE`). -/
inductive XPhase where
  | wake (step : Nat)
  | prepare
  | commit
deriving DecidableEq, Repr

/-- The power controller beyond its registers (R274 to R291). -/
structure Pwr where
  queue : List Transition
  current : Option (Transition × XPhase)
  /-- The second half of an off-to-retention move (R50). -/
  thenRetain : Bool
  /-- A wake latched during COMMIT of the current entry (R281): `some true` where it came in the commit window, so that it
  wakes the domain only as a level request that is still asserted at the end. -/
  latched : Option Bool
  /-- Banks waking or sealed in this transition: those that came from retention, from off, or leave on. -/
  moving : List (Nat × Nat)
  /-- Four canary words of each bank (R283), by bank × 4 + i, and the stamp of each bank kept in AON. -/
  canary : Cells
  stamp : Vector W16 32
  /-- Level of each wake pin, for edges (R275). -/
  pins : BitVec 4
  /-- State of the domain in transition before it: 0 off, 1 retention, 2 on. -/
  was : Nat
  /-- The step in progress goes to the higher gear (R289). -/
  stepUp : Bool
deriving DecidableEq, Repr

/-- The clock controller beyond its registers (R292 to R298). -/
structure Clk where
  mRun : Bool
  kRun : Bool
  rcRun : Bool
  pllRun : Bool
  /-- Consecutive good windows of XO32M and XO32K. -/
  mGood : Nat
  kGood : Nat
  /-- The source whose failure a fallback replaces. -/
  failed : Option ClkSource
  /-- GEAR entries wait for relock (R290). -/
  pllWait : Bool
deriving DecidableEq, Repr

/-- A hardware producer that waits for a ring's reservation (R252): with a record to post through its port, or a lane
with a frame in reception. -/
inductive RingWait where
  | record (port : Nat) (words : List W16)
  | lane (k : Fin 10)
deriving DecidableEq, Repr

/-- Reservation and completion state of one ring (R248 to R255). CI and the rest are held by the controller. -/
structure Ring where
  pi : W16
  ci : W16
  cqw : W16
  cqr : W16
  /-- Places outstanding on a request ring, in order of post, with: fetched by the block; past the commit point. -/
  out : List (Nat × Bool × Bool)
  /-- Of those, the places that an engine's present task has posted itself, each with the engine (R53 class 2). -/
  owner : List (Nat × Fin 8)
  /-- Completed places whose records are unread, in record order; and places freed out of order. -/
  recs : List Nat
  freed : List Nat
  /-- The port that holds the reservation, and the producers that wait for it, in request order. -/
  holder : Option Nat
  waiting : List RingWait
deriving DecidableEq, Repr

/-- The cable matrix and levers (R265 to R270). -/
structure Cables where
  /-- GATED and LEVER of each cable (`CBL_LVDATA`). -/
  gate : Cells
  flight : List Event
  acts : List EntryAct
deriving DecidableEq, Repr

/-- A capture/compare channel beyond its registers (R302 to R311). -/
structure CcChan where
  /-- PER the pending target was formed with (R304). -/
  formed : Nat
  /-- The pending target had passed when it was formed: the channel fires again at once and rebases (R304). -/
  rebase : Bool
  /-- Rising edge held in mode 11b. -/
  heldRise : Option Nat
  /-- Shadow of RISE, FALL and WIDTH after a latching read (R308). -/
  shadow : Option (Nat × Nat × Nat)
  hop : Nat
deriving DecidableEq, Repr

/-- The cadence block beyond its registers. -/
structure Cad where
  cc : Vector CcChan 8
  snapShadow : Option Nat
  ppsHigh : Bool
  ppsHop : Nat
  posted : W16
deriving DecidableEq, Repr

/-- A conversion in progress (R313 to R321). -/
structure Conversion where
  start : Nat
  trig : Nat
  coalesced : Bool
  hop : Nat
  /-- The settings it runs with: `GAU_SDn_CFG`, or the SAR sequence mask. -/
  cfg : W16
  /-- Place of the ring 45 request that started it. -/
  request : Option Nat
deriving DecidableEq, Repr

/-- The gauge beyond its registers (R313 to R323). -/
structure Gau where
  conv : Vector (Option Conversion) 3
  /-- Whether the previous result of SD0, SD1 and the watched SAR channel lay inside its limits. -/
  inside : Vector Bool 3
  dacOut : Vector W16 2
  /-- A load that has not settled: places of the requests that made it, and the hop count. -/
  dacBusy : Vector (Option (List Nat × Nat)) 2
  posted : W16
  /-- Period and duty the PWM outputs run with. -/
  pwm : Vector (Nat × Nat) 4
deriving DecidableEq, Repr

/-- A serial unit beyond its registers (R326 to R329). -/
structure Serial where
  tx : List W16
  rx : List W16
  hop : Nat
  /-- A receive error that shows in CODE at the next octet (R329). -/
  rxErr : Bool
deriving DecidableEq, Repr

/-- What kind of operation an RF chain runs (R118, R193). -/
inductive OpKind where
  | txDedicated
  | txShared
  | receive
  | scan
  | txControl
  | rxControl
  | ack
deriving DecidableEq, Repr

/-- What MOD_FSKPRE, MOD_SPRINT and MOD_OFDM hold at a settle start: a transmission keeps these values (R145, R147,
R160). -/
structure ModHold where
  pre : Nat
  whiten : Bool
  sfd : Bool
  seed : Nat
  scr : Nat
  intlv : Bool
deriving DecidableEq, Repr

/-- An RF operation of a chain, from the RADIO entry to its end (R118 to R123, R193). -/
structure RfOp where
  kind : OpKind
  lap : Nat
  index : Nat
  /-- The RADIO entry's instant A, in network-time units. -/
  a : Nat
  /-- C or R, in network-time units. -/
  instant : Nat
  /-- The instant of the settle start. -/
  settle : Nat
  /-- The listening end of a receive or scan operation. -/
  stop : Nat
  /-- Channel number and hop entry (R192). -/
  ch : Nat
  hop : Nat
  nbr : Nat
  lanes : BitVec 10
  txClass : Nat
  /-- Ring and place of the descriptor, for a transmission; ring 0 stands for relay class 0, place for its slot. -/
  desc : Option (Nat × Nat)
  /-- The attempt has read its descriptor and frame; and the frame still waits for a bank, a counter or PD14 (R18, R30,
  R211). -/
  read : Bool
  sealWait : Bool
  /-- Frequency in 62.5 Hz units and power code, fixed at the settle start, and whether VPA clipped it (R131). -/
  freq : Nat
  pwr : Nat
  clipped : Bool
  /-- The modulator's registers as the settle start found them. -/
  held : ModHold
  /-- The C - 4 µs check passed, with its instant (R121, R139). -/
  granted : Option Nat
  /-- CCA listening is to come or runs (R201). -/
  cca : Bool
  emitted : Bool
  /-- The acknowledgement or CCA listening of this operation is over or its end has passed. -/
  listened : Bool
  ackWanted : Bool
  /-- A preamble was detected while an acknowledgement was awaited (R203, R224). -/
  heard : Bool
  /-- A hit on the cell's neighbour (R224). -/
  hit : Bool
deriving DecidableEq, Repr

/-- A chain's side of the coexistence wires (R137, R138). -/
structure Coex where
  req : Bool
  pri : Bool
  /-- What COEX_REQ is asserted for: instant A of each operation, and whether it is its acknowledgement. -/
  owners : List (Nat × Bool)
deriving DecidableEq, Repr

/-- One RF chain beyond its registers. -/
structure Rf where
  /-- Cells taken whose settle start is still to come. -/
  next : List RfOp
  op : Option RfOp
  /-- A later operation that waits for a calibration or search to end (R122). -/
  waiting : Option RfOp
  /-- AON store of CALVALID, CALTEMP and, on chain A, the four tuner profiles (R126). -/
  store : Cells
  /-- End of the open calibration gap, in network-time units. -/
  gap : Option Nat
  /-- Start of the tuner search in progress. -/
  searchAt : Nat
  coex : Coex
  /-- Reduction of the transmission in progress: 0 none, 1 6 dB, 2 12 dB (R133). -/
  backed : Nat
  /-- The other chain's lanes are blanked by this chain's transmission (R139). -/
  blanks : Bool
deriving DecidableEq, Repr

/-- The frame a lane is receiving (R177 to R189). -/
structure LaneFrame where
  /-- 2 SYNC, 3 HEADER, 4 PAYLOAD, inside MODESW too. -/
  sub : Nat
  /-- P_cur in half dB. -/
  power : Int
  mode : Octet
  /-- Its SFD was the coded one (R141). -/
  coded : Bool
  /-- RMARKER in fractions, from the sync event (R185). -/
  time : Nat
  length : Nat
  fcs4 : Bool
  /-- Index of the reserved place on the lane's ring (R187). -/
  place : Option Nat
  unplaced : Bool
  /-- It waits for the reservation of its ring (R252). -/
  waitsPlace : Bool
  modeSwitch : Bool
  /-- From the PHR: data whitening (R145), the scrambler's seed or seed index (R147, R160), interleaving (R147). -/
  whiten : Bool
  seed : Nat
  interleaved : Bool
deriving DecidableEq, Repr

/-- What a lane without a frame came from, as far as a candidate of the same cycle asks (R183). -/
inductive LanePast where
  | none
  /-- A header check that failed. -/
  | failed
  /-- A frame that ended. -/
  | ended
deriving DecidableEq, Repr

/-- A lane beyond its registers. -/
structure Lane where
  frame : Option LaneFrame
  past : LanePast
  /-- MODE, OFS and w the lane was admitted with (R174), and the mode-switch target. -/
  mode : Octet
  ofs : Int
  width : Nat
  /-- CAP, SLOTW and BUF as the settle start found them (R174). -/
  cap : W16
  slotw : Nat
  buf : Nat
  target : Option Octet
  /-- EN was written 01b while it reads 10b (R191). -/
  again : Bool
  /-- Completions posted since DOM reset: the next TAG (R190). -/
  tag : W16
deriving DecidableEq, Repr

/-- A frame handed to the link controller, judged through step 8 (R208). -/
structure Judged where
  lane : Fin 10
  chain : Chain
  frame : LaneFrame
  /-- The PSDU without its FCS. -/
  octets : List Octet
  psduLen : Nat
  rssi : Int
  lqi : Nat
  fofs : Int
  ch : Nat
  nbr : Nat
  /-- Key map entry of a secured frame. -/
  key : Nat
  /-- End of the last symbol, and the fields ahead of the RMARKER, in fractions. -/
  ended : Nat
  dpre : Nat
  ofsZero : Bool
  /-- Instant A and kind of the cell it came in, and the cell's NBR. -/
  a : Nat
  kind : OpKind
  cellNbr : Nat
deriving DecidableEq, Repr

/-- An acknowledgement called for and pending on a chain (R204 to R206). -/
structure AckOut where
  dsn : Octet
  version : Nat
  sec : Bool
  level : Nat
  kim : Nat
  key : Nat
  fcs4 : Bool
  corr : Int
  mode : Octet
  ch : Nat
  /-- Its first symbol, in network-time units. -/
  instant : Nat
  /-- Ring and place index of the completion whose ACKSENT it sets. -/
  place : Option (Nat × Nat)
deriving DecidableEq, Repr

/-- One subcarrier's value: (re + j × im) / √norm (R163). -/
structure Tone where
  re : Int
  im : Int
  norm : Nat
deriving DecidableEq, Repr

/-- One time-domain sample of R155, exactly: the sum of unit(i) × ζ^i and of √(num / den) × data(i) × ζ^i over i = 0
to 31, where ζ = exp(j × 2 × π / 64). -/
structure Sample where
  unit : List Int
  data : List Int
  num : Nat
  den : Nat
deriving DecidableEq, Repr

/-- The PHR of a SUN FSK or SUN OFDM frame as it is sent (R145, R147, R151). -/
inductive Phr where
  /-- FCS type, data whitening and length. -/
  | fsk (fcs4 whiten : Bool) (length : Nat)
  /-- Mode switch: parameter entry and New Mode. -/
  | fskSwitch (entry : Nat) (target : Octet)
  /-- RATE, length, FCS type, scrambler seed index and interleaving. -/
  | ofdm (rate length : Nat) (fcs4 : Bool) (seed : Nat) (interleaved : Bool)
deriving DecidableEq, Repr

/-- A transmission that is on the air or was last on it: what leaves the antenna port. -/
structure Emission where
  chain : Chain
  mode : Octet
  ch : Nat
  /-- Frequency in 62.5 Hz units. -/
  freq : Nat
  /-- Power as a code of R130; the carrier of a tuner search, -20 dBm, is code -8. -/
  power : Int
  /-- Network time of the operation's first symbol, and how long after it this PPDU starts, in 1/768 µs. -/
  instant : Nat
  lead : Nat
  held : ModHold
  /-- From here on, in 1/768 µs after `instant`, an unmodulated carrier follows (R135, R151). -/
  carrier : Option Nat
  phr : Option Phr
  /-- Octets ahead of the PSDU where the spec gives them: O-QPSK's preamble, SFD and PHR (R150). -/
  head : List Octet
  /-- The PSDU with its FCS; empty for a mode-switch PPDU and for the carrier of a tuner search. -/
  octets : List Octet
  /-- The PSDU as the modulator sends it: whitened where the PHR says so (R145). -/
  sent : List Octet
  /-- O-QPSK: the chips of the whole PPDU (R150). -/
  chips : List Bool
  /-- Sprint OFDM: tones of each symbol, header first (R157 to R164); the option 4 extension: of its PSDU's (R148). -/
  points : List (List Tone)
  /-- Sprint OFDM: samples of the whole frame, STF first (R154 to R156). -/
  samples : List Sample
deriving DecidableEq, Repr

/-- Link controller and modulator beyond their registers (R192 to R215). -/
structure Lnk where
  /-- Hop entries, by chain × 128 + entry. -/
  hops : Cells
  be : Vector Nat 16
  bc : Vector Nat 16
  /-- Airtime in 100 µs units by account × 9 + sub-window: accounts are the 256 hop entries, then the chains. -/
  dwell : List (Nat × Nat)
  /-- Index of the current sub-window of each profile 1 to 3. -/
  subwin : Vector Nat 3
  /-- MRAM reservations being made durable (R211). -/
  fcWait : List (Nat × Nat)
  judging : List Judged
  ackOut : Vector (Option AckOut) 2
  /-- Cells that ended while a frame of theirs was being judged: chain, A, neighbour (R224). -/
  missDue : List (Nat × Nat × Nat)
  /-- Cells that have tried a descriptor which is not complete: LAP and INDEX of the RADIO entry, and the descriptor
  (R36, R52). -/
  tries : List (Nat × Nat × (Nat × Nat))
  /-- Secured acknowledgements received that wait for PD14 (R30): chain, instant A of the attempt, frame, PSDU, LQI. -/
  ackLate : List (Chain × Nat × LaneFrame × List Octet × Nat)
  /-- Frames copied with a control frame's ring 0 place, by place (R188). -/
  control : List (Nat × List Octet)
  air : Vector (Option Emission) 2
deriving DecidableEq, Repr

/-- A frame queued for relay (R234 to R238): its slot of the relay pool holds the frame. -/
structure Relay where
  cls : Nat
  nbr : Nat
  origin : W16
  seq : W16
  flood : Bool
  slot : Nat
  /-- Its transmit descriptor (R195). -/
  words : List W16
  /-- Ring and place once its descriptor is on a ring; ring 0 is the class 0 queue; none while it waits. -/
  onRing : Option (Nat × Nat)
  /-- Past its commit point. -/
  committed : Bool
deriving DecidableEq, Repr

/-- A hold that waits for its journal entry (R240), with the HOLD frame to queue after it: octets from the mesh
header on, or the place of the ring 29 descriptor that asked for it. -/
structure HoldWait where
  mask : W16
  dur : W16
  frame : List Octet
  place : Option Nat
deriving DecidableEq, Repr

/-- An entry of the seen cache (R231). -/
structure Seen where
  set : Nat
  way : Nat
  origin : W16
  seq : W16
  dual : Bool
  heard : Nat
  stamp : Octet
deriving DecidableEq, Repr

/-- Mesh functions beyond their registers (R216 to R246). -/
structure Msh where
  /-- Neighbour table words, by entry × 16 + word. -/
  nbr : Cells
  /-- Neighbours whose PROP has been set (R220). -/
  propSet : List Nat
  path : Cells
  seen : List Seen
  relays : List Relay
  /-- Corrections for the tick after their receive operation, oldest first: chain and instant A of the operation,
  fractions to add, and the change of TRIM in ppb. -/
  step : List (Nat × Nat × Int × Int)
  /-- Writes through MSH_NBRDATA that came during a judgement: entry × 16 + word, and the word (R246). -/
  nbrLate : List (Nat × W16)
  /-- The service has stage and role to store, or to restore after a wake of PD11 from off (R228). -/
  storeDue : Bool
  restoreDue : Bool
  /-- RMARKER of the last time frame from any TSRC neighbour, in fractions. -/
  lastFrame : Option Nat
  events : W16
  /-- A hold waiting for its journal entry (R240). -/
  holdWait : Option HoldWait
deriving DecidableEq, Repr

/-- A key slot as PD14 holds it (R333, R336): its record without the sealed form. -/
structure KeySlot where
  slot : Nat
  attr : W16
  gen : BitVec 32
  /-- Nonce reservation N and the next invocation counter (R345). -/
  reserve : Nat
  counter : Nat
  /-- Identity of the key material: equal numbers are equal keys. -/
  key : Nat
deriving DecidableEq, Repr

/-- A vault operation in progress or waiting for a durable write (R338 to R353). -/
structure VltOp where
  op : Nat
  ring : Nat
  place : Nat
  words : List W16
  /-- Past its commit point (R258, R346, R347, R352, R353). -/
  committed : Bool
  /-- Waits for a nonce or LMS reservation to be durable. -/
  waiting : Bool
  /-- LMS leaf of an attestation. -/
  leaf : Nat
  nonce : Nat
  /-- Octets 0 to 175 of an attestation statement. -/
  statement : List Octet
  /-- Input of the service's own request, ring number 64 (log entry 14): octets at SRC, then those at AUX. -/
  own : List Octet
deriving DecidableEq, Repr

/-- The vault beyond its registers (R330 to R357). -/
structure Vlt where
  /-- Slot records in the vault's MRAM area and slots loaded in PD14. -/
  stored : List KeySlot
  slots : List KeySlot
  /-- Stored slot records whose integrity tag no longer verifies (R337). -/
  corrupt : List Nat
  enrolled : Bool
  /-- The PUF read matches the check value (R330); a property of the array and the helper data. -/
  pufGood : Bool
  root : Nat
  lmsq : Nat
  ops : List VltOp
  /-- The service's own requests that no unit has taken, and the status of those done, by OP. -/
  svcWait : List VltOp
  svcDone : List (Nat × Nat)
  /-- Nonce reservations being made durable: slot, new N (R345). -/
  nonceWait : List (Nat × Nat)
  meas0 : BitVec 384
  meas1 : BitVec 256
  dbglock : Bool
  /-- DRBG generate calls since the last reseed; a reseed is due and has not succeeded (R354). -/
  calls : Nat
  reseeding : Bool
  /-- Transmit classes whose backoff draw waits for the random source (R202, R354). -/
  drawWait : List Nat
deriving DecidableEq, Repr

/-- An entry waiting for the journal writer, by source order of R382. -/
structure JnlReq where
  source : Nat
  type : Nat
  status : Nat
  roleOp : W16
  origin : BitVec 32
  detail : BitVec 32
  index : W16
  sub : Octet
  dlen : Octet
  value : W16
deriving DecidableEq, Repr

/-- A dictionary command that has been accepted and waits for its COMMAND entry (R373). -/
structure DictCmd where
  op : Nat
  origin : Origin
  role : Nat
  reqid : BitVec 32
  index : Nat
  sub : Nat
  offset : Nat
  data : List Octet
  seq : BitVec 32
  /-- Key slot of its response's tag; none where the command carried none (R368). -/
  tag : Option Nat
deriving DecidableEq, Repr

/-- A response of the dictionary service (R368). -/
structure Response where
  origin : Origin
  op : Nat
  status : Nat
  reqid : BitVec 32
  jseq : BitVec 32
  abort : BitVec 32
  flags : Octet
  data : List Octet
  tag : Option Nat
deriving DecidableEq, Repr

/-- An EXEC that runs after its acceptance (R373, R376). -/
structure ExecRun where
  cmd : DictCmd
  committed : Bool
deriving DecidableEq, Repr

/-- A persistent or session point's stored value (R361): index, sub, octets and SEQ of the entry that wrote it. -/
structure Setting where
  index : Nat
  sub : Nat
  value : List Octet
  seq : BitVec 32
deriving DecidableEq, Repr

/-- A point that the function table declares (R365, R416). -/
structure Point where
  index : Nat
  sub : Nat
  type : Nat
  readRole : Nat
  writeRole : Nat
  cls : Nat
  func : Nat
  format : Nat
  maxLen : Nat
  target : Nat
  dflt : Nat
deriving DecidableEq, Repr

/-- The dictionary service and the journal writer beyond their registers (R358 to R385). -/
structure Dict where
  settings : List Setting
  session : List Setting
  /-- Persistent points written while their domain was not on, to be applied when it is next ready (R362). -/
  unapplied : List (Nat × Nat)
  points : List Point
  /-- Settings format under which each function's points were written (R427). -/
  formats : List (Nat × Nat)
  /-- Origin table (R375), least recently used first. -/
  origins : List (BitVec 32 × BitVec 32)
  waiting : List DictCmd
  execs : List ExecRun
  /-- Last state of each EXEC point (R359): index, sub, 2 OK or 3 failed. -/
  execLast : List (Nat × Nat × Nat)
  responses : List Response
  jnl : List JnlReq
  /-- The entry accepted and not yet durable: its sixteen words. -/
  writing : Option (List W16 × JnlReq)
deriving DecidableEq, Repr

/-- A Waifeti response slot (R398, R400). -/
structure WflRsp where
  slot : Nat
  len : Nat
deriving DecidableEq, Repr

/-- What the unit answered on WDO in the latest frame (R388, R393). -/
structure WflReply where
  ack : Bool
  /-- END_OK some true, END_BAD some false, nothing driven none. -/
  fin : Option Bool
  back : List Octet
deriving DecidableEq, Repr

/-- The Waifeti Link beyond its registers (R386 to R402). -/
structure Wfl where
  /-- The frame in progress past its ACK: ADDR, TYPE, LEN, FSEQ. -/
  header : Option (Nat × Nat × Nat × Nat)
  /-- Wake source 8 is held: the frame engine has yet to read the latched header (R396). -/
  latched : Bool
  lastCmd : Option (Nat × BitVec 16)
  /-- Receive slot that the frame in progress holds. -/
  slot : Option Nat
  pend : List WflRsp
  posted : W16
  reply : WflReply
  /-- Level at CHAIN_IN. -/
  chainIn : Bool
deriving DecidableEq, Repr

/-- The MRAM write port (R404). -/
structure MwReq where
  port : Nat
  addr : Nat
  data : W16
deriving DecidableEq, Repr

/-- How far a start has come (R90, R406). -/
inductive BootStage where
  /-- No start is in progress. -/
  | done
  /-- PD0 is to be ready. -/
  | power
  /-- The self-test of E0 runs (R90). -/
  | selfTest
  /-- The running image is being verified. -/
  | image
  /-- The commit check of the start's route sheet runs. -/
  | commit
  /-- Kickstand waits for the domains it needs (R411). -/
  | kick
deriving DecidableEq, Repr

/-- Start, staging and activation (R403 to R429). -/
structure Upd where
  /-- Start and update record: boot-attempt count, retirement set, FIRST, REINT0, rollback floor. -/
  boots : Nat
  retSet : BitVec 8
  first : Option (Fin 8)
  reint0 : Bool
  /-- Staging is in the store of chip select 0, whose staging octets are `store`; otherwise it is in MRAM (R417). -/
  inStore : Bool
  store : List Octet
  /-- Body octets received (D010h.04), staging state (D010h.06) and last reason (D010h.07). -/
  received : Nat
  stState : Nat
  reason : Nat
  /-- Reload rows of the running sheet package: LAP, INDEX, ENGINE, WINDOW (R416, R421). -/
  rows : List (Nat × Nat × Nat × Nat)
  ta : Nat
  ts : Nat
  hard : Bool
  section_ : Nat
  /-- Slot s of the switch, and engines reloaded since COPY_DONE. -/
  switchAt : Option Nat
  copied : Bool
  reloaded : BitVec 8
  mwq : List MwReq
  mwBusy : Option MwReq
  /-- The switch is later than TS asked for (R423). -/
  late : Bool
  booting : BootStage
  /-- The route sheet that is being committed is the new one of a switch (R422). -/
  switching : Bool
  /-- Chains that the start has calibrated (R126). -/
  calibrated : List Chain
  /-- The start went on without XO32M after 20 ms (R407). -/
  noXo : Bool
deriving DecidableEq, Repr

/-- The boundary-scan instruction in force (R450, IEEE 1149.1). -/
inductive JtagIr where
  | none
  | bypass
  | samplePreload
  | extest
  | clamp
  | highz
deriving DecidableEq, Repr

/-- Boundary scan and ball levels. Balls of the chain are numbered as log entry 24 says. -/
structure Jtag where
  ir : JtagIr
  /-- The boundary register's update stage. -/
  bsr : BitVec 70
  /-- What SAMPLE captured last. -/
  sampled : BitVec 70
deriving DecidableEq, Repr

/-- The whole part. -/
structure State where
  /-- Commands that wait, first in first out (the row's form). -/
  pending : List Instr
  /-- THE MODEL'S OWN: how many free values have been drawn. -/
  freeCtr : Nat
  /-- Register words of all windows (R24, R25); an unlisted word reads its reset value. -/
  regs : Cells
  /-- Words of multi-word registers held until the highest word is written (R13). -/
  held : Cells
  /-- Network time in fractions, eight to a unit (R186, R299). -/
  nt : BitVec 67
  /-- The network-time counter runs (R300). -/
  ntRun : Bool
  /-- The 48-bit sleep counter (R300). -/
  sleep : BitVec 48
  /-- The pair (sc_a, nt_a) kept in AON (R300); nt_a in fractions. -/
  pair : Option (BitVec 48 × BitVec 67)
  /-- Fabric cycle of the grant pattern, modulo 16 (R68). -/
  phase : BitVec 4
  /-- Banks that a crossbar access has taken in the present fabric cycle (R70). -/
  xbarUsed : List Nat
  /-- Ports that a drain has taken in the present fabric cycle (R79). -/
  drainUsed : List Nat
  /-- The eight engines (R59). -/
  eng : Vector Engine 8
  /-- E0's service bank (R66). -/
  svc : Bank
  /-- E0's service bank runs the service (R66). -/
  svcRun : Bool
  /-- BRK halts (R111). -/
  dbgHalt : Bool
  /-- E0's resident region holds the boot ROM (R88, R406). -/
  romIn : Bool
  /-- Accesses that wait for a grant slot or a domain (R18, R70). -/
  waits : List Access
  /-- Accesses of the blocks behind ports 8 to 11 that came during an entry's COMMIT: domain, port and bank (R19). -/
  portWaits : List (Nat × Nat × Nat)
  /-- Completions that wait for a bank of shared SRAM (R18, R253): ring, place, status. -/
  lateDone : List (Nat × Nat × Nat)
  /-- Octets that a block writes into a bank which is waking (R18): word address, offset in octets, octets. -/
  latePuts : List (Nat × Nat × List Octet)
  /-- Shared SRAM (R22). -/
  sram : Cells
  /-- MRAM (R23). -/
  mram : Cells
  /-- Grant patterns: 64 patterns of 128 words (R69). -/
  patterns : Cells
  /-- Bit errors standing in memories (R60, R282). -/
  ecc : List EccErr
  /-- The sequencer (R33 to R58). -/
  seq : Seq
  /-- The power controller (R274 to R291). -/
  pwr : Pwr
  /-- The clock controller (R292 to R298). -/
  clk : Clk
  /-- The ring controller, ring by ring (R247 to R255). -/
  rings : Vector Ring 64
  /-- The abort request on its way: ring and place (R259). -/
  abortReq : Option (Nat × Nat)
  /-- The cable matrix (R262 to R270). -/
  cbl : Cables
  /-- The cadence block (R299 to R312). -/
  cad : Cad
  /-- The gauge front end (R313 to R323). -/
  gau : Gau
  /-- SPI0, SPI1, I2C0, I2C1, UART0, UART1 (R326 to R329). -/
  ser : Vector Serial 6
  /-- RF chains A and B (R118 to R139). -/
  rf : Vector Rf 2
  /-- The ten receive lanes (R171 to R191). -/
  lane : Vector Lane 10
  /-- The link controller and the modulator (R140 to R215). -/
  lnk : Lnk
  /-- Mesh time and relay (R216 to R246). -/
  msh : Msh
  /-- The vault (R330 to R357). -/
  vlt : Vlt
  /-- The dictionary service and the journal (R358 to R385). -/
  dict : Dict
  /-- The Waifeti Link (R386 to R402). -/
  wfl : Wfl
  /-- Start, staging and activation (R403 to R429). -/
  upd : Upd
  /-- Boundary scan (R450). -/
  jtag : Jtag
  /-- Retired engines in the order of retirement (R86). -/
  retOrder : List (Fin 8)
  /-- Self-test in progress: the engine (R88). -/
  selfTest : Option (Fin 8)
  /-- VIO1 is present (R433). -/
  vio1 : Bool
  /-- VIO2 is present (R433). -/
  vio2 : Bool
  /-- Levels at the 48 GPIO balls from outside (R324). -/
  gpioIn : BitVec 48
  /-- Level at the COEX_GNT ball (R137). -/
  coexGnt : Bool
  /-- Pannier store operations in progress: ring, place, words (R247). -/
  pan : List (Nat × Nat × List W16)
  /-- AON copy of WFL_RXBASE and WFL_RSPBASE while a sheet is committed (R273). -/
  wflStore : Option Cells
  /-- Functions whose EN was written 01b while it reads 10b (R191, R261), by register address. -/
  again : List Nat
  /-- THE MODEL'S OWN: error responses given so far to accesses that no engine sees (R13, R19). -/
  errors : Nat
  /-- THE MODEL'S OWN: the word that the last such read returned. -/
  lastRead : W16
deriving DecidableEq, Repr
/-! ## The machine right after reset -/

/-- A register bank at its DOM reset (log entry 5). -/
def Bank.init : Bank where
  g := Vector.replicate 32 0
  a := Vector.replicate 8 0
  acc := Vector.replicate 4 0
  c := Vector.replicate 16 0
  pc := 0
  target := none
  cyc := 0
  flight := []
  hold := 0
  ending := false

/-- E0's service bank before its first bundle: `MODE.SVC` reads 1 in it (R93). -/
def Bank.service : Bank := { Bank.init with c := Bank.init.c.set 1 4 }

/-- A free commit buffer (R82). -/
def CommitBuf.init : CommitBuf where
  st := .free
  ents := []
  result := none
  lap := 0
  index := 0
  run := none

/-- An engine whose domain has been off (R271, R272). -/
def Engine.init : Engine where
  bank := Bank.init
  imem := []
  spad := []
  bufs := Vector.replicate 2 CommitBuf.init
  task := none
  halted := false
  resumed := false
  passSince := false
  loadSince := false

/-- The sequencer with an empty table. -/
def Seq.init : Seq where
  table := []
  cursor := Vector.replicate 8 (0, 0)
  fetched := []
  lastTick := 0
  lastCount := 0
  levers := []
  monitors := []
  log := []
  mismatches := []
  windows := []
  deferred := []
  placeNext := none
  degradedNext := none
  offNext := []
  confirmedOnce := false

/-- The start set of R406, in its order. -/
def startSet : List Transition :=
  [⟨0, 2, 0, false, none⟩, ⟨8, 2, 0xF, false, none⟩, ⟨9, 2, 0, false, none⟩, ⟨15, 2, 0, false, none⟩,
   ⟨14, 2, 0, false, none⟩]

/-- The power controller with an empty queue. -/
def Pwr.init : Pwr where
  queue := []
  current := none
  thenRetain := false
  latched := none
  moving := []
  canary := []
  stamp := Vector.replicate 32 0
  pins := 0
  was := 0
  stepUp := false

/-- The oscillators as they start (R406's table): XO32M, XO32K and the 16 MHz RC run, none qualified. -/
def Clk.init : Clk where
  mRun := true
  kRun := true
  rcRun := true
  pllRun := false
  mGood := 0
  kGood := 0
  failed := none
  pllWait := false

/-- A ring at DOM reset. -/
def Ring.init : Ring where
  pi := 0
  ci := 0
  cqw := 0
  cqr := 0
  out := []
  owner := []
  recs := []
  freed := []
  holder := none
  waiting := []

/-- No event on its way, no cable gated. -/
def Cables.init : Cables where
  gate := []
  flight := []
  acts := []

/-- A capture/compare channel at DOM reset. -/
def CcChan.init : CcChan where
  formed := 0
  rebase := false
  heldRise := none
  shadow := none
  hop := 0

/-- The cadence block at DOM reset. -/
def Cad.init : Cad where
  cc := Vector.replicate 8 CcChan.init
  snapShadow := none
  ppsHigh := false
  ppsHop := 0
  posted := 0

/-- The gauge at DOM reset. -/
def Gau.init : Gau where
  conv := Vector.replicate 3 none
  inside := Vector.replicate 3 true
  dacOut := Vector.replicate 2 0
  dacBusy := Vector.replicate 2 none
  posted := 0
  pwm := Vector.replicate 4 (2, 0)

/-- A serial unit at DOM reset. -/
def Serial.init : Serial where
  tx := []
  rx := []
  hop := 0
  rxErr := false

/-- An RF chain at DOM reset with an empty store. -/
def Rf.init : Rf where
  next := []
  op := none
  waiting := none
  store := []
  gap := none
  searchAt := 0
  coex := ⟨false, false, []⟩
  backed := 0
  blanks := false

/-- A lane at DOM reset. -/
def Lane.init : Lane where
  frame := none
  past := .none
  mode := 0
  ofs := 0
  width := 0
  cap := 0
  slotw := 0
  buf := 0
  target := none
  again := false
  tag := 0

/-- The link controller at DOM reset: BE is MINBE, 1 (R202). -/
def Lnk.init : Lnk where
  hops := []
  be := Vector.replicate 16 1
  bc := Vector.replicate 16 0
  dwell := []
  subwin := Vector.replicate 3 0
  fcWait := []
  judging := []
  ackOut := Vector.replicate 2 none
  ackLate := []
  missDue := []
  tries := []
  control := []
  air := Vector.replicate 2 none

/-- The mesh functions at DOM reset. -/
def Msh.init : Msh where
  nbr := []
  propSet := []
  path := []
  seen := []
  relays := []
  step := []
  nbrLate := []
  storeDue := false
  restoreDue := false
  lastFrame := none
  events := 0
  holdWait := none

/-- The vault of a part that has not been enrolled (R332). -/
def Vlt.init : Vlt where
  stored := []
  slots := []
  corrupt := []
  enrolled := false
  pufGood := true
  root := 0
  lmsq := 0
  ops := []
  svcWait := []
  svcDone := []
  nonceWait := []
  meas0 := 0
  meas1 := 0
  dbglock := true
  calls := 0
  reseeding := false
  drawWait := []

/-- The dictionary service before its first command. -/
def Dict.init : Dict where
  settings := []
  session := []
  unapplied := []
  points := []
  formats := []
  origins := []
  waiting := []
  execs := []
  execLast := []
  responses := []
  jnl := []
  writing := none

/-- The Waifeti Link after POR. -/
def Wfl.init : Wfl where
  header := none
  latched := false
  lastCmd := none
  slot := none
  pend := []
  posted := 0
  reply := ⟨false, none, []⟩
  chainIn := false

/-- Start and update with an empty record (log entry 6). -/
def Upd.init : Upd where
  boots := 0
  retSet := 0
  first := none
  reint0 := false
  inStore := false
  store := []
  received := 0
  stState := 0
  reason := 0
  rows := []
  ta := 0
  ts := 0
  hard := false
  section_ := 0
  switchAt := none
  copied := false
  reloaded := 0
  mwq := []
  mwBusy := none
  late := false
  booting := .power
  switching := false
  calibrated := []
  noXo := false

/-- The machine at the release of a power-on reset (R12, R405, R406): every domain off, gear G0, the start set
queued, CAUSE 1h. Values the spec states no reset for: log entries 5, 6 and 7. -/
def State.reset : State where
  pending := []
  freeCtr := 0
  regs := [(0x40100A, 5)]
  held := []
  nt := 0
  ntRun := false
  sleep := 0
  pair := none
  phase := 0
  xbarUsed := []
  drainUsed := []
  eng := Vector.replicate 8 Engine.init
  svc := Bank.service
  svcRun := false
  dbgHalt := false
  romIn := false
  waits := []
  portWaits := []
  lateDone := []
  latePuts := []
  sram := []
  mram := []
  patterns := []
  ecc := []
  seq := Seq.init
  pwr := { Pwr.init with queue := startSet }
  clk := Clk.init
  rings := Vector.replicate 64 Ring.init
  abortReq := none
  cbl := Cables.init
  cad := Cad.init
  gau := Gau.init
  ser := Vector.replicate 6 Serial.init
  rf := Vector.replicate 2 Rf.init
  lane := Vector.replicate 10 Lane.init
  lnk := Lnk.init
  msh := Msh.init
  vlt := Vlt.init
  dict := Dict.init
  wfl := Wfl.init
  upd := Upd.init
  jtag := ⟨.none, 0, 0⟩
  retOrder := []
  selfTest := none
  vio1 := true
  vio2 := true
  gpioIn := 0
  coexGnt := false
  pan := []
  wflStore := none
  again := []
  errors := 0
  lastRead := 0

end Sys2Proof.Machine
end

