-- ==== Sys2Proof/Machine/Ops.lean ====
section
/-!
DEFINITION. The named operations that every block uses: words by address in canonical form, register words and
fields, counters, domain states, shared SRAM and octets in it, breach records (R53) and events in the cable matrix
(R262 to R270).
-/
namespace Sys2Proof.Machine

/-! ## Words by address -/

/-- The word at an address; an unlisted address holds its default. -/
def cellsGet (d : Nat → W16) : Cells → Nat → W16
  | [], a => d a
  | (b, v) :: t, a => if b = a then v else cellsGet d t a

/-- No entry for the address. -/
def cellsDel : Cells → Nat → Cells
  | [], _ => []
  | (b, v) :: t, a => if b = a then cellsDel t a else (b, v) :: cellsDel t a

/-- One entry for the address, in its place. -/
def cellsIns : Cells → Nat → W16 → Cells
  | [], a, v => [(a, v)]
  | (b, w) :: t, a, v =>
    if a < b then (a, v) :: (b, w) :: t
    else if b = a then (a, v) :: t
    else (b, w) :: cellsIns t a v

/-- A write of a word: the default is not listed. -/
def cellsPut (d : Nat → W16) (c : Cells) (a : Nat) (v : W16) : Cells :=
  if v = d a then cellsDel c a else cellsIns c a v

/-- The entries of a run of words from an address on; a word that is the default is not listed. -/
def cellsFrom (d : Nat → W16) : Nat → List W16 → Cells
  | _, [] => []
  | a, v :: t => if v = d a then cellsFrom d (a + 1) t else (a, v) :: cellsFrom d (a + 1) t

/-- Every address of the list lies above b. -/
def cellsAbove (b : Nat) : Cells → Bool
  | [] => true
  | (a, _) :: t => decide (b < a) && cellsAbove b t

/-- The canonical form: addresses strictly rising, no entry equal to its default. -/
def Memory.wf (d : Nat → W16) : Cells → Bool
  | [] => true
  | (a, v) :: t => decide (v ≠ d a) && cellsAbove a t && Memory.wf d t

/-- Default of memories whose words are zero at reset. -/
def zeroWord : Nat → W16 := fun _ => 0

/-- Default of the grant patterns (R69). -/
def onesWord : Nat → W16 := fun _ => 0xFFFF

/-! ## Registers -/

/-- The stored word of a register. -/
def State.word (s : State) (a : Nat) : W16 := cellsGet regDefault s.regs a

/-- A register word replaced. -/
def State.setWord (s : State) (a : Nat) (v : W16) : State := { s with regs := cellsPut regDefault s.regs a v }

/-- Bits hi..lo of one register word. -/
def State.rd (s : State) (a hi lo : Nat) : Nat := bits (s.word a).toNat hi lo

/-- Bits hi..lo of one register word replaced. -/
def State.wr (s : State) (a hi lo v : Nat) : State :=
  s.setWord a (BitVec.ofNat 16 (putBits (s.word a).toNat hi lo v))

/-- One bit of a register word. -/
def State.flag (s : State) (a b : Nat) : Bool := bit (s.word a).toNat b

/-- One bit of a register word set or cleared. -/
def State.setFlag (s : State) (a b : Nat) (v : Bool) : State := s.wr a b b v.toNat

/-- The whole value of a register of n words (R10). -/
def State.rdw (s : State) (a : Nat) : Nat → Nat
  | 0 => 0
  | n + 1 => s.rdw a n + (s.word (a + n)).toNat * 2 ^ (16 * n)

/-- The whole value of a register of n words replaced. -/
def State.wrw (s : State) (a : Nat) : (n v : Nat) → State
  | 0, _ => s
  | n + 1, v => (s.wrw a n v).setWord (a + n) (BitVec.ofNat 16 (v / 2 ^ (16 * n)))

/-- A counter that saturates at FFFFh counts n more. -/
def State.bumpBy (s : State) (a n : Nat) : State :=
  s.setWord a (BitVec.ofNat 16 (min 0xFFFF ((s.word a).toNat + n)))

/-- A counter that saturates at FFFFh counts one more. -/
def State.bump (s : State) (a : Nat) : State := s.bumpBy a 1

/-- WRITE_REJECTED of window w is set (R25). -/
def State.rejected (s : State) (w : Nat) : State := s.setFlag (A.FLAGS w) 0 true

/-- Window numbers by block name (R24). -/
def Win.SEQ : Nat := 0
def Win.PWR : Nat := 1
def Win.CLK : Nat := 2
def Win.RING : Nat := 3
def Win.CBL : Nat := 4
def Win.CAD : Nat := 5
def Win.RFA : Nat := 6
def Win.RFB : Nat := 7
def Win.RXE : Nat := 8
def Win.MOD : Nat := 9
def Win.LNK : Nat := 10
def Win.MSH : Nat := 11
def Win.VLT : Nat := 12
def Win.GAU : Nat := 13
def Win.PER : Nat := 14
def Win.PAN : Nat := 15
def Win.WFL : Nat := 16
def Win.SYS : Nat := 17
def Win.ENG : Nat := 18
def Win.JNL : Nat := 19

/-- The registers that a reset of a kind concerns go back to their reset values: their words leave the list. -/
def State.resetRegs (s : State) (p : Reg → Bool) : State :=
  { s with
    regs := s.regs.filter fun c => match findReg c.1 with
      | some (r, _, _) => !p r
      | none => true
    held := s.held.filter fun c => match findReg c.1 with
      | some (r, _, _) => !p r
      | none => true }

/-- A free value of w bits, and the state that has drawn it (log entry 4). -/
def State.draw (s : State) (w : Nat) : BitVec w × State :=
  (Config.freeValue w s.freeCtr, { s with freeCtr := s.freeCtr + 1 })

/-! ## Status codes (R257) -/

def St.OK : Nat := 0x00
def St.ABORTED : Nat := 0x01
def St.ABORT_TOO_LATE : Nat := 0x02
def St.CANCELLED_BY_DISABLE : Nat := 0x03
def St.BAD_DESCRIPTOR : Nat := 0x04
def St.WRITE_REJECTED : Nat := 0x05
def St.LATE_LOCK : Nat := 0x10
def St.NO_GRANT : Nat := 0x11
def St.DWELL_LIMIT : Nat := 0x12
def St.OVERTAKEN : Nat := 0x13
def St.DUPLICATE : Nat := 0x14
def St.NO_ACK : Nat := 0x15
def St.CCA_BUSY : Nat := 0x16
def St.MISMATCH_BACKOFF : Nat := 0x17
def St.COUNTER_EXHAUSTED : Nat := 0x18
def St.TTL_EXPIRED : Nat := 0x30
def St.STALE_STAGE : Nat := 0x31
def St.DESYNC : Nat := 0x32
def St.HELD : Nat := 0x33
def St.NO_PATH : Nat := 0x34
def St.AUTH_FAIL : Nat := 0x40
def St.SLOT_BAD : Nat := 0x41
def St.SLOT_ATTR_DENIED : Nat := 0x42
def St.LMS_EXHAUSTED : Nat := 0x43
def St.STORE_ABSENT : Nat := 0x50
def St.STORE_TIMEOUT : Nat := 0x51
def St.STORE_ECC : Nat := 0x52
def St.STORE_PROGRAM_FAIL : Nat := 0x53
def St.STORE_ERASE_FAIL : Nat := 0x54
def St.STORE_RANGE : Nat := 0x55
def St.STORE_PROTECTED : Nat := 0x56
def St.CONTRACT_BREACH : Nat := 0x60
def St.UNPLANNED_WAKE : Nat := 0x61
def St.GATE_REFUSED : Nat := 0x62
def St.BANK_LOST : Nat := 0x63
def St.OVERRANGE : Nat := 0x70
def St.OPEN_INPUT : Nat := 0x71
def St.EXCITATION_FAULT : Nat := 0x72
def St.REF_FAULT : Nat := 0x73
def St.I2C_NACK : Nat := 0x74
def St.I2C_ARB_LOST : Nat := 0x75
def St.BUS_TIMEOUT : Nat := 0x76
def St.UART_ERROR : Nat := 0x77

/-! ## Time and domains -/

/-- Network time in units of 31.25 ns (R186, R300). -/
def State.now (s : State) : Nat := s.nt.toNat / 8

/-- State of a domain as `PWR_DSTATn` reads it: 0 off, 1 retention, 2 on, 3 in transition. Domain 16 is AON. -/
def State.domState (s : State) (d : Nat) : Nat :=
  if d ≥ 16 then 2 else s.rd (A.PWR_DSTAT (d / 8)) (2 * (d % 8) + 1) (2 * (d % 8))

/-- A domain's state as `PWR_DSTATn` shows it is changed. -/
def State.setDomState (s : State) (d v : Nat) : State :=
  if d ≥ 16 then s else s.wr (A.PWR_DSTAT (d / 8)) (2 * (d % 8) + 1) (2 * (d % 8)) v

/-- The domain is on. -/
def State.on (s : State) (d : Nat) : Bool := s.domState d == 2

/-- State of a shared SRAM bank, coded as a domain's. -/
def State.bankState (s : State) (b : Nat) : Nat :=
  s.rd (A.PWR_BANKSTATE (b / 8)) (2 * (b % 8) + 1) (2 * (b % 8))

/-- A bank's state is changed. -/
def State.setBankState (s : State) (b v : Nat) : State :=
  s.wr (A.PWR_BANKSTATE (b / 8)) (2 * (b % 8) + 1) (2 * (b % 8)) v

/-- The bank is LOST (R285). -/
def State.bankLost (s : State) (b : Nat) : Bool := (s.rdw A.PWR_BANKLOST 2).testBit b

/-- `PWR_BANKLOST` bit b. -/
def State.setBankLost (s : State) (b : Nat) (v : Bool) : State :=
  s.setFlag (A.PWR_BANKLOST + b / 16 % 2) (b % 16) v

/-- The route sheet is committed: running or releasing (R39, R40). -/
def State.committed (s : State) : Bool := s.rd A.SEQ_STAT 11 10 ≥ 2

/-! ## Shared SRAM, scratchpads and MRAM -/

/-- Bank that a shared SRAM address lies in (R22). -/
def bankOf (a : Nat) : Nat := (a - 0x100000) / 0x8000

/-- The address lies in shared SRAM (R20). -/
def inSram (a : Nat) : Bool := 0x100000 ≤ a && a < 0x200000

/-- A word of shared SRAM as a block's port reads it: a LOST bank reads E0E0h (R285). -/
def State.sramGet (s : State) (a : Nat) : W16 :=
  if inSram a then (if s.bankLost (bankOf a) then 0xE0E0 else cellsGet zeroWord s.sram a) else 0

/-- A word of shared SRAM written; a bit error that stood in it is gone (R282). -/
def State.sramPut (s : State) (a : Nat) (v : W16) : State :=
  if inSram a then
    { s with sram := cellsPut zeroWord s.sram a v, ecc := s.ecc.filter fun e => !(e.mem == 0 && e.addr == a) }
  else s

/-- Words written from an address on. -/
def State.sramPuts (s : State) (a : Nat) : List W16 → State
  | [] => s
  | v :: t => (s.sramPut a v).sramPuts (a + 1) t

/-- n words from an address on. -/
def State.sramGets (s : State) (a n : Nat) : List W16 := (List.range n).map fun i => s.sramGet (a + i)

/-- Octets as words, the first octet in the low half (R10); a last odd octet has a zero beside it. -/
def packOctets : List Octet → List W16
  | [] => []
  | [x] => [x.setWidth 16]
  | x :: y :: t => (y ++ x) :: packOctets t

/-- Words as octets, low half first (R10). -/
def unpackWords : List W16 → List Octet
  | [] => []
  | w :: t => w.setWidth 8 :: (w >>> 8).setWidth 8 :: unpackWords t

/-- n octets from a word address on. -/
def State.octets (s : State) (a n : Nat) : List Octet := (unpackWords (s.sramGets a ((n + 1) / 2))).take n

/-- A word of MRAM (R23); addresses are word addresses of the read window. -/
def State.mramGet (s : State) (a : Nat) : W16 := cellsGet zeroWord s.mram a

/-- A word of MRAM written. -/
def State.mramPut (s : State) (a : Nat) (v : W16) : State :=
  { s with mram := cellsPut zeroWord s.mram a v }

/-- Words of MRAM written from an address on. -/
def State.mramPuts (s : State) (a : Nat) : List W16 → State
  | [] => s
  | v :: t => (s.mramPut a v).mramPuts (a + 1) t

/-- A number of n words as a word list, low word first (R10). -/
def toWords (n v : Nat) : List W16 := (List.range n).map fun i => BitVec.ofNat 16 (v / 2 ^ (16 * i))

/-- A number from a word list, low word first. -/
def ofWords : List W16 → Nat
  | [] => 0
  | w :: t => w.toNat + 65536 * ofWords t

/-- A number of n octets, least significant first (R10). -/
def toOctets (n v : Nat) : List Octet := (List.range n).map fun i => BitVec.ofNat 8 (v / 2 ^ (8 * i))

/-- A number from octets, least significant first. -/
def ofOctets : List Octet → Nat
  | [] => 0
  | o :: t => o.toNat + 256 * ofOctets t

/-! ## Cables -/

/-- Entry-bound consumers (R263): their action is that of a route-sheet entry. -/
def entryBound (c : Nat) : Bool := c < 8 || (0x20 ≤ c && c ≤ 0x28)

/-- Domain that a consumer's block lies in (R16, R263); 16 is AON. -/
def consDom (c : Nat) : Nat :=
  if c < 8 then c                       -- ENGk_DISPATCH
  else if c < 0x20 then 16              -- flags and services live in AON
  else if c < 0x22 then 11              -- LNK_RADIOA, B
  else if c = 0x22 then 8               -- RING_GRANT
  else if c < 0x27 then 16              -- PWR_DOMAIN, PWR_GEAR, AON_WAKECMP, AON_CONFIRM
  else if c = 0x27 then 12
  else if c = 0x28 then 13
  else if c < 0x3C then 15              -- gauge, CAD_CAPn
  else if c = 0x3E then 10              -- CAD_NTSNAP
  else if c < 0x4D then 15              -- CAD_PPSOUT, PER_GPIOSNAP, serial units, GPIO tasks
  else if c < 0x4F then 11              -- LNK_ABORTA, B
  else 15                               -- WFL_IRQ

/-- Domain of a producer (R16, R262); 16 is AON. -/
def prodDom (p : Nat) : Nat :=
  if p < 0x10 then 10
  else if p < 0x30 then (p - 0x10) / 4
  else if p < 0x38 then 15
  else if p = 0x38 then 10
  else if p < 0x42 then 15
  else if p < 0x44 then 12
  else if p < 0x46 then 13
  else if p < 0x4C then 11
  else if p < 0x50 then 8
  else if p = 0x50 then 14
  else if p = 0x51 then 15
  else if p < 0x56 then 16
  else if p = 0x56 then 9
  else if p < 0x5B then 15
  else if p = 0x5B then 10
  else if p = 0x5C then 15
  else if p = 0x5D then 10
  else if p = 0x5E then 15
  else 11

/-- The two ends of cable c: producer and consumer (R264). -/
def cableEnds (c : Nat) : Nat × Nat :=
  if c < 0x008 then (c, c)
  else if c = 0x008 then (0x08, 0x20)
  else if c = 0x009 then (0x09, 0x21)
  else if c = 0x00A then (0x0A, 0x22)
  else if c = 0x00B then (0x0B, 0x23)
  else if c = 0x00C then (0x0C, 0x24)
  else if c = 0x00D then (0x0D, 0x25)
  else if c < 0x011 then (0x0E, 0x26 + (c - 0x00E))
  else if c = 0x011 then (0x0F, 0x10)
  else if c < 0x082 then
    let i := c - 0x012
    let p := i / 7                      -- producers E0_EVT0, E0_EVT1, E1_EVT0, ...
    let k := p / 2
    let j := i % 7
    (0x10 + 4 * k + p % 2, 0x08 + (if j < k then j else j + 1))
  else if c < 0x092 then
    let i := c - 0x082
    (0x10 + 4 * (i / 2) + 2 + i % 2, if i % 2 = 0 then 0x1E else 0x1F)
  else if c < 0x0A1 then
    [(0x55, 0x11), (0x5B, 0x12), (0x53, 0x13), (0x54, 0x13), (0x52, 0x14), (0x56, 0x15), (0x4C, 0x16),
     (0x4D, 0x17), (0x4E, 0x18), (0x4F, 0x19), (0x4A, 0x1A), (0x49, 0x1B), (0x5A, 0x1C), (0x50, 0x1D),
     (0x51, 0x1D)].getD (c - 0x092) (0, 0)
  else if c < 0x0F9 then (0x30 + (c - 0x0A1) / 11, 0x29 + (c - 0x0A1) % 11)
  else if c < 0x131 then
    let m := (c - 0x0F9) / 7
    let j := (c - 0x0F9) % 7
    (0x30 + m, 0x34 + (if j < m then j else j + 1))
  else if c < 0x171 then (0x30 + (c - 0x131) / 8, 0x45 + (c - 0x131) % 8)
  else if c < 0x1A1 then (0x30 + (c - 0x171) / 6, 0x3F + (c - 0x171) % 6)
  else if c < 0x1E1 then (0x30 + (c - 0x1A1) / 8, 0x08 + (c - 0x1A1) % 8)
  else if c < 0x1E9 then (0x30 + (c - 0x1E1), 0x3C)
  else if c < 0x1F1 then (0x38, 0x08 + (c - 0x1E9))
  else if c = 0x1F1 then (0x39, 0x3C)
  else if c < 0x1FA then (0x5C, 0x34 + (c - 0x1F2))
  else if c < 0x222 then
    ([0x3A, 0x3B, 0x3C, 0x3D, 0x5E].getD ((c - 0x1FA) / 8) 0, 0x08 + (c - 0x1FA) % 8)
  else if c < 0x22C then (0x3D, 0x45 + (c - 0x222))
  else if c < 0x230 then (0x3E + (c - 0x22C), 0x2B)
  else if c < 0x240 then (0x42 + (c - 0x230) / 4, 0x49 + (c - 0x230) % 4)
  else if c < 0x260 then ([0x46, 0x47, 0x48, 0x4B].getD ((c - 0x240) / 8) 0, 0x08 + (c - 0x240) % 8)
  else if c < 0x278 then (0x13 + 4 * ((c - 0x260) / 3), 0x4D + (c - 0x260) % 3)
  else if c < 0x27C then ([0x38, 0x39, 0x5C, 0x5F].getD (c - 0x278) 0, 0x3E)
  else if c < 0x27F then (0x57 + (c - 0x27C), 0x1C)
  else (0x3D, 0x3D)

/-- Cables from a producer, in cable order. -/
def cablesFrom (p : Nat) : List Nat := (List.range 0x280).filter fun c => (cableEnds c).1 == p

/-- The cable's enable bit is 1 (R265). -/
def State.cableOn (s : State) (c : Nat) : Bool := s.flag (A.CBL_EN (c / 16)) (c % 16)

/-- The cable is not gated, or its lever is 1 (R266). -/
def State.cablePasses (s : State) (c : Nat) : Bool :=
  let g := (cellsGet zeroWord s.cbl.gate c).toNat
  !bit g 4 || s.flag A.CBL_LEVERS (bits g 3 0)

/-- MISSED of consumer c counts one more, saturating at FFh (R263, R267, R269). -/
def State.missed (s : State) (c : Nat) : State :=
  s.wr (A.CBL_CONS c) 15 8 (min 0xFF (s.rd (A.CBL_CONS c) 15 8 + 1))

/-- The clocks of the matrix (R262): network time, fabric, PD15 and power controller. -/
inductive CableClock where
  | nt
  | fab
  | per
  | pc
deriving DecidableEq, Repr

/-- Clock of a producer (R262). -/
def prodClock (p : Nat) : CableClock :=
  if (0x10 ≤ p && p < 0x30) || (0x4C ≤ p && p ≤ 0x50) || p = 0x55 || p = 0x56 then .fab
  else if (0x3A ≤ p && p ≤ 0x41) || p = 0x51 || (0x57 ≤ p && p ≤ 0x5A) || p = 0x5C || p = 0x5E then .per
  else if 0x52 ≤ p && p ≤ 0x54 then .pc
  else .nt

/-- Clock of a consumer (R263). -/
def consClock (c : Nat) : CableClock :=
  if c < 0x20 || c = 0x22 then .fab
  else if 0x23 ≤ c && c ≤ 0x26 then .pc
  else if (0x29 ≤ c && c ≤ 0x33) || c = 0x3D || (0x3F ≤ c && c ≤ 0x4C) || c = 0x4F then .per
  else .nt

/-- The consumer's cycle in which an event of producer p that enters on network-time tick t arrives (R267): one cycle
later, and two more where the clocks differ. PD15's clock has a cycle in two ticks and the power controller's one in
eight. Fabric cycles are told apart within a tick by the phase, for producers that run on them (log entry 103). -/
def State.arrival (s : State) (t p c : Nat) : Nat × Nat :=
  let lat := if prodClock p = consClock c then 1 else 3
  match consClock c with
  | .nt => (t + lat, 0)
  | .per => (t / 2 + lat, 0)
  | .pc => (t / 8 + lat, 0)
  | .fab => (t, if prodClock p = .fab then 1 + s.phase.toNat else 0)

/-- The event on one enabled and passing cable (R263, R265, R270): dropped above 8 hops, ignored by an entry-bound
consumer, which finds no action in it, and otherwise on its way. `cut` collects the cables that drop it. -/
def State.enterCable (hop : Nat) (p : State × List Nat) (c : Nat) : State × List Nat :=
  let s := p.1
  if !(s.cableOn c && s.cablePasses c) then p
  else if hop + 1 > 8 then (s, p.2 ++ [c])
  else
    let cons := (cableEnds c).2
    if entryBound cons then
      let s := if cons < 8 || s.on (consDom cons) then s else s.setFlag (A.CBL_CONS cons) 2 true
      (s.missed cons, p.2)
    else
      let e : Event := ⟨c, cons, hop + 1, s.arrival s.now (cableEnds c).1 cons⟩
      ({ s with cbl := { s.cbl with flight := s.cbl.flight ++ [e] } }, p.2)

/-- The fork of R265 without the loop cut. -/
def State.forkOnce (s : State) (p hop : Nat) : State × List Nat :=
  (cablesFrom p).foldl (State.enterCable hop) (s, [])

/-- A producer's event enters every enabled cable from it (R265 to R267, R270). Nothing crosses while PD10 is not on. -/
def State.fork (s : State) (p hop : Nat) : State :=
  if !s.on 10 then s
  else
    let r := s.forkOnce p hop
    match r.2 with
    | [] => r.1
    | c :: _ =>
      let s := ((r.1.setFlag A.CBL_STAT 0 true).bump A.CBL_CUTCNT).wr A.CBL_CUTCABLE 9 0 c
      (s.forkOnce 0x5B 0).1

/-- A producer fires (R262): one whose domain is not on fires nothing. -/
def State.fire (s : State) (p hop : Nat) : State := if s.on (prodDom p) then s.fork p hop else s

/-- The event that arrives first, of those that arrive together the one that entered first. -/
def firstEvent : List Event → Option Event
  | [] => none
  | e :: t => match firstEvent t with
    | some x => if x.arrive.1 < e.arrive.1 then some x else some e
    | none => some e

/-- The trigger that reaches consumer c now (R268): the first event to arrive and every other that arrives in the
same cycle act as one, with the largest hop count. With none on its way the command is itself an event, hop 1, of the
lowest-numbered cable to c (log entry 8). Answers hop count, lowest cable, whether it coalesced, and the state. -/
def State.takeEvent (s : State) (c : Nat) : Nat × Nat × Bool × State :=
  match firstEvent (s.cbl.flight.filter fun e => e.cons == c) with
  | none => (1, ((List.range 0x280).find? fun k => (cableEnds k).2 == c).getD 0x3FE, false, s)
  | some e =>
    let same := s.cbl.flight.filter fun x => x.cons == c && x.arrive == e.arrive
    let s := { s with cbl := { s.cbl with
      flight := s.cbl.flight.filter fun x => !(x.cons == c && x.arrive == e.arrive) } }
    let hop := same.foldl (fun m x => max m x.hop) 0
    let cab := same.foldl (fun m x => min m x.cable) e.cable
    if same.length > 1 then (hop, cab, true, s.setFlag (A.CBL_CONS c) 1 true) else (hop, cab, false, s)

/-- Producers that fire at once in a consumer's action (R270): CC0 to CC7, CAD_PPS, GAU_PWM0 to 3 and LNK_TXDONE. -/
def firesAtOnce (p : Nat) : Bool := (0x30 ≤ p && p < 0x38) || p = 0x39 || (0x3E ≤ p && p < 0x42) || p = 0x47

/-- The events that an action produced at once enter their cables one cycle of their producers' clocks later (R267):
those behind the first n on their way. -/
def State.enterLater (s : State) (n : Nat) : State :=
  let later (e : Event) : Event :=
    let p := (cableEnds e.cable).1
    if firesAtOnce p then { e with arrive := s.arrival (s.now + if prodClock p = .per then 2 else 1) p e.cons } else e
  { s with cbl := { s.cbl with flight := s.cbl.flight.take n ++ (s.cbl.flight.drop n).map later } }

/-- What a consumer's row does with its trigger: ignored when PD10 or the consumer's domain is not on (R267) or the
consumer is busy (R269), and otherwise acted on by `act hop cable coalesced`. -/
def State.onEvent (s : State) (c : Nat) (busy : Bool) (act : Nat → Nat → Bool → State → State) : State :=
  let t := s.takeEvent c
  let s := t.2.2.2
  if !s.on 10 then s
  else if !s.on (consDom c) then (s.setFlag (A.CBL_CONS c) 2 true).missed c
  else if busy then s.missed c
  else (act t.1 t.2.1 t.2.2.1 s).enterLater s.cbl.flight.length

/-! ## Breaches (R53) -/

/-- Current slot number, as `SEQ_ASN` holds it. -/
def State.asn (s : State) : Nat := s.rdw A.SEQ_ASN 3 % 2 ^ 40

/-- One breach record: log, class counter and SEQ_BREACH (R53). `entry` is the entry concerned (lap, index). DESIGN
CHOICE: a breach that arises while PD10 is not on leaves no record, no count and no event; the log and the counters are
PD10's, and the manual does not say what happens to one meanwhile (log entry 101). -/
def State.breach (s : State) (cls status : Nat) (entry : Option (Nat × Nat)) (task unit : Nat) : State :=
  if !s.on 10 then s
  else
    let w1 := match entry with
      | some (l, i) => l % 8 * 8192 + i % 8192
      | none => 0x1FFF
    let r : List W16 := [BitVec.ofNat 16 (cls * 4096 + status % 256), BitVec.ofNat 16 w1,
      BitVec.ofNat 16 s.asn, BitVec.ofNat 16 (task % 256 * 256 + unit % 16 * 16)]
    let s := s.bump (A.SEQ_BRCNT cls)
    let s := if s.seq.log.length < 16 then
        ({ s with seq := { s.seq with log := s.seq.log ++ [r] } }).wr A.SEQ_BRLOGSTAT 4 0 (s.seq.log.length + 1)
      else s.setFlag A.SEQ_BRLOGSTAT 8 true
    s.fire 0x0F 0

/-! ## Network time (R186, R219, R300) -/

/-- Network time moved by a number of fractions. -/
def State.addTime (s : State) (d : Int) : State := { s with nt := BitVec.ofInt 67 ((s.nt.toNat : Int) + d) }

/-- The exact multiple of a field of a bank of vectors, read by number: `v` at i, or `d` past its end. -/
def vget {α : Type} {n : Nat} (v : Vector α n) (i : Nat) (d : α) : α := if h : i < n then v[i] else d

/-- A vector with place i replaced; unchanged past its end. -/
def vset {α : Type} {n : Nat} (v : Vector α n) (i : Nat) (x : α) : Vector α n :=
  if h : i < n then v.set i x else v

/-- Ring n of the 64 (R247). -/
def ringIx (n : Nat) : Fin 64 := Fin.ofNat 64 n

/-- State of ring n. -/
def State.ring (s : State) (n : Nat) : Ring := s.rings[ringIx n]

/-- State of ring n replaced. -/
def State.setRing (s : State) (n : Nat) (r : Ring) : State := { s with rings := s.rings.set (ringIx n) r }

end Sys2Proof.Machine
end

