-- ==== Sys2Proof/Machine/Power.lean ====
section
/-!
DEFINITION. Deadline monitors (R52), the power controller's queue of transitions (R276, R277), demand wakes (R18),
wake sources (R275, R281), and the derailleur (R289 to R291).
-/
namespace Sys2Proof.Machine

/-! ## Deadline monitors (R36, R52) -/

/-- `SEQ_MONFREE` shows the monitors free. -/
def State.setMonitors (s : State) (ms : List Monitor) : State :=
  ({ s with seq := { s.seq with monitors := ms } }).wr A.SEQ_MONFREE 5 0 (32 - ms.length)

/-- An OVERRUN record for a monitor whose deadline has passed and that has none yet (R52, R53 class 1). -/
def State.overrun (s : State) (m : Monitor) : State :=
  if m.overrun then s else s.breach 1 St.CONTRACT_BREACH (some (m.lap, m.index)) m.task 0

/-- The completion that a monitor waits for occurs: it is returned, with an OVERRUN record if it is late (R52). -/
def State.monitorsDone (s : State) (p : Monitor → Bool) : State :=
  let done := s.seq.monitors.filter p
  let s := s.setMonitors (s.seq.monitors.filter fun m => !p m)
  done.foldl (fun s m => if m.deadline < s.now then s.overrun m else s) s

/-- Completions by kind of R36 and by their subject: a domain, a channel, a cell's chain or an engine. -/
def State.monitorKind (s : State) (kind subject : Nat) : State :=
  s.monitorsDone fun m => m.kind == kind && m.subject == subject

/-! ## The queue of transitions -/

/-- Engine k is retired (`ENG_RETIRED`). -/
def State.retired (s : State) (k : Nat) : Bool := s.flag A.ENG_RETIRED k

/-- The domain holds a retired engine that R85 keeps off; E0 is excepted (R67, R272). -/
def State.heldOff (s : State) (d : Nat) : Bool := decide (1 ≤ d) && decide (d < 8) && s.retired d

/-- The queue replaced, with `PWR_XSTAT.QUEUED`. -/
def State.setQueue (s : State) (q : List Transition) : State :=
  ({ s with pwr := { s.pwr with queue := q } }).wr A.PWR_XSTAT 4 0 (min 31 q.length)

/-- A new request replaces the target of a pending transition of the same domain in its place (R276). -/
def replaceTransition (t : Transition) : List Transition → List Transition
  | [] => [t]
  | x :: r => if !x.demand && x.dom == t.dom then t :: r else x :: replaceTransition t r

/-- A transition is added in arrival order (R276). -/
def State.queueTransition (s : State) (t : Transition) : State := s.setQueue (replaceTransition t s.pwr.queue)

/-- A demand wake goes ahead of every queued transition, behind earlier demand wakes; one for the same domain that
is still pending takes the bank with it (R277). -/
def insertDemand (t : Transition) : List Transition → List Transition
  | [] => [t]
  | x :: r =>
    if !x.demand then t :: x :: r
    else if x.dom == t.dom then { x with banks := x.banks ||| t.banks } :: r
    else x :: insertDemand t r

/-- A demand wake for the domain and bank is queued or in progress. -/
def State.wakeAsked (s : State) (d bank : Nat) : Bool :=
  let hit (t : Transition) : Bool := t.demand && t.dom == d && (d ≠ 8 || t.banks.getLsbD bank)
  s.pwr.queue.any hit || (match s.pwr.current with
    | some (t, _) => hit t
    | none => false)

/-- A demand wake (R18, R277): counted, recorded in `PWR_DWLAST` and the breach log, and queued ahead of every
other transition. -/
def State.demandWake (s : State) (d bank port : Nat) (entry : Option (Nat × Nat)) (task : Nat) : State :=
  let s := (s.bump A.PWR_DWCNT).setWord A.PWR_DWLAST
    (BitVec.ofNat 16 (d % 16 * 4096 + (if d = 8 then bank % 32 else 0) * 128 + port % 16 * 8))
  let s := s.breach 3 St.UNPLANNED_WAKE entry task d
  s.setQueue (insertDemand ⟨d, 2, if d = 8 then BitVec.ofNat 32 (2 ^ bank) else 0, true, none⟩ s.pwr.queue)

/-- An access to a domain or bank that is not on (R18): the demand wake it makes, unless one is on its way already. -/
def State.wakeFor (s : State) (d bank port : Nat) (entry : Option (Nat × Nat)) (task : Nat) : State :=
  if s.wakeAsked d bank then s else s.demandWake d bank port entry task

/-- An entry waits for the journal writer (R382). A hardware source that finds PD9 not on makes a demand wake, but the
seal logic holds its entry. During a transition of PD9 the source waits. -/
def State.jnlAdd (s : State) (r : JnlReq) : State :=
  let s := { s with dict := { s.dict with jnl := s.dict.jnl ++ [r] } }
  if r.source ≠ 1 && s.domState 9 < 2 then s.wakeFor 9 0 11 none 0 else s

/-- The transition in progress, if it is an entry into retention or off of domain d. -/
def State.entering (s : State) (d : Nat) : Option XPhase :=
  match s.pwr.current with
  | some (t, p) => if t.dom == d && t.target < 2 then some p else none
  | none => none

/-- The transition in progress ends: the controller is idle. -/
def State.endTransition (s : State) : State :=
  ({ s with pwr := { s.pwr with current := none, moving := [], thenRetain := false, latched := none } }).wr
    A.PWR_XSTAT 15 8 0

/-- An entry in PREPARE ends with the domain on (R279). Banks that were to move read as before. -/
def State.abortEntry (s : State) : State :=
  match s.pwr.current with
  | none => s
  | some (t, _) =>
    let s := s.pwr.moving.foldl (fun s m => s.setBankState m.1 m.2) s
    (s.setDomState t.dom 2).endTransition

/-- The wake of a domain that a source asks for: PD8 wakes with every bank in retention (R275). -/
def State.wakeTransition (s : State) (d : Nat) : Transition :=
  ⟨d, 2, if d = 8 then
      BitVec.ofNat 32 (((List.range 32).filter fun b => s.bankState b == 1).foldl (fun m b => m + 2 ^ b) 0)
    else 0, false, none⟩

/-- One domain of a wake set (R275, R276, R281): an entry of it in PREPARE is aborted, one in COMMIT latches the
wake, a level request of the commit window so far as it is still asserted at its end, and otherwise the domain is queued
to wake if it is not on. -/
def State.wakeDomain (s : State) (d : Nat) (edge window : Bool) : State :=
  if s.heldOff d then s
  else match s.entering d with
    | some .prepare => (s.bump A.PWR_WABORTCNT).abortEntry
    | some .commit =>
      if !window then { s with pwr := { s.pwr with latched := some false } }
      else if edge then s.bump A.PWR_WLOSTCNT
      else if s.pwr.latched.isSome then s
      else { s with pwr := { s.pwr with latched := some true } }
    | _ => if s.domState d ≠ 2 then s.queueTransition (s.wakeTransition d) else s

/-- Wake set of source n as a list of domains in increasing order (R275). -/
def State.wakeSet (s : State) (n : Nat) : List Nat :=
  let mask := (s.word (A.PWR_WSET (s.rd (A.PWR_WSRC n) 2 0))).toNat
  (List.range 16).filter fun d => bit mask d

/-- A wake request of source n (R275, R276). -/
def State.wakeRequest (s : State) (n : Nat) (edge window : Bool) : State :=
  if s.flag (A.PWR_WSRC n) 15 then (s.wakeSet n).foldl (fun s d => s.wakeDomain d edge window) s else s

/-- Every domain of source n's set is on. -/
def State.wakeSetOn (s : State) (n : Nat) : Bool := (s.wakeSet n).all fun d => s.on d || s.heldOff d

/-- Level requests act whenever a domain of their set is not on, and wake compares drop theirs when all are on
(R275). The freewheel's request is dropped by the frame engine. -/
def State.wakeLevels (s : State) : State :=
  (List.range 13).foldl (fun s n =>
    if s.flag A.PWR_WPEND n then
      let s := (s.wakeSet n).foldl (fun s d =>
        if s.domState d < 2 && !s.heldOff d && (s.entering d).isNone && !(s.pwr.queue.any fun t => t.dom == d && t.target == 2)
        then s.wakeDomain d false false else s) s
      if n < 8 && s.wakeSetOn n then s.setFlag A.PWR_WPEND n false else s
    else s) s

/-! ## The derailleur -/

/-- Starts the next step towards the target, if none is in progress (R289): a step down shows the lower gear at
once. -/
def State.gearGo (s : State) : State :=
  let cur := s.rd A.PWR_GEAR 2 0
  let tgt := s.rd A.PWR_GEAR 6 4
  if s.flag A.PWR_GEAR 15 then s
  else if cur < tgt then
    { (s.setFlag A.PWR_GEAR 15 true) with pwr := { s.pwr with stepUp := true }
                                          clk := { s.clk with pllRun := true } }
  else if tgt < cur then
    { ((s.setFlag A.PWR_GEAR 15 true).wr A.PWR_GEAR 2 0 (cur - 1)) with pwr := { s.pwr with stepUp := false } }
  else s

/-- A target is set (R45, R290, R291). With XO32M not qualified the gear is held at G0; until the PLL has relocked
after a loss no target is obeyed. -/
def State.setGear (s : State) (g : Nat) : State :=
  if !s.flag A.CLK_STAT 15 then s.setFlag A.PWR_GEAR 14 true
  else if s.clk.pllWait then s else (s.wr A.PWR_GEAR 6 4 g).gearGo

/-- GEAR monitors complete when no step runs and the gear is the one their entry asked for (R36, R45). -/
def State.gearMonitors (s : State) : State :=
  if s.flag A.PWR_GEAR 15 then s else s.monitorsDone fun m => m.kind == 5 && m.subject == s.rd A.PWR_GEAR 2 0

/-- GEAR (R45, R289): the head of the entry actions for PWR_GEAR. -/
def State.takeAct (s : State) (cons : Nat) : Option (EntryAct × State) :=
  match s.cbl.acts.find? fun a => a.cons == cons with
  | none => none
  | some a => some (a, { s with cbl := { s.cbl with acts := s.cbl.acts.erase a } })

/-- An argument word of an entry: 0, 1, 2 for ARG0 to ARG2 (R35). -/
def EntryAct.arg (a : EntryAct) (k : Nat) : Nat := (a.words.getD (5 + k) 0).toNat

/-- GEAR (R45): the entry's gear becomes the derailleur's target; without XO32M the entry completes at once (R290). -/
def gearEffect (s : State) : State :=
  match s.takeAct 0x24 with
  | none => s
  | some (a, s) =>
    let s := (s.setGear (bits (a.arg 0) 2 0)).gearMonitors
    if s.flag A.CLK_STAT 15 then s
    else s.monitorsDone fun m => m.kind == 5 && m.lap == a.lap && m.index == a.index

/-- GEAR. -/
def execGear (s : State) : Host.Outcome State Fault Refusal := .next (gearEffect s)

/-- GEAR_STEP_END (R289): the step ends; the PLL locks on a step that left G0 and stops on one that reaches it. -/
def gearStepEndEffect (s : State) : State :=
  if !s.flag A.PWR_GEAR 15 then s
  else
    let cur := s.rd A.PWR_GEAR 2 0 + (if s.pwr.stepUp then 1 else 0)
    let s := (s.setFlag A.PWR_GEAR 15 false).wr A.PWR_GEAR 2 0 cur
    let s := if cur = 0 then
        { (s.setFlag A.CLK_STAT 10 false) with clk := { s.clk with pllRun := false } }
      else if s.pwr.stepUp then s.setFlag A.CLK_STAT 10 true else s
    s.gearMonitors.gearGo

/-- GEAR_STEP_END. -/
def execGearStepEnd (s : State) : Host.Outcome State Fault Refusal := .next (gearStepEndEffect s)

/-- CLK_EVT fires with a reason (R290, R295, R297): `CLK_STAT.REASON` and `CLK_FAILHIST`. -/
def State.clkReason (s : State) (r : Nat) : State :=
  let s := s.wr A.CLK_STAT 3 0 r
  if r = 0 then s else s.setFlag A.CLK_FAILHIST r true

/-- PLL_LOCK_LOST (R290): the fabric switches to G0, the PLL restarts, VCORE steps down and CLK_EVT fires with
reason 9. VCORE's own way down, 20 µs a gear, shows in no register. -/
def pllLockLostEffect (s : State) : State :=
  if !s.flag A.CLK_STAT 10 then s
  else
    let s := ((s.setFlag A.CLK_STAT 10 false).wr A.PWR_GEAR 6 0 0).setFlag A.PWR_GEAR 15 false
    let s := { s with clk := { s.clk with pllWait := true, pllRun := true } }
    ((s.clkReason 9).fire 0x54 0)

/-- PLL_LOCK_LOST. -/
def execPllLockLost (s : State) : Host.Outcome State Fault Refusal := .next (pllLockLostEffect s)

/-- PLL_RELOCK (R290): the next GEAR entry after relock is obeyed. -/
def pllRelockEffect (s : State) : State :=
  if s.clk.pllWait then { (s.setFlag A.CLK_STAT 10 true) with clk := { s.clk with pllWait := false } } else s

/-- PLL_RELOCK. -/
def execPllRelock (s : State) : Host.Outcome State Fault Refusal := .next (pllRelockEffect s)

/-! ## The MRAM write port (R404) -/

/-- Priority of a port client: link controller and vault, power controller, E0. -/
def mwFirst : List MwReq → Option MwReq
  | [] => none
  | r :: t => match mwFirst t with
    | some x => if x.port < r.port then some x else some r
    | none => some r

/-- The port takes its next word. The link controller's reservations, which `Lnk.fcWait` holds, come first. -/
def State.mwGo (s : State) : State :=
  if s.upd.mwBusy.isSome || !s.lnk.fcWait.isEmpty then s
  else match mwFirst s.upd.mwq with
    | none => s
    | some r => { s with upd := { s.upd with mwBusy := some r, mwq := s.upd.mwq.erase r } }

end Sys2Proof.Machine
end

