-- ==== Sys2Proof/Machine/Ports.lean ====
section
/-!
DEFINITION. How an access finds a domain and a bank (R18, R19, R85), the grant pattern (R68 to R72), and the accesses of
the blocks behind crossbar ports 8 to 11 (R26, R27): demand wakes, entries refused, OFF_SLOT records and time-outs.
-/
namespace Sys2Proof.Machine

/-! ## What an access finds (R18, R19, R85) -/

/-- An entry ends in PREPARE with a record (R279): the domain stays on. -/
def State.refuseEntry (s : State) (reason block : Nat) : State :=
  match s.pwr.current with
  | none => s
  | some (t, _) =>
    let s := s.breach 6 St.CONTRACT_BREACH t.entry 0 t.dom
    let s := (s.setWord A.PWR_REFUSE (BitVec.ofNat 16 (reason * 16384 + block % 32 * 512 + t.dom % 16))).bump A.PWR_REFCNT
    (s.fire 0x53 0).abortEntry

/-- How an access stands. -/
inductive Reach where
  | served
  | waits
  /-- A retired engine's domain that is not on: an error response at once (R85). -/
  | closed
deriving DecidableEq, Repr

/-- The bank is not on while it matters. -/
def State.bankDown (s : State) (d bank : Nat) : Bool := d == 8 && s.bankState bank ≠ 2

/-- An access to domain d, and to a bank where `ram` says so. -/
def State.reach (s : State) (d bank : Nat) (ram : Bool) (block port : Nat) : Reach × State :=
  if 16 ≤ d then (.served, s)
  else
    let down := ram && s.bankDown d bank
    if s.domState d = 3 || (down && s.bankState bank = 3) then
      match s.entering d with
      | some .prepare => (.served, s.refuseEntry 2 block)
      | _ => (.waits, s)
    else if s.on d && !down then (.served, s)
    else if s.heldOff d then (.closed, s)
    else (.waits, s.wakeFor d bank port none 0)

/-! ## The grant pattern (R68 to R71) -/

/-- The code of a bank in phase f of the pattern in force (R69). -/
def State.codeAt (s : State) (f bank : Nat) : Nat :=
  let w := cellsGet onesWord s.patterns (s.rd A.RING_GPCUR 5 0 * 128 + f % 16 * 8 + bank / 4)
  bits w.toNat (4 * (bank % 4) + 3) (4 * (bank % 4))

/-- The code of a bank in the present phase. -/
def State.slotCode (s : State) (bank : Nat) : Nat := s.codeAt s.phase.toNat bank

/-- A port has an own phase for the bank in the pattern in force. -/
def State.ownPhase (s : State) (port bank : Nat) : Bool := (List.range 16).any fun f => s.codeAt f bank == port

/-- The bank has a phase that the port may ever use: its own or a free one. A port without one times out (R71). -/
def State.servable (s : State) (port bank : Nat) : Bool :=
  (List.range 16).any fun f => s.codeAt f bank == port || s.codeAt f bank == 15

/-- The record of an access outside its slot (R53 class 4, R70). -/
def State.offSlot (s : State) (entry : Option (Nat × Nat)) (task : Nat) : State :=
  s.breach 4 St.CONTRACT_BREACH entry task 0

/-! ## Ports 8 to 11 (R26) -/

/-- Cycles from phase f until the port may use the bank: 0 where it may at once, 256 where it never may. -/
def State.slotDelay (s : State) (port bank f : Nat) : Nat :=
  ((List.range 16).find? fun i => s.codeAt (f + i) bank == port || (0 < i && s.codeAt (f + i) bank == 15)).getD
    (if s.codeAt f bank == 15 then 16 else 256)

/-- How many of n accesses from word address a on are off slot, the first issued in phase f and each later one as the one
before it completes, 4 cycles after it was served (log entry 89). -/
def State.offSlots (s : State) (port : Nat) : (f a n : Nat) → Nat
  | _, _, 0 => 0
  | f, a, n + 1 =>
    let b := bankOf a
    let d := s.slotDelay port b f
    (if s.codeAt f b == port then 0 else 1) + s.offSlots port ((f + d + 4) % 16) (a + 1) n

/-- n OFF_SLOT records of a block: UNIT 0 and no entry (R70). -/
def State.offSlotRecords (s : State) : Nat → State
  | 0 => s
  | n + 1 => (s.offSlot none 0).offSlotRecords n

/-- A block behind a port reaches domain d, at PD8 a bank (R18, R19): an entry in PREPARE is refused, a sleeping domain
or bank makes a demand wake, and an access that comes during an entry's COMMIT is kept, to make one when the entry is
complete. Answers whether the access is served now. -/
def State.blockReach (s : State) (d port bank block : Nat) : Bool × State :=
  let r := s.reach d bank (d == 8) block port
  (r.1 == .served,
    if r.1 == .waits && (s.entering d).isSome then { r.2 with portWaits := r.2.portWaits ++ [(d, port, bank)] } else r.2)

/-- A block's access to one bank of shared SRAM. -/
def State.portReach (s : State) (port bank : Nat) : State := (s.blockReach 8 port bank Win.RING).2

/-- A block's access to MRAM outside the journal (R18, R19, R23). -/
def State.touchMram (s : State) (port : Nat) : State := (s.blockReach 9 port 0 Win.JNL).2

/-- The banks that n words from address a on lie in. -/
def banksOf (a n : Nat) : List Nat := List.range' (bankOf a) (bankOf (a + n - 1) + 1 - bankOf a)

/-- Shared SRAM at these words answers now: PD8 and their banks are on. -/
def State.ramReady (s : State) (a n : Nat) : Bool :=
  !inSram a || n == 0 || (s.on 8 && (banksOf a n).all fun b => s.bankState b == 2)

/-- A block behind a port finds the banks of n words from address a on (R18, R19): wakes and refusals. -/
def State.portWake (s : State) (port a n : Nat) : State :=
  if !inSram a || n = 0 then s else (banksOf a n).foldl (fun s b => s.portReach port b) s

/-- A block behind a port accesses n words from address a on (R18, R19, R26, R70): wakes and refusals, then one OFF_SLOT
record for each access outside its slot. -/
def State.portTouch (s : State) (port a n : Nat) : State :=
  let s := s.portWake port a n
  if inSram a && n ≠ 0 && s.ramReady a n then s.offSlotRecords (s.offSlots port s.phase.toNat a n) else s

/-- A region of shared SRAM touches a LOST bank, so that a block's port gets an error response (R285). -/
def State.regionLost (s : State) (a n : Nat) : Bool :=
  decide (0 < n) && inSram a && (s.bankLost (bankOf a) || s.bankLost (bankOf (a + n - 1)))

/-- A block's port gets an error response for the region: a LOST bank (R285), or a bank of which the pattern gives the
port no phase, own or free, so that its access times out (R71). -/
def State.regionErr (s : State) (port a n : Nat) : Bool :=
  s.regionLost a n || (decide (0 < n) && inSram a && !(banksOf a n).all (s.servable port))

end Sys2Proof.Machine
end

