-- ==== Sys2Proof/Machine/Rings.lean ====
section
/-!
DEFINITION. The ring controller (R247 to R261): places, indices and index blocks, hardware posts and their
reservations, completions, Q operations, abort requests, and descriptors posted to a disabled function.
-/
namespace Sys2Proof.Machine

/-! ## Places and indices -/

/-- The ring is valid: `RING_CFGn.EN`, which PD8 loses when it goes off (R255). -/
def State.ringEn (s : State) (n : Nat) : Bool := s.flag (A.RING_CFG n) 15 && 1 ≤ s.domState 8 && n ≠ 30 && n ≠ 31

/-- Places of ring n (R248). -/
def State.ringSize (s : State) (n : Nat) : Nat := 2 ^ s.rd (A.RING_CFG n) 3 0

/-- Places posted and not yet consumed or freed (R249). -/
def Ring.used (r : Ring) : Nat := (r.pi - r.ci).toNat

/-- Completion records unread (R249). -/
def Ring.ready (r : Ring) : Nat := (r.cqw - r.cqr).toNat

/-- Free places (R249). -/
def State.ringSpace (s : State) (n : Nat) : Nat := s.ringSize n - (s.ring n).used

/-- Word address of the place that index i names (R248, R249). -/
def State.placeAddr (s : State) (n i : Nat) : Nat := s.rdw (A.RING_BASE n) 2 + 16 * (i % s.ringSize n)

/-- Word address of the index block of ring n (R248). -/
def State.idxAddr (s : State) (n : Nat) : Nat := s.rdw (A.RING_IDX n) 2

/-- Word k of place i. -/
def State.placeWord (s : State) (n i k : Nat) : W16 := s.sramGet (s.placeAddr n i + k)

/-- Word k of place i written, through the port of the block that writes it. -/
def State.putPlaceWord (s : State) (n i k : Nat) (v : W16) : State := s.sramPut (s.placeAddr n i + k) v

/-- PI changes; the index block follows in the same cycle (R249). -/
def State.setPi (s : State) (n : Nat) (v : W16) : State :=
  (s.setRing n { s.ring n with pi := v }).sramPut (s.idxAddr n) v

/-- CI changes. -/
def State.setCi (s : State) (n : Nat) (v : W16) : State :=
  (s.setRing n { s.ring n with ci := v }).sramPut (s.idxAddr n + 1) v

/-- CQW changes. -/
def State.setCqw (s : State) (n : Nat) (v : W16) : State :=
  (s.setRing n { s.ring n with cqw := v }).sramPut (s.idxAddr n + 2) v

/-- CQR changes. -/
def State.setCqr (s : State) (n : Nat) (v : W16) : State :=
  (s.setRing n { s.ring n with cqr := v }).sramPut (s.idxAddr n + 3) v

/-- RING_EVT0–3 fires on a post or completion record on a ring whose EVT selects it (R262). -/
def State.ringEvent (s : State) (n : Nat) : State :=
  let e := s.rd (A.RING_CFG n) 10 8
  if 4 ≤ e then s.fire (0x4C + (e - 4)) 0 else s

/-- The counts that `RING_OUTST` and `RING_STATn.OUTST` show (R254). -/
def State.showOut (s : State) (n : Nat) : State :=
  let total := (List.range 64).foldl (fun k i => k + (s.ring i).out.length) 0
  (s.wr A.RING_OUTST 9 0 total).wr (A.RING_STAT n) 10 0 (s.ring n).out.length

/-- Descriptors outstanding on all request rings (R254). -/
def State.outstanding (s : State) : Nat := (List.range 64).foldl (fun k i => k + (s.ring i).out.length) 0

/-! ## Posts by hardware (R252) -/

/-- Ring n has a place that can be reserved: valid and not full (R252). -/
def State.ringRoom (s : State) (n : Nat) : Bool := s.ringEn n && 1 ≤ s.ringSpace n

/-- A place of the ring can be reserved at once: there is room, nobody holds the reservation and nobody waits for it. -/
def State.canReserve (s : State) (n : Nat) : Bool :=
  s.ringRoom n && (s.ring n).holder.isNone && (s.ring n).waiting.isEmpty

/-- The place that index i names and the ring's index words answer now: their banks are on (R16). -/
def State.ringReady (s : State) (n i : Nat) : Bool := s.ramReady (s.placeAddr n i) 16 && s.ramReady (s.idxAddr n) 4

/-- The accesses of a post: the block writes the place through its port, the ring controller the index block. -/
def State.touchPost (s : State) (n port : Nat) : State :=
  (s.portTouch port (s.placeAddr n (s.ring n).pi.toNat) 16).portTouch 11 (s.idxAddr n) 1

/-- The place at PI is reserved for a port (R252). -/
def State.reserve (s : State) (n port : Nat) : State :=
  (s.setRing n { s.ring n with holder := some port }).setFlag (A.RING_STAT n) 12 true

/-- A reservation is given up; PI is unchanged (R252). -/
def State.unreserve (s : State) (n : Nat) : State :=
  (s.setRing n { s.ring n with holder := none }).setFlag (A.RING_STAT n) 12 false

/-- Words written through a block's port; a port that the pattern gives no phase of a bank is answered with an error,
and the words are lost (R71). -/
def State.portPuts (s : State) (port a : Nat) (ws : List W16) : State :=
  if inSram a && !(banksOf a ws.length).all (s.servable port) then s else s.sramPuts a ws

/-- Posts the reserved place once its words are written (R252). A ring that has lost the reservation posts nothing. A
place in a sleeping bank stalls the post: its record stands first among those that wait, the ring still reserved. -/
def State.postReserved (s : State) (n : Nat) (ws : List W16) : State :=
  match (s.ring n).holder with
  | none => s
  | some port =>
    if !s.ringEn n then s
    else if !s.ringReady n (s.ring n).pi.toNat then
      let s := s.touchPost n port
      s.setRing n { s.ring n with holder := none, waiting := .record port ws :: (s.ring n).waiting }
    else
      let s := s.touchPost n port
      let i := (s.ring n).pi
      (((s.portPuts port (s.placeAddr n i.toNat) ws).unreserve n).setPi n (i + 1)).ringEvent n

/-- A hardware producer's record: reserved, written and posted. One that finds the reservation held waits behind
those already waiting, and one whose place or index block lies in a sleeping bank waits for its wake; one that finds no
room is answered false and follows its own chapter's rule (R18, R252). -/
def State.post (s : State) (n port : Nat) (ws : List W16) : Bool × State :=
  if !s.ringRoom n then (false, s)
  else if s.canReserve n && s.ringReady n (s.ring n).pi.toNat then (true, (s.reserve n port).postReserved n ws)
  else
    let t := if s.canReserve n then s.touchPost n port else s
    (true, t.setRing n { t.ring n with waiting := (t.ring n).waiting ++ [.record port ws] })

/-- A lane whose committed frame finds the reservation of its ring held waits for it (R187, R252). -/
def State.laneGranted (s : State) (n : Nat) (k : Fin 10) : State :=
  match (s.lane[k]).frame with
  | some f =>
    if f.waitsPlace then
      let s := s.reserve n 8
      { s with lane := s.lane.set k { s.lane[k] with
          frame := some { f with place := some ((s.ring n).pi.toNat % s.ringSize n), waitsPlace := false } } }
    else s
  | none => s

/-- RESERVATION_GRANT (R252): the longest-waiting producer of a ring whose reservation is free takes it: a record is
written and posted, its banks being on; a lane holds it for its frame. A frame that has left its lane takes it with its
ACCEPT_DECISION. -/
def reservationGrantEffect (ring : BitVec 6) (s : State) : State :=
  let n := ring.toNat
  match (s.ring n).waiting with
  | [] => s
  | w :: t =>
    if !s.ringRoom n || (s.ring n).holder.isSome then s
    else match w with
      | .lane k =>
        if s.lnk.judging.any fun j => j.lane == k && j.frame.waitsPlace then s
        else (s.setRing n { s.ring n with waiting := t }).laneGranted n k
      | .record port ws =>
        if s.ringReady n (s.ring n).pi.toNat then
          ((s.setRing n { s.ring n with waiting := t }).reserve n port).postReserved n ws
        else s.touchPost n port

/-- RESERVATION_GRANT. -/
def execReservationGrant (ring : BitVec 6) (s : State) : Host.Outcome State Fault Refusal :=
  .next (reservationGrantEffect ring s)

/-! ## Completion (R253) -/

/-- Crossbar port of the block that consumes request ring n (R27, R247). -/
def blockPort (n : Nat) : Nat := if n < 32 then 8 else if n < 40 then 9 else 10

/-- Word of a place whose low octet is STATUS (R195, R241, R256). -/
def statusWord (ring : Nat) : Nat := if ring ≤ 17 || ring == 29 then 8 else 14

/-- STATUS of a descriptor is written into its place. -/
def State.putStatus (s : State) (n place status : Nat) : State :=
  let k := statusWord n
  s.putPlaceWord n place k (BitVec.ofNat 16 (putBits (s.placeWord n place k).toNat 7 0 status))

/-- The fetch of a descriptor from its place gets an error response (R71, R285). -/
def State.placeLost (s : State) (n place : Nat) : Bool := s.regionErr (blockPort n) (s.placeAddr n place) 16

/-- The descriptor is outstanding on its ring. -/
def State.isOut (s : State) (n place : Nat) : Bool := (s.ring n).out.any fun d => d.1 == place

/-- The words of a completion: STATUS in the place, the record, CQW, and the descriptor no longer outstanding. -/
def State.completeNow (s : State) (n place status : Nat) : State :=
  let s := s.putStatus n place status
  let q := (s.ring n).cqw
  let a := s.idxAddr n + 4 + 4 * (q.toNat % s.ringSize n)
  let s := s.sramPuts a [s.placeWord n place 0, BitVec.ofNat 16 (n % 64 * 256 + status % 256),
    BitVec.ofNat 16 (place % 1024), q]
  let r := s.ring n
  let s := s.setRing n { r with
    out := r.out.filter fun d => d.1 ≠ place
    owner := r.owner.filter fun d => d.1 ≠ place
    recs := r.recs ++ [place] }
  ((s.setCqw n (q + 1)).showOut n).ringEvent n

/-- The accesses of a completion: STATUS through the block's port, the record and CQW through the ring controller's. -/
def State.touchDone (s : State) (n place : Nat) : State :=
  (s.portTouch (blockPort n) (s.placeAddr n place + statusWord n) 1).portTouch 11 (s.idxAddr n + 2) 5

/-- A completion record of a descriptor, after its result words (R253). One that is not outstanding is never completed;
one whose place or index block lies in a sleeping bank completes once that is awake (R16, R18). -/
def State.complete (s : State) (n place status : Nat) : State :=
  if !s.isOut n place then s
  else if s.ringReady n place then (s.touchDone n place).completeNow n place status
  else
    let t := s.touchDone n place
    { t.setRing n { t.ring n with out := (t.ring n).out.map fun d => if d.1 == place then (d.1, true, true) else d } with
      lateDone := t.lateDone ++ [(n, place, status)] }


/-- A generic request completes with STATUS and RESULT in its place (R256). -/
def State.completeGeneric (s : State) (n place status result : Nat) : State :=
  (s.putPlaceWord n place 15 (BitVec.ofNat 16 result)).complete n place status

/-- A block fetches the descriptor at a place, which is outstanding: whether its bank answers now (R18, R26). -/
def State.fetchDesc (s : State) (n place : Nat) : Bool × State :=
  (s.ramReady (s.placeAddr n place) 16, s.portTouch (blockPort n) (s.placeAddr n place) 16)

/-- A descriptor's marks: fetched by its block, and past its commit point (R258). -/
def State.markOut (s : State) (n place : Nat) (fetched committed : Bool) : State :=
  s.setRing n { s.ring n with
    out := (s.ring n).out.map fun d => if d.1 == place then (d.1, fetched, committed) else d }

/-- The block has fetched the descriptor, whose bank is on. -/
def State.fetched (s : State) (n place : Nat) (committed : Bool) : State :=
  (s.fetchDesc n place).2.markOut n place true committed

/-- The first descriptor in place order that its block has not fetched (R253). -/
def State.nextDesc (s : State) (n : Nat) : Option Nat :=
  if s.ringEn n then ((s.ring n).out.find? fun d => !d.2.1).map (·.1) else none

/-! ## Q operations (R250, R251) -/

/-- A refused operation: flag and count. -/
def State.refuseQ (s : State) (n : Nat) : State := (s.setFlag (A.RING_STAT n) 15 true).bump A.RING_REFCNT

/-- Class of ring n (R247): 0 post, 1 request, 2 engine, 3 unused. -/
def isRequest (n : Nat) : Bool := ringClass n == 1

/-- QAVL. -/
def State.qavl (s : State) (n : Nat) : Option Nat :=
  if !s.ringEn n then none else some (if isRequest n then (s.ring n).ready else (s.ring n).used)

/-- QSPACE; refused on a post ring. -/
def State.qspace (s : State) (n : Nat) : Option Nat :=
  if !s.ringEn n || ringClass n == 0 then none else some (s.ringSpace n)

/-- QHEAD: on a request ring the place that record CQR names, or place CI when none is ready. -/
def State.qhead (s : State) (n : Nat) : Option Nat :=
  if !s.ringEn n then none
  else
    let r := s.ring n
    some (match isRequest n, r.recs with
      | true, p :: _ => s.placeAddr n p
      | _, _ => s.placeAddr n r.ci.toNat)

/-- QTAIL; refused on a post ring. -/
def State.qtail (s : State) (n : Nat) : Option Nat :=
  if !s.ringEn n || ringClass n == 0 then none else some (s.placeAddr n (s.ring n).pi.toNat)

/-- QPOST k: none where R251 refuses it. -/
def State.qpost (s : State) (n k : Nat) : Option State :=
  if !s.ringEn n || ringClass n == 0 || s.ringSpace n < k || (isRequest n && 512 < s.outstanding + k) then none
  else
    let i := (s.ring n).pi
    let new := (List.range k).map fun j => ((i.toNat + j) % s.ringSize n, false, false)
    let s := if isRequest n then s.setRing n { s.ring n with out := (s.ring n).out ++ new } else s
    let s := s.setPi n (i + BitVec.ofNat 16 k)
    let s := if isRequest n then s.showOut n else s
    some (s.ringEvent n)

/-- CI of a request ring passes every freed place at the head (R250). -/
def State.advanceCi (s : State) (n : Nat) : Nat → State
  | 0 => s
  | f + 1 =>
    let r := s.ring n
    let p := r.ci.toNat % s.ringSize n
    if r.freed.contains p then
      ((s.setRing n { r with freed := r.freed.erase p }).setCi n (r.ci + 1)).advanceCi n f
    else s

/-- QFETCH k: none where R251 refuses it. -/
def State.qfetch (s : State) (n k : Nat) : Option State :=
  let r := s.ring n
  if !s.ringEn n then none
  else if isRequest n then
    if r.ready < k then none
    else
      let s := s.setRing n { r with recs := r.recs.drop k, freed := r.freed ++ r.recs.take k }
      some ((s.setCqr n (r.cqr + BitVec.ofNat 16 k)).advanceCi n (r.freed.length + k))
  else if r.used < k then none
  else some (s.setCi n (r.ci + BitVec.ofNat 16 k))

/-! ## Relay descriptors (R234, R236) -/

/-- The relay engine consumes the completion of its own descriptor, frees its slot, and counts a failure (R236). -/
def State.freeRelay (s : State) (n place status : Nat) : State :=
  match s.msh.relays.find? fun r => r.onRing == some (n, place) with
  | none => s
  | some r =>
    if s.lateDone.any fun d => d.1 == n && d.2.1 == place then s
    else
      let s := if n = 0 then s else (s.qfetch n 1).getD s
      let s := { s with msh := { s.msh with relays := s.msh.relays.erase r } }
      if status = St.OK ∨ status = St.MISMATCH_BACKOFF then s else s.bump A.MSH_RLYFAILCNT

/-- Completions that waited for a bank go on (R18). -/
def State.lateCompletions (s : State) : State :=
  s.lateDone.foldl (fun s d => (s.complete d.1 d.2.1 d.2.2).freeRelay d.1 d.2.1 d.2.2) { s with lateDone := [] }

/-! ## Abort and disable (R258 to R261) -/

/-- EN of the function that consumes ring n, coded 0 off, 1 on, 2 disabling (R261); the Pannier store and the
cadence block have no such field. -/
def State.consumerEn (s : State) (n : Nat) : Nat :=
  if 1 ≤ n ∧ n ≤ 17 then s.rd A.LNK_CTRL 15 14
  else if n = 29 then s.rd A.MSH_CTRL 15 14
  else if 32 ≤ n ∧ n ≤ 39 then s.rd A.VLT_CTRL 15 14
  else if n = 45 then s.rd A.GAU_CTRL 15 14
  else 1

/-- The function's register of EN, by ring. -/
def enRegister (n : Nat) : Option Nat :=
  if 1 ≤ n ∧ n ≤ 17 then some A.LNK_CTRL
  else if n = 29 then some A.MSH_CTRL
  else if 32 ≤ n ∧ n ≤ 39 then some A.VLT_CTRL
  else if n = 45 then some A.GAU_CTRL
  else none

/-- The completion event of a ring's descriptors (R262): LNK_TXDONE, VLT_DONE or PAN_DONE. -/
def State.fireDone (s : State) (n : Nat) : State :=
  if 1 ≤ n ∧ n ≤ 17 then s.fire 0x47 0
  else if 32 ≤ n ∧ n ≤ 39 then s.fire 0x50 0
  else if 40 ≤ n ∧ n ≤ 43 then s.fire 0x51 0
  else s

/-- A descriptor completes CANCELLED_BY_DISABLE (R261). -/
def State.cancelDesc (s : State) (n place : Nat) : State :=
  ((s.complete n place St.CANCELLED_BY_DISABLE).fireDone n).freeRelay n place St.CANCELLED_BY_DISABLE

/-- CANCEL_ON_POST (R261): the ring controller completes the descriptors posted to a ring whose consuming function
reads off or disabling, without their reaching the block. -/
def cancelOnPostEffect (ring : BitVec 6) (s : State) : State :=
  let n := ring.toNat
  if s.consumerEn n = 1 then s
  else ((s.ring n).out.filter fun d => !d.2.1).foldl (fun s d => s.cancelDesc n d.1) s

/-- CANCEL_ON_POST. -/
def execCancelOnPost (ring : BitVec 6) (s : State) : Host.Outcome State Fault Refusal :=
  .next (cancelOnPostEffect ring s)

/-- EN of a function leaves 10b (R191, R261): it reads 00b, or 01b where 01b was written in the meantime. -/
def State.enLeaves (s : State) (reg : Nat) : State :=
  if s.again.contains reg then { s.wr reg 15 14 1 with again := s.again.filter fun x => x ≠ reg } else s.wr reg 15 14 0

/-- A completion of the function's rings waits for a bank (R18). -/
def State.lateOf (s : State) (reg : Nat) : Bool := s.lateDone.any fun d => enRegister d.1 == some reg

/-- A function that is disabling and has nothing left to complete leaves 10b. -/
def State.enSettle (s : State) (reg : Nat) (busy : Bool) : State :=
  if s.rd reg 15 14 = 2 ∧ !busy ∧ !s.lateOf reg then s.enLeaves reg else s

/-- Every descriptor of the rings that is not past its commit point completes CANCELLED_BY_DISABLE (R261). -/
def State.cancelRings (s : State) (ns : List Nat) : State :=
  ns.foldl (fun s n => ((s.ring n).out.filter fun d => !d.2.2).foldl (fun s d => s.cancelDesc n d.1) s) s

/-- A write of RING and PLACE to `RING_ABORT` (R259): busy discards it. -/
def State.startAbort (s : State) (v : Nat) : State :=
  if s.flag A.RING_ABORTSTAT 15 then s.rejected Win.RING
  else { (s.setFlag A.RING_ABORTSTAT 15 true) with abortReq := some (bits v 15 10, bits v 9 0) }

end Sys2Proof.Machine
end

