-- ==== Sys2Proof/Machine/Reset.lean ====
section
/-!
DEFINITION. What a domain loses when it goes off (R12, R61, R271, R272), and the resets (R12, R405, R406, R436).
-/
namespace Sys2Proof.Machine

/-- Domain of a clock-gated unit (R287). -/
def gateDom (n : Nat) : Nat := if n < 3 then 14 else if n = 14 then 11 else 15

/-- A gate bit clears when its unit's domain leaves the on state (R287). -/
def State.clearGates (s : State) (d : Nat) : State :=
  (List.range 15).foldl (fun s n =>
    if gateDom n = d then (s.setFlag A.CLK_GATE n false).setFlag A.CLK_GATESTAT n false else s) s

/-- The registers of a domain at DOM reset, with what was written to an EN field while it read 10b. Those of source POR
keep their values (the RF store of R126), and so do the two RWL registers of PD15 while the AON store of R273 holds
them. -/
def State.domRegs (s : State) (d : Nat) : State :=
  { s.resetRegs fun r => r.dom == d && r.src == .dom
      && !(s.wflStore.isSome && (r.base == A.WFL_RXBASE || r.base == A.WFL_RSPBASE)) with
    again := s.again.filter fun a => match findReg a with
      | some (r, _, _) => r.dom != d
      | none => true }

/-- Engine k's part of a move of its domain to off (R61): memories and registers lost, LOADED cleared, STATE 000b;
the bit errors that stood in its memories and the accesses it waited for are gone. -/
def State.engineOff (s : State) (k : Fin 8) : State :=
  let e := s.eng[k]
  let s := { s with eng := s.eng.set k { Engine.init with passSince := e.passSince }
                    ecc := s.ecc.filter fun x => x.mem != k.val + 1 && x.mem != k.val + 9
                    waits := s.waits.filter fun w => w.who != Initiator.engine k && (k.val ≠ 0 || w.who != Initiator.service) }
  let s := (s.wr (A.ENG_STAT k) 15 10 0)
  if k.val = 0 then { s with svc := Bank.service, svcRun := false, romIn := false } else s

/-- What blocks hold of rings that PD8 loses (R255): the descriptors of the operations they run are gone, and so are the
places that lanes and the frame engine had reserved. An operation that goes on completes no descriptor. -/
def State.loseRefs (s : State) : State :=
  let op (o : RfOp) : RfOp := { o with desc := o.desc.filter fun d => d.1 == 0 }
  let chain (r : Rf) : Rf := { r with next := r.next.map op, op := r.op.map op, waiting := r.waiting.map op }
  { s with
    rings := Vector.replicate 64 Ring.init, lateDone := []
    rf := s.rf.map chain
    lane := s.lane.map fun l => { l with frame := l.frame.map fun f =>
      { f with place := none, waitsPlace := false, unplaced := f.unplaced || f.place.isSome || f.waitsPlace } }
    lnk := { s.lnk with judging := s.lnk.judging.map fun j => { j with frame := { j.frame with place := none, unplaced := true } }
                        ackOut := s.lnk.ackOut.map fun a => a.map fun x => { x with place := none } }
    msh := { s.msh with relays := s.msh.relays.filter fun r => (r.onRing.map (·.1)).getD 0 == 0
                        holdWait := s.msh.holdWait.map fun h => { h with place := none } }
    vlt := { s.vlt with ops := s.vlt.ops.filter fun o => o.ring == 64 }
    gau := { s.gau with conv := s.gau.conv.map fun c => c.map fun x => { x with request := none }
                        dacBusy := s.gau.dacBusy.map fun d => d.map fun x => ([], x.2) }
    pan := [] }

/-- What a domain's blocks lose when the domain goes off (R271, R272). Requests that the vault had not brought to
their commit point wait for its wake (R278). -/
def State.loseBlocks (s : State) (d : Nat) : State :=
  if d < 8 then s.engineOff (Fin.ofNat 8 d)
  else if d = 8 then
    let lost := (List.range 64).filter fun n => !(s.ring n).out.isEmpty || (s.ring n).holder.isSome
    let s := s.domRegs 8
    let s := { s.loseRefs with patterns := [], abortReq := none, waits := s.waits.filter fun w => w.dom.isSome
                               ecc := s.ecc.filter fun e => !(e.mem == 0 && e.addr < 0x2000) }
    lost.foldl (fun s n => s.setFlag (A.RING_STAT n) 13 true) s
  else if d = 9 then
    let s := s.domRegs 9
    { s with dict := { s.dict with writing := none } }
  else if d = 10 then
    let s := s.domRegs 10
    { s with seq := Seq.init, cbl := Cables.init, ntRun := false, cad := { s.cad with snapShadow := none } }
  else if d = 11 then
    let s := s.domRegs 11
    { s with lnk := Lnk.init, msh := { Msh.init with restoreDue := true }, lane := Vector.replicate 10 Lane.init }.mwGo
  else if d = 12 then
    let valid := s.rd (A.RF_STAT .A) 11 11
    let s := (s.domRegs 12).wr (A.RF_STAT .A) 11 11 valid
    { s with rf := s.rf.set 0 { Rf.init with store := (s.rf[0]).store } }
  else if d = 13 then
    let valid := s.rd (A.RF_STAT .B) 11 11
    let s := (s.domRegs 13).wr (A.RF_STAT .B) 11 11 valid
    { s with rf := s.rf.set 1 { Rf.init with store := (s.rf[1]).store } }
  else if d = 14 then
    let s := s.domRegs 14
    let own := s.vlt.ops.filter fun o => o.ring == 64
    let s := s.vlt.ops.foldl (fun s o => if o.ring = 64 then s else s.markOut o.ring o.place false false) s
    { s with vlt := { s.vlt with
      slots := [], ops := [], svcWait := own ++ s.vlt.svcWait, nonceWait := [], calls := 0, reseeding := false } }
  else if d = 15 then
    let s := s.domRegs 15
    { s with cad := { Cad.init with snapShadow := s.cad.snapShadow }, gau := Gau.init, ser := Vector.replicate 6 Serial.init, pan := []
             wfl := { s.wfl with header := none, latched := false, lastCmd := none, slot := none,
                                 pend := [], posted := 0 } }
  else s

/-- Banks lose their words when they go off (R271). -/
def State.bankOff (s : State) (b : Nat) : State :=
  { s.setBankState b 0 with
    sram := s.sram.filter fun c => bankOf c.1 != b
    ecc := s.ecc.filter fun e => !((inSram e.addr && bankOf e.addr == b) || e.onCanary b) }

/-- Domain d goes off: its state is what a later wake finds after DOM reset. PD8 takes its banks with it. -/
def State.domOff (s : State) (d : Nat) : State :=
  let s := ((s.loseBlocks d).clearGates d).setDomState d 0
  if d = 8 then (List.range 32).foldl (fun s b => s.bankOff b) s else s

/-- Every switched domain goes off at once, without PREPARE (R12). -/
def State.allOff (s : State) : State := (List.range 16).foldl (fun s d => s.domOff d) s

/-- A new unlock challenge is drawn (R355). -/
def State.drawChallenge (s : State) : State :=
  let r := s.draw 64
  r.2.wrw A.VLT_DBGCHAL 4 r.1.toNat

/-- A SOFT reset (R12, R353, R355, R405, R406): every switched domain off, gear G0, PLL stopped, measurements zero,
the debug lock set if the root was accepted, a new challenge, the cause, and the start set queued. -/
def State.softReset (s : State) (cause : Nat) : State :=
  let accepted := s.on 14 && s.rd A.VLT_STAT 15 14 == 1
  let s := { s with wflStore := none }
  let s := s.allOff
  let s := (s.setWord A.PWR_GEAR 0).setFlag A.CLK_STAT 10 false
  let s := { s with
    clk := { s.clk with pllRun := false, pllWait := false }
    vlt := { s.vlt with meas0 := 0, meas1 := 0, dbglock := s.vlt.dbglock || accepted, svcWait := [], svcDone := [] }
    pwr := { s.pwr with current := none, thenRetain := false, latched := none, moving := [] }
    waits := [], portWaits := [], lateDone := [], again := [], dbgHalt := false, selfTest := none
    dict := { Dict.init with settings := s.dict.settings, formats := s.dict.formats, origins := s.dict.origins }
    upd := { s.upd with mwq := [], mwBusy := none, switchAt := none, copied := false, reloaded := 0, booting := .power, switching := false,
                          calibrated := [], noXo := false } }
  let s := (s.wr A.ENG_TEST 15 15 0).wr A.SYS_MWSTAT 15 15 0
  let s := s.wr A.PWR_XSTAT 15 8 0
  let s := s.wr A.SYS_RESETCAUSE 3 0 cause
  (s.drawChallenge).setQueue startSet

/-- A power-on or brown-out reset (R12, R405): the reset state over what survives without power or comes from
outside the part: MRAM and the vault's, dictionary's and update's records in it, supplies and ball levels. -/
def State.powerOn (s : State) (cause : Nat) : State :=
  let r : State := { State.reset with
    pending := s.pending, freeCtr := s.freeCtr, mram := s.mram
    gpioIn := s.gpioIn, coexGnt := s.coexGnt, vio1 := s.vio1, vio2 := s.vio2
    pwr := { State.reset.pwr with pins := s.pwr.pins }
    wfl := { State.reset.wfl with chainIn := s.wfl.chainIn }
    vlt := { State.reset.vlt with stored := s.vlt.stored, corrupt := s.vlt.corrupt, enrolled := s.vlt.enrolled,
                                  pufGood := s.vlt.pufGood, root := s.vlt.root, lmsq := s.vlt.lmsq }
    dict := { State.reset.dict with settings := s.dict.settings, formats := s.dict.formats
                                    origins := s.dict.origins }
    upd := { State.reset.upd with
      boots := s.upd.boots, retSet := s.upd.retSet, first := s.upd.first, reint0 := s.upd.reint0
      inStore := s.upd.inStore, store := s.upd.store, received := s.upd.received, stState := s.upd.stState
      reason := s.upd.reason } }
  (r.wr A.SYS_RESETCAUSE 3 0 cause).drawChallenge

/-- POWER_ON_RESET (R12, R405). -/
def execPowerOnReset (s : State) : Host.Outcome State Fault Refusal := .next (s.powerOn 1)

/-- BROWN_OUT (R436): POR with CAUSE 2h. -/
def execBrownOut (s : State) : Host.Outcome State Fault Refusal := .next (s.powerOn 2)

/-- OVER_TEMPERATURE (R436): the brown-out reset. -/
def execOverTemperature (s : State) : Host.Outcome State Fault Refusal := .next (s.powerOn 2)

/-- JTAG_SYSTEM_RESET (R405): SOFT with CAUSE 5h. -/
def execJtagSystemReset (s : State) : Host.Outcome State Fault Refusal := .next (s.softReset 5)

/-- SYSTEM_RESET (R405): EXEC D000h.04 performs a SOFT reset with CAUSE 3h. -/
def State.systemReset (s : State) : State := s.softReset 3

end Sys2Proof.Machine
end

