-- ==== Sys2Proof/Machine/Cadence.lean ====
section
/-!
DEFINITION. The cadence block (R299 to R312): sleep counter and network time, wake compares, capture/compare
channels, snapshot, pin levels (R324, R325), and PPS.
-/
namespace Sys2Proof.Machine

/-! ## The two counters -/

/-- The fabric has a qualified clock: XO32M, or the 16 MHz RC that stands in (R272, R290). -/
def State.clocked (s : State) : Bool := s.flag A.CLK_STAT 15 || s.flag A.CLK_STAT 14

/-- One network-time tick: the counter runs while PD10 is on and time is known (R299, R300). -/
def State.tick (s : State) : State := if s.ntRun then s.addTime 8 else s

/-- SLEEP_COUNTER_EDGE (R299, R300): the sleep counter counts, and while network time runs the edge is timestamped
into the pair kept in AON. -/
def sleepCounterEdgeEffect (s : State) : State :=
  let s := { s with sleep := s.sleep + 1 }
  if s.ntRun then { s with pair := some (s.sleep, s.nt) } else s

/-- SLEEP_COUNTER_EDGE. -/
def execSleepCounterEdge (s : State) : Host.Outcome State Fault Refusal := .next (sleepCounterEdgeEffect s)

/-- Network time at sleep edge sc_w from the pair kept (R300), in fractions of 1/8 unit: 7,812.5 fractions a sleep
tick, a half rounded up. Without a pair, 0. -/
def rebuiltTime (pair : Option (BitVec 48 × BitVec 67)) (w : BitVec 48) : BitVec 67 :=
  match pair with
  | none => 0
  | some (a, nt) => nt + BitVec.ofNat 67 (((w - a).toNat * 15625 + 1) / 2)

/-- Network time may run (R300): not in COMMIT of an entry of PD10, nor before the clock step of PD10's wake. -/
def State.ntMayRun (s : State) : Bool := match s.pwr.current with
  | some (t, .wake k) => t.dom != 10 || decide (2 ≤ k)
  | some (t, .commit) => t.dom != 10
  | _ => true

/-- NT_REBUILD (R300, R306): at the next sleep-counter edge after PD10 wakes, or after a change of the clock behind
network time (R295, R297), network time is set from the sleep counter and counting resumes on a qualified source. -/
def ntRebuildEffect (s : State) : State :=
  if s.ntRun || s.domState 10 < 2 || !s.clocked || !s.ntMayRun then s
  else
    let s := { s with sleep := s.sleep + 1 }
    let t := rebuiltTime s.pair s.sleep
    { s with nt := t, ntRun := true, pair := some (s.sleep, t) }

/-- NT_REBUILD. -/
def execNtRebuild (s : State) : Host.Outcome State Fault Refusal := .next (ntRebuildEffect s)

/-! ## Wake compares (R301) -/

/-- A wake compare's target is set and armed (R44, R302). -/
def State.armWake (s : State) (n target : Nat) : State :=
  (s.wrw (A.CAD_WC n) 3 target).setFlag A.CAD_WCSTAT n true

/-- WAKE_COMPARE_MATCH (R275, R276, R281, R301): the sleep counter has reached the target: disarmed, FIRED set, and
wake source n raised. -/
def wakeCompareMatchEffect (n : Fin 8) (s : State) : State :=
  if s.flag A.CAD_WCSTAT n && s.rdw (A.CAD_WC n) 3 ≤ s.sleep.toNat then
    let s := (s.setFlag A.CAD_WCSTAT n false).setFlag A.CAD_WCSTAT (8 + n) true
    if s.flag (A.PWR_WSRC n) 15 then
      ((s.setFlag A.PWR_WPEND n true).wakeRequest n false false).wakeLevels
    else s
  else s

/-- WAKE_COMPARE_MATCH. -/
def execWakeCompareMatch (n : Fin 8) (s : State) : Host.Outcome State Fault Refusal :=
  .next (wakeCompareMatchEffect n s)

/-- sc(instant) of R44: the sleep-counter value at a network time, from the latest pair. -/
def State.sleepAt (s : State) (instant : Nat) : Int :=
  match s.pair with
  | none => (s.sleep.toNat : Int) + Int.fdiv ((((instant * 8 : Nat) : Int) - s.nt.toNat) * 2) 15625
  | some (a, nt) => (a.toNat : Int) + Int.fdiv ((((instant * 8 : Nat) : Int) - nt.toNat) * 2) 15625

/-- WAKECMP (R44): the entry's wake compare takes sc(instant) + floor(delta × 64 / 62500). -/
def wakecmpEffect (s : State) : State :=
  match s.takeAct 0x25 with
  | none => s
  | some (a, s) =>
    let delta := a.arg 1 + 65536 * a.arg 2
    s.armWake (bits (a.arg 0) 2 0) (unsigned 48 (s.sleepAt a.instant + ((delta * 64 / 62500 : Nat) : Int)))

/-- WAKECMP. -/
def execWakecmp (s : State) : Host.Outcome State Fault Refusal := .next (wakecmpEffect s)

/-! ## Compares (R302 to R306) -/

/-- `CAD_CCn_CFG.MODE`. -/
def State.ccMode (s : State) (n : Nat) : Nat := s.rd (A.CAD_CC_CFG n) 15 13

/-- The channel is in a compare mode. -/
def State.ccCompares (s : State) (n : Nat) : Bool := s.ccMode n == 1 || s.ccMode n == 2

/-- Target of channel n. -/
def State.ccTarget (s : State) (n : Nat) : Nat := s.rdw (A.CAD_CC_TGT n) 4

/-- Period of channel n. -/
def State.ccPeriod (s : State) (n : Nat) : Nat := s.rdw (A.CAD_CC_PER n) 2

/-- The channel's plain state. -/
def State.cc (s : State) (n : Nat) : CcChan := vget s.cad.cc n CcChan.init

/-- The channel's plain state replaced. -/
def State.setCc (s : State) (n : Nat) (c : CcChan) : State :=
  { s with cad := { s.cad with cc := vset s.cad.cc n c } }

/-- A target is taken (R302, R305): it arms a channel in a compare mode and is a value only in any other. -/
def State.takeTarget (s : State) (n target : Nat) : State :=
  let s := s.wrw (A.CAD_CC_TGT n) 4 target
  let s := s.setCc n { s.cc n with formed := s.ccPeriod n, rebase := false }
  s.setFlag (A.CAD_CC_STAT n) 12 (s.ccCompares n)

/-- A compare fires (R303): FIRED and producer CCn, hop 0. -/
def State.ccFired (s : State) (n : Nat) : State := (s.setFlag (A.CAD_CC_STAT n) 11 true).fire (0x30 + n) 0

/-- The next target of a periodic channel is formed (R304): where it has already passed, the channel fires again at once
(its next COMPARE_FIRE), and that firing rebases. -/
def State.nextTarget (s : State) (n t : Nat) : State :=
  (s.wrw (A.CAD_CC_TGT n) 4 (t % 2 ^ 64)).setCc n
    { s.cc n with formed := s.ccPeriod n, rebase := decide (t ≤ s.now) }

/-- A periodic channel has fired (R304): its next target is the one fired + PER, or where the channel rebases network
time + PER, with REBASED. -/
def State.periodFired (s : State) (n t : Nat) : State :=
  if (s.cc n).rebase then (s.setFlag (A.CAD_CC_STAT n) 13 true).nextTarget n (s.now + s.ccPeriod n)
  else s.nextTarget n (t + s.ccPeriod n)

/-- COMPARE_FIRE (R303, R304, R306): an armed channel whose target network time has reached fires while PD10 and
PD15 are on; single mode disarms it, periodic mode forms the next target. -/
def compareFireEffect (n : Fin 8) (s : State) : State :=
  if s.flag (A.CAD_CC_STAT n) 12 && s.ccCompares n && s.on 10 && s.on 15 && s.ntRun && s.ccTarget n ≤ s.now then
    let t := s.ccTarget n
    let s := s.ccFired n
    if s.ccMode n = 1 then s.setFlag (A.CAD_CC_STAT n) 12 false else s.periodFired n t
  else s

/-- COMPARE_FIRE. -/
def execCompareFire (n : Fin 8) (s : State) : Host.Outcome State Fault Refusal := .next (compareFireEffect n s)

/-- The pending target follows a write of PER (R304): anchor + the new PER, with the same test. -/
def State.periodWritten (s : State) (n : Nat) : State :=
  if s.ccMode n = 2 && s.flag (A.CAD_CC_STAT n) 12 then
    s.nextTarget n ((s.ccTarget n + 2 ^ 64 - (s.cc n).formed) % 2 ^ 64 + s.ccPeriod n)
  else s

/-- A write of MODE (R305): off or capture disarms. -/
def State.modeWritten (s : State) (n : Nat) : State :=
  if s.ccCompares n then s else s.setFlag (A.CAD_CC_STAT n) 12 false

/-! ## Captures (R307 to R310) -/

/-- A generic record on a ring under R256: TAG counts the records posted, which a dropped one does not take. Answers
whether it was posted. -/
def State.capturePost (s : State) (n : Nat) : State :=
  if !s.flag (A.CAD_CC_CFG n) 10 then s
  else
    let ws : List W16 := [s.cad.posted, BitVec.ofNat 16 (n * 256)] ++ toWords 4 (s.rdw (A.CAD_CC_RISE n) 4)
      ++ toWords 4 (s.rdw (A.CAD_CC_FALL n) 4) ++ toWords 2 (s.rdw (A.CAD_CC_WIDTH n) 2)
      ++ [if s.flag (A.CAD_CC_STAT n) 14 then 0x8000 else 0, 0, 0, 0]
    match s.post 46 10 ws with
    | (true, s) => { s with cad := { s.cad with posted := s.cad.posted + 1 } }
    | (false, s) => s.bump A.CAD_DROPCNT

/-- A pair completes (R308, R310): NEW, or OVW as well if NEW was set; then the record. -/
def State.pairLands (s : State) (n : Nat) : State :=
  let s := if s.flag (A.CAD_CC_STAT n) 15 then s.setFlag (A.CAD_CC_STAT n) 14 true else s
  (s.setFlag (A.CAD_CC_STAT n) 15 true).capturePost n

/-- GPIO pin number 8p + i has FUNC 01b (R324). -/
def State.funcOn (s : State) (pin : Nat) : Bool := s.rd (A.PER_P_FUNC (pin / 8)) (2 * (pin % 8) + 1) (2 * (pin % 8)) == 1

/-- Ball of input CAPn (R324): P0.0–P0.3 and P1.0–P1.3. -/
def capPin (n : Nat) : Nat := if n < 4 then n else n + 4

/-- CAPTURE_EDGE (R307): an edge at ball CAPn now, `rising` as the pin shows it. -/
def captureEdgeEffect (n : Fin 8) (rising : Bool) (s : State) : State :=
  if !(s.ccMode n == 3 && s.on 15 && s.on 10 && s.ntRun && s.funcOn (capPin n) && s.vio1) then s
  else
    let up := rising != s.flag (A.CAD_CC_CFG n) 9
    let t := s.now % 2 ^ 64
    match s.rd (A.CAD_CC_CFG n) 12 11, up with
    | 1, true => ((s.wrw (A.CAD_CC_RISE n) 4 t).pairLands n).fire (0x30 + n) 0
    | 2, false => ((s.wrw (A.CAD_CC_FALL n) 4 t).pairLands n).fire (0x30 + n) 0
    | 3, true => (s.setCc n { s.cc n with heldRise := some t }).fire (0x30 + n) 0
    | 3, false =>
      match (s.cc n).heldRise with
      | none => s
      | some r =>
        let s := (s.wrw (A.CAD_CC_RISE n) 4 r).wrw (A.CAD_CC_FALL n) 4 t
        let s := s.wrw (A.CAD_CC_WIDTH n) 2 (unsigned 32 ((t : Int) - r))
        ((s.setCc n { s.cc n with heldRise := none }).pairLands n).fire (0x30 + n) 0
    | _, _ => s

/-- CAPTURE_EDGE. -/
def execCaptureEdge (n : Fin 8) (rising : Bool) (s : State) : Host.Outcome State Fault Refusal :=
  .next (captureEdgeEffect n rising s)

/-- CAD_CAP (R309): an event at CAD_CAPn latches network time into the pair and fires CCn with its own hop count. -/
def cadCapEffect (n : Fin 8) (s : State) : State :=
  s.onEvent (0x34 + n) false fun hop _ _ s =>
    let t := s.now % 2 ^ 64
    let s := ((s.wrw (A.CAD_CC_RISE n) 4 t).wrw (A.CAD_CC_FALL n) 4 t).wrw (A.CAD_CC_WIDTH n) 2 0
    (s.pairLands n).fire (0x30 + n) hop

/-- CAD_CAP. -/
def execCadCap (n : Fin 8) (s : State) : Host.Outcome State Fault Refusal := .next (cadCapEffect n s)

/-- CAD_NTSNAP (R309). -/
def cadNtsnapEffect (s : State) : State :=
  s.onEvent 0x3E false fun _ _ _ s => s.wrw A.CAD_SNAP 4 (s.now % 2 ^ 64)

/-- CAD_NTSNAP. -/
def execCadNtsnap (s : State) : Host.Outcome State Fault Refusal := .next (cadNtsnapEffect s)

/-- The latch of a read of RISE word 0 (R308): RISE, FALL and WIDTH into the shadow, NEW cleared. -/
def State.latchPair (s : State) (n : Nat) : State :=
  (s.setCc n { s.cc n with
    shadow := some (s.rdw (A.CAD_CC_RISE n) 4, s.rdw (A.CAD_CC_FALL n) 4, s.rdw (A.CAD_CC_WIDTH n) 2) }).setFlag
    (A.CAD_CC_STAT n) 15 false

/-- The latch of a read of `CAD_SNAP` word 0 (R308). -/
def State.latchSnap (s : State) : State := { s with cad := { s.cad with snapShadow := some (s.rdw A.CAD_SNAP 4) } }

/-! ## Ring 47 (R311) -/

/-- Words 14 and 15 of a generic request are 0 (R256). -/
def State.genericOk (s : State) (n p : Nat) : Bool := s.placeWord n p 14 == 0 && s.placeWord n p 15 == 0

/-- ARM (R302, R304, R311): the request at the head of ring 47. -/
def State.armRequest (s : State) (p : Nat) : State :=
  let ch := (s.placeWord 47 p 2).toNat
  let per := ofWords [s.placeWord 47 p 7, s.placeWord 47 p 8]
  let s := s.fetched 47 p true
  if ch > 7 || !s.ccCompares ch || (s.ccMode ch == 2 && per == 0) then s.completeGeneric 47 p St.BAD_DESCRIPTOR 0
  else
    let s := s.wrw (A.CAD_CC_PER ch) 2 per
    (s.takeTarget ch (ofWords ((List.range 4).map fun k => s.placeWord 47 p (3 + k)))).completeGeneric 47 p St.OK 0

/-- DISARM (R311). -/
def State.disarmRequest (s : State) (p : Nat) : State :=
  let ch := (s.placeWord 47 p 2).toNat
  let s := s.fetched 47 p true
  if ch > 7 then s.completeGeneric 47 p St.BAD_DESCRIPTOR 0
  else (s.setFlag (A.CAD_CC_STAT ch) 12 false).completeGeneric 47 p St.OK 0

/-- The cadence block accepts the next request of ring 47 if it is the row's own operation, or one no row owns,
which completes BAD_DESCRIPTOR (R256, R311). -/
def State.ring47 (s : State) (op : Nat) : State :=
  if !s.on 15 then s
  else match s.nextDesc 47 with
    | none => s
    | some p =>
      let w := (s.placeWord 47 p 1).toNat
      if !(s.fetchDesc 47 p).1 then (s.fetchDesc 47 p).2
      else if s.placeLost 47 p then (s.fetched 47 p true).completeGeneric 47 p St.BANK_LOST 0
      else if bits w 15 8 = op ∧ bits w 7 0 = 0 ∧ s.genericOk 47 p then
        if op = 1 then s.armRequest p else s.disarmRequest p
      else if (bits w 15 8 = 1 ∨ bits w 15 8 = 2) ∧ bits w 7 0 = 0 ∧ s.genericOk 47 p then s
      else (s.fetched 47 p true).completeGeneric 47 p St.BAD_DESCRIPTOR 0

/-- ARM. -/
def execArm (s : State) : Host.Outcome State Fault Refusal := .next (s.ring47 1)

/-- DISARM. -/
def execDisarm (s : State) : Host.Outcome State Fault Refusal := .next (s.ring47 2)

/-! ## Pins (R324, R325) -/

/-- Supply of a pin's ring is present (R324, R433). -/
def State.pinSupplied (s : State) (pin : Nat) : Bool := if pin < 24 then s.vio1 else s.vio2

/-- Level that the part drives on a pin (R312, R324, R325), unless outputs are forced to their safe state (R295, R432):
the OUT bit with DIR 1 and FUNC 00b, and the PPS output at P2.6 with FUNC 01b. -/
def State.pinOwn (s : State) (pin : Nat) : Option Bool :=
  let func := s.rd (A.PER_P_FUNC (pin / 8)) (2 * (pin % 8) + 1) (2 * (pin % 8))
  if s.flag A.CLK_STAT 9 then none
  else if func == 0 && s.flag (A.PER_P_DIR (pin / 8)) (pin % 8) then some (s.flag (A.PER_P_OUT (pin / 8)) (pin % 8))
  else if pin == 22 && func == 1 then some (s.cad.ppsHigh != s.flag A.CAD_PPSCFG 14)
  else none

/-- The part drives the pin. -/
def State.pinDriven (s : State) (pin : Nat) : Bool := (s.pinOwn pin).isSome

/-- Level at a pin as its input reads it: what it drives, or what stands at the ball; 0 on an absent ring. -/
def State.pinLevel (s : State) (pin : Nat) : Bool := s.pinSupplied pin && (s.pinOwn pin).getD (s.gpioIn.getLsbD pin)

/-- `PER_Pp_IN` as a read shows it. -/
def State.portIn (s : State) (p : Nat) : W16 :=
  BitVec.ofNat 16 ((List.range 8).foldl (fun v i => if s.pinLevel (8 * p + i) then v + 2 ^ i else v) 0)

/-- An edge of a pin's level (R325): one that its EVT field selects sets EVTFLAG, and a newly set flag fires PER_GPIOA or
PER_GPIOB. -/
def State.pinEdge (s : State) (pin : Nat) (rising : Bool) : State :=
  let p := pin / 8
  let i := pin % 8
  let sel := s.rd (A.PER_P_EVT p) (2 * i + 1) (2 * i)
  if s.on 15 && (if rising then sel % 2 == 1 else 2 ≤ sel) && !s.flag (A.PER_P_EVTFLAG p) i then
    (s.setFlag (A.PER_P_EVTFLAG p) i true).fire (if p < 3 then 0x57 else 0x58) 0
  else s

/-- Edges of pins whose level the part itself has changed since `was`, by OUT, DIR, FUNC or the PPS
output (R325, log entry 111). -/
def State.ownEdges (s was : State) : State :=
  (List.range 48).foldl (fun s pin =>
    if s.pinLevel pin = was.pinLevel pin then s else s.pinEdge pin (s.pinLevel pin)) s

/-! ## PPS (R312) -/

/-- A PPS pulse starts: the leading edge fires CAD_PPS. -/
def State.ppsStart (s : State) (hop : Nat) : State :=
  let t := { s with cad := { s.cad with ppsHigh := true, ppsHop := hop } }
  ((t.ownEdges s).setFlag (A.CBL_CONS 0x3C) 0 true).fire 0x39 hop

/-- CAD_PPSOUT (R269, R312): an event starts a pulse unless the pulse is high. -/
def cadPpsoutEffect (s : State) : State := s.onEvent 0x3C s.cad.ppsHigh fun hop _ _ s => s.ppsStart hop

/-- CAD_PPSOUT. -/
def execCadPpsout (s : State) : Host.Outcome State Fault Refusal := .next (cadPpsoutEffect s)

/-- PPS_AUTO (R312): with AUTO set, a pulse starts where network time is a multiple of 32,000,000 units. -/
def ppsAutoEffect (s : State) : State :=
  if s.flag A.CAD_PPSCFG 15 && s.on 10 && s.on 15 && s.ntRun && s.now % 32000000 == 0 && !s.cad.ppsHigh then s.ppsStart 0
  else s

/-- PPS_AUTO. -/
def execPpsAuto (s : State) : Host.Outcome State Fault Refusal := .next (ppsAutoEffect s)

/-- PPS_PULSE_END (R312): after WIDTH × 10 µs. -/
def ppsPulseEndEffect (s : State) : State :=
  let t := { s with cad := { s.cad with ppsHigh := false } }
  (t.ownEdges s).setFlag (A.CBL_CONS 0x3C) 0 false

/-- PPS_PULSE_END. -/
def execPpsPulseEnd (s : State) : Host.Outcome State Fault Refusal := .next (ppsPulseEndEffect s)

/-- PPS_INPUT_EDGE (R312, R324): an active edge on P2.7, polarity IPOL, fires PPS_IN. -/
def ppsInputEdgeEffect (rising : Bool) (s : State) : State :=
  if s.on 15 && s.funcOn 23 && s.vio1 && rising != s.flag A.CAD_PPSCFG 13 then s.fire 0x5C 0 else s

/-- PPS_INPUT_EDGE. -/
def execPpsInputEdge (rising : Bool) (s : State) : Host.Outcome State Fault Refusal :=
  .next (ppsInputEdgeEffect rising s)

/-- The words of the window as a read shows them where they are counters or shadows (R299, R308); none elsewhere. -/
def State.cadView (s : State) (a : Nat) : Option W16 :=
  if 0x405002 ≤ a ∧ a ≤ 0x405004 then some (BitVec.ofNat 16 (s.sleep.toNat / 2 ^ (16 * (a - 0x405002))))
  else if 0x405040 ≤ a ∧ a ≤ 0x405043 then some (BitVec.ofNat 16 (s.now / 2 ^ (16 * (a - 0x405040))))
  else if 0x405045 ≤ a ∧ a ≤ 0x405047 then
    s.cad.snapShadow.map fun v => BitVec.ofNat 16 (v / 2 ^ (16 * (a - 0x405044)))
  else if 0x405100 ≤ a ∧ a < 0x405200 then
    let n := (a - 0x405100) / 0x20
    let o := (a - 0x405100) % 0x20
    match (s.cc n).shadow with
    | none => none
    | some (r, f, w) =>
      if 9 ≤ o ∧ o ≤ 0xB then some (BitVec.ofNat 16 (r / 2 ^ (16 * (o - 8))))
      else if 0xC ≤ o ∧ o ≤ 0xF then some (BitVec.ofNat 16 (f / 2 ^ (16 * (o - 0xC))))
      else if 0x10 ≤ o ∧ o ≤ 0x11 then some (BitVec.ofNat 16 (w / 2 ^ (16 * (o - 0x10))))
      else none
  else none

end Sys2Proof.Machine
end

