-- ==== Sys2Proof/Machine/Gauge.lean ====
section
/-!
DEFINITION. The gauge front end (R313 to R323), GPIO (R325), and the disabling of a function with an EN field
(R261), which other blocks share.
-/
namespace Sys2Proof.Machine

/-! ## Functions with an EN field (R261) -/

/-- EN of a function is written 00b: descriptors before their commit point complete CANCELLED_BY_DISABLE, and EN
reads 10b while work past it runs. -/
def State.disableFn (s : State) (reg : Nat) (rings : List Nat) (busy : Bool) : State :=
  (s.cancelRings rings).wr reg 15 14 (if busy then 2 else 0)


/-- A request for work opens the clock gate of its unit (R288). -/
def State.openGate (s : State) (n : Nat) : State :=
  if s.flag A.CLK_GATE n then (s.setFlag A.CLK_GATE n false).setFlag A.CLK_GATESTAT n false else s

/-! ## Conversions -/

/-- The conversion in progress on a converter. -/
def State.conv (s : State) (c : Conv) : Option Conversion := vget s.gau.conv c.ix none

/-- A converter's conversion begins or ends; `GAU_CTRL.BUSY` and the consumer's BUSY follow (R263, R319). -/
def State.setConv (s : State) (c : Conv) (v : Option Conversion) : State :=
  let s := { s with gau := { s.gau with conv := vset s.gau.conv c.ix v } }
  (s.setFlag A.GAU_CTRL c.ix v.isSome).setFlag (A.CBL_CONS (0x29 + c.ix)) 0 v.isSome

/-- Work of the gauge past its commit point: conversions, and loads that requests made. -/
def State.gaugeBusy (s : State) : Bool :=
  s.gau.conv.toList.any Option.isSome || s.gau.dacBusy.toList.any fun b => match b with
    | some (p, _) => !p.isEmpty
    | none => false

/-- The settings that a conversion runs with to its end. -/
def State.convCfg (s : State) (c : Conv) : W16 :=
  match c with
  | .sd0 => s.word (A.GAU_SD_CFG 0)
  | .sd1 => s.word (A.GAU_SD_CFG 1)
  | .sar => s.word A.GAU_SARSEQ &&& 0x01FF

/-- A conversion starts now (R313, R319); its START is its commit point. -/
def State.startConv (s : State) (c : Conv) (trig hop : Nat) (coal : Bool) (req : Option Nat) : State :=
  let s := s.openGate (if c = .sar then 5 else 4)
  s.setConv c (some ⟨s.now, trig, coal, hop, s.convCfg c, req⟩)

/-- CONVERSION_START (R269, R313, R319). -/
def conversionStartEffect (c : Conv) (s : State) : State :=
  s.onEvent (0x29 + c.ix) (s.conv c).isSome fun hop cable coal s =>
    if s.rd A.GAU_CTRL 15 14 = 1 then s.startConv c cable hop coal none else s

/-- CONVERSION_START. -/
def execConversionStart (c : Conv) (s : State) : Host.Outcome State Fault Refusal :=
  .next (conversionStartEffect c s)

/-- The first status of R317 that applies. -/
def convStatus (refFault excFault openInput overRange : Bool) : Nat :=
  if refFault then St.REF_FAULT else if excFault then St.EXCITATION_FAULT
  else if openInput then St.OPEN_INPUT else if overRange then St.OVERRANGE else St.OK

/-- A conversion's excitation source is on (R314, R315): by AUTOEX of its settings, or by its own EN, with a CURRENT code
other than 0. -/
def State.excites (s : State) (cfg : W16) : Bool :=
  let iex := A.GAU_IEX (bits cfg.toNat 6 6)
  (cfg.getLsbD 7 || s.flag iex 15) && s.rd iex 2 0 != 0

/-- A sigma-delta result as delivered: 24 bits, saturated when the modulator overloads (R314, R317). -/
def sdResult (raw : BitVec 24) (overRange : Bool) : Int :=
  if overRange then (if raw.msb then -8388608 else 8388607) else raw.toInt

/-- Result against its limits (R318): a result outside them after one inside fires GAU_LIMIT. -/
def State.limit (s : State) (src hop : Nat) (inside : Bool) : State :=
  if !s.flag A.GAU_LIMCFG (4 + src) then s
  else
    let was := vget s.gau.inside src true
    let s := { s with gau := { s.gau with inside := vset s.gau.inside src inside } }
    if was && !inside then s.fire 0x3D hop else s

/-- A sigma-delta result lies inside its limits, compared as result[23:8], signed (R318). -/
def State.sdInside (s : State) (n : Nat) (r : Int) : Bool :=
  let v := Int.fdiv r 256
  decide (signed 16 (s.word (A.GAU_LIM_LO n)).toNat ≤ v) && decide (v ≤ signed 16 (s.word (A.GAU_LIM_HI n)).toNat)

/-- A SAR result lies inside its limits, unsigned (R318). -/
def State.sarInside (s : State) (v : W16) : Bool :=
  decide ((s.word (A.GAU_LIM_LO 2)).toNat ≤ v.toNat) && decide (v.toNat ≤ (s.word (A.GAU_LIM_HI 2)).toNat)

/-- Channels of a SAR sequence mask in increasing order (R316). -/
def sarChannels (mask : W16) : List Nat := (List.range 9).filter fun i => mask.getLsbD i

/-- The record of R320. -/
def State.convRecord (s : State) (c : Conv) (v : Conversion) (status : Nat) (raw : BitVec 24) (sar : List W16)
    (overRange : Bool) : List W16 :=
  let tail : List W16 := match c with
    | .sar => (List.range 8).map fun i => if i < (sarChannels v.cfg).length then sar.getD i 0 else 0
    | _ => toWords 2 (unsigned 32 (sdResult raw overRange)) ++ List.replicate 6 0
  [s.gau.posted, BitVec.ofNat 16 (c.ix * 256 + status)] ++ toWords 4 v.start
    ++ [BitVec.ofNat 16 ((if v.coalesced then 0x8000 else 0) + v.trig % 1024), if c = .sar then v.cfg else v.cfg &&& 0xFC80]
    ++ tail

/-- CONVERSION_DONE (R316 to R320): the converter's result is the operand: `raw` of a sigma-delta channel, `sar` of
the sequence, and what the converter found wrong. -/
def conversionDoneEffect (c : Conv) (raw : BitVec 24) (sar : List W16) (refFault excFault openInput overRange : Bool)
    (s : State) : State :=
  match s.conv c with
  | none => s
  | some v =>
    let n := c.ix
    let sd := c != .sar
    let status := convStatus (sd && refFault && bits v.cfg.toNat 9 8 == 1) (sd && excFault && s.excites v.cfg)
      (sd && openInput && v.cfg.getLsbD 5) overRange
    let tag := s.gau.posted
    let p := s.post 44 10 (s.convRecord c v status raw sar overRange)
    let s := p.2.setConv c none
    let s := if p.1 then
        let s := { s with gau := { s.gau with posted := s.gau.posted + 1 } }
        let s := s.fire (0x3A + n) v.hop
        let prod := (cableEnds v.trig).1
        if v.trig < 0x280 ∧ 0x30 ≤ prod ∧ prod < 0x38 then
          s.monitorsDone fun m => m.kind == 6 && m.subject == prod - 0x30 && m.instant < s.now
        else s
      else s.bump A.GAU_DROPCNT
    let s := match c with
      | .sar =>
        let ch := s.rd A.GAU_LIMCFG 3 0
        match (sarChannels v.cfg).findIdx? (· == ch) with
        | some i => s.limit 2 v.hop (s.sarInside (sar.getD i 0))
        | none => s
      | _ => s.limit n v.hop (s.sdInside n (sdResult raw overRange))
    let s := match v.request with
      | none => s
      | some q =>
        if p.1 then s.completeGeneric 45 q St.OK tag.toNat
        else
          let r := s.draw 16
          r.2.completeGeneric 45 q St.OK r.1.toNat
    s.enSettle A.GAU_CTRL s.gaugeBusy

/-- CONVERSION_DONE. -/
def execConversionDone (c : Conv) (raw : BitVec 24) (sar : List W16) (refFault excFault openInput overRange : Bool)
    (s : State) : Host.Outcome State Fault Refusal :=
  .next (conversionDoneEffect c raw sar refFault excFault openInput overRange s)

/-! ## DACs (R322) -/

/-- The staged code is loaded into output n; the requests that wait for it settle together. -/
def State.dacLoad (s : State) (n hop : Nat) (req : List Nat) : State :=
  let s := s.openGate 6
  let waiting := match vget s.gau.dacBusy n none with
    | some (p, _) => p
    | none => []
  { s with gau := { s.gau with
      dacOut := vset s.gau.dacOut n (s.word (A.GAU_DAC_CODE n))
      dacBusy := vset s.gau.dacBusy n (some (waiting ++ req, hop)) } }

/-- GAU_DAC_LOAD. -/
def gauDacLoadEffect (n : Fin 2) (s : State) : State := s.onEvent (0x2C + n) false fun hop _ _ s => s.dacLoad n hop []

/-- GAU_DAC_LOAD. -/
def execGauDacLoad (n : Fin 2) (s : State) : Host.Outcome State Fault Refusal := .next (gauDacLoadEffect n s)

/-- DAC_SETTLED (R321, R322): GAU_DAC fires, and the requests complete OK. -/
def dacSettledEffect (n : Fin 2) (s : State) : State :=
  match vget s.gau.dacBusy n none with
  | none => s
  | some (ps, hop) =>
    let s := { s with gau := { s.gau with dacBusy := vset s.gau.dacBusy n none } }
    let s := ps.foldl (fun s p => s.completeGeneric 45 p St.OK 0) s
    (s.fire 0x5E hop).enSettle A.GAU_CTRL s.gaugeBusy

/-- DAC_SETTLED. -/
def execDacSettled (n : Fin 2) (s : State) : Host.Outcome State Fault Refusal := .next (dacSettledEffect n s)

/-! ## Ring 45 (R321) -/

/-- A request of ring 45 with OP 01h and a converter, or OP 02h and a DAC, is well formed. -/
def State.ring45Ok (s : State) (p : Nat) : Bool :=
  let w := (s.placeWord 45 p 1).toNat
  let a := (s.placeWord 45 p 2).toNat
  bits w 7 0 == 0 && s.genericOk 45 p && ((bits w 15 8 == 1 && decide (a < 3)) || (bits w 15 8 == 2 && decide (a < 2)))

/-- The gauge takes the next request of ring 45 if it is the row's own operation; a malformed one completes
BAD_DESCRIPTOR. A conversion waits until its converter is free (R319). -/
def State.ring45 (s : State) (op : Nat) : State :=
  if !(s.on 15 && s.rd A.GAU_CTRL 15 14 == 1) then s
  else match s.nextDesc 45 with
    | none => s
    | some p =>
      if !(s.fetchDesc 45 p).1 then (s.fetchDesc 45 p).2
      else if s.placeLost 45 p then (s.fetched 45 p true).completeGeneric 45 p St.BANK_LOST 0
      else if !s.ring45Ok p then (s.fetched 45 p true).completeGeneric 45 p St.BAD_DESCRIPTOR 0
      else if bits (s.placeWord 45 p 1).toNat 15 8 ≠ op then s
      else if op = 1 then
        let c : Conv := match (s.placeWord 45 p 2).toNat with
          | 0 => .sd0
          | 1 => .sd1
          | _ => .sar
        if (s.conv c).isSome then s
        else (s.fetched 45 p true).startConv c 0x3FF 0 false (some p)
      else
        let n := (s.placeWord 45 p 2).toNat
        let s := (s.fetched 45 p true).setWord (A.GAU_DAC_CODE n) (s.placeWord 45 p 3)
        s.dacLoad n 0 [p]

/-- CONVERT. -/
def execConvert (s : State) : Host.Outcome State Fault Refusal := .next (s.ring45 1)

/-- DACSET. -/
def execDacset (s : State) : Host.Outcome State Fault Refusal := .next (s.ring45 2)

/-! ## PWM and excitation (R315, R323) -/

/-- A period of output n starts with the settings now written; GAU_PWMn fires. -/
def State.pwmStart (s : State) (n hop : Nat) : State :=
  let s := { s with gau := { s.gau with
    pwm := vset s.gau.pwm n ((s.word (A.GAU_PWM_PERIOD n)).toNat, s.rdw (A.GAU_PWM_DUTY n) 2) } }
  s.fire (0x3E + n) hop

/-- PWM_PERIOD_START. -/
def pwmPeriodStartEffect (n : Fin 4) (s : State) : State :=
  if s.on 15 && s.flag (A.GAU_PWM_CFG n) 15 then s.pwmStart n 0 else s

/-- PWM_PERIOD_START. -/
def execPwmPeriodStart (n : Fin 4) (s : State) : Host.Outcome State Fault Refusal := .next (pwmPeriodStartEffect n s)

/-- GAU_PWM_RESTART: an event restarts the period. -/
def gauPwmRestartEffect (n : Fin 4) (s : State) : State :=
  s.onEvent (0x2E + n) false fun hop _ _ s =>
    if s.flag (A.GAU_PWM_CFG n) 15 then (s.openGate 6).pwmStart n hop else s

/-- GAU_PWM_RESTART. -/
def execGauPwmRestart (n : Fin 4) (s : State) : Host.Outcome State Fault Refusal := .next (gauPwmRestartEffect n s)

/-- GAU_IEX_TOGGLE (R315): an event inverts EN. -/
def gauIexToggleEffect (n : Fin 2) (s : State) : State :=
  s.onEvent (0x32 + n) false fun _ _ _ s => s.setFlag (A.GAU_IEX n) 15 (!s.flag (A.GAU_IEX n) 15)

/-- GAU_IEX_TOGGLE. -/
def execGauIexToggle (n : Fin 2) (s : State) : Host.Outcome State Fault Refusal := .next (gauIexToggleEffect n s)

/-! ## Pins (R324, R325) -/

/-- GPIO_EDGE (R325): the level at a ball changes, which the pin shows unless it drives its own. -/
def gpioEdgeEffect (pin : Fin 48) (rising : Bool) (s : State) : State :=
  let s := { s with gpioIn := if rising then s.gpioIn ||| (1#48 <<< pin.val) else s.gpioIn &&& ~~~(1#48 <<< pin.val) }
  if s.pinSupplied pin && !s.pinDriven pin then s.pinEdge pin rising else s

/-- GPIO_EDGE. -/
def execGpioEdge (pin : Fin 48) (rising : Bool) (s : State) : Host.Outcome State Fault Refusal :=
  .next (gpioEdgeEffect pin rising s)

/-- GPIO_TASK (R325): ACTION on the OUT bit of the task's pin. -/
def gpioTaskEffect (k : Fin 8) (s : State) : State :=
  s.onEvent (0x45 + k) false fun _ _ _ s =>
    let pin := s.rd (A.PER_TASK k) 5 0
    let out := A.PER_P_OUT (pin / 8)
    match s.rd (A.PER_TASK k) 9 8 with
    | 1 => (s.setFlag out (pin % 8) true).ownEdges s
    | 2 => (s.setFlag out (pin % 8) false).ownEdges s
    | 3 => (s.setFlag out (pin % 8) (!s.flag out (pin % 8))).ownEdges s
    | _ => s

/-- GPIO_TASK. -/
def execGpioTask (k : Fin 8) (s : State) : Host.Outcome State Fault Refusal := .next (gpioTaskEffect k s)

/-- PER_GPIOSNAP (R325): all 48 inputs into SNAP. -/
def perGpiosnapEffect (s : State) : State :=
  s.onEvent 0x3D false fun _ _ _ s => (List.range 6).foldl (fun s p => s.setWord (A.PER_P_SNAP p) (s.portIn p)) s

/-- PER_GPIOSNAP. -/
def execPerGpiosnap (s : State) : Host.Outcome State Fault Refusal := .next (perGpiosnapEffect s)

/-- VIO_SUPPLY_LOSS (R433): the balls of the ring are high impedance and their inputs read 0. -/
def execVioSupplyLoss (second : Bool) (s : State) : Host.Outcome State Fault Refusal :=
  .next (if second then { s with vio2 := false } else { s with vio1 := false })

/-- VIO_SUPPLY_RETURN (R433). -/
def execVioSupplyReturn (second : Bool) (s : State) : Host.Outcome State Fault Refusal :=
  .next (if second then { s with vio2 := true } else { s with vio1 := true })

end Sys2Proof.Machine
end

