-- ==== Sys2Proof/Machine/Serial.lean ====
section
/-!
DEFINITION. The serial units (R326 to R329): SPI0, SPI1, I2C0, I2C1, UART0, UART1 as units 0 to 5.
-/
namespace Sys2Proof.Machine

/-- A unit's FIFOs. -/
def State.unit (s : State) (u : Nat) : Serial := vget s.ser u Serial.init

/-- A unit's FIFOs replaced; RXLEVEL follows. -/
def State.setUnit (s : State) (u : Nat) (v : Serial) : State :=
  ({ s with ser := vset s.ser u v }).wr (A.PER_S_STAT u) 13 9 v.rx.length

/-- A transfer of the unit runs. -/
def State.unitBusy (s : State) (u : Nat) : Bool := s.flag (A.PER_S_STAT u) 15

/-- BUSY of the unit and of its consumer. -/
def State.setUnitBusy (s : State) (u : Nat) (v : Bool) : State :=
  (s.setFlag (A.PER_S_STAT u) 15 v).setFlag (A.CBL_CONS (0x3F + u)) 0 v

/-- Clock gate of the unit (R287). -/
def unitGate (u : Nat) : Nat := 7 + u

/-- A transfer starts (R326): the unit is on. -/
def State.startTransfer (s : State) (u hop : Nat) : State :=
  if s.rd (A.PER_S_CFG u) 15 14 = 1 then
    let s := (s.openGate (unitGate u)).setUnitBusy u true
    s.setUnit u { s.unit u with hop := hop }
  else s

/-- TRANSFER_START (R269, R326): an event at the unit's consumer. -/
def transferStartEffect (u : Fin 6) (s : State) : State :=
  s.onEvent (0x3F + u) (s.unitBusy u) fun hop _ _ s => s.startTransfer u hop

/-- TRANSFER_START. -/
def execTransferStart (u : Fin 6) (s : State) : Host.Outcome State Fault Refusal := .next (transferStartEffect u s)

/-- START written (R326): discarded with WRITE_REJECTED while the unit is busy. -/
def State.startWritten (s : State) (u : Nat) : State :=
  if s.unitBusy u then s.rejected Win.PER else s.startTransfer u 0

/-- CODE of a transfer by unit and what the wire gave (R327 to R329). -/
def transferCode (u : Nat) (w : WireResult) : Nat :=
  if u < 2 then St.OK
  else if u < 4 then match w with
    | .i2cNack => St.I2C_NACK
    | .i2cArbLost => St.I2C_ARB_LOST
    | .busTimeout => St.BUS_TIMEOUT
    | _ => St.OK
  else St.OK

/-- Entries taken from TXDATA and added to RXDATA by a whole transfer (R326 to R329): no more are sent than are staged,
and SPI brings in one for each frame sent. -/
def State.transferCounts (s : State) (u : Nat) : Nat × Nat :=
  let len := s.rd (A.PER_S_CTRL u) 7 0
  let sent (n : Nat) : Nat := min n (s.unit u).tx.length
  if u < 2 then (sent (len % 32), sent (len % 32)) else if u < 4 then (sent (len / 16), len % 16) else (sent (len % 32), 0)

/-- The end of a transfer with a status (R326): CODE, DONE, `PER_SERSRC` and PER_SER. -/
def State.endTransfer (s : State) (u code : Nat) : State :=
  let s := ((s.setUnitBusy u false).wr (A.PER_S_STAT u) 7 0 code).setFlag (A.PER_S_STAT u) 14 true
  let s := (s.setFlag A.PER_SERSRC u true).fire 0x59 (s.unit u).hop
  s.enSettle (A.PER_S_CFG u) false

/-- TRANSFER_END (R326 to R329): `got` are the entries the wire brought in. -/
def transferEndEffect (u : Fin 6) (got : List W16) (w : WireResult) (s : State) : State :=
  if !s.unitBusy u then s
  else
    let n := s.transferCounts u
    let v := s.unit u
    let s := s.setUnit u { v with tx := v.tx.drop n.1, rx := (v.rx ++ got.take n.2).take 16 }
    s.endTransfer u (transferCode u w)

/-- TRANSFER_END. -/
def execTransferEnd (u : Fin 6) (got : List W16) (w : WireResult) (s : State) : Host.Outcome State Fault Refusal :=
  .next (transferEndEffect u got w s)

/-- UART_RX_OCTET (R326, R329): `bad` is a framing or parity error. An octet in error, or one that finds RXDATA
full, is discarded, and CODE shows UART_ERROR at the next octet. -/
def uartRxOctetEffect (second : Bool) (octet : Octet) (bad : Bool) (s : State) : State :=
  let u := if second then 5 else 4
  if !(s.on 15 && s.rd (A.PER_S_CFG u) 15 14 == 1) then s
  else
    let v := s.unit u
    let s := if v.rxErr then s.wr (A.PER_S_STAT u) 7 0 St.UART_ERROR else s
    if bad || v.rx.length ≥ 16 then s.setUnit u { v with rxErr := true }
    else
      let rx := v.rx ++ [octet.setWidth 16]
      let s := s.setUnit u { v with rx := rx, rxErr := false }
      if rx.length = s.rd (A.PER_S_CFG u) 7 3 then s.fire 0x59 0 else s

/-- UART_RX_OCTET. -/
def execUartRxOctet (second : Bool) (octet : Octet) (bad : Bool) (s : State) : Host.Outcome State Fault Refusal :=
  .next (uartRxOctetEffect second octet bad s)

/-- EN of unit u is written 00b (R261, R326): a transfer whose first bit is not yet on the wire ends cancelled. -/
def State.unitDisabled (s : State) (u : Nat) (began : Bool) : State :=
  if !s.unitBusy u then s.wr (A.PER_S_CFG u) 15 14 0
  else if began then s.wr (A.PER_S_CFG u) 15 14 2
  else (s.wr (A.PER_S_CFG u) 15 14 0).endTransfer u St.CANCELLED_BY_DISABLE

/-- A word written to TXDATA: a full FIFO takes no more. -/
def State.pushTx (s : State) (u : Nat) (v : W16) : State :=
  let x := s.unit u
  if x.tx.length < 16 then s.setUnit u { x with tx := x.tx ++ [v] } else s

/-- A word read from RXDATA, or 0 when empty. -/
def State.popRx (s : State) (u : Nat) : W16 × State :=
  match (s.unit u).rx with
  | [] => (0, s)
  | v :: t => (v, s.setUnit u { s.unit u with rx := t })

end Sys2Proof.Machine
end

