-- ==== Sys2Proof/Machine/Phy.lean ====
section
/-!
DEFINITION. Modes, airtimes and header checks (R140 to R153), the frame check sequences of IEEE 802.15.4, and Sprint
OFDM bit by bit (R153 to R164).
-/
namespace Sys2Proof.Machine

/-! ## Mode codes (R141, R144, R147, R150, R153) -/

/-- A SUN OFDM rate is permitted for an option: option - 1 and MCS (R147). -/
def ofdmPermitted (opt mcs : Nat) : Bool :=
  match opt with
  | 0 => mcs ≤ 3
  | 1 => mcs ≤ 5
  | 2 => 1 ≤ mcs && mcs ≤ 6
  | 3 => mcs ≤ 6
  | _ => false

/-- The mode code is not reserved (R141). -/
def modeValid (m : Nat) : Bool :=
  match m / 64 with
  | 0 => m / 16 % 4 ≤ 2 && !bit m 3
  | 1 => !bit m 3 && ofdmPermitted (m / 16 % 4) (m % 8)
  | 2 => m == 0x80
  | 3 => m % 64 / 8 == 0 && m % 8 ≤ 5
  | _ => false

/-- SUN FSK and SUN OFDM run on chain A, O-QPSK and Sprint on chain B (R140). -/
def modeChain (m : Nat) : Chain := if m < 0x80 then .A else .B

/-- A mode code that the chain can run (R140, R141). -/
def modeOn (c : Chain) (m : Nat) : Bool := modeValid m && modeChain m == c

/-- Lane bandwidth of a mode in kHz (R144, R147, R150, R153). -/
def laneBand (m : Nat) : Nat :=
  match m / 64 with
  | 0 => [200, 200, 400, 400, 600, 400, 600, 600].getD (m % 8) 200
  | 1 => [1200, 800, 400, 200].getD (m / 16 % 4) 200
  | _ => 2000

/-- A SUN FSK operating mode (R144): bits to a symbol (1 for 2-FSK, 2 for 4-FSK), symbol rate in ksym/s, modulation
index in hundredths. -/
structure FskMode where
  bits : Nat
  symbols : Nat
  index : Nat
deriving DecidableEq, Repr

/-- The SUN FSK operating modes (R144). -/
def fskMode (m : Nat) : FskMode :=
  ([⟨1, 50, 100⟩, ⟨1, 100, 50⟩, ⟨1, 150, 50⟩, ⟨1, 200, 50⟩, ⟨1, 300, 50⟩, ⟨2, 100, 33⟩, ⟨2, 150, 33⟩,
    ⟨2, 200, 33⟩] : List FskMode).getD (m % 8) ⟨1, 50, 100⟩

/-- Bit rate of a SUN FSK mode in kbit/s (R144). -/
def fskRate (m : Nat) : Nat := (fskMode m).bits * (fskMode m).symbols

/-- A SUN OFDM option (R147): FFT size, data tones, pilots. -/
structure OfdmOption where
  fft : Nat
  data : Nat
  pilots : Nat
deriving DecidableEq, Repr

/-- The SUN OFDM options, by option - 1 (R147). -/
def ofdmOption (o : Nat) : OfdmOption :=
  ([⟨128, 96, 8⟩, ⟨64, 48, 4⟩, ⟨32, 24, 2⟩, ⟨16, 12, 2⟩] : List OfdmOption).getD o ⟨16, 12, 2⟩

/-- A SUN OFDM MCS (R147): coded bits per tone, code rate 3/4, repetition. -/
structure OfdmMcs where
  bpsc : Nat
  threeQuarters : Bool
  copies : Nat
deriving DecidableEq, Repr

/-- The SUN OFDM MCSs (R147). -/
def ofdmMcs (m : Nat) : OfdmMcs :=
  ([⟨1, false, 4⟩, ⟨1, false, 2⟩, ⟨2, false, 2⟩, ⟨2, false, 1⟩, ⟨2, true, 1⟩, ⟨4, false, 1⟩, ⟨4, true, 1⟩] :
    List OfdmMcs).getD m ⟨1, false, 4⟩

/-- Coded bits of a SUN OFDM symbol by mode code (R147, R148). -/
def ofdmCbps (m : Nat) : Nat :=
  (ofdmOption (m / 16 % 4)).data * (ofdmMcs (m % 8)).bpsc / (ofdmMcs (m % 8)).copies

/-- Data bits of two SUN OFDM symbols by mode code, so that every rate is whole: the 12.5 kbit/s of the extension is 3
bits in two symbols of 120 µs (R147). -/
def ofdmDbpt (m : Nat) : Nat := if (ofdmMcs (m % 8)).threeQuarters then ofdmCbps m * 3 / 2 else ofdmCbps m

/-- Data rate of a SUN OFDM mode in units of 0.5 kbit/s (R147). -/
def ofdmRate (m : Nat) : Nat := ofdmDbpt m * 1000 / 120

/-- PSDU symbols of a SUN OFDM frame of L octets: the PSDU and six tail bits (R168, log entry 12). -/
def ofdmSymbols (m l : Nat) : Nat := ceilDiv (2 * (8 * l + 6)) (ofdmDbpt m)

/-- Data bits of a Sprint symbol by MCS (R159). -/
def sprintDbps (mcs : Nat) : Nat := [24, 36, 48, 72, 96, 144].getD mcs 24

/-- Coded bits of a Sprint symbol by MCS (R159). -/
def sprintCbps (mcs : Nat) : Nat := [48, 48, 96, 96, 192, 192].getD mcs 48

/-- Data symbols of a Sprint frame of L octets (R160). -/
def sprintSymbols (mcs l : Nat) : Nat := ceilDiv (8 * l + 6) (sprintDbps mcs)

/-- Durations are counted in thirds of a fraction of 3.90625 ns, so that every airtime is a whole number: 768 of
them are 1 µs. -/
def perUs : Nat := 768

/-- Airtime of a frame of an L-octet PSDU in a mode, with P preamble octets for SUN FSK (R145, R150, R154). -/
def airtime (m p l : Nat) : Nat :=
  match m / 64 with
  | 0 =>
    let o := 8000 * perUs / fskRate m
    if m / 16 % 4 = 0 then o * (p + 4 + l) else o * (p + 2) + 2 * o * (l + 3)
  | 1 => perUs * 120 * (Config.ofdmTraining m + Config.ofdmPhr m + ofdmSymbols m l)
  | 2 => perUs * (32 * (6 + l))
  | _ => perUs * (64 + 80 + 80 + 40 * sprintSymbols (m % 8) l)

/-- Time from a frame's first symbol to its RMARKER (R185). -/
def rmarker (m p : Nat) : Nat :=
  match m / 64 with
  | 0 => 8000 * perUs / fskRate m * (p + 2)
  | 1 => perUs * 120 * Config.ofdmTraining m
  | 2 => perUs * 160
  | _ => perUs * 144

/-- Length of a mode-switch PPDU (R151). -/
def switchPpdu (base p : Nat) : Nat := 8000 * perUs / fskRate base * (p + 4)

/-- What goes before the target PPDU of a mode switch (R151): the mode-switch PPDU and 40 µs of carrier. -/
def switchLead (base p : Nat) : Nat := switchPpdu base p + 40 * perUs

/-- Detection window of a mode's correlators, in units of 1/768 µs (R177). -/
def detectWindow (m : Nat) : Nat :=
  match m / 64 with
  | 0 => 16000 * perUs / (fskMode m).symbols
  | 1 => perUs * 240
  | 2 => perUs * 48
  | _ => perUs * 24

/-- Airtime in 100 µs units, rounded up (R214). -/
def airUnits (t : Nat) : Nat := ceilDiv t (100 * perUs)

/-- PSDU length limits with the FCS (R143). -/
def lengthOk (m l : Nat) : Bool :=
  if m / 64 = 2 then l == 5 || (9 ≤ l && l ≤ 127) else 3 ≤ l && l ≤ 2047

/-! ## Frame check sequences of IEEE 802.15.4 -/

/-- One bit of a reflected CRC. -/
def crcStep (poly : Nat) (v : Nat) : Nat := if v % 2 = 1 then (v / 2) ^^^ poly else v / 2

/-- n bits of a reflected CRC. -/
def crcSteps (poly : Nat) : Nat → Nat → Nat
  | 0, v => v
  | n + 1, v => crcSteps poly n (crcStep poly v)

/-- A reflected CRC over octets. -/
def crcOctets (poly : Nat) (v : Nat) (os : List Octet) : Nat :=
  os.foldl (fun v o => crcSteps poly 8 (v ^^^ o.toNat)) v

/-- The 2-octet FCS: x¹⁶ + x¹² + x⁵ + 1, from 0. -/
def fcs16 (os : List Octet) : Nat := crcOctets 0x8408 0 os

/-- The 4-octet FCS: CRC-32, with octets short of four padded by zeros. -/
def fcs32 (os : List Octet) : Nat :=
  (crcOctets 0xEDB88320 0xFFFFFFFF (os ++ List.replicate (4 - os.length) 0)) ^^^ 0xFFFFFFFF

/-- A frame with its FCS. -/
def withFcs (four : Bool) (os : List Octet) : List Octet :=
  os ++ (if four then toOctets 4 (fcs32 os) else toOctets 2 (fcs16 os))

/-- The FCS at the end of a PSDU is right. -/
def fcsOk (four : Bool) (os : List Octet) : Bool :=
  let n := if four then 4 else 2
  let body := os.take (os.length - n)
  withFcs four body == os

/-! ## Sprint OFDM (R156 to R164) -/

/-- The low n bits of a number, bit 0 first. -/
def bitsOf (n v : Nat) : List Bool := (List.range n).map fun i => v.testBit i

/-- gen7 (R156). -/
def gen7 : (count seed : Nat) → List Bool
  | 0, _ => []
  | n + 1, st =>
    let b := st.testBit 6 != st.testBit 2
    b :: gen7 n ((st * 2 + b.toNat) % 128)

/-- The scrambler's output of n steps (R160). -/
def scramble9 : (count seed : Nat) → List Bool
  | 0, _ => []
  | n + 1, st =>
    let b := st.testBit 8 != st.testBit 4
    b :: scramble9 n ((st * 2 + b.toNat) % 512)

/-- LTF value of active subcarrier i in increasing k (R156): +1 for bit 0, -1 for bit 1. -/
def sprintLtf : List Int := (gen7 52 0x5D).map fun b => if b then -1 else 1

/-- Active subcarrier i in increasing k (R153): -26 to +26 except 0. -/
def sprintK (i : Nat) : Int := if i < 26 then (i : Int) - 26 else (i : Int) - 25

/-- STF values of the 52 active subcarriers in increasing k (R156), short of the factor √(13/6): ±(1 + j) at the twelve
multiples of 4 from -24 to 24 without 0, and 0 elsewhere. -/
def sprintStf : List (Int × Int) :=
  let at4 : List Int := [-24, -20, -16, -12, -8, -4, 4, 8, 12, 16, 20, 24]
  (List.range 52).map fun i =>
    match (at4.zip (gen7 12 0x33)).find? fun p => p.1 == sprintK i with
    | some (_, b) => if b then (-1, -1) else (1, 1)
    | none => (0, 0)

/-- 16-bit FCS over a bit list in order, first bit first (R157): the remainder, coefficient of x¹⁵ first. -/
def hcsBits (bs : List Bool) : List Bool :=
  let r := bs.foldl (fun v b => crcStep 0x8408 (v ^^^ b.toNat)) 0
  bitsOf 16 r

/-- The 48 header bits (R157). -/
def sprintHeader (mcs len : Nat) (fcs2 : Bool) (seed : Nat) : List Bool :=
  let h := bitsOf 3 mcs ++ bitsOf 11 len ++ [fcs2] ++ bitsOf 9 seed ++ [false, false]
  h ++ hcsBits h ++ List.replicate 6 false

/-- A number from bits, bit 0 first. -/
def ofBits : List Bool → Nat
  | [] => 0
  | b :: t => b.toNat + 2 * ofBits t

/-- MCS, LENGTH, 2-octet FCS and SEED of a Sprint header that passes its check (R158); none where it fails. -/
def sprintHeaderCheck (bs : List Bool) : Option (Nat × Nat × Bool × Nat) :=
  let h := bs.take 26
  let mcs := ofBits (h.take 3)
  let len := ofBits ((h.drop 3).take 11)
  let seed := ofBits ((h.drop 15).take 9)
  if hcsBits h == (bs.drop 26).take 16 && mcs ≤ 5 && seed != 0 && (h.drop 24) == [false, false]
      && lengthOk 0xC0 len then
    some (mcs, len, h.getD 14 false, seed)
  else none

/-- Outputs A and B of the encoder for one input bit (R161): `st` holds the six bits before it, newest in bit 5. -/
def encodeStep (st : Nat) (b : Bool) : Bool × Bool :=
  let v := b.toNat * 64 + st
  let par (g : Nat) : Bool := ((List.range 7).foldl (fun p i => p + ((v &&& g) / 2 ^ i) % 2) 0) % 2 == 1
  (par 0o133, par 0o171)

/-- Outputs (A, B) for every input bit from encoder state 0. -/
def encodePairs : (st : Nat) → List Bool → List (Bool × Bool)
  | _, [] => []
  | st, b :: t => encodeStep st b :: encodePairs ((b.toNat * 64 + st) / 2) t

/-- Rate 1/2. -/
def rateHalf : List (Bool × Bool) → List Bool
  | [] => []
  | (a, b) :: t => a :: b :: rateHalf t

/-- Rate 3/4 (R161): A(i), B(i), A(i + 1), B(i + 2). -/
def rateThreeQuarters : List (Bool × Bool) → List Bool
  | (a, b) :: (a', _) :: (_, b'') :: t => a :: b :: a' :: b'' :: rateThreeQuarters t
  | _ => []

/-- The data field's bits after scrambling, tail and pad (R160). -/
def sprintData (mcs seed : Nat) (psdu : List Octet) : List Bool :=
  let n := 8 * psdu.length
  let total := sprintSymbols mcs psdu.length * sprintDbps mcs
  let raw := psdu.flatMap (fun o => bitsOf 8 o.toNat) ++ List.replicate (total - n) false
  let scr := (raw.zip (scramble9 total seed)).map fun p => p.1 != p.2
  scr.take n ++ List.replicate 6 false ++ scr.drop (n + 6)

/-- One symbol's coded bits at their positions (R162): coded bit k goes to (13 × k) mod N_cbps. -/
def interleave (cbps : Nat) (coded : List Bool) : List Bool :=
  let m := if cbps = 192 then 133 else 37
  (List.range cbps).map fun i => coded.getD (i * m % cbps) false

/-- Amplitude of a 16-QAM axis (R163). -/
def qamAxis : Bool → Bool → Int
  | false, false => -3
  | false, true => -1
  | true, true => 1
  | true, false => 3

/-- Constellation point of one subcarrier's bits with its normalisation, 1, 1/√2 or 1/√10 (R163). -/
def mapPoint (bpsc : Nat) (c : List Bool) : Tone :=
  let sg (b : Bool) : Int := if b then 1 else -1
  match bpsc with
  | 1 => ⟨sg (c.getD 0 false), 0, 1⟩
  | 2 => ⟨sg (c.getD 0 false), sg (c.getD 1 false), 2⟩
  | _ => ⟨qamAxis (c.getD 0 false) (c.getD 1 false), qamAxis (c.getD 2 false) (c.getD 3 false), 10⟩

/-- Pilot polarity of symbol n (R164). -/
def pilot (n : Nat) : Int := if (scramble9 (n + 1) 0x1FF).getD n false then -1 else 1

/-- The 52 active subcarriers of symbol n in increasing k, pilots in their places (R153, R162 to R164). -/
def sprintSymbol (n bpsc : Nat) (placed : List Bool) : List Tone :=
  (List.range 52).map fun (i : Nat) =>
    let k := sprintK i
    if k = -21 ∨ k = -7 ∨ k = 7 then ⟨pilot n, 0, 1⟩
    else if k = 21 then ⟨- pilot n, 0, 1⟩
    else
      let d : Nat := i - [(-21 : Int), -7, 7, 21].countP (fun p => decide (p < k))
      mapPoint bpsc ((placed.drop (d * bpsc)).take bpsc)

/-- A list cut into pieces of n; at most `fuel` of them. -/
def chunks {α : Type} (n : Nat) : (fuel : Nat) → List α → List (List α)
  | 0, _ => []
  | f + 1, l => if l.isEmpty then [] else l.take n :: chunks n f (l.drop n)

/-- Every header and data symbol of a Sprint frame (R154, R157, R160 to R164). -/
def sprintFrame (mcs seed : Nat) (fcs2 : Bool) (psdu : List Octet) : List (List Tone) :=
  let hdr := rateHalf (encodePairs 0 (sprintHeader mcs psdu.length fcs2 seed))
  let cbps := sprintCbps mcs
  let pairs := encodePairs 0 (sprintData mcs seed psdu)
  let coded := if mcs % 2 = 0 then rateHalf pairs else rateThreeQuarters pairs
  let n := sprintSymbols mcs psdu.length
  let hs := [sprintSymbol 0 1 (interleave 48 (hdr.take 48)), sprintSymbol 1 1 (interleave 48 (hdr.drop 48))]
  hs ++ ((chunks cbps n coded).zipIdx.map fun p => sprintSymbol (p.2 + 2) (cbps / 48) (interleave cbps p.1))

/-! ### Time-domain samples (R153 to R156) -/

/-- Coefficients i = 0 to 31 of v × ζ^e, where ζ^32 = -1. -/
def zetaTerm (v : Int) (e : Nat) : List Int :=
  (List.range 32).map fun i => if e % 64 = i then v else if e % 64 = i + 32 then -v else 0

/-- Sum of two coefficient lists. -/
def zetaAdd (a b : List Int) : List Int := (a.zip b).map fun p => p.1 + p.2

/-- Coefficients of the sum over active subcarriers k of X(k) × exp(j × 2 × π × k × n / 64) (R155); j is ζ^16. -/
def idft (x : List (Int × Int)) (n : Nat) : List Int :=
  ((List.range 52).zip x).foldl (fun t p =>
    let e := ((sprintK p.1 * n) % 64).toNat
    zetaAdd t (zetaAdd (zetaTerm p.2.1 e) (zetaTerm p.2.2 (e + 16)))) (List.replicate 32 0)

/-- x(n) of a symbol (R155). -/
def symbolSample (ts : List Tone) (n : Nat) : Sample :=
  let part (f : Tone → Bool) := idft (ts.map fun t => if f t then (t.re, t.im) else (0, 0)) n
  ⟨part fun t => t.norm == 1, part fun t => t.norm != 1, 1, ts.foldl (fun m t => max m t.norm) 1⟩

/-- A symbol as it is sent (R155): the cyclic prefix x(48) to x(63), then x(0) to x(63). -/
def symbolSamples (ts : List Tone) : List Sample :=
  (List.range 80).map fun i => symbolSample ts ((i + 48) % 64)

/-- The STF (R154, R155): x(n mod 16) for n = 0 to 127. -/
def stfSamples : List Sample :=
  (List.range 128).map fun n => ⟨List.replicate 32 0, idft sprintStf (n % 16), 13, 6⟩

/-- The LTF (R154, R155): x(32) to x(63), then x(0) to x(63) twice. -/
def ltfSamples : List Sample :=
  (List.range 160).map fun n => ⟨idft (sprintLtf.map fun v => (v, 0)) ((n + 32) % 64), List.replicate 32 0, 1, 1⟩

/-- Every sample of a Sprint frame (R154). -/
def sprintSamples (symbols : List (List Tone)) : List Sample :=
  stfSamples ++ ltfSamples ++ symbols.flatMap symbolSamples

/-! ## The option 4 extension of SUN OFDM (R148) -/

/-- A value multiplied by j^m. -/
def turnBy (m : Nat) (t : Tone) : Tone :=
  match m % 4 with
  | 0 => t
  | 1 => { t with re := -t.im, im := t.re }
  | 2 => { t with re := -t.re, im := -t.im }
  | _ => { t with re := t.im, im := -t.re }

/-- The 12 data tones of a symbol of the extension at repetition F (R148): tone d carries copy floor(d × F / 12) of
coded-bit tone d mod (12 / F), multiplied by j^m. -/
def extensionTones (f : Nat) (coded : List Bool) : List Tone :=
  (List.range 12).map fun d => turnBy (d * f / 12) (mapPoint 1 [coded.getD (d % (12 / f)) false])

/-- The coded bits of a SUN OFDM PSDU (R147, R161, R168): PSDU, tail and pad, scrambled, the tail 0, encoded. -/
def ofdmCoded (m seed : Nat) (psdu : List Octet) : List Bool :=
  let n := 8 * psdu.length
  let total := ofdmSymbols m psdu.length * ofdmDbpt m / 2
  let raw := psdu.flatMap (fun o => bitsOf 8 o.toNat) ++ List.replicate (total - n) false
  let scr := (raw.zip (Config.ofdmScrambler seed total)).map fun p => p.1 != p.2
  let pairs := encodePairs 0 (scr.take n ++ List.replicate 6 false ++ scr.drop (n + 6))
  if (ofdmMcs (m % 8)).threeQuarters then rateThreeQuarters pairs else rateHalf pairs

/-- The tones of the PSDU's symbols of an extension frame (R148). -/
def extensionFrame (m seed : Nat) (psdu : List Octet) : List (List Tone) :=
  (chunks (ofdmCbps m) (ofdmSymbols m psdu.length) (ofdmCoded m seed psdu)).map
    (extensionTones (ofdmMcs (m % 8)).copies)

/-! ## SUN FSK whitening and O-QPSK chips -/

/-- The 9-bit sequence of data whitening (R145, log entry 107): state bits newest first. -/
def pn9 : (count : Nat) → (state : List Bool) → List Bool
  | 0, _ => []
  | n + 1, st =>
    let b := st.getD 3 false != st.getD 8 false
    b :: pn9 n (b :: st.take 8)

/-- Octets whitened, or dewhitened, from the first of the PSDU on (R145). -/
def whitened (os : List Octet) : List Octet :=
  let bs := chunks 8 os.length (pn9 (8 * os.length) (List.replicate 9 true))
  (os.zip bs).map fun p => p.1 ^^^ BitVec.ofNat 8 (ofBits p.2)

/-- The 32 chips of a data symbol, first chip first (R150, log entry 107): symbols 1 to 7 are symbol 0 turned right by
four chips each, and 8 to 15 are 0 to 7 with every odd-numbered chip inverted. -/
def chipsOf (v : Nat) : List Bool :=
  let base := bitsOf 32 0x744AC39B
  let row := base.rotateRight (4 * (v % 8))
  if v < 8 then row else row.zipIdx.map fun p => if p.2 % 2 = 1 then !p.1 else p.1

/-- The chips of octets, the low half of each first (R150). -/
def chipsOfOctets (os : List Octet) : List Bool :=
  os.flatMap fun o => chipsOf (o.toNat % 16) ++ chipsOf (o.toNat / 16)

/-! ## The trellis decoder (R168) -/

/-- A shift-register coder: register length, output bits, and the input bit that feeds a bit into the register. -/
structure Coder where
  memory : Nat
  out : Nat → Bool → Bool × Bool
  input : Nat → Bool → Bool

/-- The constraint-length-7 code (R161). -/
def coder7 : Coder := ⟨6, encodeStep, fun _ b => b⟩

/-- The constraint-length-4 SUN FSK codes (R145, log entry 12). -/
def coder4 (rsc : Bool) : Coder :=
  ⟨3, fun st b => ((Config.fskCoder rsc st b).1, (Config.fskCoder rsc st b).2.1), fun st b => (Config.fskCoder rsc st b).2.2⟩

/-- A path that survives in a state: its cost, the cost of its first `marked` steps, and its input bits, newest first,
as far back as the traceback goes. -/
structure Survivor where
  cost : Nat
  head : Nat
  path : List Bool
deriving DecidableEq, Repr

/-- Cost of a soft value against a branch bit: its magnitude where the signs disagree; an erasure costs nothing. -/
def softCost (v : Int) (b : Bool) : Nat := if (0 < v && !b) || (v < 0 && b) then v.natAbs else 0

/-- The survivor that enters state `dst` at a trellis step (R168): the cheaper of its two predecessors. -/
def enterState (k : Coder) (marked step : Nat) (old : List (Option Survivor)) (v : Int × Int) (dst : Nat) :
    Option Survivor :=
  let fed := dst.testBit (k.memory - 1)
  let branch (x : Nat) : Option Survivor :=
    let st := dst % 2 ^ (k.memory - 1) * 2 + x
    (old.getD st none).map fun p =>
      let o := k.out st fed
      let c := softCost v.1 o.1 + softCost v.2 o.2
      ⟨p.cost + c, if step < marked then p.head + c else p.head, (k.input st fed :: p.path).take 97⟩
  match branch 0, branch 1 with
  | none, b => b
  | a, none => a
  | some a, some b =>
    if a.cost < b.cost || (a.cost == b.cost && Config.trellisTie step dst) then some a else some b

/-- One trellis step over all states. -/
def trellisStep (k : Coder) (marked step : Nat) (old : List (Option Survivor)) (v : Int × Int) :
    List (Option Survivor) :=
  (List.range (2 ^ k.memory)).map (enterState k marked step old v)

/-- The survivors before the first step: state 0 alone. -/
def trellisStart (k : Coder) : List (Option Survivor) :=
  some ⟨0, 0, []⟩ :: List.replicate (2 ^ k.memory - 1) none

/-- The best state's survivor. -/
def bestSurvivor (step : Nat) (ss : List (Option Survivor)) : Survivor :=
  (ss.zipIdx.foldl (fun (b : Option Survivor) p =>
    match b, p.1 with
    | none, x => x
    | some a, none => some a
    | some a, some x =>
      if x.cost < a.cost || (x.cost == a.cost && Config.trellisTie step (64 + p.2)) then some x else some a)
    none).getD ⟨0, 0, []⟩

/-- The decoder over a terminated field (R168): the bit of each step leaves 96 steps later, traced back from the best
state; at the end it traces back from state 0 and the rest leaves at once. -/
def trellisDecode (k : Coder) : (step : Nat) → List (Option Survivor) → List (Int × Int) → List Bool
  | n, ss, [] => (((ss.getD 0 none).getD (bestSurvivor n ss)).path.take (min n 96)).reverse
  | n, ss, v :: t =>
    let ss := trellisStep k 0 n ss v
    (if 96 ≤ n then [(bestSurvivor n ss).path.getD 96 false] else []) ++ trellisDecode k (n + 1) ss t

/-- A terminated field decoded from its soft values, two to a step (R168). -/
def decodeField (k : Coder) (vs : List (Int × Int)) : List Bool := trellisDecode k 0 (trellisStart k) vs

/-- The survivors after the steps, the first `marked` of which are marked. -/
def trellisRun (k : Coder) (marked : Nat) : (step : Nat) → List (Option Survivor) → List (Int × Int) →
    List (Option Survivor)
  | _, ss, [] => ss
  | n, ss, v :: t => trellisRun k marked (n + 1) (trellisStep k marked n ss v) t

/-- Soft values by trellis step at rate 1/2. -/
def softPairs : List Int → List (Int × Int)
  | a :: b :: t => (a, b) :: softPairs t
  | _ => []

/-- Soft values by trellis step at rate 3/4: the bits not sent are erasures (R161, R168). -/
def softTriples : List Int → List (Int × Int)
  | a :: b :: c :: d :: t => (a, b) :: (c, 0) :: (0, d) :: softTriples t
  | _ => []

/-- Sixteen PHR bits as a coded SUN FSK frame's decoder takes them 24 steps after the last, from the best state, and the
path cost over the PHR's 32 coded bits (R179). -/
def earlyPhr (rsc : Bool) (soft : List Int) : List Bool × Nat :=
  let k := coder4 rsc
  let b := bestSurvivor 40 (trellisRun k 16 0 (trellisStart k) (softPairs (soft.take 80)))
  (((b.path.drop 24).take 16).reverse, b.head)

/-! ## Equalisation and soft values (R166, R167) -/

/-- Complex arithmetic over integer parts. -/
def cxMul (a b : Cx) : Cx := ⟨a.re * b.re - a.im * b.im, a.re * b.im + a.im * b.re⟩
def cxAdd (a b : Cx) : Cx := ⟨a.re + b.re, a.im + b.im⟩
def cxScale (v : Int) (a : Cx) : Cx := ⟨v * a.re, v * a.im⟩
def cxConj (a : Cx) : Cx := ⟨a.re, -a.im⟩
/-- Squared magnitude. -/
def cxNorm (a : Cx) : Nat := (a.re * a.re + a.im * a.im).toNat

/-- Twice the tap of each active subcarrier (R166): (y1 + y2) / l, where l is +1 or -1. -/
def ltfTaps (l : List Int) (y1 y2 : List Cx) : List Cx := ((y1.zip y2).zip l).map fun p => cxScale p.2 (cxAdd p.1.1 p.1.2)

/-- theta of a symbol, and alpha as a fraction in rad per subcarrier (R166): the angle of the pilots' sum, and the slope
of the least-squares line through the pilots' phases. `ps` holds k, y × conj(2h × pilot) of each pilot. -/
def pilotFit (ps : List (Int × Cx)) : Int × Int × Nat :=
  let sum (f : Int × Cx → Int) : Int := ps.foldl (fun t p => t + f p) 0
  let n : Int := ps.length
  let sk := sum fun p => p.1
  let sp := sum fun p => Config.arg p.2
  (Config.arg (ps.foldl (fun t p => cxAdd t p.2) ⟨0, 0⟩),
    n * sum (fun p => p.1 * Config.arg p.2) - sk * sp, (n * sum (fun p => p.1 * p.1) - sk * sk).toNat)

/-- x(n, k) of R166 as a numerator and a divisor: y × exp(-j × (theta + alpha × k)) / h. -/
def equalise (fit : Int × Int × Nat) (k : Int) (y h2 : Cx) : Cx × Nat :=
  let d := max 1 fit.2.2
  (cxScale 2 (cxMul (Config.turn y (-(fit.1 * d + fit.2.1 * k)) d) (cxConj h2)), max 1 (cxNorm h2))

/-- Bit i that an equalised value decides (R163): the sign of its axis, or, for the second bit of a 16-QAM axis, a
magnitude below 2/√10. -/
def decide' (bpsc i : Nat) (x : Cx × Nat) : Bool :=
  let v := if (bpsc = 2 && i = 1) || (bpsc = 4 && 2 ≤ i) then x.1.im else x.1.re
  if bpsc = 4 && i % 2 = 1 then 10 * v * v < 4 * (x.2 : Int) * x.2 else 0 ≤ v

/-- The soft value of bit i (R167): its sign is the bit's, its magnitude saturates at 7. -/
def softBit (bpsc i : Nat) (x : Cx × Nat) (gain noise : Nat) : Int :=
  let m : Int := (min 7 (Config.softLevel bpsc i x.1 x.2 gain noise) : Nat)
  if decide' bpsc i x then m else -m

/-- The soft values of an OFDM symbol's places (R166, R167): active subcarriers `ks`, the symbol's pilots, twice the
taps. -/
def symbolSoft (ks : List Int) (pilots : List (Int × Int)) (bpsc : Nat) (taps : List Cx) (noise : Nat) (y : List Cx) :
    List Int :=
  let cells := ks.zip (y.zip taps)
  let fit := pilotFit (pilots.filterMap fun p =>
    (cells.find? fun c => c.1 == p.1).map fun c => (c.1, cxMul c.2.1 (cxConj (cxScale p.2 c.2.2))))
  (cells.filter fun c => !pilots.any fun p => p.1 == c.1).flatMap fun c =>
    (List.range bpsc).map fun i => softBit bpsc i (equalise fit c.1 c.2.1 c.2.2) (cxNorm c.2.2) noise

/-- The soft values of a Sprint frame's symbols from number n on, header symbol 0 being 0 (R153, R156, R164). -/
def sprintSoft (n bpsc : Nat) (y1 y2 : List Cx) (symbols : List (List Cx)) : List (List Int) :=
  symbols.zipIdx.map fun p =>
    let v := pilot (n + p.2)
    symbolSoft ((List.range 52).map sprintK) [(-21, v), (-7, v), (7, v), (21, -v)] bpsc (ltfTaps sprintLtf y1 y2)
      (Config.ltfNoise y1 y2) p.1

/-- The soft values of a SUN OFDM frame's symbols from number n on, its PHR's first being 0 (R166, R167). -/
def sunSoft (m n bpsc : Nat) (y1 y2 : List Cx) (symbols : List (List Cx)) : List (List Int) :=
  symbols.zipIdx.map fun p =>
    symbolSoft (Config.ofdmTones m) (Config.ofdmPilots m (n + p.2)) bpsc (ltfTaps (Config.ofdmLtf m) y1 y2)
      (Config.ltfNoise y1 y2) p.1

/-- Soft values in coded order from the positions of a Sprint symbol (R162): position (13 × k) mod N_cbps holds coded
bit k. -/
def deinterleave (cbps : Nat) (soft : List Int) : List Int :=
  (List.range cbps).map fun k => soft.getD (13 * k % cbps) 0

/-- The PSDU of a Sprint frame from the soft values of its data symbols (R160 to R162, R168). -/
def sprintPsdu (mcs seed len : Nat) (symbols : List (List Int)) : List Octet :=
  let coded := (symbols.take (sprintSymbols mcs len)).flatMap (deinterleave (sprintCbps mcs))
  let bs := decodeField coder7 (if mcs % 2 = 0 then softPairs coded else softTriples coded)
  let os := (bs.zip (scramble9 bs.length seed)).map fun p => p.1 != p.2
  (chunks 8 len os).map fun b => BitVec.ofNat 8 (ofBits b)

/-- Repeated copies of a coded bit combined before decoding (R167): their sum, within the range of a soft value. -/
def combineSoft (vs : List Int) : Int := max (-7) (min 7 (vs.foldl (· + ·) 0))

/-- Soft values in coded order from the places of a SUN OFDM symbol (R147, R148, R167): copies combined. The extension
has no interleaving. -/
def ofdmSoft (m : Nat) (interleaved : Bool) (soft : List Int) : List Int :=
  let n := ofdmCbps m
  let places := if m = 0x70 ∨ m = 0x71 then (List.range 12).map fun d => d % n else Config.ofdmPlaces m interleaved
  (List.range n).map fun k => combineSoft ((soft.zip places).filterMap fun p => if p.2 = k then some p.1 else none)

/-- The PSDU of a SUN OFDM frame from the soft values of its symbols' places (R147, R168). -/
def ofdmPsdu (m seed len : Nat) (interleaved : Bool) (symbols : List (List Int)) : List Octet :=
  let coded := (symbols.take (ofdmSymbols m len)).flatMap (ofdmSoft m interleaved)
  let bs := decodeField coder7 (if (ofdmMcs (m % 8)).threeQuarters then softTriples coded else softPairs coded)
  let os := (bs.zip (Config.ofdmScrambler seed bs.length)).map fun p => p.1 != p.2
  (chunks 8 len os).map fun b => BitVec.ofNat 8 (ofBits b)

/-! ## Header checks (R146, R149, R150, R158) -/

/-- What a header says of how its PSDU is to be demodulated: data whitening, the scrambler's seed or seed index, and
interleaving. -/
structure PhrInfo where
  whiten : Bool
  seed : Nat
  interleaved : Bool
deriving DecidableEq, Repr

/-- A header that says nothing of its PSDU. -/
def PhrInfo.plain : PhrInfo := ⟨false, 0, false⟩

/-- What a header check gives: the PSDU's mode, length and 4-octet FCS; or a mode switch; or failure. -/
inductive HeaderResult where
  | pass (mode length : Nat) (fcs4 : Bool) (info : PhrInfo)
  | switch (target : Nat)
  | fail
deriving DecidableEq, Repr

/-- The header of a Sprint frame from the soft values of its header symbols' positions (R157, R158, R168). -/
def checkSprint (mode : Nat) (soft : List Int) : HeaderResult :=
  let coded := deinterleave 48 (soft.take 48) ++ deinterleave 48 (soft.drop 48)
  match sprintHeaderCheck (decodeField coder7 (softPairs coded)) with
  | some (mcs, len, fcs2, seed) =>
    if mode / 64 = 3 then .pass (0xC0 + mcs) len (!fcs2) ⟨false, seed, false⟩ else .fail
  | none => .fail

/-- The header of a coded SUN FSK frame (R146, R179): its PHR as the early traceback takes it. -/
def checkCoded (mode pmlim : Nat) (soft : List Int) : HeaderResult :=
  let p := earlyPhr (mode / 16 % 4 = 2) soft
  let len := ofBits ((p.1.drop 5).reverse)
  if !p.1.getD 0 false && !p.1.getD 1 false && !p.1.getD 2 false && lengthOk mode len && p.2 ≤ 4 * pmlim then
    .pass mode len (!p.1.getD 3 false) { PhrInfo.plain with whiten := p.1.getD 4 false }
  else .fail

/-- The header check of the lane's mode (R146, R148, R149, R150, R158, R179), `coded` telling which SFD a SUN FSK frame
carried. `pmlim` is PMLIM. -/
def checkHeader (mode pmlim : Nat) (coded : Bool) : PhyHeader → HeaderResult
  | .fsk clean fcs4 whiten len =>
    if mode / 64 = 0 && !coded && clean && lengthOk mode len.toNat then
      .pass (mode % 8) len.toNat fcs4 { PhrInfo.plain with whiten := whiten }
    else .fail
  | .fskCoded soft => if mode / 64 = 0 && coded && mode / 16 % 4 ≠ 0 then checkCoded mode pmlim soft else .fail
  | .fskSwitch bch parity clean _ target =>
    if mode / 64 = 0 && !coded && bch && parity && clean then .switch target.toNat else .fail
  | .ofdm hcsOk clean rate len fcs4 seed interleaved =>
    let m := 64 + mode / 16 % 4 * 16 + rate.toNat
    if mode / 64 = 1 && hcsOk && clean && ofdmPermitted (mode / 16 % 4) rate.toNat && lengthOk mode len.toNat
        && !(interleaved && (m = 0x70 || m = 0x71)) then
      .pass m len.toNat fcs4 { PhrInfo.plain with seed := seed.toNat, interleaved := interleaved }
    else .fail
  | .oqpsk phr =>
    if mode = 0x80 && lengthOk mode (phr.toNat % 128) then .pass 0x80 (phr.toNat % 128) false PhrInfo.plain else .fail
  | .sprint soft => checkSprint mode soft
  | .sprintRaw y1 y2 symbols =>
    checkSprint mode (sprintSoft 0 1 y1 y2 symbols).flatten

/-- The PSDU of an OFDM frame from its soft values (R160, R168). -/
def softPsdu (f : LaneFrame) (symbols : List (List Int)) : List Octet :=
  if f.mode.toNat / 64 = 3 then sprintPsdu (f.mode.toNat % 8) f.seed f.length symbols
  else ofdmPsdu f.mode.toNat f.seed f.length f.interleaved symbols

/-- The PSDU as its decoder releases it (R145, R160, R166 to R168): dewhitened where the PHR says so. -/
def rxOctets (f : LaneFrame) : RxPsdu → List Octet
  | .octets os => if f.whiten then whitened os else os
  | .fskCoded soft =>
    let bs := (decodeField (coder4 (f.mode.toNat / 16 % 4 = 2)) (softPairs soft)).drop 16
    let os := (chunks 8 f.length bs).map fun b => BitVec.ofNat 8 (ofBits b)
    if f.whiten then whitened os else os
  | .soft symbols => softPsdu f symbols
  | .raw y1 y2 symbols =>
    let m := f.mode.toNat
    softPsdu f (if m / 64 = 3 then sprintSoft 2 (sprintCbps (m % 8) / 48) y1 y2 symbols
      else sunSoft m (Config.ofdmPhr m) (ofdmMcs (m % 8)).bpsc y1 y2 symbols)

end Sys2Proof.Machine
end

