-- ==== Sys2Proof/Machine/Frame.lean ====
section
/-!
DEFINITION. MAC frames as IEEE 802.15.4 lays them out (log entry 20), the neighbour table (R245, R246), mesh headers
(R229), and CCM* over frames (R210, R344).
-/
namespace Sys2Proof.Machine

/-! ## MAC headers -/

/-- A parsed MHR: frame control, addresses, auxiliary security header, and where the header IEs end. An address is
extended or not, and its value. -/
structure Mhr where
  ftype : Nat
  sec : Bool
  ar : Bool
  version : Nat
  dsn : Nat
  dstPan : Option Nat
  dst : Option (Bool × Nat)
  src : Option (Bool × Nat)
  level : Nat
  kim : Nat
  /-- Frame counter suppression or ASN in nonce (absent, R210). -/
  odd : Bool
  fc : Nat
  keyIdx : Nat
  /-- Offset of the auxiliary security header. -/
  auxOfs : Nat
  /-- Offset of the MAC payload's first octet: the end of the header IEs. -/
  hdrEnd : Nat
  payIes : Bool
  /-- An IE length runs past the PSDU, or the header does (R209). -/
  bad : Bool
  /-- Content of a Time Correction IE. -/
  tc : Option Nat
deriving DecidableEq, Repr

/-- Octet i as a number. -/
def oct (os : List Octet) (i : Nat) : Nat := (os.getD i 0).toNat

/-- n octets from i on as a number, least significant first. -/
def octs (os : List Octet) (i n : Nat) : Nat := ofOctets ((os.drop i).take n)

/-- The header IEs from an offset on: their end, whether payload IEs follow, whether a length runs past the limit,
and the content of a Time Correction IE. -/
def walkHeaderIes (os : List Octet) (limit : Nat) : (fuel ofs : Nat) → Option Nat → Nat × Bool × Bool × Option Nat
  | 0, ofs, tc => (ofs, false, true, tc)
  | f + 1, ofs, tc =>
    if ofs = limit then (ofs, false, false, tc)
    else if limit < ofs + 2 then (ofs, false, true, tc)
    else
      let d := octs os ofs 2
      let id := bits d 14 7
      let l := bits d 6 0
      if bit d 15 then (ofs, false, true, tc)
      else if id = 0x7E then (ofs + 2, true, limit < ofs + 2 + l, tc)
      else if id = 0x7F then (ofs + 2, false, limit < ofs + 2 + l, tc)
      else if limit < ofs + 2 + l then (ofs, false, true, tc)
      else walkHeaderIes os limit f (ofs + 2 + l) (if id = 0x1E && l = 2 then some (octs os (ofs + 2) 2) else tc)

/-- The ASN's offset in a TSCH Synchronization IE among the nested IEs of an MLME group, and whether a length runs
past the group's end. -/
def walkNested (os : List Octet) (limit : Nat) : (fuel ofs : Nat) → Option Nat → Option Nat × Bool
  | 0, _, y => (y, true)
  | f + 1, ofs, y =>
    if limit ≤ ofs then (y, false)
    else if limit < ofs + 2 then (y, true)
    else
      let d := octs os ofs 2
      let l := if bit d 15 then bits d 10 0 else bits d 7 0
      if limit < ofs + 2 + l then (y, true)
      else walkNested os limit f (ofs + 2 + l)
        (if !bit d 15 && bits d 14 8 = 0x1A && 5 ≤ l then some (ofs + 2) else y)

/-- The payload IEs from an offset on: the frame payload's offset, the ASN's offset of a TSCH Synchronization IE, and
whether a length runs past the limit. -/
def walkPayloadIes (os : List Octet) (limit : Nat) : (fuel ofs : Nat) → Option Nat → Nat × Option Nat × Bool
  | 0, ofs, y => (ofs, y, true)
  | f + 1, ofs, y =>
    if ofs = limit then (ofs, y, false)
    else if limit < ofs + 2 then (ofs, y, true)
    else
      let d := octs os ofs 2
      let g := bits d 14 11
      let l := bits d 10 0
      if !bit d 15 || limit < ofs + 2 + l then (ofs, y, true)
      else if g = 0xF then (ofs + 2 + l, y, false)
      else
        let n := if g = 1 then walkNested os (ofs + 2 + l) 1024 (ofs + 2) y else (y, false)
        if n.2 then (ofs, y, true) else walkPayloadIes os limit f (ofs + 2 + l) n.1

/-- Octets of the MIC at a level. -/
def micLen (level : Nat) : Nat := [0, 4, 8, 16].getD (level % 4) 0

/-- Octets of an address of a mode. -/
def addrLen (mode : Nat) : Nat := if mode = 2 then 2 else if mode = 3 then 8 else 0

/-- Whether the destination and the source PAN ID are present, by version, address modes and PAN ID compression. -/
def panPresent (version dm sm : Nat) (comp : Bool) : Bool × Bool :=
  if version < 2 then (dm ≠ 0, sm ≠ 0 && !(comp && dm ≠ 0))
  else if dm = 0 && sm = 0 then (comp, false)
  else if sm = 0 then (!comp, false)
  else if dm = 0 then (false, !comp)
  else if dm = 3 && sm = 3 then (!comp, false)
  else (true, !comp)

/-- The MHR of octets without the FCS. -/
def parseMhr (os : List Octet) : Mhr :=
  let fcw := octs os 0 2
  let version := bits fcw 13 12
  let dm := bits fcw 11 10
  let sm := bits fcw 15 14
  let sec := bit fcw 3
  let noSeq := version = 2 && bit fcw 8
  let pans := panPresent version dm sm (bit fcw 6)
  let o0 := if noSeq then 2 else 3
  let o1 := if pans.1 then o0 + 2 else o0
  let o2 := o1 + addrLen dm
  let o3 := if pans.2 then o2 + 2 else o2
  let o4 := o3 + addrLen sm
  let ctl := oct os o4
  let kim := bits ctl 4 3
  let o5 := if sec then o4 + 5 + [0, 1, 5, 9].getD kim 0 else o4
  let level := if sec then bits ctl 2 0 else 0
  let limit := os.length - micLen level
  let ies := if version = 2 && bit fcw 9 then walkHeaderIes os limit 1024 o5 none else (o5, false, limit < o5, none)
  { ftype := bits fcw 2 0, sec := sec, ar := bit fcw 5, version := version
    dsn := if noSeq then 0 else oct os 2
    dstPan := if pans.1 then some (octs os o0 2) else none
    dst := if dm < 2 then none else some (dm == 3, octs os o1 (addrLen dm))
    src := if sm < 2 then none else some (sm == 3, octs os o3 (addrLen sm))
    level := level, kim := kim, odd := sec && version = 2 && (bit ctl 5 || bit ctl 6)
    fc := octs os (o4 + 1) 4
    keyIdx := if kim = 0 then 0 else oct os (o5 - 1)
    auxOfs := o4, hdrEnd := ies.1, payIes := ies.2.1, bad := ies.2.2.1 || os.length < 3, tc := ies.2.2.2 }

/-! ## CCM* over frames -/

/-- Exactly n octets of a list, zeros past its end. -/
def fitOctets (n : Nat) (os : List Octet) : List Octet := (List.range n).map fun i => os.getD i 0

/-- The nonce of R210 as a number: extended address, frame counter, level. -/
def ccmNonce (ext fc level : Nat) : Nat := (ext * 2 ^ 32 + fc) * 256 + level

/-- A body sealed at a level, MIC appended: levels 1 to 3 leave the body as it is. -/
def sealFrame (key ext fc level : Nat) (hdr body : List Octet) : List Octet :=
  let o := fitOctets (body.length + micLen level) (Config.ccmSeal key (ccmNonce ext fc level) level hdr body)
  if level < 4 then body ++ o.drop body.length else o

/-- A sealed body opened: none where the MIC fails. -/
def openFrame (key ext fc level : Nat) (hdr body : List Octet) : Option (List Octet) :=
  match Config.ccmOpen key (ccmNonce ext fc level) level hdr body with
  | none => none
  | some b =>
    let n := body.length - micLen level
    some (if level < 4 then body.take n else fitOctets n b)

/-- The link controller's use of a vault slot (R338, R357): its status and the key. -/
def State.linkKey (s : State) (slot : Nat) : Nat × Nat :=
  if s.rd A.VLT_CTRL 15 14 ≠ 1 then (St.SLOT_ATTR_DENIED, 0)
  else if s.flag (A.VLT_SLOTBAD (slot / 16)) (slot % 16) then (St.SLOT_BAD, 0)
  else match s.vlt.slots.find? fun k => k.slot == slot && k.attr.getLsbD 15 && k.attr.getLsbD 6 with
    | some k => (St.OK, k.key)
    | none => (St.SLOT_ATTR_DENIED, 0)

/-- The vault's counters of outcomes (R357), internal paths included. -/
def State.vaultCount (s : State) (status : Nat) : State :=
  if status = St.AUTH_FAIL then s.bump A.VLT_AUTHFAILCNT
  else if status = St.SLOT_ATTR_DENIED then s.bump A.VLT_DENYCNT
  else if status = St.SLOT_BAD then s.bump A.VLT_SLOTBADCNT
  else s

/-! ## The neighbour table (R245, R246) -/

/-- Word w of entry n. -/
def State.nbr (s : State) (n w : Nat) : Nat := (cellsGet zeroWord s.msh.nbr (n % 1024 * 16 + w)).toNat

/-- Word w of entry n replaced; entry 3FFh ignores its VALID bit. -/
def State.setNbr (s : State) (n w v : Nat) : State :=
  let v := if n % 1024 = 1023 && w = 5 then v % 32768 else v
  { s with msh := { s.msh with nbr := cellsPut zeroWord s.msh.nbr (n % 1024 * 16 + w) (BitVec.ofNat 16 v) } }

/-- Bits of a word of entry n replaced. -/
def State.wrNbr (s : State) (n w hi lo v : Nat) : State := s.setNbr n w (putBits (s.nbr n w) hi lo v)

/-- VALID of entry n. -/
def State.nbrValid (s : State) (n : Nat) : Bool := n < 1023 && bit (s.nbr n 5) 15

/-- TSRC of a valid entry. -/
def State.tsrc (s : State) (n : Nat) : Bool := s.nbrValid n && bit (s.nbr n 5) 14

/-- Extended address of entry n. -/
def State.nbrExt (s : State) (n : Nat) : Nat :=
  s.nbr n 1 + 65536 * (s.nbr n 2 + 65536 * (s.nbr n 3 + 65536 * s.nbr n 4))

/-- STAGE of entry n. -/
def State.nbrStage (s : State) (n : Nat) : Nat := s.nbr n 11 + 65536 * s.nbr n 12

/-- FC_LAST of entry n. -/
def State.nbrFc (s : State) (n : Nat) : Nat := s.nbr n 7 + 65536 * s.nbr n 8

/-- The valid entry of lowest index that matches a source address; 3FFh for none (R246). -/
def State.findNbr (s : State) (src : Option (Bool × Nat)) : Nat :=
  match src with
  | none => 0x3FF
  | some (ext, a) =>
    ((List.range 1023).find? fun n =>
      s.nbrValid n && (if ext then s.nbrExt n == a else s.nbr n 0 == a)).getD 0x3FF

/-- Receive window of a cell that names neighbour n, in network-time units (R193, R224). -/
def State.window (s : State) (n : Nat) : Nat :=
  let miss := if n = 0x3FF then 0 else bits (s.nbr n 5) 11 9
  32000 * 2 ^ min miss 3

/-! ## Mesh headers (R229, R230) -/

/-- A mesh header. -/
structure Mesh where
  dual : Bool
  kind : Nat
  cls : Nat
  hops : Nat
  ttl : Nat
  zone : Nat
  path : Nat
  sched : Bool
  origin : Nat
  seq : Nat
  dest : Nat
  stage : Nat
deriving DecidableEq, Repr

/-- The header at the start of a frame payload; none where it is malformed (R230). -/
def parseMesh (p : List Octet) : Option Mesh :=
  let m : Mesh :=
    { dual := bit (oct p 0) 7, kind := bits (oct p 0) 6 4, cls := bits (oct p 0) 3 0
      hops := bits (oct p 1) 7 4, ttl := bits (oct p 1) 3 0, zone := oct p 2, path := oct p 3
      sched := bit (oct p 4) 0, origin := octs p 6 2, seq := octs p 8 2, dest := octs p 10 2, stage := octs p 12 4 }
  if p.length < 16 || 4 ≤ m.kind || oct p 4 / 2 ≠ 0 || oct p 5 ≠ 0 || (m.kind = 3 && m.cls ≠ 0) then none else some m

/-- The sixteen octets of a header (R229). -/
def Mesh.octets (m : Mesh) : List Octet :=
  [BitVec.ofNat 8 (m.dual.toNat * 128 + m.kind % 8 * 16 + m.cls % 16), BitVec.ofNat 8 (m.hops % 16 * 16 + m.ttl % 16),
   BitVec.ofNat 8 m.zone, BitVec.ofNat 8 m.path, BitVec.ofNat 8 m.sched.toNat, 0]
    ++ toOctets 2 m.origin ++ toOctets 2 m.seq ++ toOctets 2 m.dest ++ toOctets 4 m.stage

end Sys2Proof.Machine
end

