-- ==== Sys2Proof/Machine/Attempts.lean ====
section
/-!
DEFINITION. What the cells of both chains share: mesh events and the state of neighbours (R224, R225, R243, R244),
dwell accounts (R214, R215), transmit descriptors (R195 to R198), frame counters (R211), and the end of an attempt
(R199, R202).
-/
namespace Sys2Proof.Machine

/-! ## Mesh events and neighbours -/

/-- A mesh event (R243, R244): posted to ring 28, or dropped and counted. -/
def State.meshEvent (s : State) (evt status nbr origin seq : Nat) (value : Int) : State :=
  let ws := [s.msh.events, BitVec.ofNat 16 (evt * 256 + status), BitVec.ofNat 16 (nbr % 1024), BitVec.ofNat 16 origin,
    BitVec.ofNat 16 seq] ++ toWords 4 (unsigned 64 value) ++ toWords 4 s.now ++ [0, 0, 0]
  let p := s.post 28 8 ws
  if p.1 then ({ p.2 with msh := { p.2.msh with events := p.2.msh.events + 1 } }).fire 0x4A 0
  else s.bump A.MSH_EVTDROPCNT

/-- `MSH_STAGE`. -/
def State.stage (s : State) : Nat := s.rdw A.MSH_STAGE 2

/-- A mesh event whose VALUE is the stage. -/
def State.stageEvent (s : State) (evt status nbr origin seq : Nat) : State :=
  s.meshEvent evt status nbr origin seq s.stage

/-- A TSRC neighbour that is valid and not desynchronised, a stored STAGE below the node's counting as
desynchronised (R225). -/
def State.timeSource (s : State) (n : Nat) : Bool := s.tsrc n && !bit (s.nbr n 5) 12 && s.stage ≤ s.nbrStage n

/-- A SYNCED node, or one that was lead, without a time source enters DESYNC (R216, R225). -/
def State.checkSynced (s : State) : State :=
  let t := s.rd A.MSH_TSTAT 15 13
  if (t = 1 || (t = 3 && s.rd A.MSH_CTRL 13 12 ≠ 1)) && !((List.range 1023).any fun n => s.timeSource n) then
    (s.wr A.MSH_TSTAT 15 13 2).stageEvent 3 St.DESYNC 0x3FF 0 0
  else s

/-- A hit on neighbour n (R224, R225): MISS 0, and DESYNC cleared with NBR_RESYNC. -/
def State.hit (s : State) (n : Nat) (rssi : Int) (lqi : Nat) (asn : Nat) : State :=
  if !s.nbrValid n then s
  else
    let was := bit (s.nbr n 5) 12
    let s := ((s.wrNbr n 5 12 9 0).setNbr n 10 (unsigned 8 rssi * 256 + lqi % 256)).setNbr n 13 asn
    if was then s.stageEvent 2 St.OK n 0 0 else s

/-- A miss on neighbour n (R224, R225): at 4, DESYNC is set with NBR_DESYNC. -/
def State.miss (s : State) (n : Nat) : State :=
  if !s.nbrValid n then s
  else
    let m := min 4 (bits (s.nbr n 5) 11 9 + 1)
    let was := bit (s.nbr n 5) 12
    let s := s.wrNbr n 5 11 9 m
    if m = 4 && !was then ((s.wrNbr n 5 12 12 1).stageEvent 1 St.DESYNC n 0 0).checkSynced else s

/-! ## Dwell accounts (R214, R215) -/

/-- DWPROF of a hop entry, by chain × 128 + entry, or the chain-wide profile of account 256 + chain. -/
def State.dwellProfile (s : State) (acc : Nat) : Nat :=
  if acc < 256 then bits (cellsGet zeroWord s.lnk.hops acc).toNat 15 14
  else s.rd A.LNK_DWCHAIN (2 * (acc - 256) + 1) (2 * (acc - 256))

/-- SUB in network-time units and LIMIT in 100 µs units of a profile. -/
def State.dwellSub (s : State) (p : Nat) : Nat := (s.word (A.LNK_DWPROF p)).toNat * 32000
def State.dwellLimit (s : State) (p : Nat) : Nat := (s.word (A.LNK_DWPROF p + 1)).toNat * 10

/-- Airtime held in sub-window i of an account. -/
def dwellGet (l : List (Nat × Nat)) (k : Nat) : Nat :=
  match l.find? fun e => e.1 == k with
  | some e => e.2
  | none => 0

/-- Sub-window indices that an advance from cur to new reuses, modulo 9 (R215): all nine when it is 9 or more. -/
def dwellCleared (cur new : Nat) : List Nat := (List.range (min 9 (new - cur))).map fun i => (cur + 1 + i) % 9

/-- The sub-windows of profile p as network time has them (R215): the oldest clear; a backward correction leaves
them. -/
def State.advanceDwell (s : State) (p : Nat) : State :=
  let cur := vget s.lnk.subwin (p - 1) 0
  let new := s.now / s.dwellSub p
  if new ≤ cur then s
  else
    let gone := dwellCleared cur new
    { s with lnk := { s.lnk with
      subwin := vset s.lnk.subwin (p - 1) new
      dwell := s.lnk.dwell.filter fun e => !(s.dwellProfile (e.1 / 9) == p && gone.contains (e.1 % 9)) } }

/-- Every profile's sub-windows advance. -/
def State.advanceAllDwell (s : State) : State := [1, 2, 3].foldl (fun s p => s.advanceDwell p) s

/-- SUB of profile p has changed (R215): its sub-windows are indexed anew, and what the accounts hold keeps its age, as
no time has passed (log entry 109). -/
def State.rebaseDwell (s : State) (p : Nat) : State :=
  let cur := vget s.lnk.subwin (p - 1) 0
  let new := s.now / s.dwellSub p
  { s with lnk := { s.lnk with
    subwin := vset s.lnk.subwin (p - 1) new
    dwell := s.lnk.dwell.map fun e =>
      if s.dwellProfile (e.1 / 9) = p then (e.1 / 9 * 9 + (e.1 % 9 + new + 9 - cur % 9) % 9, e.2) else e } }

/-- Airtime of an account over its nine sub-windows (R214). -/
def State.dwellUsed (s : State) (acc : Nat) : Nat :=
  (List.range 9).foldl (fun t i => t + dwellGet s.lnk.dwell (acc * 9 + i)) 0

/-- The account's limit would be exceeded (R214). -/
def State.overDwell (s : State) (acc units : Nat) : Bool :=
  let p := s.dwellProfile acc
  p ≠ 0 && s.dwellLimit p < s.dwellUsed acc + units

/-- Airtime is charged to an account, in its profile's current sub-window; profile 0 has none (R214). -/
def State.charge (s : State) (acc units : Nat) : State :=
  let p := s.dwellProfile acc
  if p = 0 ∨ units = 0 then s
  else
    let s := s.advanceDwell p
    let k := acc * 9 + vget s.lnk.subwin (p - 1) 0 % 9
    let v := dwellGet s.lnk.dwell k + units
    { s with lnk := { s.lnk with dwell := (k, v) :: s.lnk.dwell.filter fun e => e.1 != k } }

/-- DWELL_SUBWINDOW_ADVANCE (R215). -/
def dwellSubwindowAdvanceEffect (s : State) : State := if s.on 11 then s.advanceAllDwell else s

/-- DWELL_SUBWINDOW_ADVANCE. -/
def execDwellSubwindowAdvance (s : State) : Host.Outcome State Fault Refusal :=
  .next (dwellSubwindowAdvanceEffect s)

/-! ## Slots (R33, R192) -/

/-- Slot length in network-time units. -/
def State.slotLen (s : State) : Nat := max 1 (s.rdw A.SEQ_SLOTLEN 2 % 2 ^ 21)

/-- ASN of the slot that holds an instant. -/
def State.asnAt (s : State) (t : Nat) : Nat := (t - s.rdw A.SEQ_EPOCH 4) / s.slotLen

/-- Start of a slot. -/
def State.slotStart (s : State) (asn : Nat) : Nat := s.rdw A.SEQ_EPOCH 4 + asn * s.slotLen

/-! ## Transmit descriptors -/

/-- Word k of a transmit descriptor; ring 0 stands for relay class 0, whose descriptors lie in the relay engine. -/
def State.descWord (s : State) (d : Nat × Nat) (k : Nat) : Nat :=
  if d.1 = 0 then
    match s.msh.relays.find? fun r => r.onRing == some d with
    | some r => (r.words.getD k 0).toNat
    | none => 0
  else (s.placeWord d.1 d.2 k).toNat

/-- Word k of a transmit descriptor replaced. -/
def State.setDescWord (s : State) (d : Nat × Nat) (k v : Nat) : State :=
  if d.1 = 0 then
    { s with msh := { s.msh with
      relays := s.msh.relays.map fun r => if r.onRing == some d then { r with words := r.words.set k (BitVec.ofNat 16 v) } else r } }
  else s.putPlaceWord d.1 d.2 k (BitVec.ofNat 16 v)

/-- LENGTH, ALEN, BUF, KEY and MODE of a descriptor (R195). -/
def State.descLength (s : State) (d : Nat × Nat) : Nat := bits (s.descWord d 3) 10 0
def State.descAlen (s : State) (d : Nat × Nat) : Nat := bits (s.descWord d 4) 10 0
def State.descBuf (s : State) (d : Nat × Nat) : Nat := s.descWord d 5 + 65536 * bits (s.descWord d 6) 7 0
def State.descKey (s : State) (d : Nat × Nat) : Nat := bits (s.descWord d 7) 13 10
def State.descMode (s : State) (d : Nat × Nat) : Nat := bits (s.descWord d 1) 15 8
def State.descMsw (s : State) (d : Nat × Nat) : Bool := bit (s.descWord d 2) 0

/-- Mode in which the PSDU goes out: the target of a mode switch (R151). -/
def State.descPsduMode (s : State) (d : Nat × Nat) : Nat :=
  if s.descMsw d then bits (s.descWord d 2) 15 8 else s.descMode d

/-- The frame as it lies in the buffer, without MIC: LENGTH octets. -/
def State.descFrame (s : State) (d : Nat × Nat) : List Octet := s.octets (s.descBuf d) (s.descLength d)

/-- Octets of MIC that sealing adds. -/
def State.descMic (s : State) (d : Nat × Nat) : Nat := micLen (parseMhr (s.descFrame d)).level

/-- PSDU octets with MIC and FCS. -/
def State.descPsduLen (s : State) (d : Nat × Nat) : Nat :=
  s.descLength d + s.descMic d + (if bit (s.descWord d 1) 3 then 4 else 2)

/-- The PSDU as it is sent: the buffer as sealed, and the FCS (R198). -/
def State.descPsdu (s : State) (d : Nat × Nat) : List Octet :=
  withFcs (bit (s.descWord d 1) 3) (s.octets (s.descBuf d) (s.descLength d + s.descMic d))

/-- SUN FSK preamble octets as `MOD_FSKPRE` now has them. -/
def State.preamble (s : State) : Nat := s.rd A.MOD_FSKPRE 9 0

/-- The modulator's registers as a settle start finds them (R145, R147, R160). -/
def State.modHold (s : State) : ModHold :=
  { pre := s.preamble, whiten := s.flag A.MOD_FSKPRE 15, sfd := s.flag A.MOD_FSKPRE 14, seed := s.rd A.MOD_SPRINT 8 0
    scr := s.rd A.MOD_OFDM 1 0, intlv := s.flag A.MOD_OFDM 2 }

/-- What a mode switch sends ahead of its target PPDU, in units of 1/768 µs; 0 for other transmissions (R151). -/
def State.descLead (s : State) (d : Nat × Nat) (pre : Nat) : Nat :=
  if s.descMsw d then switchLead (s.descMode d) pre else 0

/-- Airtime of the whole transmission, mode switch included, in units of 1/768 µs (R151, R214). -/
def State.descAirtime (s : State) (d : Nat × Nat) (pre : Nat) : Nat :=
  s.descLead d pre + airtime (s.descPsduMode d) pre (s.descPsduLen d)

/-- Time from C to the RMARKER, in fractions, to the nearest (R185). -/
def State.descRmarker (s : State) (d : Nat × Nat) (pre : Nat) : Nat :=
  (2 * (s.descLead d pre + rmarker (s.descPsduMode d) pre) + 3) / 6

/-- Words of key map entry j (R210). -/
def State.keyMap (s : State) (j : Nat) : Nat := s.rdw (A.LNK_KEYMAP j) 2

/-- A control frame (R207) as a descriptor holds it before sealing: secured under an entry with CTRL, first payload
octet of relay class 0. -/
def State.isControlFrame (s : State) (h : Mhr) (os : List Octet) (key : Nat) : Bool :=
  let pay := if h.payIes then (walkPayloadIes os os.length 1024 h.hdrEnd none).1 else h.hdrEnd
  h.ftype = 1 && h.sec && bit (s.keyMap key) 27 && pay < os.length && bits (oct os pay) 3 0 = 0

/-- The descriptor breaks R196 for a cell of the chain. -/
def State.badDescriptor (s : State) (c : Chain) (d : Nat × Nat) : Bool :=
  let w := s.descWord d
  let os := s.descFrame d
  let h := parseMhr os
  let key := s.descKey d
  let buf := s.descBuf d
  let map := s.keyMap key
  let sec := bit (w 7) 14
  let sync := if h.payIes then (walkPayloadIes os os.length 1024 h.hdrEnd none).2.1.isSome else false
  bits (w 1) 1 0 ≠ 0 || bits (w 1) 7 4 = 0 || bits (w 2) 7 1 ≠ 0 || bits (w 3) 15 11 ≠ 0 || bits (w 4) 15 11 ≠ 0
    || bits (w 6) 15 8 ≠ 0 || bit (w 7) 15 || bits (w 9) 5 3 ≠ 0
    || !modeOn c (s.descMode d) || (s.descMode d = 0x80 && bit (w 1) 3)
    || (s.descMsw d && !(s.descMode d < 0x40 && modeOn .A (bits (w 2) 15 8) && c == .A))
    || !lengthOk (s.descPsduMode d) (s.descPsduLen d)
    || s.descLength d < s.descAlen d
    || !(0x100000 ≤ buf && buf + (s.descLength d + s.descMic d + 1) / 2 ≤ 0x200000)
    || sec != h.sec || (sec && 2 ≤ h.kim) || (sec && h.kim = 1 && h.keyIdx ≠ bits map 15 8)
    || (sec && !bit map 31)
    || !(h.version = 1 || h.version = 2)
    || (sync && bits (w 1) 7 4 ≠ 1)
    || ((1 ≤ d.1) && (s.isControlFrame h os key != (d.1 == 1)))

/-! ## Frame counters (R211) -/

/-- What taking the next counter gives. -/
inductive CounterTake where
  | took (fc : Nat)
  | wait
  | exhausted
deriving DecidableEq, Repr

/-- Reservation Rj in MRAM (R211, R403). -/
def State.fcReserve (s : State) (j : Nat) : Nat :=
  (s.mramGet (0x3D0100 + 2 * j)).toNat + 65536 * (s.mramGet (0x3D0100 + 2 * j + 1)).toNat

/-- A write of Rj + 4,096 is asked for, once; no reservation passes FFFF_FFFFh. PD9 that is not on wakes for it (R18). -/
def State.fcRenew (s : State) (j : Nat) : State :=
  if s.lnk.fcWait.any fun p => p.1 == j then s
  else
    let s := s.touchMram 8
    { s with lnk := { s.lnk with fcWait := s.lnk.fcWait ++ [(j, min 0xFFFFFFFF (s.fcReserve j + 4096))] } }

/-- The next counter of entry j is taken (R211). -/
def State.takeCounter (s : State) (j : Nat) : CounterTake × State :=
  let fc := s.rdw (A.LNK_FC j) 2
  if fc = 0xFFFFFFFF then (.exhausted, s)
  else if s.fcReserve j ≤ fc then (.wait, s.fcRenew j)
  else
    let s := s.wrw (A.LNK_FC j) 2 (fc + 1)
    (.took fc, if s.fcReserve j ≤ fc + 1 + 1024 then s.fcRenew j else s)

/-! ## Completion of transmit descriptors -/

/-- A cell has tried the descriptor: its deadline monitor waits for the descriptor's completion (R36, R52). -/
def State.tried (s : State) (op : RfOp) : State :=
  match op.desc with
  | some d =>
    let e := (op.lap, op.index, d)
    if s.lnk.tries.contains e then s else { s with lnk := { s.lnk with tries := s.lnk.tries ++ [e] } }
  | none => s

/-- The descriptor is complete: the monitors of the cells that tried it are returned (R36, R52). -/
def State.triesDone (s : State) (d : Nat × Nat) : State :=
  let mine := s.lnk.tries.filter fun e => e.2.2 == d
  let s := { s with lnk := { s.lnk with tries := s.lnk.tries.filter fun e => e.2.2 != d } }
  s.monitorsDone fun m => m.kind == 1 && mine.any fun e => e.1 == m.lap && e.2.1 == m.index

/-- The completion of a transmit descriptor (R36, R199, R236, R253): LNK_TXDONE fires, the monitors of its cells are
returned, and the relay engine takes those of its own descriptors. -/
def State.completeTx (s : State) (d : Nat × Nat) (status hop : Nat) : State :=
  if !(d.1 = 0 || s.isOut d.1 d.2) then s
  else
    let s := if d.1 = 0 then s else s.complete d.1 d.2 status
    (((s.fire 0x47 hop).triesDone d).freeRelay d.1 d.2 status)

/-- Descriptors past their commit point are all complete: EN of the relay function and of the link controller settle
(R200, R239, R261). A hold of ring 29 that waits for its journal entry is past its commit point. -/
def State.settleEn (s : State) : State :=
  let s := s.enSettle A.MSH_CTRL ((s.msh.relays.any fun r => r.committed)
    || (s.msh.holdWait.any fun h => h.place.isSome) || (s.ring 29).out.any fun d => d.2.2)
  s.enSettle A.LNK_CTRL ((s.msh.relays.any fun r => r.cls == 0 && r.committed)
    || (List.range 17).any fun i => (s.ring (i + 1)).out.any fun d => d.2.2)

/-- ATTEMPTS of a descriptor. -/
def State.attempts (s : State) (d : Nat × Nat) : Nat := bits (s.descWord d 8) 15 8

/-- Outcomes that count an attempt (R199). -/
def countsAttempt (st : Nat) : Bool :=
  [St.OK, St.MISMATCH_BACKOFF, St.NO_ACK, St.CCA_BUSY, St.LATE_LOCK, St.NO_GRANT, St.DWELL_LIMIT].contains st

/-- Outcomes that are final at once (R199). -/
def finalOutcome (st : Nat) : Bool :=
  !List.contains [St.NO_ACK, St.CCA_BUSY, St.LATE_LOCK, St.NO_GRANT, St.DWELL_LIMIT] st

/-- MINBE and MAXBE. -/
def State.minBe (s : State) : Nat := s.rd A.LNK_BE 3 0
def State.maxBe (s : State) : Nat := s.rd A.LNK_BE 7 4

/-- BE and BC of a transmit class. -/
def State.setBackoff (s : State) (k be bc : Nat) : State :=
  { s with lnk := { s.lnk with be := vset s.lnk.be k be, bc := vset s.lnk.bc k bc } }

/-- A random value that falls due later than a failed reseed waits (R354). -/
def State.rngBlocked (s : State) : Bool := s.flag A.VLT_STAT 13 && s.vlt.reseeding

/-- BC of class k is drawn from the vault's random source, or waits for it (R202, R354). -/
def State.drawBackoff (s : State) (k : Nat) : State :=
  let others := s.vlt.drawWait.filter fun j => j != k
  if s.rngBlocked then { s with vlt := { s.vlt with drawWait := others ++ [k] } }
  else
    let be := vget s.lnk.be k 0
    let r := s.draw 8
    { r.2.setBackoff k be (r.1.toNat % 2 ^ be) with vlt := { s.vlt with drawWait := others } }

/-- The backoff of a shared cell's class after an attempt (R202): a success resets BE, a failure draws BC. -/
def State.backoffAfter (s : State) (k status : Nat) : State :=
  if status = St.OK ∨ status = St.MISMATCH_BACKOFF then s.setBackoff k s.minBe (vget s.lnk.bc k 0)
  else
    let be := min (vget s.lnk.be k 0 + 1) s.maxBe
    (s.setBackoff k be 0).drawBackoff k

/-- Counters of the outcomes (R121, R215). -/
def State.countOutcome (s : State) (c : Chain) (op : RfOp) (status : Nat) : State :=
  if status = St.NO_ACK then s.bump A.LNK_NOACKCNT
  else if status = St.CCA_BUSY then s.bump A.LNK_CCABUSYCNT
  else if status = St.DWELL_LIMIT then s.bump A.LNK_DWELLCNT
  else if status = St.NO_GRANT then s.bump (A.RF_GNTCNT c)
  else if status = St.LATE_LOCK then
    (s.bump (A.RF_LATECNT c)).breach 9 St.CONTRACT_BREACH (some (op.lap, op.index)) 0 0
  else s

/-- The end of an attempt (R199, R202): word 8, counters, backoff, and completion where the outcome is final or the
attempts are used up. The chain's own state is the caller's. -/
def State.endAttempt (s : State) (c : Chain) (op : RfOp) (status : Nat) : State :=
  let s := (s.countOutcome c op status).tried op
  match op.desc with
  | none => s
  | some d =>
    let n := s.attempts d + (if countsAttempt status then 1 else 0)
    let s := s.setDescWord d 8 (n % 256 * 256 + status)
    let s := if op.kind = .txShared then s.backoffAfter op.txClass status else s
    if finalOutcome status || bits (s.descWord d 1) 7 4 ≤ n then
      let s := s.completeTx d status 0
      let s := if op.kind = .txDedicated && (s.ring (2 + op.txClass)).out.isEmpty then
          s.setBackoff op.txClass s.minBe 0 else s
      s.settleEn
    else s

end Sys2Proof.Machine
end

