-- ==== Sys2Proof/Machine/Cells.lean ====
section
/-!
DEFINITION. The cells of RADIO entries (R192 to R194, R197, R198, R202): which hop entry, which instants, which
descriptor, and its preparation.
-/
namespace Sys2Proof.Machine

/-- State of an RF chain. -/
def State.chain (s : State) (c : Chain) : Rf := vget s.rf c.ix Rf.init

/-- State of an RF chain replaced. -/
def State.setChain (s : State) (c : Chain) (r : Rf) : State := { s with rf := vset s.rf c.ix r }

/-- `RFx_STAT.STATE` (R118): 0 IDLE, 1 CAL, 2 SETTLE, 3 LOCKED, 4 RX, 5 TX, 6 TURN, 7 SEARCH. -/
def State.rfState (s : State) (c : Chain) : Nat := s.rd (A.RF_STAT c) 15 12

/-- The chain's state as shown; LOCKED shows qualified lock. -/
def State.setRfState (s : State) (c : Chain) (v : Nat) : State :=
  (s.wr (A.RF_STAT c) 15 12 v).setFlag (A.RF_STAT c) 9 (decide (3 ≤ v ∧ v ≤ 6))

/-- Kinds of operation that transmit (R123, R205). -/
def OpKind.sends : OpKind → Bool
  | .txDedicated | .txShared | .txControl | .ack => true
  | .receive | .scan | .rxControl => false

/-- Control cells (R47). -/
def OpKind.control : OpKind → Bool
  | .txControl | .rxControl => true
  | _ => false

/-- Settle lead of a chain, in network-time units (R119). -/
def leadOf : Chain → Nat
  | .A => 80 * 32
  | .B => 56 * 32

/-- Every operation of both chains that is taken and not over. -/
def State.rfOps (s : State) : List RfOp :=
  [Chain.A, Chain.B].flatMap fun c =>
    (s.chain c).next ++ (s.chain c).op.toList ++ (s.chain c).waiting.toList

/-- The descriptor is in an attempt. -/
def State.inAttempt (s : State) (d : Nat × Nat) : Bool := s.rfOps.any fun o => o.desc == some d

/-- Length of the chain's hop table in use (R192). -/
def State.hopLen (s : State) (c : Chain) : Nat := match c with
  | .A => max 1 (s.rd A.LNK_HOPLEN 7 0)
  | .B => max 1 (s.rd A.LNK_HOPLEN 15 8)

/-- The kind of operation of an OP code (R37). -/
def opKind : Nat → OpKind
  | 0 => .txDedicated
  | 1 => .txShared
  | 2 => .receive
  | 3 => .scan
  | 4 => .txControl
  | _ => .rxControl

/-- D of R201, in network-time units. -/
def State.ccaDur (s : State) : Nat := s.rd A.LNK_CCADUR 5 0 * 512

/-- The operation of a RADIO entry's action: instants of R193, hop entry of R192, settle start of R119 and R201. -/
def State.cellOp (s : State) (c : Chain) (x : EntryAct) : RfOp :=
  let kind := opKind (bits (x.arg 0) 15 13)
  let nbr := bits (x.arg 2) 9 0
  let a := x.instant
  let g := s.window nbr
  let instant := match kind with
    | .txShared => a + 1400 * 32
    | .receive | .rxControl => a + 4300 * 32 - g / 2
    | _ => a + 300 * 32
  let cca := kind = .txShared && s.rd A.LNK_CCA 10 8 ≠ 5
  let frameAt := if kind = .receive ∨ kind = .rxControl then a + 4300 * 32 else instant
  let asn := s.asnAt frameAt
  let hop := ((if kind = .scan then 0 else asn) + bits (x.arg 0) 7 0) % s.hopLen c + 128 * c.ix
  { kind := kind, lap := x.lap, index := x.index, a := a, instant := instant
    settle := (if cca then instant - 12 * 32 - s.ccaDur else instant) - leadOf c
    stop := match kind with
      | .receive | .rxControl => instant + g
      | .scan => s.slotStart (s.asnAt instant + 1) - 200 * 32
      | _ => 0
    ch := bits (cellsGet zeroWord s.lnk.hops hop).toNat 9 0, hop := hop, nbr := nbr
    lanes := BitVec.ofNat 10 (x.arg 1), txClass := bits (x.arg 0) 11 8, desc := none, read := false, sealWait := false
    freq := 0, pwr := 0, clipped := false, held := s.modHold, granted := none, cca := cca, emitted := false
    listened := false, ackWanted := false, heard := false, hit := false }

/-- An operation taken joins the chain's list in order of settle start. -/
def insertOp (o : RfOp) : List RfOp → List RfOp
  | [] => [o]
  | x :: t => if o.settle < x.settle then o :: x :: t else x :: insertOp o t

/-- The operation waits for its settle start. -/
def State.addOp (s : State) (c : Chain) (o : RfOp) : State :=
  s.setChain c { s.chain c with next := insertOp o (s.chain c).next }

/-- A descriptor may be taken by a cell: it is in no other attempt, and the link controller is on or the descriptor
past its commit point (R200). -/
def State.mayTake (s : State) (d : Nat × Nat) (committed : Bool) : Bool :=
  !s.inAttempt d && (s.rd A.LNK_CTRL 15 14 = 1 || committed)

/-- The descriptor of an ordinary cell (R197): the first eligible of the first 8 on its class's ring. -/
def State.pickData (s : State) (o : RfOp) : Option (Nat × Nat) :=
  let n := 2 + o.txClass
  if !s.ringEn n then none
  else (((s.ring n).out.take 8).find? fun d => s.mayTake (n, d.1) d.2.2
    && (o.nbr = 0x3FF || bits (s.descWord (n, d.1) 7) 9 0 = o.nbr)).map fun d => (n, d.1)

/-- The descriptor of a control cell (R47, R197): the head of ring 1, or else of relay class 0. -/
def State.pickControl (s : State) : Option (Nat × Nat) :=
  match if s.ringEn 1 then (s.ring 1).out.head? else none with
  | some d => if s.mayTake (1, d.1) d.2.2 then some (1, d.1) else none
  | none =>
    match s.msh.relays.find? fun r => r.cls == 0 && r.onRing.isSome with
    | some r => match r.onRing with
      | some d => if s.mayTake d r.committed then some d else none
      | none => none
    | none => none

/-- The descriptor has been fetched before. -/
def State.wasFetched (s : State) (d : Nat × Nat) : Bool := (s.ring d.1).out.any fun x => x.1 == d.2 && x.2.1

/-- The descriptor is marked fetched, its commit mark as it was. -/
def State.markFetched (s : State) (d : Nat × Nat) : State :=
  if d.1 = 0 then s
  else s.markOut d.1 d.2 true ((s.ring d.1).out.any fun x => x.1 == d.2 && x.2.2)

/-- One octet of a buffer written. -/
def State.putOctet (s : State) (buf i : Nat) (o : Octet) : State :=
  let w := s.sramGet (buf + i / 2)
  s.sramPut (buf + i / 2) (if i % 2 = 0 then (w &&& 0xFF00) ||| o.setWidth 16 else (w &&& 0x00FF) ||| (o.setWidth 16 <<< 8))

/-- Octets of a buffer written from octet i on. -/
def State.putOctets (s : State) (buf i : Nat) : List Octet → State
  | [] => s
  | o :: t => (s.putOctet buf i o).putOctets buf (i + 1) t

/-- A block writes octets into a buffer through its port (R18, R26, R70, R71, R285): a sleeping bank makes them wait for
its wake, and an error response loses them. -/
def State.portOctets (s : State) (port buf i : Nat) (os : List Octet) : State :=
  if os.isEmpty then s
  else
    let a := buf + i / 2
    let n := (i % 2 + os.length + 1) / 2
    let t := s.portTouch port a n
    if t.regionErr port a n then t
    else if t.ramReady a n then t.putOctets buf i os
    else { t with latePuts := t.latePuts ++ [(buf, i, os)] }

/-- Octets that waited for a bank are written (R18). -/
def State.lateOctets (s : State) : State :=
  s.latePuts.foldl (fun s p =>
    if s.ramReady (p.1 + p.2.1 / 2) ((p.2.1 % 2 + p.2.2.length + 1) / 2) then s.putOctets p.1 p.2.1 p.2.2
    else { s with latePuts := s.latePuts ++ [p] }) { s with latePuts := [] }

/-- Steps 1 and 2 of R198: the sequence number and the ASN of a TSCH Synchronization IE. -/
def State.writeHeader (s : State) (d : Nat × Nat) (asn : Nat) : State :=
  let buf := s.descBuf d
  let h := parseMhr (s.descFrame d)
  let s := if bit (s.descWord d 1) 2 then
      let dsn := s.rd A.LNK_DSN 7 0
      let s := if h.version = 2 && bit (octs (s.descFrame d) 0 2) 8 then s else s.putOctet buf 2 (BitVec.ofNat 8 dsn)
      s.wr A.LNK_DSN 7 0 (dsn + 1)
    else s
  let os := s.descFrame d
  match if h.payIes then (walkPayloadIes os os.length 1024 h.hdrEnd none).2.1 else none with
  | some k => s.putOctets buf k (toOctets 5 asn)
  | none => s

/-- SEALED, DSN and FC of a descriptor (R195, R198). -/
def State.markSealed (s : State) (d : Nat × Nat) (fc : Nat) : State :=
  let dsn := (parseMhr (s.descFrame d)).dsn
  let s := s.setDescWord d 9 (putBits (putBits (s.descWord d 9) 15 8 dsn) 7 7 1)
  (s.setDescWord d 10 (fc % 65536)).setDescWord d 11 (fc / 65536)

/-- Step 3 of R198 (R30, R210, R211): the counter, then the seal in place. Answers the outcome that ends the attempt,
if any; whether the seal waits for a reservation or for PD14; and the state. -/
def State.sealDesc (s : State) (d : Nat × Nat) : Option Nat × Bool × State :=
  let key := s.descKey d
  let r := s.blockReach 14 8 0 Win.VLT
  let s := r.2
  if !r.1 then (none, true, s)
  else
    match s.takeCounter key with
    | (.exhausted, s) => (some St.COUNTER_EXHAUSTED, false, s)
    | (.wait, s) => (none, true, s)
    | (.took fc, s) =>
      match s.linkKey (bits (s.keyMap key) 7 0) with
      | (0, k) =>
        let h := parseMhr (s.descFrame d)
        let buf := s.descBuf d
        let s := s.putOctets buf (h.auxOfs + 1) (toOctets 4 fc)
        let os := s.descFrame d
        let alen := s.descAlen d
        let s := s.putOctets buf alen (sealFrame k (s.rdw A.LNK_EXT 4) fc h.level (os.take alen) (os.drop alen))
        (none, false, s.markSealed d fc)
      | (st, _) => (some st, false, s.vaultCount st)

/-- Preparation of a descriptor (R198): nothing where SEALED is set. -/
def State.prepare (s : State) (d : Nat × Nat) (asn : Nat) : Option Nat × Bool × State :=
  if bit (s.descWord d 9) 7 then (none, false, s)
  else
    let s := s.writeHeader d asn
    if bit (s.descWord d 7) 14 then s.sealDesc d else (none, false, s.markSealed d 0)

/-- The link controller reads a descriptor and its frame through port 8 (R18, R26): whether their banks answer now. -/
def State.descReach (s : State) (d : Nat × Nat) : Bool × State :=
  let p := if d.1 = 0 then (true, s) else s.fetchDesc d.1 d.2
  if !p.1 then (false, p.2)
  else
    let buf := p.2.descBuf d
    let n := (p.2.descLength d + p.2.descMic d + 1) / 2
    (p.2.ramReady buf n, p.2.portTouch 8 buf n)

/-- Reading the descriptor or its frame gets an error response (R71, R285). -/
def State.descLost (s : State) (d : Nat × Nat) : Bool :=
  (d.1 ≠ 0 && s.placeLost d.1 d.2) || s.regionErr 8 (s.descBuf d) ((s.descLength d + s.descMic d + 1) / 2)

/-- The frame asks its one destination for an acknowledgement (R203). -/
def Mhr.wantsAck (h : Mhr) : Bool :=
  h.ar && (match h.dst with
    | some (false, x) => x ≠ 0xFFFF
    | some (true, _) => true
    | none => false)

/-- The preparation of an attempt's descriptor as far as it goes (R194, R196, R198): the outcome that ends the attempt,
if any, and the operation, with `sealWait` while a bank, a counter or PD14 is awaited. A malformed descriptor completes
at its first fetch. -/
def State.readyDesc (s : State) (c : Chain) (o : RfOp) (d : Nat × Nat) : Option Nat × RfOp × State :=
  let r := if o.read then (true, s) else s.descReach d
  let s := r.2
  if !o.read && s.descLost d then (some St.BANK_LOST, o, s)
  else if !r.1 then (none, { o with sealWait := true }, s)
  else
    let bad := !o.read && !s.wasFetched d && s.badDescriptor c d
    let s := s.markFetched d
    if bad then (some St.BAD_DESCRIPTOR, o, s)
    else
      match s.prepare d (s.asnAt o.instant) with
      | (some st, _, s) => (some st, o, s)
      | (none, w, s) =>
        (none, { o with read := true, sealWait := w, ackWanted := (parseMhr (s.descFrame d)).wantsAck
                        nbr := bits (s.descWord d 7) 9 0 }, s)

/-- A transmit cell whose descriptor is picked (R194): it awaits its settle start, unless its preparation ends the
attempt. -/
def State.takeDesc (s : State) (c : Chain) (o : RfOp) (d : Nat × Nat) : State :=
  match s.readyDesc c { o with desc := some d } d with
  | (some st, o, s) => s.endAttempt c o st
  | (none, o, s) => s.addOp c o

/-- The first waiting action of the chain's RADIO consumer with an OP code. -/
def State.takeRadio (s : State) (c : Chain) (op : Nat) : Option (EntryAct × State) :=
  match s.cbl.acts.find? fun a => a.cons == 0x20 + c.ix && bits (a.arg 0) 15 13 == op with
  | none => none
  | some a => some (a, { s with cbl := { s.cbl with acts := s.cbl.acts.erase a } })

/-- A RADIO action reaches the link controller: ignored, with DOWN and MISSED, while PD11 is not on (R267). -/
def State.onRadio (s : State) (c : Chain) (op : Nat) (f : State → RfOp → State) : State :=
  match s.takeRadio c op with
  | none => s
  | some (x, s) =>
    if !s.on 11 then (s.setFlag (A.CBL_CONS (0x20 + c.ix)) 2 true).missed (0x20 + c.ix)
    else f s (s.cellOp c x)

/-- A picked descriptor is taken; with none the cell is idle (R194). -/
def State.takePick (s : State) (c : Chain) (o : RfOp) (d : Option (Nat × Nat)) : State :=
  match d with
  | none => s
  | some d => s.takeDesc c o d

/-- RADIO_TRANSMIT_DEDICATED (R192 to R198). -/
def execRadioTransmitDedicated (c : Chain) (s : State) : Host.Outcome State Fault Refusal :=
  .next (s.onRadio c 0 fun s o => s.takePick c o (s.pickData o))

/-- RADIO_TRANSMIT_SHARED (R201, R202): a cell whose class's backoff count is not 0 counts it down and is idle; so is
one whose draw still waits for the random source (R354). -/
def execRadioTransmitShared (c : Chain) (s : State) : Host.Outcome State Fault Refusal :=
  .next (s.onRadio c 1 fun s o =>
    let s := if s.vlt.drawWait.contains o.txClass then s.drawBackoff o.txClass else s
    let bc := vget s.lnk.bc o.txClass 0
    if s.vlt.drawWait.contains o.txClass then s
    else if 0 < bc then s.setBackoff o.txClass (vget s.lnk.be o.txClass 0) (bc - 1)
    else s.takePick c o (s.pickData o))

/-- RADIO_RECEIVE (R193, R194). -/
def execRadioReceive (c : Chain) (s : State) : Host.Outcome State Fault Refusal :=
  .next (s.onRadio c 2 fun s o => s.addOp c o)

/-- RADIO_SCAN (R193, R194). -/
def execRadioScan (c : Chain) (s : State) : Host.Outcome State Fault Refusal :=
  .next (s.onRadio c 3 fun s o => s.addOp c o)

/-- RADIO_CONTROL_TRANSMIT (R47, R197). -/
def execRadioControlTransmit (c : Chain) (s : State) : Host.Outcome State Fault Refusal :=
  .next (s.onRadio c 4 fun s o => s.takePick c o s.pickControl)

/-- RADIO_CONTROL_RECEIVE (R47, R193). -/
def execRadioControlReceive (c : Chain) (s : State) : Host.Outcome State Fault Refusal :=
  .next (s.onRadio c 5 fun s o => s.addOp c o)

end Sys2Proof.Machine
end

