-- ==== Sys2Proof/Machine/Rf.lean ====
section
/-!
DEFINITION. The two RF chains (R118 to R139), the admission of lanes (R172 to R176), CCA (R201), and the tuner.
-/
namespace Sys2Proof.Machine

/-! ## Lanes as the chain drives them -/

/-- Lanes of a chain (R140). -/
def lanesOf : Chain → List Nat
  | .A => [0, 1, 2, 3, 4, 5, 6, 7]
  | .B => [8, 9]

/-- Chain of a lane. -/
def laneChain (k : Nat) : Chain := if k < 8 then .A else .B

/-- The lane that receives acknowledgements and performs CCA (R176, R201). -/
def ackLane : Chain → Nat
  | .A => 0
  | .B => 8

/-- A lane beyond its registers. -/
def State.laneOf (s : State) (k : Nat) : Lane := vget s.lane k Lane.init

/-- A lane replaced. -/
def State.setLane (s : State) (k : Nat) (l : Lane) : State := { s with lane := vset s.lane k l }

/-- PHASE of a lane (R175). -/
def State.phase' (s : State) (k : Nat) : Nat := s.rd (A.RXE_LANE_STAT k) 15 13

/-- PHASE changes; RSSINOW reads 80h in OFF (R184). -/
def State.setPhase (s : State) (k v : Nat) : State :=
  let s := s.wr (A.RXE_LANE_STAT k) 15 13 v
  if v = 0 then s.wr (A.RXE_LANE_LEVEL k) 15 8 0x80 else s

/-- A frame is in reception on the lane: its sync event has been found. -/
def State.receiving (s : State) (k : Nat) : Bool :=
  match (s.laneOf k).frame with
  | some f => 3 ≤ f.sub
  | none => false

/-- A producer no longer waits for the reservation of a ring (R252). -/
def State.leaveRing (s : State) (n : Nat) (k : Fin 10) : State :=
  s.setRing n { s.ring n with waiting := (s.ring n).waiting.erase (.lane k) }

/-- The lane's ring place is released, or its wait for one given up (R188, R252). -/
def State.releasePlace (s : State) (k : Nat) : State :=
  match (s.laneOf k).frame with
  | some f =>
    if f.place.isSome then s.unreserve (18 + k)
    else if f.waitsPlace then s.leaveRing (18 + k) (Fin.ofNat 10 k) else s
  | none => s

/-- A lane that is disabling stops; a 01b written meanwhile takes effect from the next settle start (R191). -/
def State.laneEnSettle (s : State) (k : Nat) : State :=
  if s.rd (A.RXE_LANE_CFG k) 15 14 = 2 then
    ((s.wr (A.RXE_LANE_CFG k) 15 14 (s.laneOf k).again.toNat).setLane k { s.laneOf k with again := false }).setFlag
      (A.RXE_LANE_STAT k) 12 false
  else s

/-- A lane goes to a phase without a frame. -/
def State.clearLane (s : State) (k phase : Nat) : State :=
  let s := s.releasePlace k
  (((s.setLane k { s.laneOf k with frame := none, past := .none, target := none }).setPhase k phase)).laneEnSettle k

/-- Every lane of a chain goes to OFF; frames in reception are lost and counted (R120, R123, R139, R176). -/
def State.lanesOff (s : State) (c : Chain) : State :=
  (lanesOf c).foldl (fun s k =>
    let s := if s.receiving k then s.bump (A.RF_BLANKCNT c) else s
    if s.phase' k = 0 then s else s.clearLane k 0) s

/-- Allocation w of a lane as configured, in kHz (R172). -/
def State.laneWidth (s : State) (k : Nat) : Nat :=
  max (laneBand (s.rd (A.RXE_LANE_CFG k) 7 0)) (200 * s.rd (A.RXE_LANE_CFG k) 13 8)

/-- Whether one lane is admitted, with `used` kHz admitted before it (R173). -/
def State.admits (s : State) (c : Chain) (used k : Nat) : Bool :=
  let half := if c = .A then 3200 else 4000
  let ofs := (signed 10 (s.rd (A.RXE_LANE_OFS k) 9 0)).natAbs
  let w := s.laneWidth k
  s.rd (A.RXE_LANE_CFG k) 15 14 = 1 && 25 * ofs + w ≤ 2 * half && used + w ≤ 2 * half

/-- The registers of a chain's lanes take effect at a settle start (R174): CAP, SLOTW and BUF are latched. -/
def State.latchLanes (s : State) (c : Chain) : State :=
  (lanesOf c).foldl (fun s k => s.setLane k { s.laneOf k with
    cap := s.word (A.RXE_LANE_CAP k), slotw := s.rd (A.RXE_LANE_SLOTW k) 10 0, buf := s.rdw (A.RXE_LANE_BUF k) 2 }) s

/-- Lanes named by an operation are admitted in increasing number (R173); the others are not. -/
def State.admitLanes (s : State) (c : Chain) (named : BitVec 10) : State :=
  let step (p : State × Nat) (k : Nat) : State × Nat :=
    let s := p.1
    if !named.getLsbD k then (s.setFlag (A.RXE_LANE_STAT k) 12 false, p.2)
    else if s.admits c p.2 k then
      let l := { s.laneOf k with mode := BitVec.ofNat 8 (s.rd (A.RXE_LANE_CFG k) 7 0)
                                 ofs := signed 10 (s.rd (A.RXE_LANE_OFS k) 9 0), width := s.laneWidth k
                                 target := none, frame := none, past := .none }
      ((s.setFlag (A.RXE_LANE_STAT k) 12 true).setLane k l, p.2 + s.laneWidth k)
    else ((s.setFlag (A.RXE_LANE_STAT k) 12 false).setFlag (A.RXE_LANE_STAT k) 11 true, p.2)
  let r := (lanesOf c).foldl step (s, 0)
  if c = .A then r.1.wr A.RXE_WINSTAT 5 0 (r.2 / 200) else r.1.wr A.RXE_WINSTAT 13 8 (r.2 / 200)

/-- Admitted lanes of the chain that are still enabled enter SEARCH (R175, R176, R191). -/
def State.lanesSearch (s : State) (c : Chain) (named : BitVec 10) : State :=
  (lanesOf c).foldl (fun s k =>
    if named.getLsbD k && s.flag (A.RXE_LANE_STAT k) 12 && s.rd (A.RXE_LANE_CFG k) 15 14 = 1 then s.clearLane k 1 else s) s

/-- Lane 0 or 8 listens in a mode at OFS 0 (R176, R201). -/
def State.listenOn (s : State) (c : Chain) (mode : Nat) : State :=
  let k := ackLane c
  (s.setLane k { s.laneOf k with frame := none, past := .none, target := none, mode := BitVec.ofNat 8 mode, ofs := 0
                                 width := laneBand mode }).setPhase k 1

/-! ## The chain's state -/

/-- The operation of a chain replaced. -/
def State.setOp (s : State) (c : Chain) (o : Option RfOp) : State := s.setChain c { s.chain c with op := o }

/-- The chain's lanes are blanked by the other chain's transmission (R139). -/
def State.blanked (s : State) (c : Chain) : Bool := (s.chain c.other).blanks

/-- The lanes that the chain's operation listens with search (R139, R175, R176, R201): the admitted ones of a receive
operation, or lane 0 or 8 for an acknowledgement or CCA; blanked lanes stay OFF. -/
def State.listen (s : State) (c : Chain) (o : RfOp) : State :=
  if s.blanked c then s
  else if !o.kind.sends then (if o.listened then s else s.lanesSearch c o.lanes)
  else match o.desc with
    | some d => if o.kind = .ack then s else s.listenOn c (if o.emitted then s.descPsduMode d else s.descMode d)
    | none => s

/-- A chain's transmission ends or turns: the other chain's lanes that it blanked listen again (R139, R176). -/
def State.unblank (s : State) (c : Chain) : State :=
  if (s.chain c).blanks then
    let s := s.setChain c { s.chain c with blanks := false }
    match (s.chain c.other).op with
    | some o => if s.rfState c.other = 4 then s.listen c.other o else s
    | none => s
  else s

/-- A frame that the cell received is still being judged. -/
def State.judgingCell (s : State) (c : Chain) (a : Nat) : Bool := s.lnk.judging.any fun j => j.chain == c && j.a == a

/-- A receive or control receive cell naming a neighbour ends without a hit: a miss, once no frame of it is being
judged (R224). -/
def State.cellEnd (s : State) (c : Chain) (o : RfOp) : State :=
  if o.hit ∨ o.nbr = 0x3FF ∨ !(o.kind = .receive ∨ o.kind = .rxControl) then s
  else if s.judgingCell c o.a then
    { s with lnk := { s.lnk with missDue := s.lnk.missDue ++ [(c.ix, o.a, o.nbr)] } }
  else s.miss o.nbr

/-- The chain returns to IDLE (R118): RFx_END fires; its lanes are off. A cell that has listened ends (R224). -/
def State.chainIdle (s : State) (c : Chain) : State :=
  let s := match (s.chain c).op with
    | some o => if s.rfState c = 4 then s.cellEnd c o else s
    | none => s
  let s := (s.lanesOff c).unblank c
  let s := { s with lnk := { s.lnk with air := vset s.lnk.air c.ix none } }
  ((s.setOp c none).setRfState c 0).fire (0x43 + 2 * c.ix) 0

/-- COEX_GNT at a ball level is asserted for the chain (R138). -/
def State.gntAsserted (s : State) (c : Chain) (level : Bool) : Bool := level != s.flag (A.RF_COEX c) 13

/-- Coexistence MODE of a chain (R137). -/
def State.coexMode (s : State) (c : Chain) : Nat := s.rd (A.RF_COEX c) 15 14

/-- COEX_PRI gives the direction while an operation runs (R138). -/
def State.direction (s : State) (c : Chain) (tx : Bool) : State :=
  if s.coexMode c ≠ 0 && (s.chain c).coex.req then
    s.setChain c { s.chain c with coex := { (s.chain c).coex with pri := tx } }
  else s

/-- Airtime emitted so far is charged to the hop entry and the chain (R214). -/
def State.chargeOp (s : State) (c : Chain) (o : RfOp) (units : Nat) : State :=
  (s.charge o.hop units).charge (256 + c.ix) units

/-- The instant the emission in progress began. -/
def State.emissionStart (s : State) (c : Chain) : Nat :=
  match vget s.lnk.air c.ix none with
  | some e => e.instant
  | none => s.now

/-- An operation of a chain is abandoned before or during its emission: what was emitted is charged, the attempt
ends with a status, and the chain goes to IDLE (R118, R120, R121, R214). -/
def State.abandon (s : State) (c : Chain) (o : RfOp) (status : Nat) : State :=
  let s := if s.rfState c = 5 && o.emitted then s.chargeOp c o (ceilDiv (s.now - s.emissionStart c) 3200) else s
  let s := s.chainIdle c
  if o.kind = .ack then s else s.endAttempt c o status

/-- A waiting operation is abandoned; the calibration or search goes on (R122). -/
def State.abandonWaiting (s : State) (c : Chain) (o : RfOp) (status : Nat) : State :=
  (s.setChain c { s.chain c with waiting := none }).endAttempt c o status

/-! ## Settle start -/

/-- f of R125, in 62.5 Hz units. -/
def State.freq (s : State) (c : Chain) (ch : Nat) : Nat :=
  s.rdw (A.RF_CHBASE c) 2 + ch * (s.word (A.RF_CHSPACE c)).toNat * 200

/-- f lies in the chain's band (R125). -/
def inBand (c : Chain) (f : Nat) : Bool := match c with
  | .A => 7520000 ≤ f && f ≤ 15360000
  | .B => 38400000 ≤ f && f ≤ 39736000

/-- Power code of a transmission on a chain, clipped by VPA on chain A (R131). -/
def State.power (s : State) (c : Chain) (vpa : Nat) : Nat × Bool :=
  let p := s.rd (A.RF_TXPWR c) 6 0
  let top := if c = .B then 30 else if 3000 ≤ vpa then 72 else if 2500 ≤ vpa then 66 else 60
  if top < p then (top, true) else (p, false)

/-- The tuner profile for f on chain A (R132): the lowest-numbered that matches, or 0. -/
def State.profileFor (s : State) (f : Nat) : Nat :=
  let mhz := f / 16000
  ([0, 1, 2, 3].find? fun k => s.rd (A.RFA_TPROF k) 9 0 ≤ mhz && mhz < s.rd (A.RFA_TPROF k + 1) 9 0).getD 0

/-- The profile is applied at a settle start, unless in bypass (R132, R136). -/
def State.applyProfile (s : State) (f : Nat) : State :=
  if s.flag A.RFA_TUNE 15 then s
  else
    let k := s.profileFor f
    ((s.wr A.RFA_TUNE 13 12 k).wr A.RFA_TUNE 11 6 (s.rd (A.RFA_TPROF k) 15 10)).wr A.RFA_TUNE 5 0
      (s.rd (A.RFA_TPROF k + 1) 15 10)

/-- The chain settles on the operation (R118, R119, R132, R173, R174). -/
def State.settleNow (s : State) (c : Chain) (o : RfOp) : State :=
  let s := if c = .A then s.applyProfile o.freq else s
  let s := (s.setOp c (some o)).setRfState c 2
  let s := (s.setChain c { s.chain c with backed := 0 }).latchLanes c
  if o.kind.sends then s else s.admitLanes c o.lanes

/-- A full calibration starts (R118). -/
def State.startCal (s : State) (c : Chain) : State := s.setRfState c 1

/-- The operation at its settle start, the chain free of other operations: band, dwell, reference, calibration, and
settling (R122, R124, R125, R127, R128, R130, R131, R145, R214). -/
def State.settle (s : State) (c : Chain) (o : RfOp) (temp : BitVec 8) (vpa : Nat) : State :=
  let tx := o.kind.sends
  if !s.on (12 + c.ix) then (if tx then s.endAttempt c o St.LATE_LOCK else s)
  else
    let drift := (temp.toInt - signed 8 (s.rd (A.RF_CALTEMP c) 15 8)).natAbs
    let s := if s.rd (A.RF_CALTEMP c) 7 0 < drift then s.setFlag (A.RF_STAT c) 10 true else s
    let f := s.freq c o.ch
    let s := if tx then s.advanceAllDwell else s
    let units := match o.desc with
      | some d => airUnits (s.descAirtime d s.preamble)
      | none => 0
    if !inBand c f then
      let s := s.setFlag (A.RF_STAT c) 7 true
      if tx then s.endAttempt c o St.LATE_LOCK else s
    else if tx && (s.overDwell o.hop units || s.overDwell (256 + c.ix) units) then s.endAttempt c o St.DWELL_LIMIT
    else
      let p := s.power c vpa
      let o := { o with freq := f, pwr := p.1, clipped := p.2, held := s.modHold }
      let s := if tx && p.2 then s.setFlag (A.RF_STAT c) 5 true else s
      if !s.flag A.CLK_STAT 15 then
        let s := s.setFlag (A.RF_STAT c) 8 true
        if tx then s.setChain c { s.chain c with waiting := some o } else s
      else if s.rfState c = 1 ∨ s.rfState c = 7 then s.setChain c { s.chain c with waiting := some o }
      else if !s.flag (A.RF_STAT c) 11 then
        (s.setChain c { s.chain c with waiting := some o }).startCal c
      else s.settleNow c o

/-- The new operation is abandoned because a transmit operation of the chain continues (R123). -/
def State.giveWay (s : State) (c : Chain) (o : RfOp) : State :=
  if o.kind.sends then s.endAttempt c o St.NO_GRANT else s.bump (A.RF_LATECNT c)

/-- An acknowledgement pending on the chain is not sent (R205). -/
def State.dropAck (s : State) (c : Chain) : State :=
  if (vget s.lnk.ackOut c.ix none).isSome then
    ({ s with lnk := { s.lnk with ackOut := vset s.lnk.ackOut c.ix none } }).bump A.LNK_ACKFAILCNT
  else s

/-- SETTLE_START (R119, R123): the chain's next operation. An operation still receiving ends at once; one still
transmitting continues and the new one gives way. -/
def settleStartEffect (c : Chain) (temp : BitVec 8) (vpa : BitVec 12) (s : State) : State :=
  match (s.chain c).next with
  | [] => s
  | o :: t =>
    let s := s.setChain c { s.chain c with next := t }
    match (s.chain c).op, (s.chain c).waiting with
    | some p, _ =>
      if p.kind.sends then s.giveWay c o
      else ((s.dropAck c).chainIdle c).settle c o temp vpa.toNat
    | none, some p =>
      if p.kind.sends then s.giveWay c o
      else (s.setChain c { s.chain c with waiting := none }).settle c o temp vpa.toNat
    | none, none => (s.dropAck c).settle c o temp vpa.toNat

/-- SETTLE_START. -/
def execSettleStart (c : Chain) (temp : BitVec 8) (vpa : BitVec 12) (s : State) : Host.Outcome State Fault Refusal :=
  .next (settleStartEffect c temp vpa s)

/-- LOCK_QUALIFIED (R118, R120). -/
def execLockQualified (c : Chain) (s : State) : Host.Outcome State Fault Refusal :=
  .next (if s.rfState c = 2 then s.setRfState c 3 else s)

/-- LOCK_LOST (R120): a transmission is cut with LATE_LOCK and CUT; a receive operation ends. -/
def lockLostEffect (c : Chain) (s : State) : State :=
  if s.rfState c < 3 ∨ 6 < s.rfState c then s
  else match (s.chain c).op with
    | none => s
    | some o =>
      if o.kind.sends then (s.setFlag (A.RF_STAT c) 6 true).abandon c o St.LATE_LOCK
      else (s.dropAck c).chainIdle c

/-- LOCK_LOST. -/
def execLockLost (c : Chain) (s : State) : Host.Outcome State Fault Refusal := .next (lockLostEffect c s)

/-! ## Transmission -/

/-- The transmit operation of a chain that has not begun to emit, and whether it still waits. -/
def State.txPending (s : State) (c : Chain) : Option (RfOp × Bool) :=
  match (s.chain c).op, (s.chain c).waiting with
  | some o, _ => if o.kind.sends && o.kind ≠ .ack && !o.emitted then some (o, false) else none
  | none, some o => if o.kind.sends then some (o, true) else none
  | none, none => none

/-- A pending transmission is abandoned. -/
def State.abandonPending (s : State) (c : Chain) (p : RfOp × Bool) (status : Nat) : State :=
  if p.2 then s.abandonWaiting c p.1 status else s.abandon c p.1 status

/-- The other chain holds the air: it transmits, searches, or passed its C - 4 µs check first (R121, R139). -/
def State.airTaken (s : State) (c : Chain) : Bool :=
  let st := s.rfState c.other
  st = 5 || st = 7 || (match (s.chain c.other).op with
    | some o => o.granted.isSome && !o.emitted
    | none => false)

/-- Chain B's check fell in this same network-time unit: chain A goes ahead and chain B's is abandoned (R139). -/
def State.sameUnit (s : State) (c : Chain) : Option RfOp :=
  match c, (s.chain c.other).op with
  | .A, some o => if o.granted = some s.now && s.rfState .B ≠ 5 then some o else none
  | _, _ => none

/-- GRANT_CHECK (R121, R138, R139): `gnt` is the level of COEX_GNT. -/
def grantCheckEffect (c : Chain) (gnt : Bool) (s : State) : State :=
  let s := { s with coexGnt := gnt }
  match s.txPending c with
  | none => s
  | some p =>
    if s.coexMode c ≠ 0 && !s.gntAsserted c gnt then s.abandonPending c p St.NO_GRANT
    else
      let s := match s.sameUnit c with
        | some o => s.abandon .B o St.NO_GRANT
        | none => s
      if s.airTaken c then s.abandonPending c p St.NO_GRANT
      else
        let o := { p.1 with granted := some s.now }
        if p.2 then s.setChain c { s.chain c with waiting := some o } else s.setOp c (some o)

/-- GRANT_CHECK. -/
def execGrantCheck (c : Chain) (gnt : Bool) (s : State) : Host.Outcome State Fault Refusal :=
  .next (grantCheckEffect c gnt s)

/-- A descriptor is past its commit point (R200). -/
def State.commitDesc (s : State) (d : Nat × Nat) : State :=
  if d.1 = 0 || (s.msh.relays.any fun r => r.onRing == some d) then
    let s := { s with msh := { s.msh with
      relays := s.msh.relays.map fun r => if r.onRing == some d then { r with committed := true } else r } }
    if d.1 = 0 then s else s.markOut d.1 d.2 true true
  else s.markOut d.1 d.2 true true

/-- PA_ENABLE (R121, R200): without qualified lock, or with the frame still unsealed, LATE_LOCK; otherwise the PA
ramps and the descriptor is past its commit point. -/
def paEnableEffect (c : Chain) (s : State) : State :=
  match s.txPending c with
  | none => s
  | some (o, true) => s.abandonWaiting c o St.LATE_LOCK
  | some (o, false) =>
    if !(s.rfState c = 3 ∨ s.rfState c = 6) ∨ o.instant < s.now then s.abandon c o St.LATE_LOCK
    else
      match o.desc with
      | none => s.abandon c o St.LATE_LOCK
      | some d =>
        match if o.sealWait then s.readyDesc c o d else (none, o, s) with
        | (some st, o, s) => s.abandon c o st
        | (none, o, s) =>
          if o.sealWait then s.abandon c o St.LATE_LOCK else ((s.commitDesc d).setOp c (some o)).setRfState c 5

/-- PA_ENABLE. -/
def execPaEnable (c : Chain) (s : State) : Host.Outcome State Fault Refusal := .next (paEnableEffect c s)

/-- What leaves the antenna port from now on. -/
def State.emit (s : State) (c : Chain) (e : Emission) : State :=
  { s with lnk := { s.lnk with air := vset s.lnk.air c.ix (some e) } }

/-- A frame reaches the modulator, whose gate it opens (R288), and leaves. -/
def State.modulate (s : State) (c : Chain) (e : Emission) : State := (s.openGate 14).emit c e

/-- An emission of an operation without a PSDU. -/
def RfOp.emission (o : RfOp) (c : Chain) (mode : Nat) : Emission :=
  { chain := c, mode := BitVec.ofNat 8 mode, ch := o.ch, freq := o.freq, power := o.pwr, instant := o.instant, lead := 0
    held := o.held, carrier := none, phr := none, head := [], octets := [], sent := [], chips := [], points := []
    samples := [] }

/-- The PPDU of a PSDU in a mode (R142, R145, R147, R148, R150, R154): PHR, whitening, chips, tones and samples. -/
def RfOp.ppdu (o : RfOp) (c : Chain) (mode lead : Nat) (fcs4 : Bool) (octets : List Octet) : Emission :=
  let h := o.held
  let n := octets.length
  let extension := mode = 0x70 || mode = 0x71
  let whiten := mode / 64 = 0 && h.whiten
  let head : List Octet := if mode / 64 = 2 then [0, 0, 0, 0, 0xA7, BitVec.ofNat 8 n] else []
  let points := if mode / 64 = 3 then sprintFrame (mode % 8) h.seed (!fcs4) octets
    else if extension then extensionFrame mode h.scr octets else []
  { o.emission c mode with
    lead := lead
    phr := match mode / 64 with
      | 0 => some (.fsk fcs4 whiten n)
      | 1 => some (.ofdm (mode % 8) n fcs4 h.scr (h.intlv && !extension))
      | _ => none
    head := head, octets := octets, sent := if whiten then whitened octets else octets
    chips := if mode / 64 = 2 then chipsOfOctets (head ++ octets) else []
    points := points, samples := if mode / 64 = 3 then sprintSamples points else [] }

/-- The PPDU of a mode switch, after which the carrier stands until the target PPDU (R151). -/
def RfOp.switchPpdu (o : RfOp) (c : Chain) (base target : Nat) : Emission :=
  { o.emission c base with
    phr := some (.fskSwitch 0 (BitVec.ofNat 8 target)), carrier := some (Machine.switchPpdu base o.held.pre) }

/-- A chain A transmission blanks chain B's lanes when its third harmonic lies in the band or its power is above
+17 dBm (R139). -/
def State.blankOther (s : State) (c : Chain) (o : RfOp) : State :=
  if c = .A && ((38336000 ≤ 3 * o.freq && 3 * o.freq ≤ 39800000) || 66 < o.pwr) then
    (s.lanesOff .B).setChain .A { s.chain .A with blanks := true }
  else s

/-- TX_FIRST_SYMBOL (R118, R121, R139, R151, R185): the first symbol leaves at C; RFx_TX fires; TIME and FRAC are
those of this attempt. -/
def txFirstSymbolEffect (c : Chain) (s : State) : State :=
  match s.txPending c with
  | some (o, false) =>
    match o.desc with
    | none => s
    | some d =>
      if s.rfState c ≠ 5 then s
      else
        let t := o.instant * 8 + s.descRmarker d o.held.pre
        let s := [0, 1, 2, 3].foldl (fun s i => s.setDescWord d (12 + i) (t / 8 / 2 ^ (16 * i) % 65536)) s
        let s := s.setDescWord d 9 (putBits (s.descWord d 9) 2 0 (t % 8))
        let s := s.modulate c (if s.descMsw d then o.switchPpdu c (s.descMode d) (s.descPsduMode d)
          else o.ppdu c (s.descMode d) 0 (bit (s.descWord d 1) 3) (s.descPsdu d))
        let s := ((s.setOp c (some { o with emitted := true })).direction c true).blankOther c o
        s.fire (0x42 + 2 * c.ix) 0
  | _ => s

/-- TX_FIRST_SYMBOL. -/
def execTxFirstSymbol (c : Chain) (s : State) : Host.Outcome State Fault Refusal := .next (txFirstSymbolEffect c s)

/-- MODE_SWITCH_CARRIER_END (R151): the target PPDU starts after the carrier. -/
def modeSwitchCarrierEndEffect (c : Chain) (s : State) : State :=
  match (s.chain c).op with
  | some o =>
    match o.desc with
    | some d =>
      if s.rfState c = 5 && o.emitted && s.descMsw d then
        s.modulate c (o.ppdu c (s.descPsduMode d) (s.descLead d o.held.pre) (bit (s.descWord d 1) 3) (s.descPsdu d))
      else s
    | none => s
  | none => s

/-- MODE_SWITCH_CARRIER_END. -/
def execModeSwitchCarrierEnd (c : Chain) (s : State) : Host.Outcome State Fault Refusal :=
  .next (modeSwitchCarrierEndEffect c s)

/-- The Sprint seed advances after each Sprint frame sent, from 1FFh to 001h. -/
def State.advanceSeed (s : State) (mode : Nat) : State :=
  if mode / 64 = 3 then
    let v := s.rd A.MOD_SPRINT 8 0
    s.wr A.MOD_SPRINT 8 0 (if v = 0x1FF then 1 else v + 1)
  else s

/-- Airtime of the emission in progress, in 100 µs units. -/
def State.emissionUnits (s : State) (c : Chain) (o : RfOp) : Nat :=
  match o.desc, vget s.lnk.air c.ix none with
  | some d, _ => airUnits (s.descAirtime d o.held.pre)
  | none, some e => airUnits (airtime e.mode.toNat o.held.pre e.octets.length)
  | none, none => 0

/-- TX_END (R118, R134, R199, R214): the emission is charged; the chain turns if an acknowledgement is expected, and
otherwise the attempt ends OK, or MISMATCH_BACKOFF where power was reduced. -/
def txEndEffect (c : Chain) (s : State) : State :=
  match (s.chain c).op with
  | some o =>
    if !(s.rfState c = 5 && o.emitted) then s
    else
      let mode := match vget s.lnk.air c.ix none with
        | some e => e.mode.toNat
        | none => 0
      let s := (s.chargeOp c o (s.emissionUnits c o)).advanceSeed mode
      if o.kind = .ack then s.chainIdle c
      else if o.ackWanted then
        (({ s with lnk := { s.lnk with air := vset s.lnk.air c.ix none } }).setRfState c 6).direction c false
      else
        let st := if (s.chain c).backed = 0 then St.OK else St.MISMATCH_BACKOFF
        (s.chainIdle c).endAttempt c o st
  | none => s

/-- TX_END. -/
def execTxEnd (c : Chain) (s : State) : Host.Outcome State Fault Refusal := .next (txEndEffect c s)

/-- TURNAROUND_DONE (R118, R176): towards RX, lane 0 or 8 listens in the transmitted frame's mode; towards TX, an
acknowledgement's first symbol leaves. -/
def turnaroundDoneEffect (c : Chain) (s : State) : State :=
  match (s.chain c).op with
  | some o =>
    if s.rfState c ≠ 6 then s
    else if o.kind = .ack then
      (s.setRfState c 5).setOp c (some { o with emitted := true })
    else if o.emitted then ((s.unblank c).setRfState c 4).listen c o
    else s
  | none => s

/-- TURNAROUND_DONE. -/
def execTurnaroundDone (c : Chain) (s : State) : Host.Outcome State Fault Refusal := .next (turnaroundDoneEffect c s)

/-! ## Reception -/

/-- RECEIVE_START (R118, R122, R138, R175, R201): the grant check of antenna-share, then RX; admitted lanes enter
SEARCH. A start later than R is counted. -/
def receiveStartEffect (c : Chain) (gnt : Bool) (s : State) : State :=
  let s := { s with coexGnt := gnt }
  match (s.chain c).op with
  | some o =>
    if s.rfState c ≠ 3 then s
    else if o.kind.sends then
      (if o.cca && !o.emitted && o.desc.isSome then ((s.setRfState c 4).listen c o).direction c false else s)
    else if s.coexMode c = 2 && !s.gntAsserted c gnt then (s.bump (A.RF_GNTCNT c)).chainIdle c
    else
      let s := if o.instant < s.now then s.bump (A.RF_LATECNT c) else s
      ((s.setRfState c 4).listen c o).direction c false
  | none => s

/-- RECEIVE_START. -/
def execReceiveStart (c : Chain) (gnt : Bool) (s : State) : Host.Outcome State Fault Refusal :=
  .next (receiveStartEffect c gnt s)

/-- A lane of the chain is still in a frame. -/
def State.lanesBusy (s : State) (c : Chain) : Bool := (lanesOf c).any fun k => s.receiving k

/-- LISTEN_END (R175, R224): lanes in SEARCH or SYNC go to OFF. An operation still waiting for a calibration never
listened and counts neither way. -/
def listenEndEffect (c : Chain) (s : State) : State :=
  match (s.chain c).op, (s.chain c).waiting with
  | some o, _ =>
    if o.kind.sends || o.listened then s
    else if s.rfState c ≠ 4 then (if s.rfState c = 2 ∨ s.rfState c = 3 then s.chainIdle c else s)
    else
      let s := (lanesOf c).foldl (fun s k => if s.phase' k ≠ 0 && !s.receiving k then s.clearLane k 0 else s) s
      s.setOp c (some { o with listened := true })
  | none, some o => if o.kind.sends then s else s.setChain c { s.chain c with waiting := none }
  | none, none => s

/-- LISTEN_END. -/
def execListenEnd (c : Chain) (s : State) : Host.Outcome State Fault Refusal := .next (listenEndEffect c s)

/-- RECEIVE_END (R175): the last lane has finished and no acknowledgement is pending; the chain goes to IDLE. -/
def receiveEndEffect (c : Chain) (s : State) : State :=
  match (s.chain c).op with
  | some o =>
    if o.kind.sends || !o.listened || s.lanesBusy c || (vget s.lnk.ackOut c.ix none).isSome then s else s.chainIdle c
  | none => s

/-- RECEIVE_END. -/
def execReceiveEnd (c : Chain) (s : State) : Host.Outcome State Fault Refusal := .next (receiveEndEffect c s)

/-- The channel is busy by the CCA mode (R201). -/
def ccaBusy (mode : Nat) (energy carrier : Bool) : Bool :=
  match mode with
  | 1 => energy
  | 2 => carrier
  | 3 => energy && carrier
  | 4 => energy || carrier
  | _ => false

/-- A level on the ED scale from a power in sixteenths of a dBm (R184): round(2 × (P + 110)), from 0 to 255. -/
def edOf (p : Int) : Nat := (clampInt 0 255 (roundDiv (2 * (p + 110 * 16)) 16)).toNat

/-- CCA_END (R176, R201): `p` is the mean power over D in sixteenths of a dBm. A busy channel ends the attempt; a clear
one turns the chain to TX. Carrier is never found where D is shorter than the detection window. -/
def ccaEndEffect (c : Chain) (p : BitVec 12) (s : State) : State :=
  match (s.chain c).op with
  | some o =>
    if !(s.rfState c = 4 && o.cca && o.kind.sends && !o.emitted) then s
    else
      let ed := edOf p.toInt
      let mode := match o.desc with
        | some d => s.descMode d
        | none => 0
      let carrier := o.heard && detectWindow mode ≤ 24 * s.ccaDur
      let s := s.wr (A.RXE_LANE_LEVEL (ackLane c)) 7 0 ed
      if ccaBusy (s.rd A.LNK_CCA 10 8) (s.rd A.LNK_CCA 7 0 ≤ ed) carrier then s.abandon c o St.CCA_BUSY
      else (((s.lanesOff c).setOp c (some { o with cca := false, heard := false })).setRfState c 6).direction c true
  | none => s

/-- CCA_END. -/
def execCcaEnd (c : Chain) (p : BitVec 12) (s : State) : Host.Outcome State Fault Refusal := .next (ccaEndEffect c p s)

/-! ## Antenna tuner and mismatch -/

/-- MISMATCH_MEASURE (R133): GAMMA, ADVISE, and a power reduction to the end of the frame. -/
def mismatchMeasureEffect (gamma : Octet) (s : State) : State :=
  match (s.chain .A).op with
  | some o =>
    if !(s.rfState .A = 5 && o.emitted) then s
    else
      let g := gamma.toNat
      let s := (s.wr A.RFA_MMSTAT 15 8 g).wr A.RFA_MMSTAT 7 6 0
      if g ≤ s.rd A.RFA_MMTHR 7 0 then s
      else
        let s := (s.setFlag A.RFA_MMSTAT 5 true).wr A.RFA_MMSTAT 3 2 (s.rd A.RFA_TUNE 13 12)
        let s := if s.flag A.RFA_TUNE 14 then s.setFlag (A.RF_STAT .A) 4 true else s
        if g ≤ s.rd A.RFA_MMTHR 15 8 then s
        else
          let k := if g ≤ s.rd A.RFA_MMTHR2 7 0 then 1 else 2
          let s := (s.setFlag A.RFA_MMSTAT 4 true).wr A.RFA_MMSTAT 7 6 k
          let s := s.setChain .A { s.chain .A with backed := k }
          let s := match vget s.lnk.air 0 none with
            | some e => s.emit .A { e with power := ((o.pwr - 12 * k : Nat) : Int) }
            | none => s
          s.setOp .A (some { o with pwr := o.pwr - 12 * k })
  | none => s

/-- MISMATCH_MEASURE. -/
def execMismatchMeasure (gamma : Octet) (s : State) : Host.Outcome State Fault Refusal :=
  .next (mismatchMeasureEffect gamma s)

/-- CALREQ (R127): CAL_DUE is set. -/
def State.calDue (s : State) (c : Chain) : State := s.setFlag (A.RF_STAT c) 10 true

/-- SEARCH written (R135): SEARCH_DUE is set; in bypass the write is discarded. -/
def State.searchDue (s : State) : State :=
  if s.flag A.RFA_TUNE 15 then s.rejected Win.RFA else s.setFlag (A.RF_STAT .A) 4 true

/-- The banks CS and CP are set (R132, R135): `RFA_TUNE` shows them. -/
def State.setBanks (s : State) (cs cp : Nat) : State := (s.wr A.RFA_TUNE 11 6 cs).wr A.RFA_TUNE 5 0 cp

/-- The carrier of a tuner search (R135): -20 dBm, code -8, at a frequency in 62.5 Hz units. -/
def searchCarrier (freq now : Nat) (h : ModHold) : Emission :=
  { chain := .A, mode := 0, ch := 0, freq := freq, power := -8, instant := now, lead := 0, held := h, carrier := some 0
    phr := none, head := [], octets := [], sent := [], chips := [], points := [], samples := [] }

/-- A due tuner search starts in an open gap (R124, R135): XO32M qualified, no calibration pending, not in bypass, 420 µs
left, neither chain transmitting, and the medium granted where the wires are in use (log entry 108). The first probe
sets the banks. -/
def State.trySearch (s : State) : State :=
  match (s.chain .A).gap with
  | none => s
  | some e =>
    if s.rfState .A = 0 && s.flag (A.RF_STAT .A) 4 && !s.flag (A.RF_STAT .A) 10 && !s.flag A.RFA_TUNE 15
        && s.now + 420 * 32 ≤ e && s.rfState .B ≠ 5 then
      if !s.flag A.CLK_STAT 15 then s.setFlag (A.RF_STAT .A) 8 true
      else if s.coexMode .A ≠ 0 && !s.gntAsserted .A s.coexGnt then s
      else
        let k := s.rd A.RFA_MMSTAT 3 2
        let lo := s.rd (A.RFA_TPROF k) 9 0
        let hi := s.rd (A.RFA_TPROF k + 1) 9 0
        let khz := (lo + hi) * 500 / 100 * 100
        let r := s.chain .A
        let coex := if s.coexMode .A = 0 then r.coex else ⟨true, true, r.coex.owners⟩
        let s := (s.setChain .A { r with searchAt := s.now, coex := coex }).setRfState .A 7
        let s := s.setBanks (s.rd (A.RFA_TPROF k) 15 10) (s.rd (A.RFA_TPROF k + 1) 15 10)
        s.emit .A (searchCarrier (16 * khz) s.now s.modHold)
    else s

/-- The carrier of the search in progress ends (R135, R214): it is charged to chain A's own accumulator, and the chain is
IDLE. -/
def State.endSearch (s : State) : State :=
  let s := s.charge 256 (ceilDiv (s.now - (s.chain .A).searchAt) 3200)
  ({ s with lnk := { s.lnk with air := vset s.lnk.air 0 none } }).setRfState .A 0

/-- CALIBRATION_GAP (R46, R127, R135): a gap of BUDGET µs opens; a due calibration and then a due search start on an
IDLE chain. -/
def calibrationGapEffect (c : Chain) (s : State) : State :=
  match s.takeAct (0x27 + c.ix) with
  | none => s
  | some (x, s) =>
    if !s.on (12 + c.ix) then (s.setFlag (A.CBL_CONS (0x27 + c.ix)) 2 true).missed (0x27 + c.ix)
    else
      let len := (x.words.getD 4 0).toNat
      let s := s.setChain c { s.chain c with gap := some (x.instant + len * 32) }
      if s.rfState c ≠ 0 then s
      else if s.flag (A.RF_STAT c) 10 then
        (if s.flag A.CLK_STAT 15 then s.startCal c else s.setFlag (A.RF_STAT c) 8 true)
      else if c = .A then s.trySearch else s

/-- CALIBRATION_GAP. -/
def execCalibrationGap (c : Chain) (s : State) : Host.Outcome State Fault Refusal := .next (calibrationGapEffect c s)

/-- An operation that waited for the chain settles (R122). -/
def State.resumeWaiting (s : State) (c : Chain) : State :=
  match (s.chain c).waiting with
  | some o => if s.flag A.CLK_STAT 15 then (s.setChain c { s.chain c with waiting := none }).settleNow c o else s
  | none => s

/-- CALIBRATION_DONE (R118, R126, R127): CALTEMP and CALVALID, CAL_DUE clears, the chain is IDLE; an operation that
waited settles, and otherwise a due search may start. -/
def calibrationDoneEffect (c : Chain) (temp : BitVec 8) (s : State) : State :=
  if s.rfState c ≠ 1 then s
  else
    let s := ((s.wr (A.RF_CALTEMP c) 15 8 temp.toNat).setFlag (A.RF_STAT c) 11 true).setFlag (A.RF_STAT c) 10 false
    let s := (s.setRfState c 0).fire (0x43 + 2 * c.ix) 0
    let s := s.resumeWaiting c
    if c = .A then s.trySearch else s


/-- The search's state: best CS, best CP, best GAMMA, and the probes' results still to come. -/
structure Search where
  cs : Nat
  cp : Nat
  g : Nat
  probes : List Octet
deriving DecidableEq, Repr

/-- One probe at a setting, taken if it is a strict improvement (R135). -/
def Search.probe (b : Search) (cs cp : Nat) : Search :=
  match b.probes with
  | [] => b
  | g :: t => if g.toNat < b.g then ⟨cs, cp, g.toNat, t⟩ else { b with probes := t }

/-- A pass over one bank, the other held (R135): the limits are those at its start. -/
def Search.passCs (b : Search) : Search :=
  (List.range (min 63 (b.cs + 4) + 1 - (b.cs - 4))).foldl (fun x i => x.probe (b.cs - 4 + i) x.cp) b
def Search.passCp (b : Search) : Search :=
  (List.range (min 63 (b.cp + 4) + 1 - (b.cp - 4))).foldl (fun x i => x.probe x.cs (b.cp - 4 + i)) b

/-- The grid of the search (R135). -/
def searchGrid : List (Nat × Nat) :=
  [4, 12, 20, 28, 36, 44, 52, 60].flatMap fun a => [4, 12, 20, 28, 36, 44, 52, 60].map fun b => (a, b)

/-- The search of R135 over the results of its probes in order: the best setting, and that of the last probe. -/
def runSearch (cs cp : Nat) (gammas : List Octet) : Nat × Nat × Nat × Nat :=
  let b0 : Search := match gammas with
    | [] => ⟨cs, cp, 255, []⟩
    | g :: t => ⟨cs, cp, g.toNat, t⟩
  let b1 := searchGrid.foldl (fun (b : Search) p => b.probe p.1 p.2) b0
  let b2 := b1.passCs.passCp.passCs
  let b3 := b2.passCp
  (b3.cs, b3.cp, b2.cs, min 63 (b2.cp + 4))

/-- SEARCH_DONE (R135, R214): `gammas` are the results of the probes in order. The banks stay as the last probe set
them, to the next settle start (log entry 108). -/
def searchDoneEffect (gammas : List Octet) (s : State) : State :=
  if s.rfState .A ≠ 7 then s
  else
    let k := s.rd A.RFA_MMSTAT 3 2
    let b := runSearch (s.rd (A.RFA_TPROF k) 15 10) (s.rd (A.RFA_TPROF k + 1) 15 10) gammas
    let s := (s.wr (A.RFA_TPROF k) 15 10 b.1).wr (A.RFA_TPROF k + 1) 15 10 b.2.1
    let s := (s.setFlag (A.RF_STAT .A) 4 false).setFlag A.RFA_MMSTAT 5 false
    ((s.setBanks b.2.2.1 b.2.2.2).endSearch.fire 0x43 0).resumeWaiting .A

/-- SEARCH_DONE. -/
def execSearchDone (gammas : List Octet) (s : State) : Host.Outcome State Fault Refusal :=
  .next (searchDoneEffect gammas s)

/-! ## Coexistence wires (R137, R138) -/

/-- An operation requests the medium (R137). -/
def State.requests (s : State) (c : Chain) (o : RfOp) : Bool :=
  s.coexMode c = 2 || (s.coexMode c = 1 && o.kind.sends)

/-- The chain's operations that may request the medium, running one first, each with whether it is its
acknowledgement that does (R137, R205). -/
def State.coexOps (s : State) (c : Chain) : List (RfOp × Bool) :=
  let r := s.chain c
  let own := (r.op.toList ++ r.waiting.toList ++ r.next).filter fun o => s.requests c o
  let acks := if (vget s.lnk.ackOut c.ix none).isSome && s.coexMode c ≠ 0 then r.op.toList else []
  own.map (·, false) ++ acks.map (·, true)

/-- An operation that requested the medium runs on the chain, so that COEX_PRI gives direction (R138). -/
def State.coexRuns (s : State) (c : Chain) : Bool :=
  4 ≤ s.rfState c && s.rfState c ≤ 7 && ((s.chain c).op.any fun o => (s.chain c).coex.owners.any fun w => w.1 == o.a)

/-- COEX_REQUEST (R138): COEX_REQ asserts for the first operation that has not requested yet. COEX_PRI gives its
priority, unless an earlier one still runs and has it (log entry 108). -/
def coexRequestEffect (c : Chain) (s : State) : State :=
  let r := s.chain c
  match (s.coexOps c).find? fun p => !r.coex.owners.contains (p.1.a, p.2) with
  | some (o, ack) =>
    let pri := if s.coexRuns c then r.coex.pri else o.kind.control || s.flag (A.RF_COEX c) 12
    s.setChain c { r with coex := ⟨true, pri, r.coex.owners ++ [(o.a, ack)]⟩ }
  | none => s

/-- COEX_REQUEST. -/
def execCoexRequest (c : Chain) (s : State) : Host.Outcome State Fault Refusal := .next (coexRequestEffect c s)

/-- COEX_GNT_DEASSERT (R138): the PA or the receiver of the requesting operation stops, from its grant check on; a
transmission is abandoned with NO_GRANT, and a search's carrier ends with the search still due. -/
def coexGntDeassertEffect (c : Chain) (s : State) : State :=
  let s := { s with coexGnt := s.flag (A.RF_COEX c) 13 }
  match (s.chain c).op with
  | some o =>
    if !(s.requests c o) || 6 < s.rfState c || (s.rfState c < 4 && o.granted.isNone) then s
    else if o.kind.sends then s.abandon c o St.NO_GRANT
    else (s.dropAck c).chainIdle c
  | none => if s.coexMode c ≠ 0 && s.rfState c = 7 then (s.endSearch.fire 0x43 0).resumeWaiting .A else s

/-- COEX_GNT_DEASSERT. -/
def execCoexGntDeassert (c : Chain) (s : State) : Host.Outcome State Fault Refusal := .next (coexGntDeassertEffect c s)

/-- COEX_RELEASE (R138): 2 µs after an operation's end its request is over; the wires release with the last one. -/
def coexReleaseEffect (c : Chain) (s : State) : State :=
  let r := s.chain c
  let live := (r.op.toList ++ r.waiting.toList ++ r.next).map (·.a)
  let owners := r.coex.owners.filter fun w => live.contains w.1
  if owners.isEmpty && s.rfState c ≠ 7 then s.setChain c { r with coex := ⟨false, false, []⟩ }
  else s.setChain c { r with coex := { r.coex with owners := owners } }

/-- COEX_RELEASE. -/
def execCoexRelease (c : Chain) (s : State) : Host.Outcome State Fault Refusal := .next (coexReleaseEffect c s)

/-- With MODE 00b, COEX_REQ and COEX_PRI are held low (R137). -/
def State.coexOff (s : State) (c : Chain) : State :=
  if s.coexMode c = 0 then s.setChain c { s.chain c with coex := ⟨false, false, []⟩ } else s

/-! ## Aborted descriptors -/

/-- The descriptor is past its commit point. -/
def State.txCommitted (s : State) (d : Nat × Nat) : Bool :=
  if d.1 = 0 then s.msh.relays.any fun r => r.onRing == some d && r.committed
  else (s.ring d.1).out.any fun x => x.1 == d.2 && x.2.2

/-- The attempt of a descriptor is given up: an operation that has not settled leaves the list, and a chain that
settled for it goes to IDLE. -/
def State.dropAttempt (s : State) (d : Nat × Nat) : State :=
  let s := (s.rfOps.filter fun o => o.desc == some d).foldl (fun s o => s.tried o) s
  [Chain.A, Chain.B].foldl (fun s c =>
    let r := s.chain c
    let s := s.setChain c { r with
      next := r.next.filter fun o => o.desc != some d
      waiting := r.waiting.filter fun o => o.desc != some d }
    if r.op.any fun o => o.desc == some d then s.chainIdle c else s) s

/-- A transmit descriptor before its commit point completes ABORTED at once (R200). -/
def State.abortTx (s : State) (d : Nat × Nat) (hop : Nat) : State :=
  ((s.dropAttempt d).completeTx d St.ABORTED hop).settleEn

/-- LNK_ABORT (R200, R263, R270): an event at LNK_ABORTx aborts the chain's transmit attempt before its commit
point. -/
def lnkAbortEffect (c : Chain) (s : State) : State :=
  s.onEvent (0x4D + c.ix) false fun hop _ _ s =>
    let ops := (s.chain c).op.toList ++ (s.chain c).waiting.toList ++ (s.chain c).next
    match ops.findSome? fun o => o.desc with
    | some d => if s.txCommitted d then s else s.abortTx d hop
    | none => s

/-- LNK_ABORT. -/
def execLnkAbort (c : Chain) (s : State) : Host.Outcome State Fault Refusal := .next (lnkAbortEffect c s)

/-- One operation whose preparation waited goes on with it; what ends its attempt ends it (R30, R198, R211). `put`
stores the operation again, `stop` ends the attempt. -/
def State.resumeOp (s : State) (c : Chain) (o : RfOp) (put : State → RfOp → State) (stop : State → RfOp → Nat → State) :
    State :=
  match o.sealWait, o.desc with
  | true, some d =>
    match s.readyDesc c o d with
    | (none, o, s) => put s o
    | (some st, o, s) => stop s o st
  | _, _ => s

/-- Preparations that waited for a bank, a counter or PD14 go on (R18, R30, R211). -/
def State.resumeSeals (s : State) : State :=
  [Chain.A, Chain.B].foldl (fun s c =>
    let s := (s.chain c).next.foldl (fun s x => s.resumeOp c x
      (fun s o => s.setChain c { s.chain c with next := (s.chain c).next.map fun y => if y == x then o else y })
      fun s o st => (s.setChain c { s.chain c with next := (s.chain c).next.filter fun y => y != x }).endAttempt c o st) s
    let s := (s.chain c).waiting.toList.foldl (fun s x => s.resumeOp c x
      (fun s o => s.setChain c { s.chain c with waiting := some o }) fun s o st => s.abandonWaiting c o st) s
    (s.chain c).op.toList.foldl (fun s x => s.resumeOp c x (fun s o => s.setOp c (some o)) fun s o st => s.abandon c o st) s)
    s

/-- LINK_DISABLE (R200, R261): descriptors before their commit point complete CANCELLED_BY_DISABLE; those past it keep
their cells, and EN reads 10b until they complete. -/
def State.linkDisable (s : State) : State :=
  let ds := (List.range 17).flatMap fun i => ((s.ring (i + 1)).out.filter fun d => !d.2.2).map fun d => (i + 1, d.1)
  let queued := (s.msh.relays.filter fun r => r.cls == 0 && !r.committed).filterMap fun r => r.onRing
  let s := queued.foldl (fun s d => s.dropAttempt d) s
  let s := ds.foldl (fun s d => (s.dropAttempt d).completeTx d St.CANCELLED_BY_DISABLE 0) s
  (s.wr A.LNK_CTRL 15 14 2).settleEn

/-- Both chains lose XO32M (R124): NOREF shows, operations in progress go to IDLE, transmissions with LATE_LOCK. -/
def State.rfLoseRef (s : State) : State :=
  [Chain.A, Chain.B].foldl (fun s c =>
    if !s.on (12 + c.ix) then s
    else
      let s := s.setFlag (A.RF_STAT c) 8 true
      match (s.chain c).op with
      | some o => if o.kind.sends then s.abandon c o St.LATE_LOCK else (s.dropAck c).chainIdle c
      | none => if s.rfState c = 1 then s.setRfState c 0 else if s.rfState c = 7 then s.endSearch else s) s

/-- XO32M is qualified again (R124): NOREF clears. -/
def State.rfHaveRef (s : State) : State :=
  [Chain.A, Chain.B].foldl (fun s c => s.setFlag (A.RF_STAT c) 8 false) s

end Sys2Proof.Machine
end

