-- ==== Sys2Proof/Machine/Receive.lean ====
section
/-!
DEFINITION. The receive engine (R171 to R191) and the first part of the link controller's judgement: filter steps 1
to 8 (R208, R209) and the matching of acknowledgements (R203, R212, R220, R221).
-/
namespace Sys2Proof.Machine

/-! ## Lanes -/

/-- The operation of a lane's chain. -/
def State.laneOp (s : State) (k : Nat) : Option RfOp := (s.chain (laneChain k)).op

/-- The lane receives an acknowledgement or performs CCA for a transmit operation. -/
def State.laneServesTx (s : State) (k : Nat) : Bool :=
  match s.laneOp k with
  | some o => o.kind.sends
  | none => false

/-- The lane leaves its frame: SEARCH, or OFF once its operation's listening is over or the lane is disabled (R175,
R191). `inSwitch` keeps it in MODESW. -/
def State.laneHome (s : State) (k : Nat) (inSwitch : Bool) : State :=
  let off0 := match s.laneOp k with
    | some o => !o.kind.sends && o.listened
    | none => true
  let en := s.rd (A.RXE_LANE_CFG k) 15 14
  let off := off0 || en = 2 || (!s.laneServesTx k && en ≠ 1)
  let s := s.releasePlace k
  let l := s.laneOf k
  let keep := inSwitch && !off
  let s := s.setLane k { l with frame := none, past := .none, target := if keep then l.target else none }
  (s.setPhase k (if off then 0 else if keep then 5 else 1)).laneEnSettle k

/-- What the lane left behind is remembered for a candidate of the same cycle (R183). -/
def State.setPast (s : State) (k : Nat) (p : LanePast) : State := s.setLane k { s.laneOf k with past := p }

/-- Mode in which the lane now searches: the mode-switch target, or its own (R177). -/
def Lane.searchMode (l : Lane) : Octet := l.target.getD l.mode

/-- The lane starts on a preamble of a power (R177, R182). -/
def State.startFrame (s : State) (k : Nat) (p : Int) : State :=
  let l := s.laneOf k
  let f : LaneFrame :=
    { sub := 2, power := p, mode := l.searchMode, coded := false, time := 0, length := 0, fcs4 := false, place := none
      unplaced := false, waitsPlace := false, modeSwitch := l.target.isSome, whiten := false, seed := 0
      interleaved := false }
  let s := s.setLane k { l with frame := some f, past := .none }
  let s := s.bump (A.RXE_LANE_DETCNT k)
  if s.phase' k = 5 then s else s.setPhase k 2

/-- DETECTION (R177): `p` is P_det in half dBm. -/
def detectionEffect (k : Fin 10) (p : BitVec 12) (s : State) : State :=
  if !((s.phase' k = 1 ∨ s.phase' k = 5) ∧ (s.laneOf k).frame.isNone) then s
  else
    let s := s.startFrame k p.toInt
    let c := laneChain k
    match s.laneOp k with
    | some o => if o.kind.sends then s.setOp c (some { o with heard := true }) else s
    | none => s

/-- DETECTION. -/
def execDetection (k : Fin 10) (p : BitVec 12) (s : State) : Host.Outcome State Fault Refusal :=
  .next (detectionEffect k p s)

/-- The lane looks for this SFD (R141, R145): the group that the settle start found, and the coded one only where the
mode has a FEC scheme. Other families have one sync event. -/
def State.seeksSfd (s : State) (k : Nat) (mode : Nat) (group coded : Bool) : Bool :=
  mode / 64 ≠ 0 || ((!coded || mode / 16 % 4 ≠ 0) && ((s.laneOp k).any fun o => o.held.sfd == group))

/-- SYNC_EVENT (R141, R145, R177, R185): HEADER; the receive timestamp, in fractions, is fixed; RXE_SYNC fires. -/
def syncEventEffect (k : Fin 10) (t : BitVec 67) (group coded : Bool) (s : State) : State :=
  match (s.laneOf k).frame with
  | some f =>
    if f.sub ≠ 2 || !s.seeksSfd k f.mode.toNat group coded then s
    else
      let coded := coded && f.mode.toNat / 64 = 0
      let s := s.setLane k { s.laneOf k with frame := some { f with sub := 3, time := t.toNat, coded := coded } }
      let s := if s.phase' k = 5 then s else s.setPhase k 3
      s.fire 0x46 0
  | none => s

/-- SYNC_EVENT. -/
def execSyncEvent (k : Fin 10) (e : SyncAt) (s : State) : Host.Outcome State Fault Refusal :=
  .next (syncEventEffect k e.time e.group e.coded s)

/-- A false detection on a lane whose wait for an acknowledgement is over ends the attempt with NO_ACK (R203). -/
def State.ackGivenUp (s : State) (k : Nat) : State :=
  let c := laneChain k
  match s.laneOp k with
  | some o =>
    if o.kind.sends && o.emitted && o.listened && s.rfState c = 4 then (s.chainIdle c).endAttempt c o St.NO_ACK else s
  | none => s

/-- A false detection (R180): back to SEARCH, counted. -/
def State.falseDetection (s : State) (k : Nat) : State :=
  ((s.laneHome k (s.phase' k = 5)).bump (A.RXE_LANE_FALSECNT k)).ackGivenUp k

/-- SYNC_LOST (R178, R180). -/
def syncLostEffect (k : Fin 10) (s : State) : State :=
  match (s.laneOf k).frame with
  | some f => if f.sub = 2 then s.falseDetection k else s
  | none => s

/-- SYNC_LOST. -/
def execSyncLost (k : Fin 10) (s : State) : Host.Outcome State Fault Refusal := .next (syncLostEffect k s)

/-- CAP of a lane as its operation's settle start found it (R174): a field. -/
def State.laneCap (s : State) (k hi lo : Nat) : Nat := bits (s.laneOf k).cap.toNat hi lo

/-- The frame's commit point (R177, R187, R252): PAYLOAD, with a reserved place and its buffer slot. One that finds the
reservation held waits for it; one that finds no place goes on unplaced; one longer than its slot is dropped. -/
def State.commitFrame (s : State) (k : Nat) (f : LaneFrame) : State :=
  let f := { f with sub := 4 }
  let commit (s : State) (f : LaneFrame) : State :=
    let s := s.setLane k { s.laneOf k with frame := some f }
    if s.phase' k = 5 then s else s.setPhase k 4
  let n := 18 + k
  if s.laneServesTx k then commit s f
  else if 2 * (s.laneOf k).slotw < f.length then
    (s.laneHome k false).bump (A.RXE_LANE_DROPCNT k)
  else if s.canReserve n then
    commit (s.reserve n 8) { f with place := some ((s.ring n).pi.toNat % s.ringSize n) }
  else if s.ringRoom n then
    commit (s.setRing n { s.ring n with waiting := (s.ring n).waiting ++ [.lane (Fin.ofNat 10 k)] })
      { f with waitsPlace := true }
  else (commit s { f with unplaced := true }).bump (A.RXE_LANE_DROPCNT k)

/-- HEADER_CHECK (R142, R146, R149, R150, R152, R158, R177, R180). -/
def headerCheckEffect (k : Fin 10) (h : PhyHeader) (s : State) : State :=
  match (s.laneOf k).frame with
  | some f =>
    if f.sub ≠ 3 then s
    else
      match checkHeader f.mode.toNat (s.laneCap k 7 4) f.coded h with
      | .fail => (s.falseDetection k).setPast k .failed
      | .pass mode len fcs4 info =>
        s.commitFrame k { f with mode := BitVec.ofNat 8 mode, length := len, fcs4 := fcs4, whiten := info.whiten
                                 seed := info.seed, interleaved := info.interleaved }
      | .switch target =>
        if modeOn .A target && laneBand target ≤ (s.laneOf k).width then
          (s.setLane k { s.laneOf k with frame := none, past := .none, target := some (BitVec.ofNat 8 target) }).setPhase k 5
        else (s.laneHome k f.modeSwitch).bump (A.RXE_LANE_MSREFCNT k)
  | none => s

/-- HEADER_CHECK. -/
def execHeaderCheck (k : Fin 10) (h : PhyHeader) (s : State) : Host.Outcome State Fault Refusal :=
  .next (headerCheckEffect k h s)

/-- MODE_SWITCH_TIMEOUT (R152): no header confirmed; the lane returns to its configured mode. -/
def modeSwitchTimeoutEffect (k : Fin 10) (s : State) : State :=
  let confirmed := match (s.laneOf k).frame with
    | some f => f.sub == 4
    | none => false
  if s.phase' k = 5 && !confirmed then (s.laneHome k false).ackGivenUp k else s

/-- MODE_SWITCH_TIMEOUT. -/
def execModeSwitchTimeout (k : Fin 10) (s : State) : Host.Outcome State Fault Refusal :=
  .next (modeSwitchTimeoutEffect k s)

/-- Frame RSSI from a power in half dB (R184). -/
def rssiOf (p : Int) : Int := clampInt (-128) 127 (roundDiv p 2)

/-- RSSINOW from a power in sixteenths of a dBm (R184). -/
def rssiNow (p : Int) : Int := clampInt (-128) 127 (roundDiv p 16)

/-- LQI from an SNR in sixteenths of a dB (R184): round(8 × (SNR + 5)), from 0 to 255. -/
def lqiOf (snr : Int) : Nat := (clampInt 0 255 (roundDiv (snr + 80) 2)).toNat

/-- FOFS from a carrier offset in ppb (R184): units of 0.5 ppm, within ±63.5 ppm. -/
def fofsOf (ppb : Int) : Int := clampInt (-127) 127 (roundDiv ppb 500)

/-- What a completion of R190 says beyond its lane and frame. -/
structure RxInfo where
  confirmed : Bool
  secured : Bool
  control : Bool
  status : Nat
  lqi : Nat
  fofs : Int
  ch : Nat
  nbr : Nat
  payOfs : Nat
  xrssi : Int
deriving DecidableEq, Repr

/-- The sixteen words of a completion on ring 18 + k or ring 0 (R190). ACKSENT is written when the acknowledgement
leaves. -/
def State.rxWords (s : State) (k : Nat) (f : LaneFrame) (i : RxInfo) : List W16 :=
  let w (n : Nat) : W16 := BitVec.ofNat 16 n
  [(s.laneOf k).tag,
   w (i.confirmed.toNat * 32768 + i.secured.toNat * 16384 + f.modeSwitch.toNat * 4096 + i.control.toNat * 2048 + i.status % 256),
   w (f.mode.toNat * 256 + k % 16), w (f.length % 2048), w (unsigned 8 (rssiOf f.power) * 256 + i.lqi % 256),
   w (i.ch % 1024)] ++ toWords 4 (f.time / 8)
    ++ [w (unsigned 8 i.fofs * 256 + f.time % 8), w (s.asnAt (f.time / 8)), w (i.nbr % 1024), w (i.payOfs % 2048),
        w (unsigned 8 i.xrssi * 256), 0]

/-- The lane's post count advances (R190). -/
def State.countPost (s : State) (k : Nat) : State :=
  (s.setLane k { s.laneOf k with tag := (s.laneOf k).tag + 1 }).bump (A.RXE_LANE_POSTCNT k)

/-- The buffer slot of place i on ring 18 + k (R174, R188). -/
def State.slotAddr (s : State) (k i : Nat) : Nat := (s.laneOf k).buf + i * (s.laneOf k).slotw

/-- Octets of a frame written into its slot (R188). -/
def State.writeSlot (s : State) (k : Nat) (f : LaneFrame) (os : List Octet) : State :=
  match f.place with
  | some i => s.portOctets 8 (s.slotAddr k i) 0 os
  | none => s

/-- An OVERTAKEN completion (R189): from PAYLOAD in the frame's place with the octets so far; from HEADER in the next
free place. An acknowledgement's lane posts none (R176). -/
def State.postOvertaken (s : State) (k : Nat) (f : LaneFrame) (pNew : Int) (got : List Octet) (lqi : Nat) (fofs : Int) :
    State :=
  let conf := f.sub == 4
  let ch := match s.laneOp k with
    | some o => o.ch
    | none => 0
  let info : RxInfo :=
    { confirmed := conf, secured := false, control := false, status := St.OVERTAKEN
      lqi := if conf then lqi else 0, fofs := fofs, ch := ch, nbr := if conf then 0x3FF else 0, payOfs := 0
      xrssi := rssiOf pNew }
  let s := s.bump (A.RXE_LANE_OVERCNT k)
  if s.laneServesTx k then s
  else if conf && !f.waitsPlace then
    if f.place.isSome then
      let s := s.writeSlot k f (got.take f.length)
      ((s.postReserved (18 + k) (s.rxWords k f info)).countPost k).fire 0x48 0
    else s
  else
    let p := s.post (18 + k) 8 (s.rxWords k { f with length := if conf then f.length else 0 } info)
    if p.1 then (p.2.countPost k).fire 0x48 0 else s.bump (A.RXE_LANE_DROPCNT k)

/-- The lane restarts onto a candidate (R182). A frame whose completion has been posted holds no place any more. -/
def State.restartOnto (s : State) (k : Nat) (p : Int) : State :=
  let s := s.releasePlace k
  let s := if s.phase' k = 5 then s else s.setPhase k 2
  s.startFrame k p

/-- The frame's place is no longer the lane's: it has been posted. -/
def State.forgetPlace (s : State) (k : Nat) : State :=
  let l := s.laneOf k
  s.setLane k { l with frame := l.frame.map fun f => { f with place := none } }

/-- One symbol of a mode, in 1/768 µs (R144, R147, R150, R153). -/
def symbolTime (m : Nat) : Nat :=
  match m / 64 with
  | 0 => 1000 * perUs / (fskMode m).symbols
  | 1 => 120 * perUs
  | 2 => 16 * perUs
  | _ => 40 * perUs

/-- The candidate of one detection window (R181): images of the current frame, whose preamble timing is within a symbol
of its, are ignored, and of the rest the strongest is reported. -/
def strongest (mode : Nat) (seen : List (BitVec 12 × Nat)) : Option Int :=
  (seen.filter fun p => symbolTime mode < p.2).foldl (fun b p =>
    match b with
    | none => some p.1.toInt
    | some v => some (max v p.1.toInt)) none

/-- A candidate on a lane in a frame (R182, R189): `pn` is P_new, `got` the octets of the frame received so far. A lane
that is disabling completes its frame (R191). -/
def State.judgeCandidate (s : State) (k : Nat) (f : LaneFrame) (pn : Int) (got : List Octet) (lqi : Nat) (fofs : Int) :
    State :=
  let m := pn - f.power
  let breakaway := 2 * (s.laneCap k 11 8 : Int) < m
  if f.sub = 2 then
    if 0 < m then (s.restartOnto k pn).bump (A.RXE_LANE_RESTARTCNT k) else s
  else if f.sub = 3 then
    if breakaway then (s.postOvertaken k f pn got lqi fofs).restartOnto k pn
    else if 0 < m then (s.restartOnto k pn).bump (A.RXE_LANE_RESTARTCNT k)
    else s
  else if s.laneCap k 12 12 = 1 && breakaway && s.rd (A.RXE_LANE_CFG k) 15 14 ≠ 2 then
    ((s.postOvertaken k f pn got lqi fofs).forgetPlace k).restartOnto k pn
  else s

/-- CANDIDATE (R181 to R183, R189). In the cycle of a failed header check it restarts the lane; in that of a frame's end
it is a fresh detection. -/
def candidateEffect (k : Fin 10) (seen : List (BitVec 12 × Nat)) (got : List Octet) (snr : BitVec 12)
    (offset : BitVec 24) (s : State) : State :=
  let l := s.laneOf k
  match l.frame with
  | none =>
    match strongest l.searchMode.toNat seen with
    | none => s
    | some pn =>
      if !(s.phase' k = 1 ∨ s.phase' k = 5) then s
      else match l.past with
        | .none => s
        | .failed => (s.startFrame k pn).bump (A.RXE_LANE_RESTARTCNT k)
        | .ended => s.startFrame k pn
  | some f =>
    match strongest f.mode.toNat seen with
    | none => s
    | some pn => s.judgeCandidate k f pn got (lqiOf snr.toInt) (fofsOf offset.toInt)

/-- CANDIDATE. -/
def execCandidate (k : Fin 10) (seen : List (BitVec 12 × Nat)) (got : List Octet) (snr : BitVec 12) (offset : BitVec 24)
    (s : State) : Host.Outcome State Fault Refusal :=
  .next (candidateEffect k seen got snr offset s)

/-- RSSINOW_UPDATE (R184): RSSINOW and ED while the lane is not OFF. -/
def rssinowUpdateEffect (k : Fin 10) (p e : BitVec 12) (s : State) : State :=
  if s.phase' k = 0 then s
  else s.setWord (A.RXE_LANE_LEVEL k) (BitVec.ofInt 8 (rssiNow p.toInt) ++ BitVec.ofNat 8 (edOf e.toInt))

/-- RSSINOW_UPDATE. -/
def execRssinowUpdate (k : Fin 10) (p e : BitVec 12) (s : State) : Host.Outcome State Fault Refusal :=
  .next (rssinowUpdateEffect k p e s)

/-- LANE_DISABLE (R191): a lane before its commit point stops, and is not admitted to its operation any more; one past
it completes its frame first, and EN reads 10b until then. -/
def State.laneDisable (s : State) (k : Nat) : State :=
  let committed := match (s.laneOf k).frame with
    | some f => f.sub == 4
    | none => false
  let s := s.setLane k { s.laneOf k with again := false }
  if committed then s.wr (A.RXE_LANE_CFG k) 15 14 2
  else (((s.wr (A.RXE_LANE_CFG k) 15 14 0).clearLane k 0).setFlag (A.RXE_LANE_STAT k) 12 false).ackGivenUp k

/-- EN written 01b: while EN reads 10b it takes effect when the frame ends (R191). -/
def State.laneEnable (s : State) (k : Nat) : State :=
  if s.rd (A.RXE_LANE_CFG k) 15 14 = 2 then s.setLane k { s.laneOf k with again := true }
  else s.wr (A.RXE_LANE_CFG k) 15 14 1

/-! ## Filter steps 1 to 8 (R208, R209) -/

/-- The RX key map entry of a frame (R210). -/
def State.rxKey (s : State) (h : Mhr) : Option Nat :=
  (List.range 16).find? fun j =>
    bit (s.keyMap j) 30 && (if h.kim = 0 then bit (s.keyMap j) 28 else bits (s.keyMap j) 15 8 == h.keyIdx)

/-- The sender's extended address: the frame's, or its neighbour entry's (R210). -/
def State.senderExt (s : State) (h : Mhr) (nbr : Nat) : Option Nat :=
  match h.src with
  | some (true, x) => some x
  | _ => if s.nbrValid nbr then some (s.nbrExt nbr) else none

/-- The payload IEs of a frame whose payload is not encrypted run past its PSDU (R209); those of an encrypted one show
when it is opened. -/
def plainOverrun (h : Mhr) (os : List Octet) : Bool :=
  h.payIes && h.level < 4 && (walkPayloadIes os (os.length - micLen h.level) 1024 h.hdrEnd none).2.2

/-- Steps 2 to 5 of R208, for a frame of these octets without FCS (R209). -/
def State.filterHeader (s : State) (h : Mhr) (os : List Octet) : Bool :=
  (h.version = 2 || (h.version = 1 && s.flag A.LNK_FILT 0))
    && !h.bad && !plainOverrun h os && (h.ftype = 1 || h.ftype = 3 || (h.ftype = 0 && s.flag A.LNK_FILT 1))
    && (match h.dstPan with
      | some p => p = 0xFFFF || p = (s.word A.LNK_PANID).toNat
      | none => true)
    && (match h.dst with
      | some (false, x) => x = 0xFFFF || x = (s.word A.LNK_SHORT).toNat
      | some (true, x) => x = s.rdw A.LNK_EXT 4
      | none => true)

/-- Steps 6 to 8 of R208; answers the key map entry of a secured frame. -/
def State.filterSecurity (s : State) (h : Mhr) (nbr : Nat) : Option Nat :=
  if s.flag A.LNK_FILT 2 && nbr = 0x3FF then none
  else if !h.sec then (if h.ftype = 0 || s.flag A.LNK_FILT 3 then some 0 else none)
  else if 2 ≤ h.kim || h.odd || h.level = 0 then none
  else match s.rxKey h with
    | some j => if bits (s.keyMap j) 26 24 ≤ h.level && (s.senderExt h nbr).isSome then some j else none
    | none => none

/-- A frame is rejected: its place is released and a counter counts (R208). -/
def State.rejectFrame (s : State) (k : Nat) (f : LaneFrame) (counter : Nat) : State :=
  let s := if f.place.isSome then s.unreserve (18 + k) else if f.waitsPlace then s.leaveRing (18 + k) (Fin.ofNat 10 k) else s
  s.bump counter

/-- Result of R212 for a secured frame from a neighbour. -/
inductive Replay where
  | fresh
  | equal
  | fails
deriving DecidableEq, Repr

/-- R212: a frame counter under key map entry j from neighbour n. -/
def State.replay (s : State) (n j fc : Nat) : Replay :=
  if !s.nbrValid n then .fresh
  else if bits (s.nbr n 6) 15 12 = j then
    (if s.nbrFc n < fc then .fresh else if s.nbrFc n = fc then .equal else .fails)
  else if bit (s.keyMap j) 29 then .fresh
  else .fails

/-- The link receive state of a neighbour is updated (R212). -/
def State.updateRx (s : State) (n j fc dsn : Nat) (secured : Bool) : State :=
  if !s.nbrValid n then s
  else
    let s := s.wrNbr n 5 7 0 dsn
    if secured then ((s.wrNbr n 6 15 12 j).setNbr n 7 (fc % 65536)).setNbr n 8 (fc / 65536) else s

/-! ## Acknowledgements of the node's own transmissions -/

/-- A measured propagation sample to neighbour n (R220): t1 and t4 in fractions, turn in units of 1/768 µs. -/
def State.propSample (s : State) (n : Nat) (t1 t4 turn : Nat) : State :=
  if !s.nbrValid n then s
  else
    let fr : Int := (t4 : Int) - t1 - roundDiv turn 3
    let ns2 : Int := fr * 125
    -- sample in ns is ns2 / 64
    if ns2 < 0 ∨ 262140 * 64 < ns2 then s
    else
      let sample := roundDiv ns2 256
      if s.msh.propSet.contains n then
        let p : Int := s.nbr n 9
        s.setNbr n 9 (p + roundDiv (sample - p) 8).toNat
      else ({ s with msh := { s.msh with propSet := n :: s.msh.propSet } }).setNbr n 9 sample.toNat

/-- A correction is kept for the tick after the operation of instant A on the chain (R218, R219, R221), or withheld as a
JUMP when it is one slot or more (R222): `step` fractions are added to network time, `offset` is what the event
shows. -/
def State.correct (s : State) (c : Chain) (a nbr : Nat) (step offset trim : Int) : State :=
  if (s.slotLen : Int) * 8 ≤ step.natAbs then
    (s.setFlag A.MSH_TSTAT 12 true).meshEvent 5 St.DESYNC nbr 0 0 offset
  else { s with msh := { s.msh with step := s.msh.step ++ [(c.ix, a, step, trim)] } }

/-- Role of the node: 0 member, 1 lead, 2 standby (R216). -/
def State.role (s : State) : Nat := s.rd A.MSH_CTRL 13 12

/-- The Time Correction IE of a matching acknowledgement (R221). -/
def State.ackCorrection (s : State) (c : Chain) (a n : Nat) (tc : Nat) : State :=
  let corr := signed 12 tc
  if s.tsrc n && s.stage ≤ s.nbrStage n && s.role ≠ 1 && 2 ≤ corr.natAbs then
    s.correct c a n (corr * 256) (-(corr * 256)) 0
  else s

/-- What was sent, as far as its acknowledgement must match it: descriptor, header. -/
def State.sentHeader (s : State) (d : Nat × Nat) : Mhr := parseMhr (s.descFrame d)

/-- The acknowledgement opens under the sent frame's key and passes R212 (R203): answers whether it does. -/
def State.ackOpens (s : State) (d : Nat × Nat) (n : Nat) (sent h : Mhr) (os : List Octet) : Bool :=
  if !(sent.sec && sent.version = 2) then true
  else if !(h.sec && h.level = sent.level && h.kim = sent.kim && h.keyIdx = sent.keyIdx) then false
  else
    let j := s.descKey d
    match s.linkKey (bits (s.keyMap j) 7 0) with
    | (0, key) =>
      (openFrame key (s.nbrExt n) h.fc h.level (os.take h.hdrEnd) (os.drop h.hdrEnd)).isSome
        && s.replay n j h.fc != .fails
    | _ => false

/-- A frame received while an acknowledgement is awaited (R203, R212, R220, R221, R224): the attempt ends. -/
def State.ackFrame (s : State) (c : Chain) (o : RfOp) (d : Nat × Nat) (f : LaneFrame) (psdu : List Octet)
    (lqi : Nat) : State :=
  let n := if f.fcs4 then 4 else 2
  let os := psdu.take (psdu.length - n)
  let h := parseMhr os
  let sent := s.sentHeader d
  let ok := fcsOk f.fcs4 psdu && h.ftype = 2 && !h.bad && h.version = sent.version && h.dsn = bits (s.descWord d 9) 15 8
    && s.ackOpens d o.nbr sent h os
  let fail := (s.chainIdle c).endAttempt c o St.NO_ACK
  if !ok then fail
  else
    let enh := h.version = 2
    let nack := enh && (match h.tc with
      | some t => bit t 15
      | none => false)
    let s := s.updateRx o.nbr (s.descKey d) h.fc h.dsn (sent.sec && enh)
    let s := s.hit o.nbr (rssiOf f.power) lqi (s.asnAt (f.time / 8))
    let t1 := (s.descWord d 12 + 65536 * (s.descWord d 13 + 65536 * (s.descWord d 14 + 65536 * s.descWord d 15))) * 8
      + bits (s.descWord d 9) 2 0
    let m := s.descPsduMode d
    let p := o.held.pre
    let turn := airtime m p (s.descPsduLen d) - rmarker m p + s.rd A.LNK_ACKGAP 10 0 * perUs + rmarker f.mode.toNat p
    let s := s.propSample o.nbr t1 f.time turn
    let s := match h.tc with
      | some t => if enh then s.ackCorrection c o.a o.nbr t else s
      | none => s
    let s := s.fire 0x5F 0
    if nack then (s.chainIdle c).endAttempt c o St.NO_ACK
    else
      let s := s.setDescWord d 9 (putBits (s.descWord d 9) 6 6 1)
      let st := if (s.chain c).backed = 0 then St.OK else St.MISMATCH_BACKOFF
      (s.chainIdle c).endAttempt c o st

/-! ## End of a frame -/

/-- A frame that its lane hands on (R188), through steps 1 to 8. -/
def State.judgeFrame (s : State) (k : Fin 10) (f : LaneFrame) (o : RfOp) (psdu : List Octet) (lqi : Nat)
    (fofs : Int) (ofsZero : Bool) : State :=
  let n := if f.fcs4 then 4 else 2
  let os := psdu.take (psdu.length - n)
  if s.rd A.LNK_CTRL 15 14 ≠ 1 then
    (if f.place.isSome then s.unreserve (18 + k.val) else if f.waitsPlace then s.leaveRing (18 + k.val) k else s)
  else if !fcsOk f.fcs4 psdu then s.rejectFrame k f A.LNK_FCSERRCNT
  else
    let h := parseMhr os
    let nbr := s.findNbr h.src
    if !s.filterHeader h os then s.rejectFrame k f A.LNK_FILTCNT
    else
      match s.filterSecurity h nbr with
      | none => s.rejectFrame k f A.LNK_FILTCNT
      | some key =>
        let p := o.held.pre
        let m := f.mode.toNat
        let ended := f.time + (2 * (airtime m p psdu.length - rmarker m p) + 3) / 6
        let base := (s.laneOf k.val).mode.toNat
        let dpre := (2 * ((if f.modeSwitch then switchLead base p else 0) + rmarker m p) + 3) / 6
        { s with lnk := { s.lnk with judging := s.lnk.judging ++
          [{ lane := k, chain := laneChain k, frame := f, octets := os, psduLen := psdu.length
             rssi := rssiOf f.power, lqi := lqi, fofs := fofs, ch := o.ch, nbr := nbr, key := key
             ended := ended, dpre := dpre, ofsZero := ofsZero, a := o.a, kind := o.kind, cellNbr := o.nbr }] } }

/-- A frame of an acknowledgement's lane (R30, R203): one that PD14 has to open waits for it. -/
def State.ackHeard (s : State) (c : Chain) (o : RfOp) (d : Nat × Nat) (f : LaneFrame) (psdu : List Octet) (lqi : Nat) :
    State :=
  let sent := s.sentHeader d
  if sent.sec && sent.version = 2 then
    let r := s.blockReach 14 8 0 Win.VLT
    if r.1 then r.2.ackFrame c o d f psdu lqi
    else { r.2 with lnk := { r.2.lnk with ackLate := r.2.lnk.ackLate ++ [(c, o.a, f, psdu, lqi)] } }
  else s.ackFrame c o d f psdu lqi

/-- Acknowledgements that waited for PD14 are judged, where their attempt still goes on (R18, R30). -/
def State.lateAcks (s : State) : State :=
  s.lnk.ackLate.foldl (fun s p =>
    match (s.chain p.1).op with
    | some o =>
      match o.desc with
      | some d => if o.a = p.2.1 && o.emitted && o.kind.sends then s.ackFrame p.1 o d p.2.2.1 p.2.2.2.1 p.2.2.2.2 else s
      | none => s
    | none => s) { s with lnk := { s.lnk with ackLate := [] } }

/-- FRAME_END (R184, R188, R203, R208): the PSDU as demodulated, with the SNR and carrier offset measured. -/
def frameEndEffect (k : Fin 10) (psdu : RxPsdu) (snr : BitVec 12) (offset : BitVec 24) (s : State) : State :=
  match (s.laneOf k).frame, s.laneOp k with
  | some f, some o =>
    if f.sub ≠ 4 then s
    else
      let psdu := fitOctets f.length (rxOctets f psdu)
      let lqi := lqiOf snr.toInt
      let c := laneChain k
      if o.kind.sends then
        let s := s.laneHome k false
        match o.desc with
        | some d => if o.emitted then s.ackHeard c o d f psdu lqi else s
        | none => s
      else
        let s := s.writeSlot k f psdu
        let ofsZero := (s.laneOf k).ofs == 0
        let s := ((s.forgetPlace k).laneHome k false).setPast k .ended
        s.judgeFrame k f o psdu lqi (fofsOf offset.toInt) ofsZero
  | _, _ => s

/-- FRAME_END. -/
def execFrameEnd (k : Fin 10) (psdu : RxPsdu) (snr : BitVec 12) (offset : BitVec 24) (s : State) :
    Host.Outcome State Fault Refusal :=
  .next (frameEndEffect k psdu snr offset s)

/-- ACK_WAIT_EXPIRY (R203, R224): with no preamble detected the attempt ends NO_ACK, a miss where the neighbour is a
time source; with one the wait is over and the frame decides. -/
def ackWaitExpiryEffect (c : Chain) (s : State) : State :=
  match (s.chain c).op with
  | some o =>
    if !(o.kind.sends && o.emitted && s.rfState c = 4) then s
    else if (s.laneOf (ackLane c)).frame.isSome || s.lnk.ackLate.any (fun p => p.1 == c && p.2.1 == o.a) then
      s.setOp c (some { o with listened := true })
    else
      let s := (s.chainIdle c).endAttempt c o St.NO_ACK
      if !o.heard && s.tsrc o.nbr then s.miss o.nbr else s
  | none => s

/-- ACK_WAIT_EXPIRY. -/
def execAckWaitExpiry (c : Chain) (s : State) : Host.Outcome State Fault Refusal := .next (ackWaitExpiryEffect c s)

end Sys2Proof.Machine
end

