-- ==== Sys2Proof/Machine/Mesh.lean ====
section
/-!
DEFINITION. The mesh functions (R216 to R246): time steps, stage rules, the seen cache, relaying, holds, origination,
and the service's store of stage and role (R228).
-/
namespace Sys2Proof.Machine

/-- E0's services act: its domain is on, the start has come to its service image or kickstand, and no task is
dispatched to E0 (R66, R373, R406). -/
def State.serves (s : State) : Bool :=
  s.on 0 && (s.upd.booting == .done || s.upd.booting == .commit || s.upd.booting == .kick) && (s.eng[0]).task.isNone

/-! ## Stored settings (R361) -/

/-- A persistent point's stored value. -/
def State.setting (s : State) (index sub : Nat) : Option (List Octet) :=
  (s.dict.settings.find? fun p => p.index == index && p.sub == sub).map (·.value)

/-- A persistent point's value is stored. -/
def State.putSetting (s : State) (index sub : Nat) (v : List Octet) (seq : BitVec 32) : State :=
  { s with dict := { s.dict with
    settings := s.dict.settings.filter (fun p => !(p.index == index && p.sub == sub)) ++ [⟨index, sub, v, seq⟩] } }

/-- A persistent point's value is replaced by the part itself; the record keeps the SEQ of the entry that wrote it. -/
def State.resetSetting (s : State) (index sub : Nat) (v : List Octet) : State :=
  let seq := match s.dict.settings.find? fun p => p.index == index && p.sub == sub with
    | some p => p.seq
    | none => 0
  s.putSetting index sub v seq

/-! ## Time -/

/-- TSTATE (R216): 0 UNSYNCED, 1 SYNCED, 2 DESYNC, 3 LEAD. -/
def State.timeState (s : State) : Nat := s.rd A.MSH_TSTAT 15 13

/-- The node is SYNCED; the change is an event (R216, R225). -/
def State.setSynced (s : State) : State :=
  if s.timeState = 1 then s else (s.wr A.MSH_TSTAT 15 13 1).stageEvent 4 St.OK 0x3FF 0 0

/-- The operation that a correction was made in still runs (R219). -/
def State.stepHeld (s : State) (e : Nat × Nat × Int × Int) : Bool :=
  (s.chain (if e.1 = 0 then .A else .B)).op.any fun o => o.a == e.2.1

/-- One correction is applied (R215, R218, R219, R221): network time is stepped by d fractions, the trim takes its change,
MSH_TIME fires, and sub-windows follow. -/
def State.applyStep (s : State) (d trim : Int) : State :=
  let s := (s.addTime d).wrw A.MSH_LASTCORR 2 (unsigned 32 (-d))
  let t := clampInt (-100000) 100000 (signed 24 (s.rdw A.MSH_TRIM 2) + trim)
  let s := if trim = 0 then s else s.wrw A.MSH_TRIM 2 (unsigned 24 t)
  (s.fire 0x4B 0).advanceAllDwell

/-- TIME_STEP (R218, R219, R221): the corrections whose operation has ended are applied, oldest first. -/
def timeStepEffect (s : State) : State :=
  (s.msh.step.filter fun e => !s.stepHeld e).foldl (fun s e => s.applyStep e.2.2.1 e.2.2.2)
    { s with msh := { s.msh with step := s.msh.step.filter fun e => s.stepHeld e } }

/-- TIME_STEP. -/
def execTimeStep (s : State) : Host.Outcome State Fault Refusal := .next (timeStepEffect s)

/-- TRIM_FRACTION (R219): the accumulated trim has reached one fraction. -/
def trimFractionEffect (s : State) : State :=
  let t := signed 24 (s.rdw A.MSH_TRIM 2)
  if !s.ntRun || !s.on 10 || t = 0 then s else s.addTime (if 0 < t then 1 else -1)

/-- TRIM_FRACTION. -/
def execTrimFraction (s : State) : Host.Outcome State Fault Refusal := .next (trimFractionEffect s)

/-! ## Role and stage (R226 to R228) -/

/-- `MSH_STAGE` changes. -/
def State.setStage (s : State) (v : Nat) : State := s.wrw A.MSH_STAGE 2 v

/-- A role taken; a lead node is the zone's time reference and applies no correction (R216). -/
def State.setRole (s : State) (r : Nat) : State :=
  let s := s.wr A.MSH_CTRL 13 12 r
  if r = 1 then { s.wr A.MSH_TSTAT 15 13 3 with msh := { s.msh with step := [] } } else s

/-- A write to `MSH_STAGECTL` (R227). -/
def State.stageCtl (s : State) (v : Nat) : State :=
  let role := bits v 1 0
  let set := s.rdw A.MSH_STAGESET 2
  if bits v 15 8 ≠ 0xA5 ∨ role = 3 ∨ (role = 1 ∧ set ≤ s.stage) then s.rejected Win.MSH
  else if role = 1 then ((s.setStage set).setRole 1)
  else ((s.setStage (max set s.stage)).setRole role).checkSynced

/-- The service has stage and role to store (R228). -/
def State.stageChanged (s : State) : State := { s with msh := { s.msh with storeDue := true } }

/-- STAGE_STORE (R228): once one of them has changed, the service stores stage and role in points 1202h.01 and .02; after
a wake of PD11 from off it restores them first. -/
def stageStoreEffect (s : State) : State :=
  if !s.on 11 || !s.serves || !s.msh.storeDue || s.msh.restoreDue then s
  else
    ((({ s with msh := { s.msh with storeDue := false } }).resetSetting 0x1202 1 (toOctets 4 s.stage)).resetSetting 0x1202 2
      (toOctets 1 s.role))

/-- STAGE_STORE. -/
def execStageStore (s : State) : Host.Outcome State Fault Refusal := .next (stageStoreEffect s)

/-- The stored stage goes to `MSH_STAGESET`, the stored role to `MSH_STAGECTL` (R228). -/
def State.restoreStage (s : State) : State :=
  let stage := ofOctets ((s.setting 0x1202 1).getD [])
  let role := ofOctets ((s.setting 0x1202 2).getD [])
  let s := (s.wrw A.MSH_STAGESET 2 stage).stageCtl (0xA500 + role % 4)
  { s with msh := { s.msh with restoreDue := false, storeDue := true } }

/-- STAGE_RESTORE (R228): the service restores stage and role, once for each wake of PD11 from off; a start does it by
itself. -/
def stageRestoreEffect (s : State) : State :=
  if !s.on 11 || !s.serves || !s.msh.restoreDue then s else s.restoreStage

/-- STAGE_RESTORE. -/
def execStageRestore (s : State) : Host.Outcome State Fault Refusal := .next (stageRestoreEffect s)

/-- A frame's stage is judged (R226): a higher one is adopted and journaled, and a lead node steps down. -/
def State.judgeStage (s : State) (m : Mesh) (nbr : Nat) : State :=
  if m.zone ≠ s.rd A.MSH_CTRL 7 0 ∨ m.stage = s.stage then s
  else if s.stage < m.stage then
    let s := (s.setStage m.stage).stageChanged.stageEvent 6 St.OK nbr m.origin m.seq
    let s := s.jnlAdd { source := 5, type := 0x13, status := St.OK, roleOp := 0
                        origin := (Origin.mesh (BitVec.ofNat 8 m.zone) (BitVec.ofNat 16 m.origin)).code
                        detail := BitVec.ofNat 32 m.stage, index := 0, sub := 0, dlen := 0, value := 0 }
    let s := if s.role = 1 then (s.wr A.MSH_CTRL 13 12 2).stageEvent 7 St.STALE_STAGE nbr m.origin m.seq else s
    s.checkSynced
  else if s.nbrValid nbr then
    ((s.setNbr nbr 11 (m.stage % 65536)).setNbr nbr 12 (m.stage / 65536)).checkSynced
  else s

/-! ## Firmware's writes of the neighbour table (R245, R246) -/

/-- A word of the neighbour table, entry × 16 + word, as the table keeps it: reserved bits 0, a reserved MISS as it was. -/
def State.nbrKept (s : State) (i x : Nat) : Nat :=
  let w := i % 16
  if w = 5 then (if 5 ≤ bits x 11 9 then putBits (x - bits x 8 8 * 256) 11 9 (bits (s.nbr (i / 16) 5) 11 9) else x - bits x 8 8 * 256)
  else if w = 6 then bits x 15 12 * 4096
  else if w = 14 then bits x 15 8 * 256
  else if w = 15 then 0
  else x

/-- A word of the neighbour table written by firmware (R220, R225, R245): a seeded PROP counts as set, and a node left
without a time source enters DESYNC. -/
def State.nbrStore (s : State) (i : Nat) (v : W16) : State :=
  let s := s.setNbr (i / 16) (i % 16) (s.nbrKept i v.toNat)
  let s := if i % 16 = 9 && !s.msh.propSet.contains (i / 16) then
      { s with msh := { s.msh with propSet := i / 16 :: s.msh.propSet } }
    else s
  s.checkSynced

/-- The words written during a judgement take effect, oldest first (R246). -/
def State.nbrStores (s : State) : State :=
  s.msh.nbrLate.foldl (fun s e => s.nbrStore e.1 e.2) { s with msh := { s.msh with nbrLate := [] } }

/-! ## The seen cache (R231 to R233) -/

/-- Set of an identity. -/
def seenSet (origin seq : Nat) : Nat :=
  let h := origin ^^^ ((seq * 32 % 65536) ||| (seq / 2048))
  (h ^^^ (h / 4096)) % 4096

/-- Coarse time. -/
def State.coarse (s : State) : Nat := s.now / 2 ^ 27 % 256

/-- Age of an entry in coarse steps. -/
def State.seenAge (s : State) (e : Seen) : Nat := (s.coarse + 256 - e.stamp.toNat) % 256

/-- The entry is live (R233). -/
def State.seenLive (s : State) (e : Seen) : Bool := s.seenAge e < s.rd A.MSH_SEENLIFE 6 0

/-- The live entry of an identity. -/
def State.seenFind (s : State) (origin seq : Nat) : Option Seen :=
  s.msh.seen.find? fun e => e.origin.toNat == origin && e.seq.toNat == seq && s.seenLive e

/-- An identity is inserted (R231, R233): in a free way, or in place of the oldest. -/
def State.seenInsert (s : State) (origin seq : Nat) (dual : Bool) : State :=
  let set := seenSet origin seq
  let cache := s.msh.seen.filter fun e => !(e.origin.toNat == origin && e.seq.toNat == seq)
  let mine := cache.filter fun e => e.set == set
  let new (way : Nat) : Seen :=
    { set := set, way := way, origin := BitVec.ofNat 16 origin, seq := BitVec.ofNat 16 seq, dual := dual, heard := 0
      stamp := BitVec.ofNat 8 s.coarse }
  match [0, 1, 2, 3].find? fun w => !(mine.any fun e => e.way == w) with
  | some w => { s with msh := { s.msh with seen := cache ++ [new w] } }
  | none =>
    let old := mine.foldl (fun (b : Seen) e => if s.seenAge b < s.seenAge e then e else b) (mine.headD (new 0))
    ({ s with msh := { s.msh with seen := cache.erase old ++ [new old.way] } }).bump A.MSH_EVICTCNT

/-- HEARD of an identity counts one more copy, saturating at 3 (R232). -/
def State.seenHeard (s : State) (origin seq : Nat) : State :=
  { s with msh := { s.msh with
    seen := s.msh.seen.map fun e => if e.origin.toNat == origin && e.seq.toNat == seq then { e with heard := min 3 (e.heard + 1) } else e } }

/-- SEEN_SCRUB of one set (R233, R242): entries not live are cleared; a DUAL one that heard no second copy counts in
`MSH_SINGLECNT`. -/
def seenScrubEffect (set : BitVec 12) (s : State) : State :=
  if !s.on 11 then s
  else
    let dead := s.msh.seen.filter fun e => e.set == set.toNat && !s.seenLive e
    let n := (dead.filter fun e => e.dual && e.heard == 0).length
    let s := { s with msh := { s.msh with seen := s.msh.seen.filter fun e => !(e.set == set.toNat && !s.seenLive e) } }
    s.bumpBy A.MSH_SINGLECNT n

/-- SEEN_SCRUB. -/
def execSeenScrub (set : BitVec 12) (s : State) : Host.Outcome State Fault Refusal := .next (seenScrubEffect set s)

/-- HOLDOFF_END (R233): LIFE coarse steps after a DOM reset of PD11. -/
def holdoffEndEffect (s : State) : State := if s.on 11 then s.setFlag A.MSH_TSTAT 11 false else s

/-- HOLDOFF_END. -/
def execHoldoffEnd (s : State) : Host.Outcome State Fault Refusal := .next (holdoffEndEffect s)

/-! ## Relays (R234 to R239) -/

/-- Word pair of `MSH_RCLASSc`. -/
def State.rclass (s : State) (c : Nat) : Nat := s.rdw (A.MSH_RCLASS c) 2

/-- The class is held (R240). -/
def State.classHeld (s : State) (c : Nat) : Bool := c ≠ 0 && (s.word (A.MSH_HOLD c)).toNat ≠ 0

/-- The class is held or not enabled. -/
def State.classShut (s : State) (c : Nat) : Bool := s.classHeld c || !bit (s.rclass c) 31

/-- Word of a path entry. -/
def State.pathWord (s : State) (p : Nat) : Nat := (cellsGet zeroWord s.msh.path p).toNat

/-- A free slot of the relay pool for a class (R234): class 0 uses at most 8. -/
def State.freeSlot (s : State) (cls : Nat) : Option Nat :=
  if cls = 0 && 8 ≤ (s.msh.relays.filter fun r => r.cls == 0).length then none
  else (List.range (s.rd A.MSH_RSLOTS 6 0)).find? fun i => !(s.msh.relays.any fun r => r.slot == i)

/-- MHR of a relayed frame (R236), its sequence number and frame counter still zero. -/
def State.relayMhr (s : State) (cls nbr : Nat) (ar : Bool) : List Octet :=
  let rc := s.rclass cls
  let dest := if nbr = 0x3FF then 0xFFFF else s.nbr nbr 0
  toOctets 2 (1 + 8 + ar.toNat * 32 + 64 + 2 * 1024 + 2 * 4096 + 2 * 16384) ++ [0]
    ++ toOctets 2 (s.word A.LNK_PANID).toNat ++ toOctets 2 dest ++ toOctets 2 (s.word A.LNK_SHORT).toNat
    ++ [BitVec.ofNat 8 (bits rc 10 8 + 8)] ++ toOctets 4 0
    ++ [BitVec.ofNat 8 (bits (s.keyMap (bits rc 3 0)) 15 8)]

/-- The whole relayed frame. -/
def State.relayFrame (s : State) (cls nbr : Nat) (ar : Bool) (m : Mesh) (rest : List Octet) : List Octet :=
  s.relayMhr cls nbr ar ++ m.octets ++ rest

/-- The frame fits its slot and R143 in its class's mode (R234). -/
def State.relayFits (s : State) (cls : Nat) (os : List Octet) : Bool :=
  let rc := s.rclass cls
  let n := os.length + micLen (bits rc 10 8)
  n ≤ 2 * s.rd A.MSH_RSLOTW 10 0 && lengthOk (bits rc 23 16) (n + 2)

/-- A relay is queued (R234 to R236): copied into a slot of the pool, its descriptor to be placed by RELAY_POST. -/
def State.queueRelay (s : State) (cls nbr : Nat) (flood ar : Bool) (m : Mesh) (rest : List Octet) : State :=
  let os := s.relayFrame cls nbr ar m rest
  if !s.relayFits cls os then s.bump A.MSH_HDRERRCNT
  else
    match s.freeSlot cls with
    | none => s.bump A.MSH_QFULLCNT
    | some i =>
      let rc := s.rclass cls
      let buf := s.rdw A.MSH_RPOOL 2 + i * s.rd A.MSH_RSLOTW 10 0
      let att := if flood then 1 else bits rc 15 12
      let ws : List W16 := ([0, bits rc 23 16 * 256 + att * 16 + 4, 0, os.length, 15, buf % 65536, buf / 65536,
        16384 + bits rc 3 0 * 1024 + nbr] ++ List.replicate 8 0).map (BitVec.ofNat 16)
      let s := s.portOctets 8 buf 0 os
      { s with msh := { s.msh with relays := s.msh.relays ++
        [{ cls := cls, nbr := nbr, origin := BitVec.ofNat 16 m.origin, seq := BitVec.ofNat 16 m.seq, flood := flood
           slot := i, words := ws, onRing := none, committed := false }] } }

/-- A relay leaves the engine without having been sent. -/
def State.dropRelay (s : State) (r : Relay) : State := { s with msh := { s.msh with relays := s.msh.relays.erase r } }

/-- RELAY_POST (R234, R236, R238, R254): the oldest queued relay's descriptor goes on its ring, or into the class 0
queue; with no ring place it is dropped. -/
def relayPostEffect (s : State) : State :=
  match s.msh.relays.find? fun r => r.onRing.isNone with
  | none => s
  | some r =>
    let put (s : State) (d : Nat × Nat) : State :=
      ({ s with msh := { s.msh with relays := s.msh.relays.map fun x => if x == r then { x with onRing := some d } else x } }).bump
        A.MSH_RELAYCNT
    if r.cls = 0 then put s (0, r.slot)
    else
      let n := 2 + bits (s.rclass r.cls) 27 24
      let pi := (s.ring n).pi.toNat
      let a := s.placeAddr n pi
      let t := (s.portTouch 8 a 16).portTouch 11 (s.idxAddr n) 1
      if !s.ringEn n then (s.dropRelay r).bump A.MSH_QFULLCNT
      else if !s.ringReady n pi then t
      else match t.qpost n 1 with
        | some u => put (u.portPuts 8 a r.words) (n, pi % s.ringSize n)
        | none => (s.dropRelay r).bump A.MSH_QFULLCNT

/-- RELAY_POST. -/
def execRelayPost (s : State) : Host.Outcome State Fault Refusal := .next (relayPostEffect s)

/-- A relay before its commit point is aborted: one on a ring completes with a status, one that waits frees its
slot. -/
def State.abortRelay (s : State) (r : Relay) (status : Nat) : State :=
  match r.onRing with
  | some d => (s.dropAttempt d).completeTx d status 0
  | none => s.dropRelay r

/-- Suppression (R237): queued flood relays of an identity heard often enough are aborted. -/
def State.suppress (s : State) (origin seq heard : Nat) : State :=
  (s.msh.relays.filter fun r =>
      let sup := bits (s.rclass r.cls) 30 29
      r.flood && r.origin.toNat == origin && r.seq.toNat == seq && !r.committed && sup ≠ 0 && sup ≤ heard).foldl
    (fun s r => (s.abortRelay r St.ABORTED).bump A.MSH_SUPCNT) s

/-- The relay rules of R235 for an accepted new mesh frame; `rest` is its payload after the mesh header. -/
def State.relayDecision (s : State) (m : Mesh) (rest : List Octet) (stale : Bool) (nbr : Nat) : State :=
  if s.rd A.MSH_CTRL 15 14 ≠ 1 || s.flag A.MSH_TSTAT 11 || s.timeState = 0 || s.timeState = 2 then s
  else if m.sched && stale then s
  else
    let m' := { m with ttl := m.ttl - 1, hops := m.hops + 1 }
    match m.kind with
    | 0 => s
    | 2 =>
      let p := s.pathWord m.path
      let pc := bits p 13 10
      if m.dest = (s.word A.LNK_SHORT).toNat then s
      else if m.ttl = 0 then s.stageEvent 9 St.TTL_EXPIRED nbr m.origin m.seq
      else if !bit p 15 then s.stageEvent 10 St.NO_PATH nbr m.origin m.seq
      else if s.classShut m.cls || (m.cls ≠ 0 && s.classShut pc) then s.bump A.MSH_HELDCNT
      else s.queueRelay (if m.cls = 0 then 0 else pc) (bits p 9 0) false true m' rest
    | _ =>
      if m.ttl = 0 then s.bump A.MSH_TTLENDCNT
      else if m.zone ≠ s.rd A.MSH_CTRL 7 0 && m.zone ≠ 0xFF && !s.flag A.MSH_CTRL 11 then s
      else if s.classShut m.cls then s.bump A.MSH_HELDCNT
      else s.queueRelay m.cls 0x3FF true false m' rest

/-- RELAY_DISABLE (R239): relays before their commit point complete CANCELLED_BY_DISABLE; EN reads 10b until those
past it are complete. -/
def State.relayDisable (s : State) : State :=
  let s := (s.msh.relays.filter fun r => !r.committed).foldl (fun s r => s.abortRelay r St.CANCELLED_BY_DISABLE) s
  let s := s.cancelRings [29]
  (s.wr A.MSH_CTRL 15 14 2).settleEn

/-! ## Origination (R241, R242) -/

/-- A ring 29 descriptor's fields. -/
structure Origination where
  dual : Bool
  kind : Nat
  cls : Nat
  ttl : Nat
  dest : Nat
  pathA : Nat
  pathB : Nat
  zone : Nat
  sched : Bool
  /-- Where its octets lie, and the octets. -/
  buf : Nat
  body : List Octet
  bad : Bool
deriving DecidableEq, Repr

/-- The descriptor in a place of ring 29, with whether it breaks R241. -/
def State.origination (s : State) (place : Nat) : Origination :=
  let w (k : Nat) : Nat := (s.placeWord 29 place k).toNat
  let kind := bits (w 1) 14 12
  let len := bits (w 5) 10 0
  let buf := w 6 + 65536 * bits (w 7) 7 0
  { dual := bit (w 1) 15, kind := kind, cls := bits (w 1) 11 8, ttl := bits (w 1) 3 0, dest := w 2
    pathA := bits (w 3) 7 0, pathB := bits (w 3) 15 8, zone := bits (w 4) 15 8, sched := bit (w 4) 0
    buf := buf, body := s.octets buf len
    bad := !(1 ≤ kind && kind ≤ 3) || bits (w 1) 7 4 ≠ 0 || bits (w 4) 7 1 ≠ 0 || bits (w 5) 15 11 ≠ 0
      || bits (w 7) 15 8 ≠ 0 || (List.range 6).any (fun i => w (10 + i) ≠ 0)
      || (kind = 3 && (bits (w 1) 11 8 ≠ 0 || len < 4)) || (kind ≠ 2 && w 2 ≠ 0xFFFF) || w 2 = 0
      || !(0x100000 ≤ buf && buf + (len + 1) / 2 ≤ 0x200000) }

/-- The header of an originated frame (R241). -/
def State.originHeader (s : State) (o : Origination) (path seq : Nat) : Mesh :=
  { dual := o.dual && o.kind == 2, kind := o.kind, cls := o.cls, hops := 0, ttl := o.ttl, zone := o.zone, path := path
    sched := o.sched, origin := (s.word A.LNK_SHORT).toNat, seq := seq, dest := o.dest, stage := s.stage }

/-- Copies to queue: relay class, neighbour and path of each (R235, R242). -/
def State.copies (s : State) (o : Origination) : List (Nat × Nat × Nat) :=
  if o.kind = 2 then
    (if o.dual then [o.pathA, o.pathB] else [o.pathA]).map fun p =>
      let w := s.pathWord p
      (if o.cls = 0 then 0 else bits w 13 10, bits w 9 0, p)
  else [(o.cls, 0x3FF, 0)]

/-- Status of an origination before it is queued (R241): OK, HELD, DESYNC, NO_PATH or BAD_DESCRIPTOR. -/
def State.originStatus (s : State) (o : Origination) : Nat :=
  let cs := s.copies o
  if o.bad then St.BAD_DESCRIPTOR
  else if s.classShut o.cls || cs.any fun c => s.classShut c.1 then St.HELD
  else if s.timeState = 0 || s.timeState = 2 then St.DESYNC
  else if o.kind = 2 && (!bit (s.pathWord o.pathA) 15 || (o.dual && !bit (s.pathWord o.pathB) 15)) then St.NO_PATH
  else
    let m := s.originHeader o 0 0
    let ring (cls : Nat) : Nat := 2 + bits (s.rclass cls) 27 24
    let queued := s.msh.relays.filter fun r => r.onRing.isNone && r.cls ≠ 0
    let ours := (cs.filter fun c => c.1 ≠ 0).length
    let fits := cs.all fun c =>
      s.relayFits c.1 (s.relayFrame c.1 c.2.1 (o.kind == 2) m o.body)
        && (c.1 = 0 || (s.ringEn (ring c.1)
          && (queued.filter fun r => ring r.cls == ring c.1).length + (cs.filter fun x => x.1 ≠ 0 && ring x.1 == ring c.1).length
            ≤ s.ringSpace (ring c.1)
          && s.outstanding + queued.length + ours ≤ 512))
    let slots := s.rd A.MSH_RSLOTS 6 0 - s.msh.relays.length
    let class0 := (s.msh.relays.filter fun r => r.cls == 0).length + (cs.filter fun c => c.1 == 0).length
    if fits && cs.length ≤ slots && (class0 ≤ 8 || ours = cs.length) then St.OK else St.BAD_DESCRIPTOR

/-- A descriptor of ring 29 completes: STATUS and SEQ in words 8 and 9. -/
def State.endOrigin (s : State) (place status : Nat) : State := s.complete 29 place status

/-- Steps 1 to 4 of R241. -/
def State.originate (s : State) (place : Nat) (o : Origination) : State :=
  let seq := (s.word A.MSH_SEQ).toNat
  let s := s.setWord A.MSH_SEQ (BitVec.ofNat 16 (seq + 1))
  let s := s.seenInsert (s.word A.LNK_SHORT).toNat seq false
  let s := (s.copies o).foldl (fun s c =>
    s.queueRelay c.1 c.2.1 (o.kind ≠ 2) (o.kind == 2) (s.originHeader o c.2.2 seq) o.body) s
  (s.putPlaceWord 29 place 9 (BitVec.ofNat 16 seq)).endOrigin place St.OK

/-- The next ring 29 descriptor, of a KIND that the row names (R261: none while relay is off or disabling). -/
def State.nextOrigin (s : State) (kind : Nat → Bool) : Option (Nat × Origination) :=
  if s.rd A.MSH_CTRL 15 14 ≠ 1 then none
  else match s.nextDesc 29 with
    | some p => if kind (s.origination p).kind then some (p, s.origination p) else none
    | none => none

/-- The relay engine reads a ring 29 descriptor and its octets through port 8 (R18, R26): whether their banks answer
now. -/
def State.fetchOrigin (s : State) (p : Nat) : Bool × State :=
  let f := s.fetchDesc 29 p
  if !f.1 then f
  else
    let o := f.2.origination p
    let n := (o.body.length + 1) / 2
    (f.2.ramReady o.buf n, f.2.portTouch 8 o.buf n)

/-- Reading the descriptor or its octets gets an error response (R71, R285). -/
def State.originLost (s : State) (p : Nat) : Bool :=
  s.placeLost 29 p || s.regionErr 8 (s.origination p).buf (((s.origination p).body.length + 1) / 2)

/-- An origination that is queued at once. -/
def State.originNow (s : State) (kind : Nat → Bool) : State :=
  match s.nextOrigin kind with
  | none => s
  | some (p, o) =>
    let f := s.fetchOrigin p
    if s.originLost p then f.2.endOrigin p St.BANK_LOST
    else if !f.1 then f.2
    else
      let s := f.2.markOut 29 p true false
      let st := s.originStatus o
      if st = St.OK then s.originate p o else s.endOrigin p st

/-- ORIGINATE_FLOOD (R241); a descriptor of a reserved KIND completes here too. -/
def execOriginateFlood (s : State) : Host.Outcome State Fault Refusal :=
  .next (s.originNow fun k => k ≠ 2 && k ≠ 3)

/-- ORIGINATE_PATH (R241, R242). -/
def execOriginatePath (s : State) : Host.Outcome State Fault Refusal := .next (s.originNow fun k => k == 2)

/-! ## Hold (R240) -/

/-- A hold is to be recorded: its journal entry is asked for, and it waits (R240 step 1, R377). -/
def State.askHold (s : State) (h : HoldWait) (origin : BitVec 32) (reqid : BitVec 32) : State :=
  let s := { s with msh := { s.msh with holdWait := some h } }
  s.jnlAdd { source := 2, type := 0x14, status := St.OK, roleOp := 0, origin := origin, detail := reqid, index := h.mask
             sub := 0, dlen := 0, value := h.dur }

/-- ORIGINATE_HOLD (R240, R241): a HOLD on ring 29 is first applied locally, once journaled, whatever becomes of the frame
itself. A descriptor with a reserved value applies nothing. -/
def originateHoldEffect (s : State) : State :=
  if s.msh.holdWait.isSome then s
  else match s.nextOrigin fun k => k == 3 with
    | none => s
    | some (p, o) =>
      let f := s.fetchOrigin p
      if s.originLost p then f.2.endOrigin p St.BANK_LOST
      else if !f.1 then f.2
      else if o.bad then (f.2.markOut 29 p true false).endOrigin p St.BAD_DESCRIPTOR
      else
        (f.2.markOut 29 p true true).askHold
          { mask := BitVec.ofNat 16 (octs o.body 0 2), dur := BitVec.ofNat 16 (octs o.body 2 2), frame := [], place := some p }
          (Origin.internal 2).code 0

/-- ORIGINATE_HOLD. -/
def execOriginateHold (s : State) : Host.Outcome State Fault Refusal := .next (originateHoldEffect s)

/-- Steps 2 and 3 of R240 for one class. -/
def State.holdClass (s : State) (dur : W16) (c : Nat) : State :=
  let s := s.setWord (A.MSH_HOLD c) dur
  if dur = 0 then s
  else (s.msh.relays.filter fun r => r.cls == c && !r.committed).foldl (fun s r => s.abortRelay r St.ABORTED) s

/-- HOLD_APPLY (R240): once the hold's journal entry is durable, hold times are set, relays of held classes aborted,
HOLD_APPLIED posted, and the HOLD itself queued. -/
def holdApplyEffect (s : State) : State :=
  match s.msh.holdWait with
  | none => s
  | some h =>
    let writing := match s.dict.writing with
      | some (_, r) => r.source == 2
      | none => false
    if writing || s.dict.jnl.any (fun r => r.source == 2) then s
    else
      let s := { s with msh := { s.msh with holdWait := none } }
      let s := (List.range 15).foldl (fun s i => if h.mask.getLsbD (i + 1) then s.holdClass h.dur (i + 1) else s) s
      match h.place with
      | some p =>
        let s := s.stageEvent 11 St.OK 0x3FF 0 0
        let o := s.origination p
        let st := s.originStatus o
        if st = St.OK then s.originate p o else s.endOrigin p st
      | none =>
        match parseMesh h.frame with
        | some m =>
          let s := s.stageEvent 11 St.OK 0x3FF m.origin m.seq
          s.relayDecision m (h.frame.drop 16) (m.zone = s.rd A.MSH_CTRL 7 0 && m.stage < s.stage) 0x3FF
        | none => s.stageEvent 11 St.OK 0x3FF 0 0

/-- HOLD_APPLY. -/
def execHoldApply (s : State) : Host.Outcome State Fault Refusal := .next (holdApplyEffect s)

/-- HOLD_COUNTDOWN (R240): every hold counts down; one that reaches 0 posts HOLD_ENDED. -/
def holdCountdownEffect (s : State) : State :=
  (List.range 15).foldl (fun s i =>
    let v := s.word (A.MSH_HOLD (i + 1))
    if v = 0 then s
    else
      let s := s.setWord (A.MSH_HOLD (i + 1)) (v - 1)
      if v = 1 then s.stageEvent 12 St.OK 0x3FF 0 0 else s) s

/-- HOLD_COUNTDOWN. -/
def execHoldCountdown (s : State) : Host.Outcome State Fault Refusal := .next (holdCountdownEffect s)

end Sys2Proof.Machine
end

