-- ==== Sys2Proof/Machine/Link.lean ====
section
/-!
DEFINITION. The end of the link controller's judgement (R207, R208, R210, R212, R213, R217, R218, R222, R225),
acknowledgements sent (R204 to R206, R221), delivery (R188, R190), and the tables reached through address registers.
-/
namespace Sys2Proof.Machine

/-- A frame under judgement as steps 9 and 10 leave it. -/
structure Opened where
  j : Judged
  h : Mhr
  /-- MHR and the opened payload, without MIC and FCS. -/
  octets : List Octet
  payOfs : Nat
  /-- Offset of the ASN in a TSCH Synchronization IE. -/
  sync : Option Nat
  mesh : Option Mesh
  equal : Bool
deriving DecidableEq, Repr

/-- The frame's place on its lane's ring is released, or its wait for one given up. -/
def State.releaseJudged (s : State) (j : Judged) : State :=
  if j.frame.place.isSome then s.unreserve (18 + j.lane.val)
  else if j.frame.waitsPlace then s.leaveRing (18 + j.lane.val) j.lane else s

/-- A frame whose lane waits for the reservation of its ring (R187, R252): none while it waits; then the frame with its
place, and its octets in the slot, or unplaced where the ring has no place left. -/
def State.placeJudged (s : State) (j : Judged) : Option (Judged × State) :=
  let k := j.lane.val
  let n := 18 + k
  if !j.frame.waitsPlace then some (j, s)
  else if (s.ring n).holder.isSome || (s.ring n).waiting.head? != some (.lane j.lane) then none
  else
    let s := s.leaveRing n j.lane
    if !s.ringRoom n then
      some ({ j with frame := { j.frame with waitsPlace := false, unplaced := true } }, s.bump (A.RXE_LANE_DROPCNT k))
    else
      let f := { j.frame with waitsPlace := false, place := some ((s.ring n).pi.toNat % s.ringSize n) }
      some ({ j with frame := f }, (s.reserve n 8).writeSlot k f (withFcs f.fcs4 j.octets))

/-- The frame's judgement is over: with the last one, writes of the neighbour table that waited take effect (R246), and
its cell's miss, if one was due, is counted once no frame of the cell is left. -/
def State.endJudged (s : State) (j : Judged) : State :=
  let s := { s with lnk := { s.lnk with judging := s.lnk.judging.drop 1 } }
  let s := if s.lnk.judging.isEmpty then s.nbrStores else s
  let mine (e : Nat × Nat × Nat) : Bool := e.1 == j.chain.ix && e.2.1 == j.a
  if s.judgingCell j.chain j.a then s
  else
    let due := s.lnk.missDue.filter mine
    let s := { s with lnk := { s.lnk with missDue := s.lnk.missDue.filter fun e => !mine e } }
    due.foldl (fun s e => s.miss e.2.2) s

/-- A rejected frame: place released, counter, judgement over (R208). -/
def State.rejectJudged (s : State) (j : Judged) (counter : Nat) : State :=
  (((s.releaseJudged j).bump counter)).endJudged j

/-- The payload IEs of a frame's opened octets: where the payload begins, the ASN of a TSCH Synchronization IE, and
whether they run past the frame (R209). -/
def Mhr.payload (h : Mhr) (os : List Octet) : Nat × Option Nat × Bool :=
  if h.payIes then walkPayloadIes os os.length 1024 h.hdrEnd none else (h.hdrEnd, none, false)

/-- Steps 9 and 10 (R208, R210, R212), with step 3 for payload IEs that only the opening shows (R209): the opened octets
and whether the counter equals FC_last, or the counter of the failing step. -/
def State.openJudged (s : State) (j : Judged) (h : Mhr) : Except Nat (List Octet × Bool) :=
  if !h.sec then .ok (j.octets, false)
  else
    match s.linkKey (bits (s.keyMap j.key) 7 0) with
    | (0, key) =>
      match openFrame key ((s.senderExt h j.nbr).getD 0) h.fc h.level (j.octets.take h.hdrEnd) (j.octets.drop h.hdrEnd) with
      | none => .error A.LNK_AUTHFAILCNT
      | some body =>
        let os := j.octets.take h.hdrEnd ++ body
        if (h.payload os).2.2 then .error A.LNK_FILTCNT
        else match s.replay j.nbr j.key h.fc with
        | .fails => .error A.LNK_REPLAYCNT
        | .fresh => .ok (os, false)
        | .equal => .ok (os, true)
    | _ => .error A.LNK_AUTHFAILCNT

/-- What the vault reports of an opening that fails (R208, R357). -/
def State.openStatus (s : State) (j : Judged) : Nat :=
  match s.linkKey (bits (s.keyMap j.key) 7 0) with
  | (0, _) => St.AUTH_FAIL
  | (st, _) => st

/-- The mesh header of a frame (R229, R230): data frames from MESH neighbours. Answers none for a frame without one,
and whether the header is malformed. -/
def State.meshOf (s : State) (j : Judged) (h : Mhr) (pay : List Octet) : Option Mesh × Bool :=
  if h.ftype = 1 && s.nbrValid j.nbr && bit (s.nbr j.nbr 5) 13 then
    match parseMesh pay with
    | some m => (some m, false)
    | none => (none, true)
  else (none, false)

/-! ## Time frames (R217, R218, R222, R225) -/

/-- t_meas - t_exp of a frame in its cell, in fractions (R218); in a scan cell from its Synchronization IE (R225). -/
def State.frameOffset (s : State) (o : Opened) : Int :=
  let prop : Int := roundDiv ((s.nbr o.j.nbr 9 : Nat) * 128) 125
  let prop := if s.nbrValid o.j.nbr then prop else 0
  let c : Nat := match o.j.kind, o.sync with
    | .scan, some k => s.slotStart (octs o.octets k 5) * 8 + (s.word A.MSH_SYNCOFS).toNat * 256
    | .scan, none => o.j.frame.time - o.j.dpre
    | _, _ => (o.j.a + 4300 * 32) * 8
  (o.j.frame.time : Int) - (c + o.j.dpre + prop)

/-- The conditions of R217 but for the stage: a time source, its own or an open cell, own zone, role not lead. -/
def State.timeCandidate (s : State) (o : Opened) : Bool :=
  s.tsrc o.j.nbr && s.role ≠ 1
    && (if o.j.kind = .scan then o.sync.isSome else o.j.cellNbr = o.j.nbr || o.j.cellNbr = 0x3FF)
    && (match o.mesh with
      | some m => m.zone = s.rd A.MSH_CTRL 7 0
      | none => true)

/-- The stage condition of R217. -/
def State.stageOk (s : State) (o : Opened) : Bool :=
  match o.mesh with
  | some m => s.stage ≤ m.stage
  | none => s.stage ≤ s.nbrStage o.j.nbr

/-- The change of trim that an offset over dt units gives (R218). -/
def trimChange (offset : Int) (dt : Nat) : Int := - roundDiv (offset * 31250000) dt

/-- A time frame (R218, R222): its offset is kept for the next TIME_STEP, with the trim's change where the last time
frame lies 100 ms to 60 s back; the node is SYNCED. -/
def State.timeFrame (s : State) (o : Opened) : State :=
  let off := s.frameOffset o
  let dt := match s.msh.lastFrame with
    | some t => (o.j.frame.time - t) / 8
    | none => 0
  let s := { s with msh := { s.msh with lastFrame := some o.j.frame.time } }
  let trim := if 3200000 ≤ dt && dt ≤ 1920000000 then trimChange off dt else 0
  if (s.slotLen : Int) * 8 ≤ off.natAbs then s.correct o.j.chain o.j.a o.j.nbr (-off) off 0
  else (s.correct o.j.chain o.j.a o.j.nbr (-off) off trim).setSynced

/-- Stage and time judgement of a frame that passed step 10 (R217, R226): answers whether it is stale. -/
def State.judgeTime (s : State) (o : Opened) : Bool × State :=
  let lead := s.role = 1
  let below := match o.mesh with
    | some m => m.zone = s.rd A.MSH_CTRL 7 0 && m.stage < s.stage
    | none => false
  let cand := s.timeCandidate o && !lead
  let ids := match o.mesh with
    | some m => (m.origin, m.seq)
    | none => (0, 0)
  let stale := below || (cand && !s.stageOk o)
  let s := if stale then (s.stageEvent 8 St.STALE_STAGE o.j.nbr ids.1 ids.2).bump A.MSH_STALECNT else s
  let s := match o.mesh with
    | some m => s.judgeStage m o.j.nbr
    | none => s
  if cand && !stale then (below, s.timeFrame o) else (below, s)

/-! ## Delivery and acknowledgement -/

/-- The frame is for this node alone (R204). -/
def State.toMe (s : State) (h : Mhr) : Bool :=
  match h.dst with
  | some (false, x) => x = (s.word A.LNK_SHORT).toNat
  | some (true, x) => x = s.rdw A.LNK_EXT 4
  | none => false

/-- R204, for a frame accepted: an acknowledgement is called for. -/
def State.ackCalled (s : State) (o : Opened) (control : Bool) : Bool :=
  (o.h.ftype = 1 || o.h.ftype = 3) && o.h.ar && s.toMe o.h && o.j.ofsZero && !o.j.frame.unplaced
    && (!control || s.ringRoom 0)

/-- Time correction in µs for the Enh-Ack (R221). -/
def ackCorr (offset : Int) : Int := clampInt (-2047) 2047 (roundDiv offset 256)

/-- The acknowledgement is set up, to leave at the frame's end + GAP (R204); one already pending on the chain keeps
its place (R205). -/
def State.callAck (s : State) (o : Opened) (offset : Int) (place : Option (Nat × Nat)) : State :=
  let c := o.j.chain
  let live := match (s.chain c).op with
    | some p => !p.kind.sends && p.a == o.j.a
    | none => false
  if (vget s.lnk.ackOut c.ix none).isSome || !live then s.bump A.LNK_ACKFAILCNT
  else
    let a : AckOut :=
      { dsn := BitVec.ofNat 8 o.h.dsn, version := o.h.version, sec := o.h.sec, level := o.h.level, kim := o.h.kim
        key := o.j.key, fcs4 := o.j.frame.fcs4, corr := ackCorr offset, mode := o.j.frame.mode, ch := o.j.ch
        instant := (o.j.ended + s.rd A.LNK_ACKGAP 10 0 * 256 + 4) / 8, place := place }
    { s with lnk := { s.lnk with ackOut := vset s.lnk.ackOut c.ix (some a) } }

/-- The completion of an accepted frame (R190). -/
def State.acceptWords (s : State) (o : Opened) (control : Bool) : List W16 :=
  s.rxWords o.j.lane.val o.j.frame
    { confirmed := true, secured := o.h.sec, control := control, status := St.OK, lqi := o.j.lqi, fofs := o.j.fofs
      ch := o.j.ch, nbr := o.j.nbr, payOfs := o.payOfs, xrssi := 0 }

/-- Index of the place that a producer's next record on ring n takes, behind the reservation held and those who wait
(R252). -/
def State.nextIndex (s : State) (n : Nat) : W16 :=
  (s.ring n).pi + BitVec.ofNat 16 ((s.ring n).holder.isSome.toNat + (s.ring n).waiting.length)

/-- Delivery of an accepted new frame (R188, R208): its record on the lane's ring, or on ring 0 with a copy of the
frame. -/
def State.deliver (s : State) (o : Opened) (control : Bool) : State :=
  let k := o.j.lane.val
  let ws := s.acceptWords o control
  if control then
    let i := (s.nextIndex 0).toNat % s.ringSize 0
    let p := s.post 0 8 ws
    let s := { p.2 with lnk := { p.2.lnk with control := (i, o.octets) :: p.2.lnk.control.filter fun e => e.1 != i } }
    ((s.releaseJudged o.j).countPost k).fire 0x49 0
  else ((s.postReserved (18 + k) ws).countPost k).fire 0x48 0

/-- The opened payload takes the sealed one's place in the frame's slot (R208, R347). -/
def State.writeOpened (s : State) (o : Opened) : State :=
  match o.j.frame.place with
  | some i => if o.h.sec then s.putOctets (s.slotAddr o.j.lane.val i) o.h.hdrEnd (o.octets.drop o.h.hdrEnd) else s
  | none => s

/-- The check of the seen cache at step 10 (R232, R237, R242): a hit counts in HEARD and may suppress a relay; a miss
inserts. LOCAL frames neither check nor insert. Answers whether the identity was held. -/
def State.checkSeen (s : State) (o : Opened) : Bool × State :=
  match o.mesh with
  | none => (false, s)
  | some m =>
    if m.kind = 0 then (false, s)
    else match s.seenFind m.origin m.seq with
      | some e =>
        let s := s.seenHeard m.origin m.seq
        let s := s.suppress m.origin m.seq (min 3 (e.heard + 1))
        (true, if m.dual then s.bump A.MSH_ELIMCNT else s)
      | none => (false, s.seenInsert m.origin m.seq m.dual)

/-- A frame accepted at step 11: acknowledgement, duplicates, delivery and relay (R188, R204, R212, R213, R230, R235,
R240). A malformed mesh header counts with a frame that is posted. -/
def State.acceptFrame (s : State) (o : Opened) (control stale seen malformed : Bool) (offset : Int) : State :=
  let j := o.j
  let dup := seen || o.equal || (!o.h.sec && s.nbrValid j.nbr && bits (s.nbr j.nbr 5) 7 0 = o.h.dsn)
  if dup then
    let s := if s.ackCalled o control then s.callAck o offset none else s
    ((s.releaseJudged j).bump A.LNK_DUPCNT).endJudged j
  else if control && !s.ringRoom 0 then
      ((s.releaseJudged j).bump A.LNK_CTRLDROPCNT).endJudged j
  else
      let s := s.updateRx j.nbr j.key o.h.fc o.h.dsn o.h.sec
      let s := if malformed then s.bump A.MSH_HDRERRCNT else s
      let at_ := if control then (0, (s.nextIndex 0).toNat)
        else (18 + j.lane.val, (s.ring (18 + j.lane.val)).pi.toNat)
      let s := if s.ackCalled o control then s.callAck o offset (some at_) else s
      let s := (s.writeOpened o).deliver o control
      let s := match o.mesh with
        | some m =>
          let rest := o.octets.drop (o.payOfs + 16)
          if m.kind = 3 then
            s.askHold { mask := BitVec.ofNat 16 (octs rest 0 2), dur := BitVec.ofNat 16 (octs rest 2 2)
                        frame := o.octets.drop o.payOfs, place := none }
              (Origin.mesh (BitVec.ofNat 8 m.zone) (BitVec.ofNat 16 m.origin)).code (BitVec.ofNat 32 (octs rest 6 4))
          else s.relayDecision m rest stale j.nbr
        | none => s
      s.endJudged j

/-- The cell of a frame that passed step 10 has its hit (R224). -/
def State.cellHit (s : State) (j : Judged) : State :=
  let s := s.hit j.nbr j.rssi j.lqi (s.asnAt (j.frame.time / 8))
  let s := match (s.chain j.chain).op with
    | some p => if p.a = j.a && p.nbr = j.nbr then s.setOp j.chain (some { p with hit := true }) else s
    | none => s
  if s.nbrValid j.nbr then { s with lnk := { s.lnk with
    missDue := s.lnk.missDue.filter fun e => !(e.1 == j.chain.ix && e.2.1 == j.a && e.2.2 == j.nbr) } } else s

/-- What follows step 10 for an opened frame (R207, R208, R217, R232): the time judgement, and for a placed one the seen
cache and step 11. -/
def State.judgeOpened (s : State) (o : Opened) (pay : List Octet) (malformed : Bool) : State :=
  let j := o.j
  let offset := s.frameOffset o
  let t := (s.cellHit j).judgeTime o
  let s := t.2
  let clsCond := o.h.ftype = 1 && !pay.isEmpty && bits (oct pay 0) 3 0 = 0
  let control := clsCond && o.h.sec && bit (s.keyMap j.key) 27
  if j.frame.unplaced then s.endJudged j
  else
    let c := s.checkSeen o
    if (j.kind = .rxControl && !control) || (clsCond && !control) then c.2.rejectJudged j A.LNK_FILTCNT
    else c.2.acceptFrame o control t.1 c.1 malformed offset

/-- Steps 9 to 11 for a frame whose place is settled and whose key can be reached (R208). -/
def State.judgeSteps (s : State) (j : Judged) : State :=
  let h := parseMhr j.octets
  match s.openJudged j h with
  | .error counter => (if counter = A.LNK_AUTHFAILCNT then s.vaultCount (s.openStatus j) else s).rejectJudged j counter
  | .ok (os, equal) =>
    let ies := h.payload os
    let pay := os.drop ies.1
    let m := s.meshOf j h pay
    s.judgeOpened { j := j, h := h, octets := os, payOfs := ies.1, sync := ies.2.1, mesh := m.1, equal := equal } pay m.2

/-- ACCEPT_DECISION (R208 steps 9 to 11): the first frame under judgement. A hold that waits for its journal entry
comes before any later frame (R240); a secured frame waits for PD14 (R30), one that waits for its place for that
(R252). -/
def acceptDecisionEffect (s : State) : State :=
  match s.lnk.judging with
  | [] => s
  | j :: _ =>
    if s.msh.holdWait.isSome then s
    else if s.rd A.LNK_CTRL 15 14 ≠ 1 then (s.releaseJudged j).endJudged j
    else
      let r := if (parseMhr j.octets).sec then s.blockReach 14 8 0 Win.VLT else (true, s)
      if !r.1 then r.2
      else match r.2.placeJudged j with
        | none => r.2
        | some (j, s) => s.judgeSteps j

/-- ACCEPT_DECISION. -/
def execAcceptDecision (s : State) : Host.Outcome State Fault Refusal := .next (acceptDecisionEffect s)

/-! ## Acknowledgements sent (R205, R206) -/

/-- The acknowledgement's octets before MIC and FCS (R206). -/
def State.ackOctets (s : State) (a : AckOut) (fc : Nat) : List Octet :=
  if a.version = 1 then toOctets 2 (2 + 4096) ++ [a.dsn]
  else
    toOctets 2 (2 + a.sec.toNat * 8 + 512 + 2 * 4096) ++ [a.dsn]
      ++ (if a.sec then [BitVec.ofNat 8 (a.level + 8 * a.kim)] ++ toOctets 4 fc
            ++ (if a.kim = 1 then [BitVec.ofNat 8 (bits (s.keyMap a.key) 15 8)] else [])
          else [])
      ++ toOctets 2 (2 + 0x1E * 128) ++ toOctets 2 (unsigned 12 a.corr)

/-- The acknowledgement with its MIC, its counter taken (R206, R211); none where it cannot be sealed. -/
def State.sealAck (s : State) (a : AckOut) : Option (List Octet) × State :=
  if !(a.sec && a.version = 2) then (some (s.ackOctets a 0), s)
  else
    let r := s.blockReach 14 8 0 Win.VLT
    if !r.1 then (none, r.2)
    else
      match r.2.takeCounter a.key with
      | (.took fc, s) =>
        match s.linkKey (bits (s.keyMap a.key) 7 0) with
        | (0, key) =>
          let os := s.ackOctets a fc
          (some (os ++ sealFrame key (s.rdw A.LNK_EXT 4) fc a.level os []), s)
        | (st, _) => (none, s.vaultCount st)
      | (_, s) => (none, s)

/-- ACKSENT of a completion, in its place or in the record that still waits for the reservation (R190, R205, R252). -/
def State.setAckSent (s : State) (p : Option (Nat × Nat)) : State :=
  match p with
  | some (r, i) =>
    let q := s.ring r
    let n := (BitVec.ofNat 16 i - q.pi).toNat - q.holder.isSome.toNat
    match q.waiting[n]? with
    | some (.record port ws) =>
      s.setRing r { q with waiting := q.waiting.set n (.record port (ws.set 1 (ws.getD 1 0 ||| 0x2000))) }
    | _ => s.portOctets 8 (s.placeAddr r i) 3 [BitVec.ofNat 8 ((s.placeWord r i 1 ||| 0x2000).toNat / 256)]
  | none => s

/-- The turnaround to an acknowledgement begins (R131, R138, R139, R205, R224): the receive operation ends as far as its
cell is concerned, the chain's lanes go to OFF, and from now on it counts as a transmission. -/
def State.ackTurn (s : State) (c : Chain) (o : RfOp) (a : AckOut) (os : List Octet) : State :=
  let s := { s with lnk := { s.lnk with ackOut := vset s.lnk.ackOut c.ix none } }
  let s := (s.cellEnd c o).lanesOff c
  let fcs4 := decide (a.version = 2) && a.fcs4
  let s := s.modulate c { o.ppdu c a.mode.toNat 0 fcs4 (withFcs fcs4 os) with instant := a.instant }
  let s := if o.clipped then s.setFlag (A.RF_STAT c) 5 true else s
  let s := s.setOp c (some { o with kind := .ack, desc := none, emitted := false, granted := some s.now })
  let s := ((s.setRfState c 6).direction c true).blankOther c o
  ((s.setAckSent a.place).bump A.LNK_ACKSENTCNT).fire 0x5F 0

/-- ACK_TRANSMIT (R204 to R206): the turnaround to an acknowledgement begins, or the acknowledgement is withheld. -/
def ackTransmitEffect (c : Chain) (gnt : Bool) (s : State) : State :=
  let s := { s with coexGnt := gnt }
  match vget s.lnk.ackOut c.ix none, (s.chain c).op with
  | some a, some o =>
    if o.kind.sends then s
    else if s.rfState c ≠ 4 || s.airTaken c || (s.coexMode c ≠ 0 && !s.gntAsserted c gnt) then s.dropAck c
    else
      match s.sealAck a with
      | (none, s) => s.dropAck c
      | (some os, s) => s.ackTurn c o a os
  | _, _ => s

/-- ACK_TRANSMIT. -/
def execAckTransmit (c : Chain) (gnt : Bool) (s : State) : Host.Outcome State Fault Refusal :=
  .next (ackTransmitEffect c gnt s)

/-- FC_RESERVATION_DURABLE (R18, R211, R404): the new reservation stands, PD9 being on and the port's word before it
durable, a sealing that waited for it resumes, and the port serves its next request. -/
def fcReservationDurableEffect (j : Fin 16) (s : State) : State :=
  match s.lnk.fcWait.find? fun p => p.1 == j.val with
  | none => s
  | some (_, v) =>
    if !s.on 9 || s.upd.mwBusy.isSome then s else
    let a := 0x3D0100 + 2 * j.val
    let s := (s.mramPut a (BitVec.ofNat 16 v)).mramPut (a + 1) (BitVec.ofNat 16 (v / 65536))
    let s := { s with lnk := { s.lnk with fcWait := s.lnk.fcWait.filter fun p => p.1 != j.val } }
    s.resumeSeals.mwGo

/-- FC_RESERVATION_DURABLE. -/
def execFcReservationDurable (j : Fin 16) (s : State) : Host.Outcome State Fault Refusal :=
  .next (fcReservationDurableEffect j s)

end Sys2Proof.Machine
end

