-- ==== Sys2Proof/Machine/Vault.lean ====
section
/-!
DEFINITION. The vault (R330 to R357): key slots and their loading, the requests of rings 32 to 39, nonce and LMS
reservations, measurements, the random source and the debug lock. What a cipher, signature or key derivation gives
is a constant without a body (Config).
-/
namespace Sys2Proof.Machine

/-! ## Slots (R333 to R339) -/

/-- `VLT_STAT.PUF`. -/
def State.puf (s : State) : Nat := s.rd A.VLT_STAT 15 14

/-- The valid slot n of PD14's key memory. -/
def State.keySlot (s : State) (n : Nat) : Option KeySlot :=
  s.vlt.slots.find? fun k => k.slot == n && k.attr.getLsbD 15

/-- TYPE of an attribute word (R333). -/
def attrType (a : W16) : Nat := bits a.toNat 14 12

/-- The slot's bit in `VLT_SLOTBADw`. -/
def State.slotBad (s : State) (n : Nat) : Bool := s.flag (A.VLT_SLOTBAD (n / 16)) (n % 16)

/-- An attribute word that slot n may hold (R333, R334). -/
def consistent (n : Nat) (a : W16) : Bool :=
  let t := attrType a
  let aes := t = 1 || t = 2
  let priv := t = 3 || t = 5
  let pub := t = 4 || t = 6
  let has (b : Nat) := a.getLsbD b
  t ≠ 0 && t ≠ 7 && !has 1 && !has 0
    && (aes || !(has 11 || has 10 || has 9 || has 6 || has 5)) && (priv || !has 8) && (pub || !has 7)
    && !(has 3 && (aes || priv) && has 9) && (t ≠ 5 || n = 3)

/-- Octets of key material by TYPE (R352). -/
def materialLen (t : Nat) : Nat := [0, 16, 32, 48, 96, 0, 56, 0].getD t 0

/-- The only attributes that slots 6 to 9 take (R335). -/
def fixedAttr (n : Nat) : Option W16 :=
  match n with
  | 6 => some 0xC094
  | 7 => some 0xE094
  | 8 => some 0xA410
  | 9 => some 0xA200
  | _ => none


/-- The record of a slot is replaced, in MRAM and in PD14; its bad bit clears (R336, R337). -/
def State.putSlot (s : State) (k : KeySlot) : State :=
  let s := s.setFlag (A.VLT_SLOTBAD (k.slot / 16)) (k.slot % 16) false
  { s with vlt := { s.vlt with
      stored := s.vlt.stored.filter (fun x => x.slot != k.slot) ++ [k]
      slots := s.vlt.slots.filter (fun x => x.slot != k.slot) ++ [k]
      corrupt := s.vlt.corrupt.filter fun n => n != k.slot
      nonceWait := s.vlt.nonceWait.filter fun p => p.1 != k.slot } }

/-- Generation of the slot's record (R336). -/
def State.slotGen (s : State) (n : Nat) : BitVec 32 :=
  match s.vlt.stored.find? fun k => k.slot == n with
  | some k => k.gen
  | none => 0

/-- Link key map entries bound to slot n start their counters afresh (R339). A retained `LNK_FCj` takes the reservation,
as R211 loads it where PD11 wakes from off (log entry 123). -/
def State.resetLinkCounters (s : State) (n : Nat) : State :=
  (List.range 16).foldl (fun s j =>
    if bits (s.keyMap j) 7 0 = n then
      let s := s.mramPuts (0x3D0100 + 2 * j) (toWords 2 4096)
      let s := { s with lnk := { s.lnk with fcWait := s.lnk.fcWait.filter fun p => p.1 != j } }.mwGo
      if s.on 11 then s.wrw (A.LNK_FC j) 2 0
      else if s.domState 11 = 0 then s else s.wrw (A.LNK_FC j) 2 4096
    else s) s

/-- A key comes into slot n (R336, R339, R345): GEN counts on, the invocation counter is 0 and its reservation
65,536. Answers the new GEN. -/
def State.newKey (s : State) (n : Nat) (a : W16) (key : Nat) : Nat × State :=
  let g := s.slotGen n + 1
  (g.toNat, (s.putSlot ⟨n, a ||| 0x8000, g, 65536, 0, key⟩).resetLinkCounters n)

/-- Slots 0 and 1, derived from the root (R335). -/
def rootSlots (root : Nat) : List KeySlot :=
  [⟨0, 0xA000, 0, 0, 0, ofWords (Config.vaultResult 0x2F root [0] 16)⟩,
   ⟨1, 0xA020, 0, 0, 0, ofWords (Config.vaultResult 0x2F root [1] 16)⟩]

/-- A renewed nonce reservation is asked for, once (R345). -/
def State.nonceRenew (s : State) (k : KeySlot) : State :=
  if s.vlt.nonceWait.any fun p => p.1 == k.slot then s
  else { s.touchMram 9 with vlt := { (s.touchMram 9).vlt with
    nonceWait := s.vlt.nonceWait ++ [(k.slot, min (2 ^ 64 - 1) (k.reserve + 65536))] } }

/-- The slots are loaded at a wake of PD14 from off (R330, R331, R335, R337, R345). -/
def State.vaultLoad (s : State) : State :=
  if !s.vlt.enrolled then s.wr A.VLT_STAT 15 14 3
  else if !s.vlt.pufGood then
    (List.range 16).foldl (fun s w => s.setWord (A.VLT_SLOTBAD w) 0xFFFF) (s.wr A.VLT_STAT 15 14 2)
  else
    let s := s.wr A.VLT_STAT 15 14 1
    let good := s.vlt.stored.filter fun k => !s.vlt.corrupt.contains k.slot
    let s := { s with vlt := { s.vlt with
      slots := rootSlots s.vlt.root ++ good.map fun (k : KeySlot) => { k with counter := k.reserve } } }
    let s := s.vlt.corrupt.foldl (fun s n => s.setFlag (A.VLT_SLOTBAD (n / 16)) (n % 16) true) s
    let s := (good.filter fun k => k.attr.getLsbD 15 && (attrType k.attr = 1 || attrType k.attr = 2)).foldl
      (fun s k => s.nonceRenew k) s
    let s := s.wrw A.VLT_LMSQ 2 s.vlt.lmsq
    match s.keySlot 4 with
    | some k => s.wrw A.VLT_DEVID 4 (Config.deviceId k.key).toNat
    | none => s

/-! ## Requests (R340, R341) -/

/-- Word k of the descriptor. -/
def VltOp.w (o : VltOp) (k : Nat) : Nat := (o.words.getD k 0).toNat
def VltOp.slot (o : VltOp) : Nat := bits (o.w 2) 7 0
def VltOp.slot2 (o : VltOp) : Nat := bits (o.w 2) 15 8
def VltOp.src (o : VltOp) : Nat := o.w 3 + 65536 * bits (o.w 4) 7 0
def VltOp.srcLen (o : VltOp) : Nat := o.w 5
def VltOp.dst (o : VltOp) : Nat := o.w 6 + 65536 * bits (o.w 7) 7 0
def VltOp.aad (o : VltOp) : Nat := o.w 8
def VltOp.aux (o : VltOp) : Nat := o.w 9 + 65536 * bits (o.w 10) 7 0
def VltOp.param (o : VltOp) : Nat := bits (o.w 11) 7 0
def VltOp.arg (o : VltOp) : Nat := o.w 12 + 65536 * o.w 13
def VltOp.flags (o : VltOp) : Nat := bits (o.w 1) 7 0
/-- FIRST and LAST of a hash request. -/
def VltOp.first (o : VltOp) : Bool := bit o.flags 0
def VltOp.last (o : VltOp) : Bool := bit o.flags 1

/-- The unit that runs an operation: 0 AES pipeline, 1 hash engines, 2 public-key engines; none for an unlisted OP
(log entry 13). -/
def vaultUnit (op param : Nat) : Option Nat :=
  if 1 ≤ op && op ≤ 8 || op = 0x20 || op = 0x21 || op = 0x22 || op = 0x24 || op = 0x28 then some 0
  else if op = 0x10 || op = 0x11 || op = 0x31 then some 1
  else if op = 0x18 || op = 0x19 || op = 0x1B || op = 0x1C || op = 0x2F || op = 0x30 || op = 0x32 then some 2
  else if op = 0x23 then some (if param = 1 || param = 2 then 0 else 2)
  else none

/-- The unit of an operation that has started. -/
def VltOp.unit (o : VltOp) : Nat := (vaultUnit o.op o.param).getD 3

/-- Operations that need a random value (R354). -/
def needsRandom (op : Nat) : Bool := op = 0x18 || op = 0x23 || op = 0x28 || op = 0x2F || op = 0x30

/-- Operations of the service ring alone (R340). -/
def serviceOnly (op : Nat) : Bool :=
  op = 0x20 || op = 0x21 || op = 0x22 || op = 0x23 || op = 0x2F || op = 0x30 || op = 0x31 || op = 0x32

/-- Octets of the nonce: 13 for CCM, 12 for GCM and key wrapping (R344, R352). -/
def VltOp.nonceLen (o : VltOp) : Nat := if o.op ≤ 3 then 13 else 12

/-- Octets of the tag. -/
def VltOp.tagLen (o : VltOp) : Nat := if o.op = 0x20 || o.op = 0x21 then 16 else o.param

/-- TYPE of the slot that KEY_EXPORT or PUBKEY_READ reads out. -/
def State.sourceType (s : State) (n : Nat) : Nat :=
  match s.keySlot n with
  | some k => attrType k.attr
  | none => 0

/-- Octets read at SRC, and written at DST, and the octets of AUX (R341). -/
def State.vaultRegions (s : State) (o : VltOp) : Nat × Nat × Nat :=
  let n := o.srcLen
  match o.op with
  | 0x01 | 0x02 | 0x04 | 0x05 => (n, n - o.aad, o.nonceLen + o.tagLen)
  | 0x03 | 0x06 => (n, 0, o.nonceLen + o.tagLen)
  | 0x07 | 0x08 => (n, 0, o.tagLen)
  | 0x10 => (n, if o.last then 32 else 0, 128)
  | 0x11 => (n, if o.last then 48 else 0, 128)
  | 0x18 => (n, 96, 0)
  | 0x19 => (n, 0, 96)
  | 0x1B => (n, 0, o.arg)
  | 0x1C | 0x32 => (n, 0, 96 + o.arg)
  | 0x20 => (n, 0, 28)
  | 0x21 => (0, 8 + materialLen (s.sourceType o.slot2), 28)
  | 0x24 => (0, materialLen (s.sourceType o.slot), 0)
  | 0x28 => (0, n, 0)
  | 0x30 => (n, 2940, 0)
  | 0x31 => (n, 0, 0)
  | _ => (0, 0, 0)

/-- Words that octets take. -/
def wordsOf (octets : Nat) : Nat := (octets + 1) / 2

/-- A region of n words that lies inside lo..hi - 1, or is empty. -/
def within (lo hi a n : Nat) : Bool := n = 0 || (decide (lo ≤ a) && decide (a + n ≤ hi))

/-- Two regions share a word. -/
def overlap (a n b m : Nat) : Bool := decide (0 < n) && decide (0 < m) && decide (a < b + m) && decide (b < a + n)

/-- PARAM, FLAGS, lengths and the slot fields of an operation (R340, R341, R348, R353, R356). -/
def VltOp.formOk (o : VltOp) : Bool :=
  let tag8 := o.param = 8 || o.param = 16
  let one := o.slot2 = 0
  let none_ := o.w 2 = 0
  (o.flags = 0 || ((o.op = 0x10 || o.op = 0x11) && decide (o.flags < 4)))
    && match o.op with
      | 0x01 | 0x02 | 0x03 => one && (o.param = 4 || tag8)
      | 0x04 | 0x05 | 0x06 => one && o.param = 16
      | 0x07 | 0x08 => one && tag8 && o.aad = 0
      | 0x10 => none_ && o.param = 0 && (o.last || o.srcLen % 64 = 0)
      | 0x11 => none_ && o.param = 0 && (o.last || o.srcLen % 128 = 0)
      | 0x18 | 0x19 => one && (o.param = 0 || (o.param = 1 && o.srcLen = 48))
      | 0x1B => one && o.param = 0
      | 0x1C | 0x20 | 0x21 => o.param = 0
      | 0x22 | 0x24 => one && o.param = 0
      | 0x23 => decide (o.param ≠ 0) && decide (o.param ≠ 4) && decide (o.param < 6)
          && ((o.param ≠ 1 && o.param ≠ 2) || one)
      | 0x28 => none_ && o.param = 0
      | 0x2F | 0x31 => none_ && decide (o.param < 2)
      | 0x30 => none_ && o.param = 0 && o.srcLen = 64
      | 0x32 => none_ && o.param = 0 && o.srcLen = 24
      | _ => false

/-- Octets at SRC, in shared SRAM or the MRAM read window (R340). -/
def State.vaultSrc (s : State) (o : VltOp) : List Octet :=
  let n := (s.vaultRegions o).1
  if o.ring = 64 then o.own.take n
  else if inSram o.src then s.octets o.src n
  else (unpackWords ((List.range (wordsOf n)).map fun i => s.mramGet (o.src + i))).take n

/-- A request that must complete BAD_DESCRIPTOR for its form (R340). -/
def State.vaultBad (s : State) (o : VltOp) : Bool :=
  let r := s.vaultRegions o
  let sn := wordsOf r.1
  let dn := wordsOf r.2.1
  let an := wordsOf r.2.2
  !o.formOk || (serviceOnly o.op && o.ring ≠ 32 && o.ring ≠ 64) || o.w 14 ≠ 0 || o.w 15 ≠ 0
    || bits (o.w 4) 15 8 ≠ 0 || bits (o.w 7) 15 8 ≠ 0 || bits (o.w 10) 15 8 ≠ 0 || bits (o.w 11) 15 8 ≠ 0
    || decide (o.srcLen < o.aad)
    || (o.ring ≠ 64 && (!(within 0x100000 0x200000 o.src sn || within 0x200000 0x400000 o.src sn)
    || !within 0x100000 0x200000 o.dst dn || !within 0x100000 0x200000 o.aux an
    || (o.dst ≠ o.src && overlap o.dst dn o.src sn) || overlap o.dst dn o.aux an))

/-- Octet i of a KEY_INSTALL blob. -/
def State.blobOctet (s : State) (o : VltOp) (i : Nat) : Nat := ((s.vaultSrc o).getD i 0).toNat

/-- The attribute word that an install or generation writes into its slot. -/
def State.newAttr (s : State) (o : VltOp) : W16 :=
  if o.op = 0x20 then BitVec.ofNat 16 (s.blobOctet o 2 + 256 * s.blobOctet o 3) else BitVec.ofNat 16 (o.w 12)

/-- The blob of KEY_INSTALL, and the attribute words of KEY_GENERATE, are ones that may be written (R334, R352). -/
def State.contentOk (s : State) (o : VltOp) : Bool :=
  if o.op = 0x20 then
    let a := s.newAttr o
    s.blobOctet o 0 = 1 && s.blobOctet o 1 = o.slot2 && s.blobOctet o 4 = 0 && s.blobOctet o 5 = 0
      && s.blobOctet o 6 = 0 && s.blobOctet o 7 = 0 && consistent o.slot2 a
      && o.srcLen = 8 + materialLen (attrType a)
  else if o.op = 0x23 then
    let a := s.newAttr o
    let p := BitVec.ofNat 16 (o.w 13)
    consistent o.slot a && attrType a = o.param
      && (o.param = 1 || o.param = 2 || (o.slot ≠ o.slot2 && consistent o.slot2 p && attrType p = 4))
  else true

/-- A named slot that must be of one of these types with this attribute bit (R337, R340, R341). -/
def State.useSlot (s : State) (o : VltOp) (n : Nat) (types : List Nat) (b : Nat) : Nat :=
  if s.puf = 2 || s.slotBad n then St.SLOT_BAD
  else match s.keySlot n with
    | none => St.SLOT_ATTR_DENIED
    | some k =>
      if types.contains (attrType k.attr) && k.attr.getLsbD b && (o.ring = 32 || o.ring = 64 || k.attr.getLsbD 4) then St.OK
      else St.SLOT_ATTR_DENIED

/-- A slot that is to be written or erased (R333, R335, R352). A bad slot may be replaced (R337). -/
def State.targetSlot (s : State) (n : Nat) (a : Option W16) : Nat :=
  if s.puf = 2 then St.SLOT_BAD
  else if s.puf ≠ 1 || n ≤ 5 || (10 ≤ n && n ≤ 15) then St.SLOT_ATTR_DENIED
  else
    let locked := match s.keySlot n with
      | some k => k.attr.getLsbD 2
      | none => false
    let absent := (s.keySlot n).isNone && !s.slotBad n
    let wrong := match a, fixedAttr n with
      | none, _ => absent
      | some x, some y => x ||| 0x8000 != y
      | some _, none => false
    if locked || wrong then St.SLOT_ATTR_DENIED else St.OK

/-- The first status of a list that is not OK. -/
def firstBad : List Nat → Nat
  | [] => 0
  | st :: t => if st = 0 then firstBad t else st

/-- Slots and preconditions of an operation (R332, R335, R341, R351). -/
def State.vaultSlots (s : State) (o : VltOp) : Nat :=
  match o.op with
  | 0x01 | 0x04 | 0x07 => s.useSlot o o.slot [1, 2] 11
  | 0x02 | 0x03 | 0x05 | 0x06 | 0x08 => s.useSlot o o.slot [1, 2] 10
  | 0x18 => if o.slot = 2 && s.puf ≠ 2 then St.SLOT_ATTR_DENIED else s.useSlot o o.slot [3] 8
  | 0x19 => s.useSlot o o.slot [4] 7
  | 0x1B => s.useSlot o o.slot [6] 7
  | 0x1C => firstBad [s.useSlot o o.slot [4] 7, s.useSlot o o.slot2 [6] 7]
  | 0x20 => firstBad [s.useSlot o o.slot [1, 2] 9, s.targetSlot o.slot2 (some (s.newAttr o))]
  | 0x21 => firstBad [s.useSlot o o.slot [1, 2] 9, if o.slot2 ≤ 5 then St.SLOT_ATTR_DENIED else St.OK,
      s.useSlot o o.slot2 [1, 2, 3, 4, 6] 3]
  | 0x22 => s.targetSlot o.slot none
  | 0x23 =>
    if 6 ≤ o.slot && o.slot ≤ 9 && s.puf ≠ 2 then St.SLOT_ATTR_DENIED
    else firstBad [s.targetSlot o.slot (some (s.newAttr o)),
      if o.param = 3 then
        (if 6 ≤ o.slot2 && o.slot2 ≤ 9 then St.SLOT_ATTR_DENIED else s.targetSlot o.slot2 (some (BitVec.ofNat 16 (o.w 13))))
      else St.OK]
  | 0x24 => s.useSlot o o.slot [4, 6] 3
  | 0x2F => if s.puf = 3 || o.param = 1 then St.OK else St.SLOT_ATTR_DENIED
  | 0x30 => firstBad [s.useSlot o 2 [3] 8, s.useSlot o 3 [5] 8, if 32768 ≤ s.vlt.lmsq then St.LMS_EXHAUSTED else St.OK]
  | _ => St.OK

/-- Status of an operation at its start. -/
def State.vaultCheck (s : State) (o : VltOp) : Nat :=
  if s.vaultBad o || !s.contentOk o then St.BAD_DESCRIPTOR else s.vaultSlots o

/-- Slots that an install, generation or erase replaces, which wait until no operation holds them (R338). -/
def VltOp.targets (o : VltOp) : List Nat :=
  match o.op with
  | 0x20 => [o.slot2]
  | 0x22 => [o.slot]
  | 0x23 => if o.param = 3 then [o.slot, o.slot2] else [o.slot]
  | 0x2F => List.range 256
  | _ => []

/-- Slots that an operation reads and holds until it completes (R338). -/
def VltOp.holds (o : VltOp) : List Nat :=
  match o.op with
  | 0x1C | 0x20 | 0x21 => [o.slot, o.slot2]
  | 0x23 => if o.param = 3 then [o.slot, o.slot2] else [o.slot]
  | 0x30 => [2, 3]
  | 0x32 => [6, 7]
  | 0x2F => List.range 256
  | 0x10 | 0x11 | 0x28 | 0x31 => []
  | _ => [o.slot]

/-- A generate call is counted; a reseed falls due after 65,536 (R354). -/
def State.generateCall (s : State) : State :=
  { s with vlt := { s.vlt with calls := s.vlt.calls + 1, reseeding := s.vlt.reseeding || decide (65536 ≤ s.vlt.calls + 1) } }

/-- An operation leaves the vault: its record, the counters of R357 and VLT_DONE. -/
def State.vaultDone (s : State) (o : VltOp) (status result : Nat) : State :=
  let s := { s with vlt := { s.vlt with ops := s.vlt.ops.filter fun x => !(x.ring == o.ring && x.place == o.place) } }
  let s := s.vaultCount status
  let s := if o.ring = 64 then { s with vlt := { s.vlt with svcDone := s.vlt.svcDone ++ [(o.op, status)] } }
    else s.completeGeneric o.ring o.place status result
  let s := s.fire 0x50 0
  s.enSettle A.VLT_CTRL (!s.vlt.ops.isEmpty)

/-- The operation in progress with a ring and place is replaced. -/
def State.setVltOp (s : State) (o : VltOp) : State :=
  { s with vlt := { s.vlt with ops := s.vlt.ops.map fun x => if x.ring == o.ring && x.place == o.place then o else x } }

/-- Next value of a slot's invocation counter (R345): exhausted, waiting for the durable reservation, or taken. -/
def State.takeNonce (s : State) (n : Nat) : CounterTake × State :=
  match s.keySlot n with
  | none => (.exhausted, s)
  | some k =>
    if k.counter = 2 ^ 64 - 1 then (.exhausted, s)
    else if k.reserve ≤ k.counter then (.wait, s.nonceRenew k)
    else
      let k' := { k with counter := k.counter + 1 }
      let s := { s with vlt := { s.vlt with slots := s.vlt.slots.map fun x => if x.slot == n then k' else x } }
      (.took k.counter, if k.reserve ≤ k'.counter + 4096 then s.nonceRenew k' else s)

/-- The descriptor of an operation is past its commit point. -/
def State.commitMark (s : State) (o : VltOp) : State := if o.ring = 64 then s else s.markOut o.ring o.place true true

/-- A seal takes its counter, which is its commit point (R346), or waits for it. -/
def State.sealStart (s : State) (o : VltOp) : State :=
  match s.takeNonce o.slot with
  | (.exhausted, s) => s.vaultDone o St.SLOT_ATTR_DENIED 0
  | (.wait, s) => s.setVltOp { o with waiting := true }
  | (.took v, s) => (s.setVltOp { o with waiting := false, committed := true, nonce := v }).commitMark o

/-- Octets 0 to 175 of an attestation statement (R353). -/
def State.attestStatement (s : State) (o : VltOp) : List Octet :=
  let badSlot := (List.range 16).any fun w => s.word (A.VLT_SLOTBAD w) != 0
  let o9 := s.vlt.dbglock.toNat + 2 * badSlot.toNat + 4 * (s.flag A.SEQ_STAT 5).toNat
  [0x4C, 0x4A, 0x41, 0x31] ++ toOctets 2 1 ++ toOctets 2 0x9616 ++ [0x42, BitVec.ofNat 8 o9]
    ++ [(s.word A.ENG_RETIRED).setWidth 8, 0] ++ toOctets 8 (s.rdw A.VLT_DEVID 4) ++ toOctets 8 s.now
    ++ toOctets 4 s.vlt.lmsq ++ (toOctets 48 s.vlt.meas0.toNat).reverse ++ (toOctets 32 s.vlt.meas1.toNat).reverse
    ++ fitOctets 64 (s.vaultSrc o)

/-- ATTEST at its start: the statement is assembled, leaf q is taken and its reservation starts, which is the commit
point (R351, R353). -/
def State.attestStart (s : State) (o : VltOp) : State :=
  let o := { o with statement := s.attestStatement o, committed := true, waiting := true, leaf := s.vlt.lmsq }
  ((s.touchMram 9).setVltOp o).commitMark o

/-- A request that its unit has fetched (R258, R340, R342): completed at once where its form or slots refuse it. -/
def State.vaultBegin (s : State) (o : VltOp) : State :=
  let s := if o.ring = 64 then { s with vlt := { s.vlt with svcWait := s.vlt.svcWait.erase o } }
    else s.markOut o.ring o.place true false
  let st := s.vaultCheck o
  if st ≠ 0 then s.vaultDone o st 0
  else
    let s := { s with vlt := { s.vlt with ops := s.vlt.ops ++ [o] } }.openGate o.unit
    let s := if needsRandom o.op then s.generateCall else s
    if o.op = 0x01 || o.op = 0x04 || o.op = 0x21 then s.sealStart o
    else if o.op = 0x30 then s.attestStart o
    else s

/-- An operation that a descriptor, or the service, asks for. -/
def State.vltDesc (s : State) (ring place : Nat) : VltOp where
  op := bits (s.placeWord ring place 1).toNat 15 8
  ring := ring
  place := place
  words := (List.range 16).map fun k => s.placeWord ring place k
  committed := false
  waiting := false
  leaf := 0
  nonce := 0
  statement := []
  own := []

/-- Descriptors of the vault rings that no unit has taken, lowest ring first, in place order (R342). -/
def State.vaultPending (s : State) : List VltOp :=
  s.vlt.svcWait ++ ((List.range 8).map fun i =>
    if s.ringEn (32 + i) then ((s.ring (32 + i)).out.filter fun d => !d.2.1).map fun d => s.vltDesc (32 + i) d.1
    else []).flatten

/-- Unlisted OP values complete BAD_DESCRIPTOR (R256, R341). -/
def State.vaultReject (s : State) : State :=
  (s.vaultPending.filter fun o => (vaultUnit o.op o.param).isNone).foldl
    (fun s o =>
      let f := if o.ring = 64 then (true, s) else s.fetchDesc o.ring o.place
      if !f.1 then f.2
      else (if o.ring = 64 then s else f.2.markOut o.ring o.place true true).vaultDone o St.BAD_DESCRIPTOR 0) s

/-- A unit takes a request (R18, R26, R71, R285): its descriptor and its input are to be reached. Until their banks are
awake it stays on its ring. -/
def State.vaultTake (s : State) (o : VltOp) : State :=
  if o.ring = 64 then s.vaultBegin o
  else
    let f := s.fetchDesc o.ring o.place
    let n := wordsOf (s.vaultRegions o).1
    if s.placeLost o.ring o.place then (f.2.markOut o.ring o.place true true).vaultDone o St.BANK_LOST 0
    else if !f.1 then f.2
    else if !f.2.ramReady o.src n then f.2.portWake 9 o.src n
    else f.2.vaultBegin o

/-- The next request of each unit, if the unit is free, is the row's operation and need not wait, starts (R338, R342,
R354). -/
def State.vaultStart (s : State) (op : Nat) : State :=
  if !(s.on 14 && s.rd A.VLT_CTRL 15 14 = 1) then s
  else
    let s := s.vaultReject
    let next := [0, 1, 2].filterMap fun u =>
      if s.vlt.ops.any fun x => x.unit == u then none else s.vaultPending.find? fun o => o.unit == u
    match next.find? fun o => o.op == op with
    | none => s
    | some o =>
      let held := o.targets.any fun n => s.vlt.ops.any fun x => x.holds.contains n
      if held || (needsRandom op && s.rngBlocked) then s else s.vaultTake o

/-! ## What an operation gives (R344 to R356) -/

/-- A cryptographic result of n octets. -/
def vaultOctets (op key : Nat) (input : List W16) (n : Nat) : List Octet :=
  fitOctets n (unpackWords (Config.vaultResult op key input (wordsOf n)))

/-- The nonce of a seal (R345). -/
def State.sealNonce (s : State) (o : VltOp) : List Octet :=
  (toOctets 4 (s.rdw A.VLT_DEVID 2)).reverse ++ (toOctets 8 o.nonce).reverse ++ (if o.op = 0x01 then [0] else [])

/-- Octets written at a word address through port 9. -/
def State.vaultPut (s : State) (a : Nat) (os : List Octet) : State := s.portOctets 9 a 0 os

/-- Key of a slot. -/
def State.keyOf (s : State) (n : Nat) : Nat :=
  match s.keySlot n with
  | some k => k.key
  | none => 0

/-- Octets at AUX. -/
def State.auxOctets (s : State) (o : VltOp) (n : Nat) : List Octet :=
  if o.ring = 64 then (o.own.drop o.srcLen).take n else s.octets o.aux n

/-- A digest as octets in its standard's order. -/
def digest384 (m : List Octet) : List Octet := (toOctets 48 (Config.sha384 m).toNat).reverse
def digest256 (m : List Octet) : List Octet := (toOctets 32 (Config.sha256 m).toNat).reverse

/-- ECDSA over a message's digest (R349). -/
def ecdsaVerifies (key : Nat) (digest sig : List Octet) : Bool := Config.vaultVerifies 0x19 key (packOctets (digest ++ sig))

/-- LMS over a message (R350). -/
def lmsVerifies (key : Nat) (msg sig : List Octet) : Bool :=
  Config.vaultVerifies 0x1B key (BitVec.ofNat 16 msg.length :: packOctets msg ++ packOctets sig)

/-- An ECDSA signature with fresh octets as its additional data (R349). -/
def State.ecdsaSign (s : State) (key : Nat) (digest : List Octet) : List Octet × State :=
  let r := s.draw 384
  (vaultOctets 0x18 key (packOctets digest ++ toWords 24 r.1.toNat) 96, r.2)

/-- Both signatures of DUAL_VERIFY (R352): bit 0 ECDSA failed, bit 1 LMS failed. -/
def dualResult (k1 k2 : Option KeySlot) (msg sigs : List Octet) : Nat :=
  let e := match k1 with
    | some k => ecdsaVerifies k.key (digest384 msg) (sigs.take 96)
    | none => false
  let l := match k2 with
    | some k => lmsVerifies k.key msg (sigs.drop 96)
    | none => false
  (!e).toNat + 2 * (!l).toNat

/-- A seal (R341, R345): ciphertext at DST, nonce and tag at AUX. -/
def State.sealFinish (s : State) (o : VltOp) (body : List Octet) : State :=
  let nonce := s.sealNonce o
  let n := body.length - (if o.op = 0x21 then 8 else o.aad)
  let out := vaultOctets o.op (s.keyOf o.slot)
    (BitVec.ofNat 16 o.tagLen :: BitVec.ofNat 16 o.aad :: packOctets nonce ++ packOctets body) (n + o.tagLen)
  let head := if o.op = 0x21 then body.take 8 else []
  (s.vaultPut o.dst (head ++ out.take n)).vaultPut o.aux (nonce ++ out.drop n)

/-- The input of an opening: lengths, nonce and tag, and the sealed octets. -/
def State.openInput (s : State) (o : VltOp) : List W16 :=
  BitVec.ofNat 16 o.tagLen :: BitVec.ofNat 16 o.aad
    :: packOctets (s.auxOctets o (o.nonceLen + o.tagLen)) ++ packOctets (s.vaultSrc o)

/-- DST of a decryption filled with zeros (R347). -/
def State.zeroFill (s : State) (o : VltOp) : State :=
  if o.op = 0x02 || o.op = 0x05 then s.vaultPut o.dst (List.replicate (o.srcLen - o.aad) 0) else s

/-- Opening under a slot (R341, R347). -/
def State.openFinish (s : State) (o : VltOp) : Nat × Nat × State :=
  let key := s.keyOf o.slot
  let input := s.openInput o
  let n := o.srcLen - o.aad
  if !Config.vaultVerifies o.op key input then (St.AUTH_FAIL, 0, s.zeroFill o)
  else if o.op = 0x02 || o.op = 0x05 then (St.OK, n, s.vaultPut o.dst (vaultOctets o.op key input n))
  else (St.OK, 0, s)

/-- SHA256 and SHA384 (R348): the digest at LAST, the running state otherwise. -/
def State.hashFinish (s : State) (o : VltOp) : State :=
  let data := s.vaultSrc o
  let input := (if o.first then [] else s.sramGets o.aux 64) ++ BitVec.ofNat 16 data.length :: packOctets data
  let n := if o.op = 0x10 then 32 else 48
  if o.last then
    s.vaultPut o.dst (if o.first then (if o.op = 0x10 then digest256 data else digest384 data)
      else vaultOctets o.op 1 input n)
  else s.vaultPut o.aux (vaultOctets o.op 0 input 128)

/-- KEY_INSTALL (R352): the blob is opened and the slot written. -/
def State.installFinish (s : State) (o : VltOp) : Nat × Nat × State :=
  let key := s.keyOf o.slot
  let input := s.openInput o
  if !Config.vaultVerifies 0x20 key input then (St.AUTH_FAIL, 0, s)
  else
    let r := s.newKey o.slot2 (s.newAttr o) (ofWords (Config.vaultResult 0x20 key input 16))
    (St.OK, r.1 % 65536, r.2)

/-- The public key of a private one. -/
def publicOf (key : Nat) : Nat := ofWords (Config.vaultResult 0x23 key [] 16)

/-- KEY_GENERATE (R341): a fresh key, and for a pair its public key. -/
def State.generateFinish (s : State) (o : VltOp) : Nat × Nat × State :=
  let r := s.draw 256
  let g := r.2.newKey o.slot (s.newAttr o) r.1.toNat
  let s := if o.param = 3 then (g.2.newKey o.slot2 (BitVec.ofNat 16 (o.w 13)) (publicOf r.1.toNat)).2 else g.2
  (St.OK, g.1 % 65536, s)

/-- KEY_ERASE: the record keeps its generation, counted on. -/
def State.eraseFinish (s : State) (o : VltOp) : Nat × Nat × State :=
  let g := s.slotGen o.slot + 1
  (St.OK, g.toNat % 65536, s.putSlot ⟨o.slot, 0, g, 0, 0, 0⟩)

/-- ENROL (R332, R335): re-enrolment erases every slot and every nonce and LMS state first; then a fresh root, its
slots and the device keys. -/
def State.enrolFinish (s : State) : State :=
  let s := { s with vlt := { s.vlt with
    stored := s.vlt.stored.map fun (k : KeySlot) => (⟨k.slot, 0, k.gen + 1, 0, 0, 0⟩ : KeySlot)
    slots := [], corrupt := [], nonceWait := [], lmsq := 0 } }
  let root := s.draw 256
  let k2 := root.2.draw 256
  let k3 := k2.2.draw 256
  let s := k3.2
  let s := { s with vlt := { s.vlt with
    root := root.1.toNat, enrolled := true, pufGood := true, slots := rootSlots root.1.toNat } }
  let s := (List.range 16).foldl (fun s w => s.setWord (A.VLT_SLOTBAD w) 0) s
  let s := (s.newKey 2 0xB100 k2.1.toNat).2
  let s := (s.newKey 3 0xD100 k3.1.toNat).2
  let s := (s.newKey 4 0xC098 (publicOf k2.1.toNat)).2
  let s := (s.newKey 5 0xE098 (publicOf k3.1.toNat)).2
  ((s.wr A.VLT_STAT 15 14 1).wrw A.VLT_DEVID 4 (Config.deviceId (publicOf k2.1.toNat)).toNat).wrw A.VLT_LMSQ 2 0

/-- ATTEST's release (R353): the statement and both signatures at DST. -/
def State.attestFinish (s : State) (o : VltOp) : State :=
  let st := o.statement
  let e := s.ecdsaSign (s.keyOf 2) (digest384 st)
  let l := vaultOctets 0x30 (s.keyOf 3) (BitVec.ofNat 16 o.leaf :: packOctets st) 2668
  if o.ring = 64 then
    { e.2 with dict := { e.2.dict with
      session := e.2.dict.session.filter (fun p => !(p.index == 0xB000 && p.sub == 2)) ++ [⟨0xB000, 2, st ++ e.1 ++ l, 0⟩] } }
  else e.2.vaultPut o.dst (st ++ e.1 ++ l)

/-- A measurement is extended (R353). -/
def State.extend (s : State) (m : Nat) (data : List Octet) : State :=
  if m = 0 then
    { s with vlt := { s.vlt with meas0 := Config.sha384 ((toOctets 48 s.vlt.meas0.toNat).reverse ++ data) } }
  else
    { s with vlt := { s.vlt with meas1 := Config.sha256 ((toOctets 32 s.vlt.meas1.toNat).reverse ++ data) } }

/-- DEBUG_UNLOCK (R355, R356): the lock clears only for the matching statement with both signatures. A new challenge
is drawn after every request. -/
def State.unlockFinish (s : State) (o : VltOp) : Nat × Nat × State :=
  let msg := s.vaultSrc o
  let want : List Octet := [0x4C, 0x4A, 0x44, 0x55] ++ toOctets 8 (s.rdw A.VLT_DEVID 4)
    ++ toOctets 8 (s.rdw A.VLT_DBGCHAL 4) ++ toOctets 4 0
  let usable (n : Nat) := if s.puf = 2 || s.slotBad n then none else s.keySlot n
  let r := dualResult (usable 6) (usable 7) msg (s.auxOctets o (96 + o.arg))
  let good := msg == want && r = 0
  let s := s.drawChallenge
  if good then (St.OK, 0, { s with vlt := { s.vlt with dbglock := false } }) else (St.AUTH_FAIL, r, s)

/-- Status, RESULT and effect of an operation that ends. -/
def State.vaultFinish (s : State) (o : VltOp) : Nat × Nat × State :=
  let src := s.vaultSrc o
  let dig := if o.param = 1 then src else digest384 src
  let verdict (b : Bool) := if b then St.OK else St.AUTH_FAIL
  match o.op with
  | 0x01 | 0x04 => (St.OK, o.srcLen - o.aad, s.sealFinish o src)
  | 0x02 | 0x03 | 0x05 | 0x06 => s.openFinish o
  | 0x07 => (St.OK, 0, s.vaultPut o.aux (vaultOctets 0x07 (s.keyOf o.slot) (packOctets src) o.param))
  | 0x08 => (verdict (s.auxOctets o o.param == vaultOctets 0x07 (s.keyOf o.slot) (packOctets src) o.param), 0, s)
  | 0x10 | 0x11 => (St.OK, 0, s.hashFinish o)
  | 0x18 =>
    let r := s.ecdsaSign (s.keyOf o.slot) dig
    (St.OK, 0, r.2.vaultPut o.dst r.1)
  | 0x19 => (verdict (ecdsaVerifies (s.keyOf o.slot) dig (s.auxOctets o 96)), 0, s)
  | 0x1B => (verdict (lmsVerifies (s.keyOf o.slot) src (s.auxOctets o o.arg)), 0, s)
  | 0x1C =>
    let r := dualResult (s.keySlot o.slot) (s.keySlot o.slot2) src (s.auxOctets o (96 + o.arg))
    (verdict (r == 0), r, s)
  | 0x20 => s.installFinish o
  | 0x21 =>
    let k := s.keySlot o.slot2
    let a := match k with
      | some k => k.attr
      | none => 0
    let n := materialLen (attrType a)
    let head : List Octet := [1, BitVec.ofNat 8 o.slot2] ++ toOctets 2 a.toNat ++ toOctets 4 0
    (St.OK, 8 + n, s.sealFinish o (head ++ vaultOctets 0x21 (s.keyOf o.slot2) [] n))
  | 0x22 => s.eraseFinish o
  | 0x23 => s.generateFinish o
  | 0x24 =>
    let n := materialLen (s.sourceType o.slot)
    (St.OK, n, s.vaultPut o.dst (vaultOctets 0x24 (s.keyOf o.slot) [] n))
  | 0x28 =>
    let r := s.draw (8 * o.srcLen)
    (St.OK, o.srcLen, r.2.vaultPut o.dst (toOctets o.srcLen r.1.toNat))
  | 0x2F => (St.OK, 0, s.enrolFinish)
  | 0x30 => (St.OK, 2940, s.attestFinish o)
  | 0x31 => (St.OK, 0, s.extend o.param src)
  | 0x32 => s.unlockFinish o
  | _ => (St.BAD_DESCRIPTOR, 0, s)

/-- The operation reads AUX: a nonce, tag, signature or running digest (R341, R348). -/
def VltOp.readsAux (o : VltOp) : Bool :=
  [0x02, 0x03, 0x05, 0x06, 0x08, 0x19, 0x1B, 0x1C, 0x20, 0x32].contains o.op || ((o.op = 0x10 || o.op = 0x11) && !o.first)

/-- The operation writes slot records (R332, R336). -/
def VltOp.writesSlots (o : VltOp) : Bool := [0x20, 0x22, 0x23, 0x2F].contains o.op

/-- The regions of an operation through port 9 (R18, R26): whether SRC, DST, AUX and the slot records answer now. -/
def State.vaultReach (s : State) (o : VltOp) : Bool × State :=
  let r := s.vaultRegions o
  let m := if o.writesSlots || (o.ring ≠ 64 && r.1 ≠ 0 && !inSram o.src) then s.blockReach 9 9 0 Win.VLT else (true, s)
  if o.ring = 64 then m
  else
    let n := wordsOf r.1
    let d := wordsOf r.2.1
    let a := wordsOf r.2.2
    (m.1 && m.2.ramReady o.src n && m.2.ramReady o.dst d && m.2.ramReady o.aux a,
      ((m.2.portTouch 9 o.src n).portWake 9 o.dst d).portWake 9 o.aux a)

/-- Reading SRC or AUX gets an error response (R71, R285). -/
def State.vaultLost (s : State) (o : VltOp) : Bool :=
  let r := s.vaultRegions o
  o.ring ≠ 64 && (s.regionErr 9 o.src (wordsOf r.1) || (o.readsAux && s.regionErr 9 o.aux (wordsOf r.2.2)))

/-- Another running operation holds a slot that this one replaces (R338). -/
def State.targetHeld (s : State) (o : VltOp) : Bool :=
  s.vlt.ops.any fun x => !(x.ring == o.ring && x.place == o.place) && o.targets.any fun n => x.holds.contains n

/-- VAULT_COMPLETION (R338, R343): the operation of a unit that waits for no reservation, whose memories answer and whose
slots no other operation holds, ends. -/
def vaultCompletionEffect (unit : Fin 3) (s : State) : State :=
  match s.vlt.ops.find? fun o => o.unit == unit.val && !o.waiting with
  | none => s
  | some o =>
    if !s.on 14 || s.targetHeld o then s
    else
      let r := s.vaultReach o
      if s.vaultLost o then (r.2.zeroFill o).vaultDone o St.BANK_LOST 0
      else if !r.1 then r.2
      else
        let f := r.2.vaultFinish o
        f.2.2.vaultDone o f.1 f.2.1

/-! ## Reservations -/

/-- NONCE_RESERVATION_DURABLE (R345): the slot's new N stands, and a seal that waited takes its counter. A write that
finds PD9 not on waits for its wake (R18). -/
def nonceReservationDurableEffect (slot : Octet) (s : State) : State :=
  let n := slot.toNat
  match s.vlt.nonceWait.find? fun p => p.1 == n with
  | none => s
  | some p =>
    if !s.on 9 then s else
    let up (k : KeySlot) : KeySlot := if k.slot == n then { k with reserve := p.2 } else k
    let s := { s with vlt := { s.vlt with
      nonceWait := s.vlt.nonceWait.filter fun q => q.1 != n
      slots := s.vlt.slots.map up, stored := s.vlt.stored.map up } }
    (s.vlt.ops.filter fun o => o.waiting && o.op != 0x30 && o.slot == n).foldl (fun s o => s.sealStart o) s

/-- NONCE_RESERVATION_DURABLE. -/
def execNonceReservationDurable (slot : Octet) (s : State) : Host.Outcome State Fault Refusal :=
  .next (nonceReservationDurableEffect slot s)

/-- LMS_RESERVATION_DURABLE (R18, R351): q + 1 stands, PD9 being on, and the signature with leaf q may be computed. -/
def lmsReservationDurableEffect (s : State) : State :=
  match s.vlt.ops.find? fun o => o.op == 0x30 && o.waiting with
  | none => s
  | some o =>
    if !s.on 9 then s else
    let s := { s with vlt := { s.vlt with lmsq := o.leaf + 1 } }
    (s.wrw A.VLT_LMSQ 2 (o.leaf + 1)).setVltOp { o with waiting := false }

/-- LMS_RESERVATION_DURABLE. -/
def execLmsReservationDurable (s : State) : Host.Outcome State Fault Refusal := .next (lmsReservationDurableEffect s)

/-! ## Random source (R354) -/

/-- VLT_CTRL_RESEED: a write of RESEED makes a reseed due at once. -/
def State.reseed (s : State) : State := { s with vlt := { s.vlt with reseeding := true } }

/-- RESEED_COMPLETE: RNGFAIL clears, and the backoff draws that waited are made (R202). -/
def reseedCompleteEffect (s : State) : State :=
  if !s.on 14 then s
  else
    let ks := s.vlt.drawWait
    let s := (s.setFlag A.VLT_STAT 13 false)
    let s := { s with vlt := { s.vlt with calls := 0, reseeding := false, drawWait := [] } }
    ks.foldl (fun s k => s.drawBackoff k) s

/-- RESEED_COMPLETE. -/
def execReseedComplete (s : State) : Host.Outcome State Fault Refusal := .next (reseedCompleteEffect s)

/-- ENTROPY_HEALTH_FAILURE: RNGFAIL sets and is counted. -/
def entropyHealthFailureEffect (s : State) : State :=
  if s.on 14 then (s.setFlag A.VLT_STAT 13 true).bump A.VLT_RNGFAILCNT else s

/-- ENTROPY_HEALTH_FAILURE. -/
def execEntropyHealthFailure (s : State) : Host.Outcome State Fault Refusal := .next (entropyHealthFailureEffect s)

/-! ## Abort and disable (R261, R357) -/

/-- An operation short of its commit point ends without effect: a decryption's DST is filled with zeros (R347). -/
def State.vaultDrop (s : State) (ring place : Nat) : State :=
  match s.vlt.ops.find? fun o => o.ring == ring && o.place == place with
  | none => s
  | some o =>
    let s := { s with vlt := { s.vlt with ops := s.vlt.ops.filter fun x => !(x.ring == ring && x.place == place) } }
    s.zeroFill o

/-- EN is written 00b (R261, R357). -/
def State.vaultDisabled (s : State) : State :=
  let s := s.wr A.VLT_CTRL 15 14 2
  let cut := (s.vlt.ops.filter fun o => !o.committed && o.ring == 64) ++ s.vlt.svcWait
  let s := (s.vlt.ops.filter fun o => !o.committed).foldl (fun s o => s.vaultDrop o.ring o.place) s
  let s := { s with vlt := { s.vlt with
    svcWait := [], svcDone := s.vlt.svcDone ++ cut.map fun (o : VltOp) => (o.op, St.CANCELLED_BY_DISABLE) } }
  (s.cancelRings (List.range' 32 8)).enSettle A.VLT_CTRL (!s.vlt.ops.isEmpty)

/-! ## Abort requests at the consuming block (R258 to R260) -/

/-- The completion record of a place is written and the place is not yet freed (R249, R253). -/
def State.isDone (s : State) (n place : Nat) : Bool := (s.ring n).recs.contains place

/-- A descriptor is past its commit point (R258). -/
def State.descCommitted (s : State) (n place : Nat) : Bool := (s.ring n).out.any fun d => d.1 == place && d.2.2

/-- A descriptor before its commit point completes ABORTED (R200, R258, R259): the block gives up what it has prepared
for it. -/
def State.abortDesc (s : State) (n place : Nat) : State :=
  if 1 ≤ n ∧ n ≤ 17 then s.abortTx (n, place) 0
  else if 32 ≤ n ∧ n ≤ 39 then ((s.vaultDrop n place).complete n place St.ABORTED).fireDone n
  else (s.complete n place St.ABORTED).fireDone n

end Sys2Proof.Machine
end

