-- ==== Sys2Proof/Machine/Journal.lean ====
section
/-!
DEFINITION. The journal writer (R380 to R383) and the MRAM write port (R404).
-/
namespace Sys2Proof.Machine

/-! ## Entries (R380) -/

/-- CHECK over words 0 to 14. -/
def jnlCheck (ws : List W16) : W16 := BitVec.ofNat 16 (fcs16 (unpackWords (ws.take 15)))

/-- The sixteen words of an entry. -/
def jnlWords (seq time : Nat) (r : JnlReq) : List W16 :=
  let ws := toWords 2 seq ++ toWords 4 time ++ [BitVec.ofNat 16 (r.type * 256 + r.status), r.roleOp]
    ++ toWords 2 r.origin.toNat ++ toWords 2 r.detail.toNat ++ [r.index, r.sub ++ r.dlen, r.value]
  ws ++ [jnlCheck ws]

/-- Word address of the entry with a sequence number. -/
def jnlAddr (seq : Nat) : Nat := 0x3E0000 + 16 * (seq % 8192)

/-- The entry at a position is valid: CHECK is correct and SEQ belongs there. -/
def State.jnlAt (s : State) (pos : Nat) : Option (List W16) :=
  let ws := (List.range 16).map fun i => s.mramGet (0x3E0000 + 16 * pos + i)
  let seq := ofWords (ws.take 2)
  if ws.getD 15 0 == jnlCheck ws && seq % 8192 = pos && seq ≠ 0 then some ws else none

/-- Positions that hold something. -/
def State.jnlPositions (s : State) : List Nat :=
  (s.mram.filterMap fun c => if 0x3E0000 ≤ c.1 && c.1 < 0x400000 && c.1 % 16 < 2 then some ((c.1 - 0x3E0000) / 16) else none)

/-- Largest valid SEQ, 0 if none (R383). -/
def State.jnlNewest (s : State) : Nat :=
  s.jnlPositions.foldl (fun m p => match s.jnlAt p with
    | some ws => max m (ofWords (ws.take 2))
    | none => m) 0

/-- SEQ that the next accepted entry takes. -/
def State.jnlHead (s : State) : Nat := s.rdw A.JNL_HEAD 2

/-- The head search at a wake of PD9 from off (R383). -/
def State.headSearch (s : State) : State :=
  let n := s.jnlNewest
  ((s.wrw A.JNL_HEAD 2 (n + 1)).wrw A.JNL_DURABLE 2 n).setFlag A.JNL_STAT 13 true

/-- The entry with a sequence number, if it is still held. -/
def State.jnlEntry (s : State) (seq : Nat) : Option (List W16) :=
  match s.jnlAt (seq % 8192) with
  | some ws => if ofWords (ws.take 2) = seq then some ws else none
  | none => none

/-- Entries held, newest first. -/
def State.jnlEntries (s : State) : List (List W16) :=
  let h := s.jnlHead
  (List.range (min 8192 (h - 1))).filterMap fun i => s.jnlEntry (h - 1 - i)

/-- Network time as an entry takes it: when PD10 is not on, the value that R300 would rebuild. -/
def State.jnlTime (s : State) : Nat := if s.on 10 then s.now else (rebuiltTime s.pair s.sleep).toNat / 8

/-! ## The writer (R382) -/

/-- PD9 is in a transition that has been taken up. -/
def State.pd9Moving (s : State) : Bool :=
  match s.pwr.current with
  | some (t, _) => t.dom == 9
  | none => false

/-- The waiting entry that is accepted next: the first of the lowest source number. -/
def jnlFirst : List JnlReq → Option JnlReq
  | [] => none
  | r :: t => match jnlFirst t with
    | some x => if x.source < r.source then some x else some r
    | none => some r

/-- JOURNAL_ACCEPT (R382): with no entry being written, the next waiting entry takes SEQ and its time. -/
def journalAcceptEffect (s : State) : State :=
  if !(s.on 9 && s.flag A.JNL_STAT 13) || s.pd9Moving || s.dict.writing.isSome then s
  else match jnlFirst s.dict.jnl with
    | none => s
    | some r =>
      let seq := s.jnlHead
      let s := { s with dict := { s.dict with
        jnl := s.dict.jnl.erase r, writing := some (jnlWords seq s.jnlTime r, r) } }
      s.wrw A.JNL_HEAD 2 (seq + 1)

/-- JOURNAL_ACCEPT. -/
def execJournalAccept (s : State) : Host.Outcome State Fault Refusal := .next (journalAcceptEffect s)

/-- The entry being written becomes durable (R382): its words stand, `JNL_DURABLE` advances and JNL_DURABLE fires. -/
def State.jnlDurable (s : State) : Option (Nat × State) :=
  match s.dict.writing with
  | none => none
  | some (ws, _) =>
    let seq := ofWords (ws.take 2)
    let s := { s with dict := { s.dict with writing := none } }
    some (seq, ((s.mramPuts (jnlAddr seq) ws).wrw A.JNL_DURABLE 2 seq).fire 0x56 0)

/-- An entry staged in `JNL_STAGEw` waits for acceptance (`JNL_STAT.PEND`). -/
def State.jnlPend (s : State) : Bool := s.dict.jnl.any fun r => r.source == 6

/-- A write of COMMIT (R382): queues the staged entry. -/
def State.jnlCommit (s : State) : State :=
  if s.jnlPend then s.rejected Win.JNL
  else
    let w (k : Nat) : W16 := s.word (A.JNL_STAGE k)
    s.jnlAdd { source := 6, type := bits (w 6).toNat 15 8, status := bits (w 6).toNat 7 0, roleOp := w 7
               origin := BitVec.ofNat 32 (ofWords [w 8, w 9]), detail := BitVec.ofNat 32 (ofWords [w 10, w 11])
               index := w 12, sub := (w 13 >>> 8).setWidth 8, dlen := (w 13).setWidth 8, value := w 14 }

/-- An entry that the dictionary service or the loader has the writer make: it is staged in `JNL_STAGEw`. -/
def State.jnlService (s : State) (r : JnlReq) : State := s.jnlAdd { r with source := 6 }

/-- An event entry without role or command. -/
def jnlEvent (type status detail index sub value : Nat) (origin : BitVec 32) : JnlReq where
  source := 6
  type := type
  status := status
  roleOp := 0
  origin := origin
  detail := BitVec.ofNat 32 detail
  index := BitVec.ofNat 16 index
  sub := BitVec.ofNat 8 sub
  dlen := 0
  value := BitVec.ofNat 16 value

/-- ORIGIN of the dictionary service, and of the start sequence and resident loader (R370). -/
def originService : BitVec 32 := 0xC0000006
def originLoader : BitVec 32 := 0xC0000007

/-- `JNL_STAT` as it reads. -/
def State.jnlView (s : State) (a : Nat) : Option W16 :=
  if a = A.JNL_STAT then
    some (BitVec.ofNat 16 (s.dict.writing.isSome.toNat * 32768 + s.jnlPend.toNat * 16384
      + (s.flag A.JNL_STAT 13).toNat * 8192 + min 6 s.dict.jnl.length))
  else none

/-! ## The MRAM write port (R404) -/

/-- Regions that E0's writes do not reach: the vault area, the journal and the reserved ranges (R403). -/
def mwProtected (a : Nat) : Bool :=
  (0x3C0000 ≤ a && a < 0x3D0000) || (0x3D0120 ≤ a && a < 0x3D1000) || (0x3D1800 ≤ a && a < 0x3E0000) || 0x3E0000 ≤ a

/-- A write to `SYS_MWDATA` by E0, its task bank or its service (R404). -/
def State.mwData (s : State) (who : Initiator) (v : W16) : State :=
  let e0 := match who with
    | .engine k => k.val == 0
    | .service => true
    | .debug => false
  if !e0 || s.flag A.SYS_MWSTAT 15 then s.rejected Win.SYS
  else
    let a := s.rdw A.SYS_MWADDR 2 % 2 ^ 24
    let next := if a = 0x3FFFFF then 0x200000 else a + 1
    if mwProtected a then ((s.setFlag A.SYS_MWSTAT 14 true).rejected Win.SYS).wrw A.SYS_MWADDR 2 next
    else
      let s := (s.wrw A.SYS_MWADDR 2 next).setFlag A.SYS_MWSTAT 15 true
      { s.touchMram 11 with upd := { (s.touchMram 11).upd with mwq := s.upd.mwq ++ [MwReq.mk 2 a v] } }.mwGo

/-- MRAM_WORD_DURABLE (R18, R404): the word in progress stands, PD9 being on, and the port serves its next request. -/
def mramWordDurableEffect (s : State) : State :=
  match s.upd.mwBusy with
  | none => s.mwGo
  | some r =>
    if !s.on 9 then s else
    let s := { s.mramPut r.addr r.data with upd := { s.upd with mwBusy := none } }
    let s := if r.port = 2 then s.setFlag A.SYS_MWSTAT 15 false else s
    s.mwGo

/-- MRAM_WORD_DURABLE. -/
def execMramWordDurable (s : State) : Host.Outcome State Fault Refusal := .next (mramWordDurableEffect s)

end Sys2Proof.Machine
end

