-- ==== Sys2Proof/Machine/Waifeti.lean ====
section
/-!
DEFINITION. The Waifeti Link (R386 to R402): the freewheel's headers and addresses, and the frame engine's frames and
responses. A frame is one header command and, past its ACK, one command for its body and END slot.
-/
namespace Sys2Proof.Machine

/-! ## Headers (R389, R390) -/

/-- Bits of a field, least significant first. -/
def lsbFirst (n v : Nat) : List Bool := (List.range n).map fun i => bit v i

/-- CRC-8 with polynomial x⁸ + x² + x + 1 over bits as sent. -/
def crc8 (r : Nat) : List Bool → Nat
  | [] => r
  | b :: t =>
    let fb := bit r 7 != b
    crc8 ((r * 2 % 256) ^^^ (if fb then 7 else 0)) t

/-- HCHK of the first 24 header bits. -/
def headerCheck (addr type len fseq : Nat) : Nat :=
  crc8 0xFF (lsbFirst 6 addr ++ lsbFirst 4 type ++ lsbFirst 11 len ++ lsbFirst 3 fseq)

/-- TYPE, LEN and ADDR inside R390's ranges. -/
def headerOk (addr type len : Nat) : Bool :=
  match type with
  | 1 => 22 ≤ len && len ≤ 1046 && 1 ≤ addr
  | 2 | 4 => len = 0 && 1 ≤ addr && addr ≤ 62
  | 3 => len = 1 && addr = 0
  | 5 => len = 13 && 1 ≤ addr && addr ≤ 62
  | 6 => len = 0 && 1 ≤ addr
  | _ => false

/-- Own address; 0 while unassigned (R394). -/
def State.wflAddr (s : State) : Nat := s.rd A.WFL_ADDR 5 0

/-- A counter of the frame engine, which is lost while PD15 is off. -/
def State.wflBump (s : State) (a : Nat) : State := if 1 ≤ s.domState 15 then s.bump a else s

/-- What the unit drove on WDO. -/
def State.wflReply (s : State) (ack : Bool) (fin : Option Bool) (back : List Octet) : State :=
  { s with wfl := { s.wfl with reply := ⟨ack, fin, back⟩ } }

/-- A receive slot held by none, lowest first. -/
def State.wflFreeSlot (s : State) : Option Nat := (List.range 4).find? fun i => !s.flag A.WFL_STAT i

/-- Wake source 8's request is dropped once its wake set is on and the frame engine has read the header (R396). -/
def State.wflRead (s : State) : State :=
  if s.wfl.latched && s.on 15 && s.wakeSetOn 8 then
    { s.setFlag A.PWR_WPEND 8 false with wfl := { s.wfl with latched := false } }
  else s

/-- The wake request of R396, counted. -/
def State.wflWake (s : State) : State :=
  let s := s.bump A.WFL_WAKECNT
  let s := { s.setFlag A.PWR_WPEND 8 true with wfl := { s.wfl with latched := true } }
  (s.wakeRequest 8 false false).wflRead

/-- The conditions of R397 for a frame that is not an ASSIGN. A FETCH is still answered while the engine is disabling
(R402). -/
def State.wflTakes (s : State) (type : Nat) : Bool :=
  let en := s.rd A.WFL_CFG 15 14
  s.on 15 && (en = 1 || (en = 2 && type = 2)) && !s.flag A.CLK_GATESTAT 13 && s.wakeSetOn 8
    && ((type ≠ 1 && type ≠ 5) || (s.wflFreeSlot.isSome && s.ringRoom 0))

/-- The frame past its ACK, or none. -/
def State.setHeader (s : State) (h : Option (Nat × Nat × Nat × Nat)) : State :=
  { s.setFlag A.WFL_STAT 15 h.isSome with wfl := { s.wfl with header := h } }

/-- A frame is acknowledged: a CMD or RESET holds a receive slot from here, and a place of ring 0, unless another
producer holds that ring's reservation then (R252, R398). -/
def State.wflAck (s : State) (addr type len fseq : Nat) : State :=
  let s := s.wflReply (addr ≠ 63) none []
  let s := s.setHeader (some (addr, type, len, fseq))
  if type = 1 || type = 5 then
    let i := s.wflFreeSlot.getD 0
    let s := { s.setFlag A.WFL_STAT i true with wfl := { s.wfl with slot := some i } }
    if s.canReserve 0 then s.reserve 0 10 else s
  else s

/-- FRAME_HEADER (R389 to R397): a header of 32 bits, with the level of CHAIN_IN at START. -/
def frameHeaderEffect (addr : BitVec 6) (type : BitVec 4) (len : BitVec 11) (fseq : BitVec 3) (hchk : Octet)
    (s : State) : State :=
  let a := addr.toNat
  let t := type.toNat
  let l := len.toNat
  let q := fseq.toNat
  if !s.vio1 || s.wfl.header.isSome then s
  else
    let s := s.setFlag A.WFL_ADDR 14 s.wfl.chainIn
    if headerCheck a t l q ≠ hchk.toNat || !headerOk a t l then (s.wflBump A.WFL_HDRERRCNT).wflReply false none []
    else if t = 3 then
      if s.wflAddr = 0 && s.wfl.chainIn then (s.wflReply true none []).setHeader (some (a, t, l, q))
      else s.wflReply false none []
    else if s.wflAddr = 0 || (a ≠ 63 && a ≠ s.wflAddr) then s.wflReply false none []
    else
      let gated := s.flag A.CLK_GATESTAT 13
      let s := s.wflWake
      if s.wflTakes t then s.wflAck a t l q
      else ((if gated && s.on 15 then s.openGate 13 else s).wflBump A.WFL_NAKCNT).wflReply false none []

/-- FRAME_HEADER. -/
def execFrameHeader (addr : BitVec 6) (type : BitVec 4) (len : BitVec 11) (fseq : BitVec 3) (hchk : Octet)
    (s : State) : Host.Outcome State Fault Refusal := .next (frameHeaderEffect addr type len fseq hchk s)

/-! ## Bodies (R388, R392, R393, R398) -/

/-- The frame engine holds the reservation of ring 0. -/
def State.wflHolds (s : State) : Bool := (s.ring 0).holder == some 10

/-- The frame in progress ends; a slot and place that it holds are freed unless its record is posted. -/
def State.wflEnd (s : State) : State :=
  let s := match s.wfl.slot with
    | some i =>
      let s := s.setFlag A.WFL_STAT i false
      if s.wflHolds then s.unreserve 0 else s
    | none => s
  let s := { s with wfl := { s.wfl with slot := none } }
  s.setHeader none

/-- `WFL_CFG.EN` reads 00b once no frame and no response is left (R402). -/
def State.wflSettle (s : State) : State :=
  s.enSettle A.WFL_CFG (s.wfl.header.isSome || !s.wfl.pend.isEmpty)

/-- The record of a wire frame on ring 0 (R398). -/
def State.wireRecord (s : State) (addr type fseq len slot : Nat) : List W16 :=
  let own := s.wflAddr
  let time := if s.on 10 then s.now else 0
  [s.wfl.posted, 0, BitVec.ofNat 16 (type * 256 + 15), BitVec.ofNat 16 len]
    ++ toWords 2 (s.rdw A.WFL_RXBASE 2 + 528 * slot) ++ toWords 4 time
    ++ [BitVec.ofNat 16 ((if addr = 63 then 0x8000 else 0) + fseq * 4096 + own), BitVec.ofNat 16 slot, 0, 0, 0, 0]

/-- The record of a wire frame is posted to its reserved place; one without a place asks for the reservation of ring 0
now, and waits behind those already waiting where it cannot have it (R252). -/
def State.wflRecord (s : State) (ws : List W16) : State :=
  if s.wflHolds then s.postReserved 0 ws
  else if s.ringRoom 0 then (s.post 0 10 ws).2
  else if s.ringEn 0 then s.setRing 0 { s.ring 0 with waiting := (s.ring 0).waiting ++ [.record 10 ws] }
  else s

/-- A body that passes its CRC is written to its slot and posted to ring 0, and WFL_FRAME fires. -/
def State.wflPost (s : State) (addr type fseq : Nat) (body : List Octet) : State :=
  match s.wfl.slot with
  | none => s
  | some i =>
    let a := s.rdw A.WFL_RXBASE 2 + 528 * i
    let s := s.portOctets 10 a 0 body
    let ws := s.wireRecord addr type fseq body.length i
    let s := { s with wfl := { s.wfl with posted := s.wfl.posted + 1, slot := none } }
    ((s.wflRecord ws).setHeader none).fire 0x5A 0

/-- The body of a CMD or RESET (R392, R398): END_BAD on a CRC failure, END_OK without a post on a repeat. -/
def State.wflBody (s : State) (want : Nat) (body : List Octet) (crc : BitVec 16) : State :=
  match s.wfl.header with
  | none => s
  | some (addr, type, len, fseq) =>
    if type ≠ want || body.length ≠ len || !s.vio1 then s
    else if fcs16 body ≠ crc.toNat then ((s.wflEnd.bump A.WFL_CRCERRCNT).wflReply (addr ≠ 63) (some false) []).wflSettle
    else if type = 1 && s.wfl.lastCmd == some (fseq, crc) then
      ((s.wflEnd.bump A.WFL_REPEATCNT).wflReply (addr ≠ 63) (some true) []).wflSettle
    else
      let s := if type = 1 then { s with wfl := { s.wfl with lastCmd := some (fseq, crc) } } else s
      ((s.wflPost addr type fseq body).wflReply (addr ≠ 63) (some true) []).wflSettle

/-- CMD: body octets and body CRC. -/
def execCmd (body : List Octet) (crc : BitVec 16) (s : State) : Host.Outcome State Fault Refusal :=
  .next (s.wflBody 1 body crc)

/-- The frame engine reads the oldest response out of its slot through port 10 (R26, R70). -/
def State.wflFetched (s : State) : State :=
  match s.wfl.pend with
  | [] => s
  | r :: _ => s.portTouch 10 (s.rdw A.WFL_RSPBASE 2 + 528 * r.slot) ((r.len + 1) / 2)

/-- A frame with a body back: the octets sent and whether the host accepts them at E0 (R393). -/
def State.wflBack (s : State) (want : Nat) (octets : List Octet) (accepted : State → State) (accept : Bool) : State :=
  match s.wfl.header with
  | none => s
  | some (_, type, _, _) =>
    if type ≠ want || !s.vio1 then s
    else
      let s := (if want = 2 then s.wflFetched else s).setHeader none
      let s := s.wflReply true none (toOctets 2 octets.length ++ octets)
      (if accept then accepted s else s).wflSettle

/-- Octets of the oldest pending response. -/
def State.wflOldest (s : State) : List Octet :=
  match s.wfl.pend with
  | [] => []
  | r :: _ => s.octets (s.rdw A.WFL_RSPBASE 2 + 528 * r.slot) r.len

/-- The eight STATUS octets (R398); a site identifier that is not provisioned reads 0. -/
def State.wflStatusOctets (s : State) : List Octet :=
  let site := ofOctets ((s.setting 0x0101 1).getD [])
  let o1 := (s.flag A.SYS_BOOTCNT 7).toNat + 2 * (site == 0).toNat + 4 * s.wflFreeSlot.isNone.toNat
  [BitVec.ofNat 8 s.wflAddr, BitVec.ofNat 8 o1, BitVec.ofNat 8 s.wfl.pend.length, 0] ++ toOctets 4 (s.rdw A.WFL_NONCE 2)

/-- STATUS (R398): an accepted STATUS clears CABLEIRQ. -/
def execStatus (accept : Bool) (s : State) : Host.Outcome State Fault Refusal :=
  .next (s.wflBack 4 s.wflStatusOctets (fun s => s.setFlag A.WFL_STAT 14 false) accept)

/-- ASSIGN (R394): an eligible unit takes its address and raises CHAIN_OUT. -/
def assignEffect (value : Octet) (crc : BitVec 16) (s : State) : State :=
  match s.wfl.header with
  | none => s
  | some (_, type, _, _) =>
    if type ≠ 3 || !s.vio1 then s
    else
      let s := s.setHeader none
      if fcs16 [value] ≠ crc.toNat then (s.wflBump A.WFL_CRCERRCNT).wflReply true (some false) []
      else if value.toNat = 0 || 63 ≤ value.toNat then s.wflReply true (some false) []
      else ((s.wr A.WFL_ADDR 5 0 value.toNat).setFlag A.WFL_ADDR 15 true).wflReply true (some true) []

/-- ASSIGN. -/
def execAssign (value : Octet) (crc : BitVec 16) (s : State) : Host.Outcome State Fault Refusal :=
  .next (assignEffect value crc s)

/-- PING (R390): the frame has no body and no END slot, so that it ends after its ACK; its header did the waking. -/
def pingEffect (s : State) : State :=
  match s.wfl.header with
  | some (_, 6, _, _) => s.setHeader none
  | _ => s

/-- PING. -/
def execPing (s : State) : Host.Outcome State Fault Refusal := .next (pingEffect s)

/-- FRAME_ABANDON (R401). -/
def frameAbandonEffect (s : State) : State :=
  if s.wfl.header.isNone then s else ((s.wflEnd.wflBump A.WFL_ABANDONCNT).wflReply false none []).wflSettle

/-- FRAME_ABANDON. -/
def execFrameAbandon (s : State) : Host.Outcome State Fault Refusal := .next (frameAbandonEffect s)

/-- IDLE_RESYNC (R401): from any phase except BODY back. -/
def idleResyncEffect (s : State) : State :=
  match s.wfl.header with
  | some (_, type, _, _) =>
    if type = 2 || type = 4 || !s.vio1 then s else (s.wflEnd.wflReply false none []).wflSettle
  | none => s

/-- IDLE_RESYNC. -/
def execIdleResync (s : State) : Host.Outcome State Fault Refusal := .next (idleResyncEffect s)

/-- RESPONSE_EXPIRY (R400): a response not fetched in time is discarded. -/
def responseExpiryEffect (slot : Fin 4) (s : State) : State :=
  if s.on 15 && s.wfl.pend.any (fun r => r.slot == slot.val) then
    ({ s with wfl := { s.wfl with pend := s.wfl.pend.filter fun r => r.slot != slot.val } }.bump A.WFL_RSPDROPCNT).wflSettle
  else s

/-! ## Registers -/

/-- A write to `WFL_RSPCTL` (R398). -/
def State.rspCtl (s : State) (v : Nat) : State :=
  let slot := bits v 15 14
  let len := bits v 10 0
  if len < 26 || 1050 < len || s.wfl.pend.any (fun r => r.slot == slot) then s.rejected Win.WFL
  else { s with wfl := { s.wfl with pend := s.wfl.pend ++ [⟨slot, len⟩] } }

/-- A write to `WFL_RXFREE`: a slot that the frame in progress holds stays held. -/
def State.rxFree (s : State) (v : Nat) : State :=
  (List.range 4).foldl (fun s i => if bit v i && s.wfl.slot ≠ some i then s.setFlag A.WFL_STAT i false else s) s

/-- A write to `WFL_ADDRCTL` (R399). -/
def State.addrCtl (s : State) (v : Nat) : State :=
  if bits v 15 8 ≠ 0xA5 then s.rejected Win.WFL
  else if bit v 0 then (s.wr A.WFL_ADDR 5 0 0).setFlag A.WFL_ADDR 15 false else s

/-- EN is written 00b (R402). -/
def State.wflDisabled (s : State) : State := (s.wr A.WFL_CFG 15 14 2).wflSettle

/-- WFL_IRQ: an event sets CABLEIRQ (R400). -/
def wflIrqEffect (s : State) : State := s.onEvent 0x4F false fun _ _ _ s => s.setFlag A.WFL_STAT 14 true

/-- WFL_IRQ. -/
def execWflIrq (s : State) : Host.Outcome State Fault Refusal := .next (wflIrqEffect s)

/-- CHAIN_IN_CHANGE (R395): the level at CHAIN_IN. -/
def execChainInChange (level : Bool) (s : State) : Host.Outcome State Fault Refusal :=
  .next { s with wfl := { s.wfl with chainIn := level } }

/-- WIRQ is pulled low (R395, R400). -/
def State.wirqLow (s : State) : Bool :=
  s.vio1 && ((s.wflAddr = 0 && s.wfl.chainIn) || (s.flag A.WFL_CFG 13 && !s.wfl.pend.isEmpty) || s.flag A.WFL_STAT 14)

/-- `WFL_STAT.RSPPEND` as it reads. -/
def State.wflView (s : State) (a : Nat) : Option W16 :=
  if a = A.WFL_STAT then
    some (BitVec.ofNat 16 (putBits (s.word a).toNat 13 11 s.wfl.pend.length))
  else none

end Sys2Proof.Machine
end

