-- ==== Sys2Proof/Machine/Engine.lean ====
section
/-!
DEFINITION. The engines as machines (R59 to R90): tasks and their start, commit buffers and digests, the tandem
comparison and the 2-of-3 procedure, reserve windows as they become active (R54), retirement, reintegration, the
self-test and the load port.
-/
namespace Sys2Proof.Machine

/-! ## Engines and their STATE (R90) -/

/-- Engine k. -/
def State.engine (s : State) (k : Fin 8) : Engine := s.eng[k]

/-- Engine k replaced. -/
def State.setEngine (s : State) (k : Fin 8) (e : Engine) : State := { s with eng := s.eng.set k e }

/-- Commit buffer i of engine k. -/
def State.cbuf (s : State) (k : Fin 8) (i : Fin 2) : CommitBuf := (s.engine k).bufs[i]

/-- A commit buffer replaced. -/
def State.setCbuf (s : State) (k : Fin 8) (i : Fin 2) (b : CommitBuf) : State :=
  let e := s.engine k
  s.setEngine k { e with bufs := e.bufs.set i b }

/-- The engine's task replaced. -/
def State.setTask (s : State) (k : Fin 8) (t : Option Task) : State := s.setEngine k { s.engine k with task := t }

/-- A commit buffer is free for a run that is to start (R82): neither draining nor held, nor awaiting the comparison.
One that a running task fills is freed by the preemption that the start brings. -/
def CommitBuf.usable (b : CommitBuf) : Bool := b.st == .free || b.st == .filling

/-- A free commit buffer of engine k (R82), the lower first. -/
def State.freeBuf (s : State) (k : Fin 8) : Option (Fin 2) :=
  if (s.cbuf k 0).usable then some 0 else if (s.cbuf k 1).usable then some 1 else none

/-- `ENG_STATn.STATE`. -/
def State.engState (s : State) (k : Fin 8) : Nat :=
  if !s.on k.val then 0
  else if s.selfTest == some k then 5
  else match (s.engine k).task with
    | some t => if t.third then 4 else if t.mate.isSome then 3 else 2
    | none => if s.retired k.val then 6 else 1

/-- `ENG_STATn.BUFHELD`. -/
def State.bufHeld (s : State) (k : Fin 8) : Nat :=
  let n (i : Fin 2) : Nat := match (s.cbuf k i).st with
    | .held => 1
    | .draining => 1
    | _ => 0
  n 0 + n 1

/-- `ENG_STATn.LOADED`. -/
def State.loaded (s : State) (k : Fin 8) : Bool := s.flag (A.ENG_STAT k.val) 10

/-- A drain runs from engine k. -/
def State.drains (s : State) (k : Fin 8) : Bool := (s.cbuf k 0).st == .draining || (s.cbuf k 1).st == .draining

/-- The engine runs neither a task nor a self-test (R62). -/
def State.engIdle (s : State) (k : Fin 8) : Bool := (s.engine k).task.isNone && s.selfTest != some k

/-- The registers at task entry (R64, R92): c12 and c13 are kept. -/
def taskBank (old : Bank) (k : Fin 8) (task : Octet) (entry : BitVec 14) (buffered : Bool) : Bank :=
  { Bank.init with
    c := ((((Vector.replicate 16 0).set 1 (BitVec.ofNat 16 (k.val * 8 + buffered.toNat * 2))).set 8 (task.setWidth 16)).set 11
      (entry.setWidth 16)).set 12 old.c[12] |>.set 13 old.c[13]
    pc := entry.setWidth 16 }

/-- A task starts on an engine (R64). Its commit buffer, if it fills one, is given. What the task before it posted is no
descriptor of its own. -/
def State.startTask (s : State) (k : Fin 8) (t : Task) (entry : BitVec 14) : State :=
  let e := s.engine k
  let s := { s.setEngine k { e with
    bank := taskBank e.bank k t.task entry t.buffered, task := some t, resumed := false } with
    rings := s.rings.map fun (r : Ring) => { r with owner := r.owner.filter fun o => o.2 != k } }
  let s := if t.buffered then s.setCbuf k t.buf ⟨.filling, [], none, t.lap, t.index, none⟩ else s
  let s := if t.buffered then s.setFlag (A.ENG_STAT k.val) 8 false else s
  s.wr (A.ENG_STAT k.val) 7 0 t.task.toNat

/-- An engine stops: nothing is in flight, no access of its task waits, and it is idle. -/
def State.stopTask (s : State) (k : Fin 8) : State :=
  let e := s.engine k
  let s := s.setEngine k { e with
    task := none, resumed := false
    bank := { e.bank with flight := [], hold := 0, target := none, ending := false } }
  { s with waits := s.waits.filter fun w => w.who != Initiator.engine k }

/-! ## Commit buffers (R75 to R80) -/

/-- The three words of an entry (R75). -/
def BufEntry.words : BufEntry → List W16
  | .store a d => [BitVec.ofNat 16 (a.toNat / 65536), a.setWidth 16, d]
  | .post r n => [0x4000, r.setWidth 16, BitVec.ofNat 16 n]
  | .fetch r n => [0x8000, r.setWidth 16, BitVec.ofNat 16 n]

/-- CRC-32C of words, each least significant bit first (R77). -/
def crc32c (ws : List W16) : BitVec 32 :=
  BitVec.ofNat 32 (crcOctets 0x82F63B78 0xFFFFFFFF (unpackWords ws) ^^^ 0xFFFFFFFF)

/-- Digest and entry count of a run (R77). -/
def runResult (ents : List BufEntry) (b : Bank) : BitVec 32 × Nat :=
  (crc32c ((ents.map BufEntry.words).flatten ++ [b.g[0], b.g[1], b.g[2], b.g[3]]), ents.length)

/-- Two results are equal; an absent one is equal to none (R77, R78). -/
def resultsEqual (a b : Option (BitVec 32 × Nat)) : Bool :=
  match a, b with
  | some x, some y => x == y
  | _, _ => false

/-- Descriptors or records that a buffer's fetch entries name on ring n. -/
def fetchCount (n : Nat) (ents : List BufEntry) : Nat :=
  (ents.map fun e => match e with
    | .fetch r c => if r.toNat = n then c else 0
    | _ => 0).sum

/-- The fetch entries of buffers discarded together are consumed (R80): on each ring the index passes every descriptor
or record that any of them names, once, as far as the ring holds them. -/
def State.consumeAll (s : State) (bufs : List (List BufEntry)) : State :=
  (List.range 64).foldl (fun s n =>
    let c := (bufs.map (fetchCount n)).foldl max 0
    let have_ := if isRequest n then (s.ring n).ready else (s.ring n).used
    if c = 0 then s else (s.qfetch n (min c have_)).getD s) s

/-- A buffer is discarded under R80 and freed. -/
def State.discardBuf (s : State) (k : Fin 8) (i : Fin 2) : State :=
  (s.consumeAll [(s.cbuf k i).ents]).setCbuf k i CommitBuf.init

/-- Buffers of one task are discarded together under R80 and freed. -/
def State.discardBufs (s : State) (bs : List (Fin 8 × Fin 2)) : State :=
  bs.foldl (fun s b => s.setCbuf b.1 b.2 CommitBuf.init) (s.consumeAll (bs.map fun b => (s.cbuf b.1 b.2).ents))

/-- A buffer is freed; nothing of it is performed. -/
def State.freeCbuf (s : State) (k : Fin 8) (i : Fin 2) : State := s.setCbuf k i CommitBuf.init

/-- The drain of a buffer has performed its last entry: it is free, and the task's DISPATCH completes (R36, R78). -/
def State.drainDone (s : State) (k : Fin 8) (i : Fin 2) : State :=
  let b := s.cbuf k i
  (s.freeCbuf k i).monitorsDone fun m => m.kind == 2 && m.lap == b.lap && m.index == b.index

/-- A buffer begins to drain; an empty one is done at once (R78). -/
def State.drainStart (s : State) (k : Fin 8) (i : Fin 2) : State :=
  let b := s.cbuf k i
  if b.ents.isEmpty then s.drainDone k i else s.setCbuf k i { b with st := .draining }

/-! ## Retirement (R85 to R87) -/

/-- Two engines are retired and the degraded dispatch of R57 is in force. -/
def State.degraded (s : State) : Bool := s.flag A.SEQ_STAT 5 && s.seq.degradedNext != some true

/-- The retirement set and FIRST of the start and update record (R86), written through the power controller. DESIGN
CHOICE: the record's fields are state of their own and not words of MRAM, for the manual places none of them within
3D_0000h-3D_00FFh (log entry 99). -/
def State.recordRetired (s : State) : State :=
  let s := s.touchMram 11
  { s with upd := { s.upd with retSet := (s.word A.ENG_RETIRED).setWidth 8, first := s.retOrder.head? } }

/-- An engine's bit in `ENG_RETIRED` is set, behind those retired before it. -/
def State.markRetired (s : State) (k : Fin 8) : State :=
  if s.retired k.val then s else { s.setFlag A.ENG_RETIRED k.val true with retOrder := s.retOrder ++ [k] }

/-- An engine stops issuing with its bundle in flight unfinished (R85, R116): an unguarded or single task is over, its
buffer discarded; the run of a tandem pair keeps an absent result until the comparison, and a third run until its
window's end. -/
def State.haltTask (s : State) (k : Fin 8) : State :=
  match (s.engine k).task with
  | none => s
  | some t =>
    let s := s.stopTask k
    if t.mate.isSome then s.setCbuf k t.buf { s.cbuf k t.buf with st := .ended, run := some t }
    else if t.third then s.setCbuf k t.buf { s.cbuf k t.buf with st := .held }
    else if t.buffered then s.discardBuf k t.buf
    else s

/-- Arbitration retires engine k at U + 3 (R85, R56, R57): it stops, and at the next slot boundary its domain goes off;
E0's stays on (R67). Two engines at most are retired so (R87). DESIGN CHOICE: the RETIRED record names the task's DISPATCH
entry and its TASK, the DEGRADED record no entry; the manual names neither (log entry 100). -/
def State.retire (s : State) (k : Fin 8) (entry : Nat × Nat) (task : Nat) : State :=
  if s.retired k.val || 2 ≤ s.retOrder.length then s
  else
    let first := s.retOrder.isEmpty
    let s := ((s.haltTask k).markRetired k).setFlag (A.ENG_STAT k.val) 9 false
    let e := s.engine k
    let s := s.setEngine k { e with passSince := false, loadSince := false }
    let s := s.breach 13 St.OK (some entry) task k.val
    let s := s.jnlAdd { jnlEvent 0x10 St.OK 0 0 0 k.val 0xC0000003 with source := 3 }
    let s := s.recordRetired
    let s := if k.val = 0 then s else { s with seq := { s.seq with offNext := s.seq.offNext ++ [k] } }
    if first then { s with seq := { s.seq with placeNext := some (k.val + 1) } }
    else
      let s := (s.breach 14 St.OK none 0 0).setFlag A.SEQ_STAT 5 true
      { s with seq := { s.seq with degradedNext := some true } }

/-! ## Reserve windows as they become active (R54) -/

/-- A window record replaced, by number. -/
def State.setWindow (s : State) (w : Window) : State :=
  { s with seq := { s.seq with windows := s.seq.windows.map fun x => if x.rwin == w.rwin then w else x } }

/-- The window becomes active: its engine's domain is woken and the gear raised; never in degraded operation. -/
def State.activate (s : State) (w : Window) : State :=
  if w.active || s.degraded then s
  else
    let d := w.engine.val
    let s := s.setWindow { w with active := true, domWas := s.domState d, gearWas := s.rd A.PWR_GEAR 2 0, since := s.now }
    let s := if s.on d || s.heldOff d then s else s.queueTransition ⟨d, 2, 0, false, none⟩
    if s.rd A.PWR_GEAR 6 4 < w.gear then s.setGear w.gear else s

/-- A MISMATCH is recorded for a window's third runs, and an open window becomes active (R54). -/
def State.queueThird (s : State) (m : Mismatch) : State :=
  let s := { s with seq := { s.seq with mismatches := s.seq.mismatches ++ [m] } }
  match s.seq.windows.find? fun w => w.rwin == m.rwin with
  | some w => s.activate w
  | none => s

/-! ## The comparison (R78, R83, R84) -/

/-- The run of entry (lap, index) on engine k as one of a tandem pair: its task, and whether it has ended. -/
def State.pairRun (s : State) (k : Fin 8) (lap index : Nat) : Option (Task × Bool) :=
  let ours (t : Task) : Bool := t.mate.isSome && t.lap == lap && t.index == index
  let ended (i : Fin 2) : Option (Task × Bool) := match (s.cbuf k i).run with
    | some t => if ours t then some (t, true) else none
    | none => none
  match (s.engine k).task with
  | some t => if ours t then some (t, false) else (ended 0).or (ended 1)
  | none => (ended 0).or (ended 1)

/-- The primary of the tandem pair of entry (lap, index) that is still to be compared. -/
def State.pairPrimary (s : State) (lap index : Nat) : Option (Fin 8 × Task) :=
  (List.finRange 8).findSome? fun k => match s.pairRun k lap index with
    | some (t, _) => if t.primary then some (k, t) else none
    | none => none

/-- An engine's part of a pair stops for the comparison (R78): one that has not issued TEND has an absent result. -/
def State.stopRun (s : State) (k : Fin 8) (lap index : Nat) : State :=
  match s.pairRun k lap index with
  | some (_, false) => s.stopTask k
  | _ => s

/-- The comparison of the tandem pair of an entry: equal results commit and drain from the primary; any other outcome is
a MISMATCH. -/
def State.compare (s : State) (lap index : Nat) : State :=
  match s.pairPrimary lap index with
  | none => s
  | some (p, t) =>
    let q := t.mate.getD p
    let qb := match s.pairRun q lap index with
      | some (u, _) => u.buf
      | none => t.buf
    let s := (s.stopRun p lap index).stopRun q lap index
    let a := s.cbuf p t.buf
    let b := s.cbuf q qb
    if resultsEqual a.result b.result then
      ((s.freeCbuf q qb).setCbuf p t.buf { a with run := none }).drainStart p t.buf
    else
      let s := (s.setCbuf p t.buf { a with st := .held, run := none }).setCbuf q qb { b with st := .held, run := none }
      let s := (s.breach 12 St.OK (some (t.lap, t.index)) t.task.toNat p.val).bump A.ENG_MISCNT
      let s := s.setMonitors (s.seq.monitors.filter fun m => !(m.kind == 2 && m.lap == t.lap && m.index == t.index))
      let w := (cellsGet zeroWord s.seq.table (t.index * 8 + 7)).toNat
      s.queueThird { rwin := t.rwin.toNat, task := t.task.toNat, entry := bits w 13 0, primary := p, partner := q
                     pbuf := t.buf, qbuf := qb, lap := t.lap, index := t.index }

/-- The third run of a window is over: the window serves its next one. -/
def State.thirdOver (s : State) (rwin : Nat) : State :=
  match s.seq.windows.find? fun w => w.rwin == rwin with
  | some w => s.setWindow { w with run := none }
  | none => s

/-- A MISMATCH without a majority (R84): the pair's held buffers, and that of a third run, are discarded under R80. -/
def State.discardPair (s : State) (m : Mismatch) (third : List (Fin 8 × Fin 2)) : State :=
  s.discardBufs ((m.primary, m.pbuf) :: (m.partner, m.qbuf) :: third)

/-- The third result is compared with both held results (R83, R84). -/
def State.arbitrate (s : State) (k : Fin 8) (t : Task) (m : Mismatch) : State :=
  let c := s.cbuf k t.buf
  let entry := (m.lap, m.index)
  let eqP := resultsEqual c.result (s.cbuf m.primary m.pbuf).result
  let eqQ := resultsEqual c.result (s.cbuf m.partner m.qbuf).result
  let s := (s.stopTask k).thirdOver m.rwin
  if eqP || eqQ then
    let loser := if eqP then m.partner else m.primary
    ((((s.freeCbuf m.primary m.pbuf).freeCbuf m.partner m.qbuf).drainStart k t.buf)).retire loser entry m.task
  else ((s.discardPair m [(k, t.buf)]).breach 12 St.OK (some entry) m.task k.val).bump A.ENG_UNRESCNT

/-- The mismatch whose third run an engine runs. -/
def State.thirdOf (s : State) (k : Fin 8) : Option Mismatch :=
  match s.seq.windows.find? fun w => w.run.isSome && w.engine == k with
  | some w => w.run
  | none => none

/-- An engine has issued TEND (R78, R83, R110, R451): `b` is the bank that the TEND bundle read. -/
def State.taskEnd (s : State) (k : Fin 8) (b : Bank) : State :=
  match (s.engine k).task with
  | none => s
  | some t =>
    if !t.buffered then
      (s.stopTask k).monitorsDone fun m => m.kind == 2 && m.lap == t.lap && m.index == t.index
    else
      let c := s.cbuf k t.buf
      let s := s.setCbuf k t.buf { c with result := some (runResult c.ents b) }
      if t.third then match s.thirdOf k with
        | some m => s.arbitrate k t m
        | none => (s.stopTask k).freeCbuf k t.buf
      else match t.mate with
        | none => (s.stopTask k).drainStart k t.buf
        | some q =>
          let s := s.haltTask k
          let other := match s.pairRun q t.lap t.index with
            | some (u, true) => (s.cbuf q u.buf).result.isSome
            | some (_, false) => false
            | none => true
          if other then s.compare t.lap t.index else s

/-- An engine stops without a commit (R116), and E0 is told through ENG_EVT. -/
def State.taskFails (s : State) (k : Fin 8) : State :=
  if (s.engine k).task.isSome then (s.haltTask k).fire 0x55 0 else s

/-- The task of a pair's run on engine k is changed, whether the run goes on or has ended. -/
def State.updateRun (s : State) (k : Fin 8) (lap index : Nat) (f : Task → Task) : State :=
  match s.pairRun k lap index with
  | some (t, false) => s.setTask k (some (f t))
  | some (t, true) => s.setCbuf k t.buf { s.cbuf k t.buf with run := some (f t) }
  | none => s

/-- A split (R74). -/
def State.split (s : State) (p q : Fin 8) (lap index : Nat) : State :=
  let off (t : Task) : Task := { t with lockstep := false, trace := [], given := [] }
  let s := (s.updateRun p lap index off).updateRun q lap index off
  let s := (s.setFlag (A.ENG_STAT p.val) 8 true).setFlag (A.ENG_STAT q.val) 8 true
  (s.bump A.ENG_SPLITCNT).fire 0x55 0

/-- One cycle of an engine of a pair in lockstep, for the split detector (R74): its bundle address and requests,
against the mate's for the same cycle. A mate that has ended issues nothing more. -/
def State.detectSplit (s : State) (k : Fin 8) (x : Nat) : State :=
  match (s.engine k).task with
  | none => s
  | some t =>
    match t.mate with
    | none => s
    | some q =>
      if !t.lockstep then s
      else match s.pairRun q t.lap t.index with
        | none => s
        | some (u, over_) =>
          match u.trace with
          | y :: r => if x = y then s.updateRun q t.lap t.index fun u => { u with trace := r } else s.split k q t.lap t.index
          | [] => if over_ then s.split k q t.lap t.index else s.setTask k (some { t with trace := t.trace ++ [x] })

/-! ## Dispatch (R63 to R66, R53 class 2) -/

/-- Both runs of a pair stop and their buffers are discarded (R80). -/
def State.dropRuns (s : State) (k : Fin 8) (t : Task) : State :=
  let q := t.mate.getD k
  let qb : List (Fin 8 × Fin 2) := match s.pairRun q t.lap t.index with
    | some (u, _) => [(q, u.buf)]
    | none => []
  ((s.stopRun k t.lap t.index).stopRun q t.lap t.index).discardBufs ((k, t.buf) :: qb)

/-- A dispatch stops a self-test of the engine, which records a failure (R88). DESIGN CHOICE: what the march had reached of
the memories is not stated; they and LOADED stay as they were (log entry 94). -/
def State.stopTest (s : State) (k : Fin 8) : State :=
  if s.selfTest == some k then
    { (s.setFlag A.ENG_TEST 15 false).setFlag (A.ENG_STAT k.val) 9 false with selfTest := none }
  else s

/-- The descriptors that an engine's task has posted and that are before their commit points (R53 class 2). -/
def State.ownPosts (s : State) (k : Fin 8) : List (Nat × Nat) :=
  ((List.range 64).map fun n =>
    ((s.ring n).owner.filter fun o => o.2 == k && s.isOut n o.1 && !s.descCommitted n o.1).map fun o => (n, o.1)).flatten

/-- They complete ABORTED (R53 class 2). -/
def State.abortPosts (s : State) (k : Fin 8) : State :=
  (s.ownPosts k).foldl (fun s d => s.abortDesc d.1 d.2) s

/-- What runs on an engine stops without a commit (R53, R80): a pair loses both runs and buffers. DESIGN CHOICE: a third run
ends as the row equal to neither of R84, with no second MISMATCH, OVERRUN or count; the manual gives no outcome for one
that a DISPATCH preempts (log entry 93). -/
def State.dropTask (s : State) (k : Fin 8) : State :=
  match (s.engine k).task with
  | none => s
  | some t =>
    if t.third then match s.thirdOf k with
      | some m => ((s.stopTask k).discardPair m [(k, t.buf)]).thirdOver m.rwin
      | none => (s.stopTask k).discardBuf k t.buf
    else if t.mate.isSome then s.dropRuns k t
    else
      let s := s.stopTask k
      if t.buffered then s.discardBuf k t.buf else s.abortPosts k

/-- The engines of a dispatch, in its order: those found running or in a self-test give one PREEMPT record each (R53
class 2, R88), ENGINE's first, and what they run stops. -/
def State.preempt (s : State) (ks : List (Fin 8)) (entry : Nat × Nat) (task : Nat) : State :=
  let busy := ks.filter fun k => (s.engine k).task.isSome || s.selfTest == some k
  let s := busy.foldl (fun s k => s.breach 2 St.CONTRACT_BREACH (some entry) task k.val) s
  busy.foldl (fun s k => (s.dropTask k).stopTest k) s

/-- Engine number from three bits of an argument. -/
def engIx (n : Nat) : Fin 8 := Fin.ofNat 8 n

/-- Choices of a DISPATCH, in order: the engine, and its tandem partner if the task runs in tandem (R56, R57). -/
def State.dispatchList (s : State) (a : EntryAct) : List (Fin 8 × Option (Fin 8)) :=
  let e := engIx (bits (a.arg 1) 2 0)
  let g := bit (a.arg 1) 3
  let p := engIx (bits (a.arg 1) 6 4)
  let si := engIx (bits (a.arg 1) 10 8)
  if s.degraded then ((if g then [e, p, si] else [e, si]).filter fun k => !s.retired k.val).map fun k => (k, none)
  else if g then
    if s.retired e.val then (if s.retired p.val then [] else [(p, none)])
    else if s.retired p.val then [(e, none)] else [(e, some p)]
  else if s.retired e.val then (if s.retired si.val then [] else [(si, none)]) else [(e, none)]

/-- The choices that have not been judged yet: one found not serviceable is passed over for good (R63). -/
def State.dispatchChoices (s : State) (a : EntryAct) : List (Fin 8 × Option (Fin 8)) :=
  (s.dispatchList a).filter fun c => !a.passed.contains c.1

/-- An engine is serviceable for a dispatch (R63, R82): loaded, and with a free buffer if it fills one. -/
def State.serviceable (s : State) (buffered : Bool) (k : Fin 8) : Bool :=
  s.loaded k && (!buffered || (s.freeBuf k).isSome)

/-- The DISPATCH of an entry gives no run (R53 class 11); no completion of it is awaited. -/
def State.skipped (s : State) (a : EntryAct) : State :=
  let s := s.setMonitors (s.seq.monitors.filter fun m => !(m.kind == 2 && m.lap == a.lap && m.index == a.index))
  s.breach 11 St.CONTRACT_BREACH (some (a.lap, a.index)) (bits (a.arg 0) 7 0) (bits (a.arg 1) 2 0)

/-- The task of a dispatch on one engine. -/
def taskOf (a : EntryAct) (buffered : Bool) (mate : Option (Fin 8)) (primary : Bool) (buf : Fin 2) : Task where
  task := BitVec.ofNat 8 (bits (a.arg 0) 7 0)
  lap := a.lap
  index := a.index
  rwin := BitVec.ofNat 8 (bits (a.arg 0) 15 8)
  buffered := buffered
  mate := mate
  primary := primary
  lockstep := mate.isSome
  trace := []
  third := false
  given := []
  ahead := 0
  buf := buf

/-- A dispatch is carried out on its engines, all of which are on and serviceable. -/
def State.dispatchOn (s : State) (a : EntryAct) (k : Fin 8) (mate : Option (Fin 8)) : State :=
  let g := bit (a.arg 1) 3
  let entry := (a.lap, a.index)
  let task := bits (a.arg 0) 7 0
  let pc := BitVec.ofNat 14 (bits (a.arg 2) 13 0)
  let s := s.preempt (k :: mate.toList) entry task
  match mate with
  | none => s.startTask k (taskOf a g none true ((s.freeBuf k).getD 0)) pc
  | some q =>
    (s.startTask k (taskOf a g (some q) true ((s.freeBuf k).getD 0)) pc).startTask q
      (taskOf a g (some k) false ((s.freeBuf q).getD 0)) pc

/-- A wake of the domain is queued or in progress. -/
def State.waking (s : State) (d : Nat) : Bool :=
  (s.pwr.queue.any fun t => t.dom == d && t.target == 2) || (match s.pwr.current with
    | some (t, _) => t.dom == d && t.target == 2
    | none => false)

/-- The engines of a choice. -/
def choiceEngines (c : Fin 8 × Option (Fin 8)) : List (Fin 8) := c.1 :: c.2.toList

/-- An engine of a dispatch whose domain is not on (R19, R65): an entry in PREPARE is refused, one in COMMIT is waited
for, and otherwise the dispatch makes a demand wake. No engine issues it, so `PWR_DWLAST.PORT` reads 0 (log entry 95). -/
def State.dispatchWake (s : State) (a : EntryAct) (e : Fin 8) : State :=
  match s.entering e.val with
  | some .prepare => s.refuseEntry 2 0x1F
  | _ =>
    if s.domState e.val < 2 then s.wakeFor e.val 0 0 (some (a.lap, a.index)) (bits (a.arg 0) 7 0) else s

/-- Engines of a dispatch that are in a self-test give a PREEMPT record, and the test stops (R88). -/
def State.preemptTests (s : State) (a : EntryAct) (ks : List (Fin 8)) : State :=
  s.preempt (ks.filter fun k => s.selfTest == some k) (a.lap, a.index) (bits (a.arg 0) 7 0)

/-- The choices of a dispatch in turn (R57, R63): one whose engines are on and serve starts; one that does not serve is
passed over; one with an engine that is not on waits for it. -/
def State.dispatchTry (s : State) (a : EntryAct) : List (Fin 8 × Option (Fin 8)) → State
  | [] => ({ s with cbl := { s.cbl with acts := s.cbl.acts.erase a } }).skipped a
  | c :: t =>
    let ks := choiceEngines c
    if ks.all fun e => s.on e.val then
      let s := s.preemptTests a ks
      if ks.all (s.serviceable (bit (a.arg 1) 3)) then
        ({ s with cbl := { s.cbl with acts := s.cbl.acts.erase a } }).dispatchOn a c.1 c.2
      else
        let b : EntryAct := { a with passed := a.passed ++ [c.1] }
        State.dispatchTry { s with cbl := { s.cbl with acts := s.cbl.acts.map fun x => if x == a then b else x } } b t
    else (ks.filter fun e => !s.on e.val).foldl (fun s e => s.dispatchWake a e) s

/-- DISPATCH (R64, R65): when a task's first bundle is due, its engines are judged and started. -/
def dispatchEffect (k : Fin 8) (s : State) : State :=
  match s.cbl.acts.find? fun a => a.cons == k.val with
  | none => s
  | some a => s.dispatchTry a (s.dispatchChoices a)

/-- DISPATCH. -/
def execDispatch (k : Fin 8) (s : State) : Host.Outcome State Fault Refusal := .next (dispatchEffect k s)

/-! ## Third runs (R54, R83) -/

/-- The reserve engine of a window is ready for its next third run (R54, R67, R82, R87): its domain and the gear are, it
has a free commit buffer, it is not retired, and the device is not degraded. -/
def State.thirdReady (s : State) (w : Window) : Bool :=
  s.on w.engine.val && !s.flag A.PWR_GEAR 15 && w.gear ≤ s.rd A.PWR_GEAR 2 0 && (s.freeBuf w.engine).isSome
    && !s.retired w.engine.val && s.retOrder.length < 2

/-- The task of a third run, which the RESERVE entry of its window concerns. -/
def thirdTask (w : Window) (m : Mismatch) (buf : Fin 2) : Task where
  task := BitVec.ofNat 8 m.task
  lap := w.lap
  index := w.index
  rwin := BitVec.ofNat 8 w.rwin
  buffered := true
  mate := none
  primary := true
  lockstep := false
  trace := []
  third := true
  given := []
  ahead := 0
  buf := buf

/-- The start of a third run reaches the reserve engine: what it runs stops as under class 2 (R54). -/
def State.thirdStarts (s : State) (w : Window) (m : Mismatch) : State :=
  let s := s.preempt [w.engine] (w.lap, w.index) 0
  let s := { s with seq := { s.seq with mismatches := s.seq.mismatches.erase m } }
  (s.startTask w.engine (thirdTask w m ((s.freeBuf w.engine).getD 0)) (BitVec.ofNat 14 m.entry)).setWindow
    { w with run := some m }

/-- THIRD_RUN_START (R54, R262, R263): the next queued third run of an active window starts on the reserve engine, if
the sequencer's cable to it carries the start. -/
def thirdRunStartEffect (rwin : Octet) (s : State) : State :=
  match s.seq.windows.find? fun w => w.rwin == rwin.toNat && w.active && w.run.isNone with
  | none => s
  | some w =>
    match s.seq.mismatches.find? fun m => m.rwin == w.rwin with
    | none => s
    | some m =>
      if s.on 10 && s.thirdReady w && s.cableOn w.engine.val && s.cablePasses w.engine.val then s.thirdStarts w m else s

/-- THIRD_RUN_START. -/
def execThirdRunStart (rwin : Octet) (s : State) : Host.Outcome State Fault Refusal :=
  .next (thirdRunStartEffect rwin s)

/-! ## Self-test, load port and reintegration (R62, R86, R88, R89) -/

/-- A start request in `ENG_TEST` (R88). -/
def State.testStart (s : State) (k : Fin 8) : State :=
  if s.selfTest.isSome || !s.on k.val || !s.engIdle k || s.drains k || !(s.retired k.val || s.rd A.SEQ_STAT 11 10 = 0) then
    s.rejected Win.ENG
  else
    let s := ((s.setFlag A.ENG_TEST 15 true).wr A.ENG_TEST 2 0 k.val).setFlag (A.ENG_STAT k.val) 9 false
    let e := s.engine k
    { s.setEngine k { e with passSince := false } with selfTest := some k }

/-- SELF_TEST_DONE (R88): both memories are cleared, with them the bit errors that stood there and E0's resident region;
LOADED is 0, and TESTPASS shows a pass. -/
def State.testDone (s : State) (pass : Bool) : State :=
  match s.selfTest with
  | none => s
  | some k =>
    let s := ((s.setFlag A.ENG_TEST 15 false).setFlag (A.ENG_STAT k.val) 10 false).setFlag (A.ENG_STAT k.val) 9 pass
    let e := s.engine k
    { s.setEngine k { e with imem := [], spad := [], passSince := pass, loadSince := false } with
      selfTest := none, romIn := s.romIn && k.val ≠ 0
      ecc := s.ecc.filter fun x => x.mem != k.val + 1 && x.mem != k.val + 9 }

/-- Words of the instruction memory and of the scratchpad. -/
def memWords (spad : Bool) : Nat := if spad then 0x8000 else 0x6000

/-- A word goes into an engine's memory; it cancels the write-back of an error there (R60). -/
def State.putMem (s : State) (k : Fin 8) (spad : Bool) (a : Nat) (v : W16) : State :=
  let e := s.engine k
  let s := s.setEngine k (if spad then { e with spad := cellsPut zeroWord e.spad a v }
    else { e with imem := cellsPut zeroWord e.imem a v })
  { s with ecc := s.ecc.filter fun x => !(x.mem == k.val + 1 + 8 * spad.toNat && (if spad then x.addr == a else x.addr == a / 2)) }

/-- A write to `ENG_LDDATA` (R62). DESIGN CHOICE: a discarded write leaves `ENG_LDADDR` where it is; the manual has it
increment after each write and does not say whether one that is discarded counts (log entry 96). -/
def State.ldData (s : State) (v : W16) : State :=
  let k := engIx (s.rd A.ENG_LDCTL 2 0)
  let spad := s.flag A.ENG_LDCTL 4
  let a := s.rd A.ENG_LDADDR 14 0
  if !s.on k.val || !s.engIdle k || memWords spad ≤ a then s.rejected Win.ENG
  else (s.putMem k spad a v).wr A.ENG_LDADDR 14 0 ((a + 1) % 0x8000)

/-- A write of DONE to `ENG_LDCTL` (R62). -/
def State.ldDone (s : State) (k : Fin 8) : State :=
  let e := s.engine k
  (s.setEngine k { e with loadSince := true }).setFlag (A.ENG_STAT k.val) 10 true

/-- Engine k is retired by a write to `ENG_RETSET` (R86, R90): one that the record holds keeps TESTPASS and LOADED as set
since its retirement; for any other they were set before it (log entry 97). -/
def State.retSetOne (s : State) (k : Fin 8) : State :=
  if s.retired k.val then s
  else
    let keep := s.upd.retSet.getLsbD k.val
    let e := s.engine k
    (s.setEngine k { e with passSince := e.passSince && keep, loadSince := e.loadSince && keep }).markRetired k

/-- A write to `ENG_RETSET` (R86). -/
def State.retSet (s : State) (v : Nat) : State :=
  if s.rd A.SEQ_STAT 11 10 ≠ 0 then s.rejected Win.ENG
  else (List.range 8).foldl (fun s k => if bit v k then s.retSetOne (engIx k) else s) s

/-- A retired engine returns to service (R58, R89). DESIGN CHOICE: `SEQ_STAT.DEGRADED` clears at the next slot boundary
also where another engine stays retired; the manual states its clearing only for the last one, and the device has one
retired engine then (log entry 98). -/
def State.reintegrate (s : State) (k : Fin 8) : State :=
  let s := { s.setFlag A.ENG_RETIRED k.val false with retOrder := s.retOrder.filter fun x => x != k }
  let e := s.engine k
  let s := s.setEngine k { e with passSince := false, loadSince := false }
  let s := s.jnlAdd { jnlEvent 0x11 St.OK 0 0 0 k.val 0xC0000003 with source := 3 }
  let s := s.recordRetired
  let s := { s with seq := { s.seq with offNext := s.seq.offNext.filter fun x => x != k } }
  match s.retOrder with
  | [] => { s with seq := { s.seq with placeNext := some 0, degradedNext := some false } }
  | f :: _ => { s with seq := { s.seq with placeNext := some (f.val + 1), degradedNext := some false } }

/-- TESTPASS and LOADED read 1 and have been set since the engine was retired (R89, log entry 97). -/
def State.provenSince (s : State) (k : Fin 8) : Bool :=
  s.flag (A.ENG_STAT k.val) 9 && s.loaded k && (s.engine k).passSince && (s.engine k).loadSince

/-- A write to `ENG_REINT` (R89). -/
def State.reint (s : State) (confirm : Nat) (k : Fin 8) : State :=
  if confirm ≠ 0xA5 || !s.retired k.val || !s.provenSince k then s.rejected Win.ENG else s.reintegrate k

/-- `ENG_STATn` and `ENG_RETIRED` as they read. -/
def State.engView (s : State) (a : Nat) : Option W16 :=
  if A.ENG_STAT 0 ≤ a ∧ a ≤ A.ENG_STAT 7 then
    let k := engIx (a - A.ENG_STAT 0)
    some (BitVec.ofNat 16 (putBits (putBits (s.word a).toNat 15 13 (s.engState k)) 12 11 (s.bufHeld k)))
  else none

/-- An event at ENGk_FLAG (R263, R268). -/
def engFlagEffect (k : Fin 8) (s : State) : State :=
  s.onEvent (0x08 + k) false fun _ _ _ s =>
    let s := if s.flag A.ENG_FLAGIN k.val then s.setFlag (A.CBL_CONS (0x08 + k)) 1 true else s
    s.setFlag A.ENG_FLAGIN k.val true

/-- ENG_FLAG. -/
def execEngFlag (k : Fin 8) (s : State) : Host.Outcome State Fault Refusal := .next (engFlagEffect k s)

end Sys2Proof.Machine
end

