-- ==== Sys2Proof/Machine/Package.lean ====
section
/-!
DEFINITION. Images in MRAM (R403, R414 to R416): header fields, sections, the sheet package, the loading of engines
from an image, UPDATE journal entries (R425) and reload points (R421). Integers of the header and of the package are
big-endian (R414); engine, data and bank images are copied word for word (log entry 15).
-/
namespace Sys2Proof.Machine

/-- Octet i of an area of MRAM, low half of a word first. -/
def State.areaOctet (s : State) (base i : Nat) : Octet :=
  let w := s.mramGet (base + i / 2)
  if i % 2 = 0 then w.setWidth 8 else (w >>> 8).setWidth 8

/-- n octets of an area from octet i on. -/
def State.areaOctets (s : State) (base i n : Nat) : List Octet := (List.range n).map fun j => s.areaOctet base (i + j)

/-- A big-endian number. -/
def bigEndian (os : List Octet) : Nat := os.foldl (fun v o => v * 256 + o.toNat) 0

/-- The running image's area and the staging area (R403). -/
def runningArea : Nat := 0x200000
def stagingArea : Nat := 0x2C0000

/-- n octets of the staged image from octet i on (R417). -/
def State.stagedOctets (s : State) (i n : Nat) : List Octet :=
  if s.upd.inStore then (s.upd.store.drop i).take n else s.areaOctets stagingArea i n

/-- Octets written into an area of MRAM from its octet i on. -/
def State.putArea (s : State) (base i : Nat) (os : List Octet) : State :=
  (os.zip (List.range os.length)).foldl (fun s p =>
    let a := base + (i + p.2) / 2
    let w := (s.mramGet a).toNat
    s.mramPut a (BitVec.ofNat 16 (if (i + p.2) % 2 = 0 then putBits w 7 0 p.1.toNat else putBits w 15 8 p.1.toNat))) s

/-- Octets written into the staging area (R417). -/
def State.putStaged (s : State) (i : Nat) (os : List Octet) : State :=
  if s.upd.inStore then
    let old := s.upd.store ++ List.replicate (i - s.upd.store.length) 0
    { s with upd := { s.upd with store := old.take i ++ os ++ old.drop (i + os.length) } }
  else s.putArea stagingArea i os

/-! ## Headers (R414) -/

/-- n octets of a header from octet o on, as a number. -/
def hdr (h : List Octet) (o n : Nat) : Nat := bigEndian ((h.drop o).take n)

def hdrVersion (h : List Octet) : Nat := hdr h 12 4
def hdrBodyLen (h : List Octet) : Nat := hdr h 24 4
def hdrLmsLen (h : List Octet) : Nat := hdr h 44 4
def hdrEnc (h : List Octet) : Bool := bit (hdr h 9 1) 0

/-- Octet of an image at which its body begins. -/
def bodyAt (h : List Octet) : Nat := 352 + hdrLmsLen h

/-- OFFSET and LENGTH of section k. -/
def section_ (h : List Octet) (k : Nat) : Nat × Nat := (hdr h (120 + 8 * k) 4, hdr h (124 + 8 * k) 4)

/-- Records of an encrypted body, and octets of plaintext (R415). -/
def records (h : List Octet) : Nat := if hdrEnc h then ceilDiv (hdrBodyLen h) 32784 else 0
def plainLen (h : List Octet) : Nat := hdrBodyLen h - 16 * records h

/-- Largest LENGTH of a section. -/
def sectionMax (h : List Octet) (k : Nat) : Nat :=
  if k = 0 then 40960 else if k = 1 then 63488 else if k = 16 then plainLen h else if k % 2 = 0 then 49152 else 65536

/-- Sections lie inside the body, do not overlap and keep their largest LENGTH. -/
def sectionsOk (h : List Octet) : Bool :=
  (List.range 17).all fun k =>
    let a := section_ h k
    a.2 ≤ sectionMax h k && a.1 + a.2 ≤ plainLen h
      && (List.range k).all fun j =>
        let b := section_ h j
        a.2 = 0 || b.2 = 0 || a.1 + a.2 ≤ b.1 || b.1 + b.2 ≤ a.1

/-- LMSLEN, reserved fields and the section table keep R414 (check 8 of R417). -/
def headerShape (h : List Octet) : Bool :=
  (hdrLmsLen h = 1612 || hdrLmsLen h = 2668) && bits (hdr h 9 1) 7 2 = 0 && hdr h 30 2 = 0
    && (h.drop 96).take 24 == List.replicate 24 0 && sectionsOk h

/-- The running image's header. -/
def State.runHdr (s : State) : List Octet := s.areaOctets runningArea 0 256

/-- Version of the running image. -/
def State.runVersion (s : State) : Nat := hdrVersion s.runHdr

/-- Octets of a section of the running image. -/
def State.runSection (s : State) (k : Nat) : List Octet :=
  s.areaOctets runningArea (bodyAt s.runHdr + (section_ s.runHdr k).1) (section_ s.runHdr k).2

/-! ## Engines loaded from the running image -/

/-- Words as a memory: zero words are not listed. -/
def wordCells (ws : List W16) : Cells := ((List.range ws.length).zip ws).filter fun c => c.2 ≠ 0

/-- Engine k's memories are written from the running image (R414, R421). E0's resident region and the words its code
keeps stay. -/
def State.loadEngine (s : State) (k : Fin 8) : State :=
  let e := s.engine k
  let keep := if k.val = 0 then e.spad.filter fun c => 0x7C00 ≤ c.1 else []
  let i := 2 * k.val
  let s := s.setEngine k { e with
    imem := wordCells (packOctets (s.runSection i)), spad := wordCells (packOctets (s.runSection (i + 1))) ++ keep }
  { s with ecc := s.ecc.filter fun x => x.mem != k.val + 1 && x.mem != k.val + 9 }

/-! ## The sheet package (R416) -/

/-- A number of n octets at octet o of the sheet package. -/
def State.pkg (s : State) (o n : Nat) : Nat :=
  bigEndian (s.areaOctets runningArea (bodyAt s.runHdr + (section_ s.runHdr 16).1 + o) n)

def State.pkgLen (s : State) : Nat := (section_ s.runHdr 16).2
def State.pkgLap (s : State) (n k : Nat) : Nat := s.pkg (16 + 8 * n + 2 * k) 2
def State.pkgReloads (s : State) : Nat := s.pkg 6 2
def State.pkgPoints (s : State) : Nat := s.pkg 8 2
def State.pkgBanks (s : State) : Nat := s.pkg 10 2

/-- Entries of the package's table: to the last entry of any lap. -/
def State.pkgEntries (s : State) : Nat :=
  (List.range 8).foldl (fun m n => if s.pkgLap n 2 = 0 then m else max m (s.pkgLap n 1 + s.pkgLap n 2)) 0

/-- Octets at which the reload rows, the point records and the bank images begin. -/
def State.pkgRowAt (s : State) : Nat := 80 + 16 * s.pkgEntries
def State.pkgPointAt (s : State) : Nat := s.pkgRowAt + 8 * s.pkgReloads
def State.pkgBankAt (s : State) : Nat := s.pkgPointAt + 16 * s.pkgPoints

/-- Reload rows: LAP, INDEX, ENGINE, WINDOW. -/
def State.pkgRows (s : State) : List (Nat × Nat × Nat × Nat) :=
  (List.range s.pkgReloads).map fun i =>
    let o := s.pkgRowAt + 8 * i
    (s.pkg o 1, s.pkg (o + 2) 2, s.pkg (o + 4) 1, s.pkg (o + 6) 2)

/-- Point records (R365, R416). -/
def State.pkgPointList (s : State) : List Point :=
  (List.range s.pkgPoints).map fun i =>
    let o := s.pkgPointAt + 16 * i
    { index := s.pkg o 2, sub := s.pkg (o + 2) 1, type := s.pkg (o + 3) 1, readRole := s.pkg (o + 4) 1 / 16
      writeRole := s.pkg (o + 4) 1 % 16, cls := s.pkg (o + 5) 1, func := s.pkg (o + 6) 1, format := s.pkg (o + 7) 2
      maxLen := s.pkg (o + 9) 2, target := s.pkg (o + 11) 3, dflt := s.pkg (o + 14) 2 }

/-- A point record is inside R416's ranges and R363's map. -/
def Point.ok (p : Point) : Bool :=
  0x6000 ≤ p.index && p.index < 0x9000 && 1 ≤ p.type && p.type ≤ 12 && p.readRole ≤ 4 && p.writeRole ≤ 4
    && 1 ≤ p.cls && p.cls ≤ 3 && 1 ≤ p.func && p.maxLen ≤ 4096

/-- The package is well formed (R410 reason 0007h): reserved octets 0, values in range, sizes that add up. -/
def State.pkgOk (s : State) : Bool :=
  80 ≤ s.pkgLen && s.pkg 5 1 = 0 && s.pkg 12 4 = 0
    && (List.range 8).all (fun n => s.pkgLap n 0 < 4096 && s.pkgLap n 1 < 8192 && s.pkgLap n 2 ≤ 8192 && s.pkgLap n 3 = 0)
    && s.pkgEntries ≤ 8192 && s.pkgBankAt + 65536 * s.pkgBanks = s.pkgLen
    && s.pkgRows.all (fun r => r.1 < 8 && r.2.1 < 8192 && r.2.2.1 < 8)
    && (List.range s.pkgReloads).all (fun i => s.pkg (s.pkgRowAt + 8 * i + 1) 1 = 0 && s.pkg (s.pkgRowAt + 8 * i + 5) 1 = 0)
    && s.pkgPointList.all Point.ok

/-! ## UPDATE entries and reload points -/

/-- An UPDATE entry (R425): step, section or engine, status and reason. -/
def State.updateEntry (s : State) (step sub status reason : Nat) : State :=
  s.jnlService (jnlEvent 0x18 status (hdrVersion (s.stagedOctets 0 256)) step sub reason originLoader)

/-- Engine cycles per µs at a gear (R290). -/
def gearMHz (g : Nat) : Nat := [16, 50, 100, 150, 200].getD g 16

/-- Engines that an activation has to reload: those not retired. -/
def State.allReloaded (s : State) : Bool :=
  (List.range 8).all fun k => s.retired k || s.upd.reloaded.getLsbD k

/-- The activation is over once the new sheet runs and every serviceable engine is reloaded (R422); FLOOR raises the
rollback floor. -/
def State.updateOver (s : State) : State :=
  if s.upd.stState = 5 && s.upd.switchAt.isNone && s.allReloaded then
    let h := s.runHdr
    let s := { s with upd := { s.upd with stState := 0, copied := false, reloaded := 0, received := 0 } }
    if bit (hdr h 9 1) 1 then s.resetSetting 0xD012 1 (toOctets 4 (hdrVersion h)) else s
  else s

/-- A reload point (R421): a type 3 MARK that a reload row names reloads the row's engine under a rolling
activation. -/
def State.reloadPoint (s : State) (lap index : Nat) : State :=
  match s.upd.rows.find? fun r => r.1 == lap && r.2.1 == index with
  | none => s
  | some (_, _, e, window) =>
    let k := engIx e
    let need := if e = 0 then 53248 else 57344
    if s.upd.copied && !s.upd.hard && !s.upd.reloaded.getLsbD e && !s.retired e && s.on e && s.engIdle k
        && need ≤ window * gearMHz (s.rd A.PWR_GEAR 2 0) then
      let s := (s.loadEngine k).setFlag (A.ENG_STAT e) 10 true
      let s := { s with upd := { s.upd with reloaded := s.upd.reloaded ||| (1 <<< e) } }
      (s.updateEntry 7 e St.OK 0).updateOver
    else s

end Sys2Proof.Machine
end

