-- ==== Sys2Proof/Machine/Sequencer.lean ====
section
/-!
DEFINITION. The sequencer (R32 to R58): the table and its commit check, slots, the fetch and firing of entries,
deadline monitors as they expire, reserve windows as they end, and the entry actions that act at once.
-/
namespace Sys2Proof.Machine

/-! ## Entries (R35 to R37) -/

/-- Word k of an entry. -/
def ew (w : List W16) (k : Nat) : Nat := (w.getD k 0).toNat

def eKind (w : List W16) : Nat := bits (ew w 0) 15 12
def eLap (w : List W16) : Nat := bits (ew w 0) 11 9
def ePlace (w : List W16) : Nat := bits (ew w 0) 8 0
def eSlot (w : List W16) : Nat := bits (ew w 1) 11 0
def eOffset (w : List W16) : Nat := ew w 2 + 65536 * bits (ew w 3) 4 0
def eBudget (w : List W16) : Nat := ew w 4
def eArg (w : List W16) (k : Nat) : Nat := ew w (5 + k)

/-- The eight words of table entry i. -/
def State.entry (s : State) (i : Nat) : List W16 := (List.range 8).map fun k => cellsGet zeroWord s.seq.table (8 * i + k)

/-- Registers of lap n. -/
def State.lapBase (s : State) (n : Nat) : Nat := s.rd (A.SEQ_LAP_BASE n) 12 0
def State.lapCount (s : State) (n : Nat) : Nat := s.rd (A.SEQ_LAP_COUNT n) 13 0
def State.lapOn (s : State) (n : Nat) : Bool := s.flag (A.SEQ_LAP_CFG n) 15
def State.lapLen (s : State) (n : Nat) : Nat := s.rd (A.SEQ_LAP_CFG n) 11 0 + 1
def State.lapOrigin (s : State) (n : Nat) : Nat := s.rdw (A.SEQ_LAP_ORIGIN n) 3 % 2 ^ 40

/-- Entries of the enabled laps that lie in the table, with their lap, in table order within each lap. -/
def State.lapEntries (s : State) (n : Nat) : List (Nat × List W16) :=
  if s.lapOn n then
    ((List.range (s.lapCount n)).map fun j => s.lapBase n + j).filter (· < 8192) |>.map fun i => (i, s.entry i)
  else []

/-- A lap is active: enabled, with entries. -/
def State.activeLaps (s : State) : List Nat := (List.range 8).filter fun n => s.lapOn n && 0 < s.lapCount n

/-! ## The commit check (R39) -/

/-- No reserved value and no nonzero reserved bit in the arguments (R37). -/
def argsOk (w : List W16) : Bool :=
  let a := eArg w 0
  let b := eArg w 1
  let c := eArg w 2
  match eKind w with
  | 1 =>
    let op := bits a 15 13
    op ≤ 5 && (op ≤ 1 || bits a 11 8 = 0) && bits b 15 10 = 0 && bits c 15 10 = 0
      && (if bit a 12 then bits b 7 0 = 0 else bits b 9 8 = 0)
  | 2 => bits b 15 11 = 0 && !bit b 7 && !(bit b 3 && bits b 2 0 = bits b 6 4) && c < 12288
  | 3 => a < 64 && b = 0 && c = 0
  | 4 => a < 64 && bits a 5 4 ≠ 3 && (bits a 3 0 = 8 || (b = 0 && c = 0))
  | 5 => a ≤ 4 && b = 0 && c = 0
  | 6 => a < 8 && b = 0 && c = 0
  | 7 => a < 8
  | 8 => a ≤ 3 && b = 0 && c = 0
  | 9 => a < 32 && b = 0 && c = 0
  | 10 => a < 256 && bits b 15 7 = 0 && !bit b 3 && bits b 6 4 ≤ 4 && c = 0
  | _ => true

/-- BUDGET is 0 where R36 requires it, and a calibration gap is at least 180 µs (check 12). -/
def budgetOk (w : List W16) : Bool :=
  match eKind w with
  | 3 | 7 | 9 => eBudget w = 0
  | 8 => if eArg w 0 = 1 ∨ eArg w 0 = 2 then 180 ≤ eBudget w else eBudget w = 0
  | _ => true

/-- A DOMAIN entry that moves domain d out of the on state, or to off. -/
def leavesOn (w : List W16) (d : Nat) : Bool := eKind w = 4 && bits (eArg w 0) 3 0 = d && bits (eArg w 0) 5 4 ≠ 2
def goesOff (w : List W16) (d : Nat) : Bool := eKind w = 4 && bits (eArg w 0) 3 0 = d && bits (eArg w 0) 5 4 = 0

/-- Two entries of a lap share one instant. -/
def sameInstant (v w : List W16) : Bool := eSlot v = eSlot w && eOffset v = eOffset w

/-- The table index at which a check that concerns entries fails for an entry of lap n, with the lap's entries. -/
def State.entryFails (s : State) (code n : Nat) (all : List (Nat × List W16)) (e : Nat × List W16) : Bool :=
  let w := e.2
  match code with
  | 1 => eKind w = 0 || 10 < eKind w
  | 2 => !(bits (ew w 1) 15 12 = 0 && bits (ew w 3) 15 5 = 0 && eLap w = n && argsOk w)
  | 3 => all.any fun p => p.1 + 1 = e.1 && (eSlot w < eSlot p.2 || (eSlot w = eSlot p.2 && eOffset w < eOffset p.2))
  | 4 => !(eSlot w < s.lapLen n && eOffset w < s.slotLen)
  | 6 => ePlace w = 0
  | 7 => (List.range 9).any fun k => bit (ePlace w) k
      && 4 ≤ (all.filter fun p => p.1 < e.1 && sameInstant p.2 w && bit (ePlace p.2) k).length
  | 8 => leavesOn w 10 && (all.any (fun p => e.1 < p.1 && sameInstant p.2 w)
      || !all.any fun p => p.1 < e.1 && eKind p.2 = 7 && eSlot p.2 = eSlot w)
  | 10 => eKind w = 1 && !((all.any fun p => eKind p.2 = 1 && bits (eArg p.2 0) 15 13 = 4)
      && all.any fun p => eKind p.2 = 1 && bits (eArg p.2 0) 15 13 = 5)
  | 12 => !budgetOk w
  | 13 => goesOff w 8 || goesOff w 10 || goesOff w 11
  | _ => false

/-- First entry in table order that fails a check, or for a check on the laps or the table the index that stands for
it (log entry 16): a lap's BASE or the first entry shared by two laps, and 0. -/
def State.checkFails (s : State) (code : Nat) : Option Nat :=
  let laps := s.activeLaps
  let least (l : List Nat) : Option Nat := l.foldl (fun m i => match m with
    | some x => some (min x i)
    | none => some i) none
  match code with
  | 5 => least ((laps.filter fun n => 8192 < s.lapBase n + s.lapCount n).map s.lapBase
      ++ (laps.map fun n => (laps.filter fun m => n < m && s.lapBase n < s.lapBase m + s.lapCount m
            && s.lapBase m < s.lapBase n + s.lapCount n).map fun m => max (s.lapBase n) (s.lapBase m)).flatten)
  | 9 => if laps.any fun n => (s.lapEntries n).any fun e => eKind e.2 = 8 && eArg e.2 0 = 0 then none else some 0
  | 11 =>
    let l := s.rdw A.SEQ_SLOTLEN 2 % 2 ^ 21
    if 64000 ≤ l && l ≤ 1280000 then none else some 0
  | c => least ((laps.map fun n =>
      let all := s.lapEntries n
      (all.filter (s.entryFails c n all)).map (·.1)).flatten)

/-- The first failing check in order, with its entry. -/
def State.commitFailure (s : State) : Option (Nat × Nat) :=
  (List.range' 1 13).findSome? fun c => (s.checkFails c).map fun i => (c, i)

/-- Cursor of lap n at a moment: the first entry whose instant is still to come, and the lap occurrence. -/
def State.lapStart (s : State) (n : Nat) : Nat × Nat :=
  let asn := s.asnAt s.now
  let o := s.lapOrigin n
  if s.now < s.rdw A.SEQ_EPOCH 4 ∨ asn < o then (0, 0)
  else
    let occ := (asn - o) / s.lapLen n
    let next := (s.lapEntries n).findIdx fun e => s.now < s.slotStart (o + occ * s.lapLen n + eSlot e.2) + eOffset e.2
    if next < s.lapCount n then (next, occ) else (0, occ + 1)

/-- Placement and degraded operation as the order of retirement gives them (R56 to R58). -/
def State.placement (s : State) : Nat := match s.retOrder.head? with
  | some k => k.val + 1
  | none => 0

/-- The RWL registers of PD15 as the AON store of R273 takes them. -/
def State.rwlStore (s : State) : Cells :=
  s.regs.filter fun c => (A.WFL_RXBASE ≤ c.1 && c.1 < A.WFL_RXBASE + 2) || (A.WFL_RSPBASE ≤ c.1 && c.1 < A.WFL_RSPBASE + 2)

/-- COMMIT_CHECK_COMPLETE (R39): the check passes and the laps run from their origins, or is refused with INDEX and
CODE. Entries whose instants have passed do not fire. DESIGN CHOICE: a passing check leaves `SEQ_ERR` and `SEQ_ERRCODE` of
an earlier refusal; the manual does not say that it clears them (log entry 104). -/
def commitCheckCompleteEffect (s : State) : State :=
  if !s.on 10 || s.rd A.SEQ_STAT 11 10 ≠ 1 then s
  else match s.commitFailure with
    | some (c, i) => ((((s.wr A.SEQ_STAT 11 10 0).wr A.SEQ_STAT 3 2 2).wr A.SEQ_ERR 12 0 i).wr A.SEQ_ERRCODE 3 0 c)
    | none =>
      let s := (((s.wr A.SEQ_STAT 11 10 2).wr A.SEQ_STAT 3 2 1).wr A.SEQ_STAT 9 6 s.placement).setFlag A.SEQ_STAT 5
        (2 ≤ s.retOrder.length)
      { s with
        wflStore := some s.rwlStore
        seq := { s.seq with
          cursor := Vector.ofFn fun (n : Fin 8) => s.lapStart n.val
          fetched := [], lastCount := 0, placeNext := none, degradedNext := none } }

/-! ## Register actions -/

/-- A write to `SEQ_CTRL` (R39, R40, R53): bit 0 COMMIT, 1 RELEASE, 2 CLRCNT, 3 POP. -/
def State.seqCtrl (s : State) (v : Nat) : State :=
  let s := if bit v 3 then
      match s.seq.log with
      | [] => s
      | _ :: t => ({ s with seq := { s.seq with log := t } }).wr A.SEQ_BRLOGSTAT 4 0 t.length
    else s
  let s := if bit v 2 then (List.range 16).foldl (fun s k => s.setWord (A.SEQ_BRCNT k) 0) s else s
  let s := if bit v 1 && s.rd A.SEQ_STAT 11 10 = 2 then s.wr A.SEQ_STAT 11 10 3 else s
  if bit v 0 && s.rd A.SEQ_STAT 11 10 = 0 then s.wr A.SEQ_STAT 11 10 1 else s

/-- `SEQ_TBLADDR` after an access to `SEQ_TBLDATA`. -/
def State.tblNext (s : State) : State := s.setWord A.SEQ_TBLADDR (s.word A.SEQ_TBLADDR + 1)

/-- A table word written at `SEQ_TBLADDR`; the caller has judged the RWL lock. -/
def State.tblWrite (s : State) (v : W16) : State :=
  { s with seq := { s.seq with table := cellsPut zeroWord s.seq.table (s.word A.SEQ_TBLADDR).toNat v } }

/-- The table word at `SEQ_TBLADDR`. -/
def State.tblRead (s : State) : W16 := cellsGet zeroWord s.seq.table (s.word A.SEQ_TBLADDR).toNat

/-- `SEQ_BRLOG0` to `SEQ_BRLOG3` as they read: the head record, or 0. -/
def State.seqView (s : State) (a : Nat) : Option W16 :=
  if A.SEQ_BRLOG0 ≤ a ∧ a ≤ A.SEQ_BRLOG3 then
    some (match s.seq.log with
      | [] => 0
      | r :: _ => r.getD (a - A.SEQ_BRLOG0) 0)
  else none

/-! ## Slots (R33, R40, R56, R58, R68, R85) -/

/-- The sequencer stops: no entry fires until a new commit, and the RWL fields and the store of R273 are free. -/
def State.sheetStops (s : State) : State :=
  { (s.wr A.SEQ_STAT 11 10 0) with
    wflStore := none, seq := { s.seq with fetched := [], deferred := [] } }

/-- Placement and degraded operation as they take effect at a slot boundary (R56 to R58). -/
def State.placementStarts (s : State) : State :=
  let s := match s.seq.placeNext with
    | some p => s.wr A.SEQ_STAT 9 6 p
    | none => s
  let s := match s.seq.degradedNext with
    | some d => s.setFlag A.SEQ_STAT 5 d
    | none => s
  { s with seq := { s.seq with placeNext := none, degradedNext := none } }

/-- The domains of engines retired since the last slot boundary go off (R85). -/
def State.retiredGoOff (s : State) : State :=
  s.seq.offNext.foldl (fun s k => s.queueTransition ⟨k.val, 0, 0, false, none⟩)
    { s with seq := { s.seq with offNext := [] } }

/-- Slot 0 of an enabled lap starts in the present slot (R34, R262). -/
def State.lapStarts (s : State) : Bool :=
  s.activeLaps.any fun n => s.lapOrigin n ≤ s.asn && (s.asn - s.lapOrigin n) % s.lapLen n == 0

/-- A slot boundary (R33): slots start only while a sheet runs or is releasing (R68). ASN, phase, placement, degraded
operation, the domains of retired engines and a release take effect, and CAD_SLOT fires. -/
def State.slotStarts (s : State) : State :=
  if !s.on 10 || !s.ntRun || s.rd A.SEQ_STAT 11 10 < 2 || s.now < s.rdw A.SEQ_EPOCH 4 then s
  else
    let s := s.wrw A.SEQ_ASN 3 (s.asnAt s.now % 2 ^ 40)
    let s := if s.on 8 then { s with phase := 0 } else s
    let s := s.placementStarts.retiredGoOff
    let s := (if s.rd A.SEQ_STAT 11 10 = 3 then s.sheetStops else s).fire 0x38 0
    if s.lapStarts then s.fire 0x5D 0 else s

/-! ## Fetch (R41, R43) -/

/-- The cursor of lap n past an entry. -/
def State.cursorNext (s : State) (n : Fin 8) : State :=
  let (i, occ) := s.seq.cursor[n]
  let c := if i + 1 < s.lapCount n.val then (i + 1, occ) else (0, occ + 1)
  { s with seq := { s.seq with cursor := s.seq.cursor.set n c } }

/-- ENTRY_FETCH (R41): lap n's next entry is fetched with its instant; a MEASURE entry of the current placement loads
its target into CCn (R43). DESIGN CHOICE: the placement and the state of PD15 are judged for it at the fetch and not again
at its instant; the manual gives the fetch as the moment of the load and says no more (log entry 105). -/
def entryFetchEffect (n : Fin 8) (s : State) : State :=
  if !s.on 10 || s.rd A.SEQ_STAT 11 10 < 2 || !s.lapOn n.val || s.lapCount n.val = 0 then s
  else
    let (i, occ) := s.seq.cursor[n]
    let index := s.lapBase n.val + i
    let w := s.entry index
    let asn := s.lapOrigin n.val + occ * s.lapLen n.val + eSlot w
    let f : Fetched := ⟨n.val, index, asn, s.slotStart asn + eOffset w, w⟩
    let s := { s.cursorNext n with seq := { (s.cursorNext n).seq with fetched := s.seq.fetched ++ [f] } }
    let cc := bits (eArg w 0) 2 0
    if eKind w = 6 && bit (ePlace w) (s.rd A.SEQ_STAT 9 6) && 1 ≤ s.domState 15 then s.takeTarget cc f.instant else s

/-- ENTRY_FETCH. -/
def execEntryFetch (n : Fin 8) (s : State) : Host.Outcome State Fault Refusal := .next (entryFetchEffect n s)

/-! ## Firing (R41, R42, R45, R52, R54) -/

/-- TASK of a record: a DISPATCH's. -/
def eTask (w : List W16) : Nat := if eKind w = 2 then bits (eArg w 0) 7 0 else 0

/-- A monitored entry takes a deadline monitor, or gives MONITOR_FULL (R52). `extra` µs lengthen the budget. -/
def State.takeMonitor (s : State) (f : Fetched) (start extra : Nat) : State :=
  let w := f.words
  let k := eKind w
  if eBudget w = 0 || !(k = 1 || k = 2 || k = 4 || k = 5 || k = 6) then s
  else if s.seq.monitors.length < 32 then
    let subject := if k = 4 then bits (eArg w 0) 3 0 else if k = 5 ∨ k = 6 then bits (eArg w 0) 2 0 else 0
    s.setMonitors (s.seq.monitors ++ [{ lap := f.lap, index := f.index, asn := f.asn, instant := f.instant
                                        deadline := start + (eBudget w + extra) * 32, kind := k, task := eTask w
                                        subject := subject, overrun := false }])
  else s.breach 10 St.CONTRACT_BREACH (some (f.lap, f.index)) (eTask w) 0

/-- An action enters the sequencer's cable to an entry-bound consumer (R43, R263 to R268). -/
def State.sendAct (s : State) (cons : Nat) (f : Fetched) : State :=
  let cable := if cons < 8 then cons else cons - 0x18
  if s.cableOn cable && s.cablePasses cable then
    { s with cbl := { s.cbl with acts := s.cbl.acts ++ [⟨cons, f.lap, f.index, f.words, f.instant, f.asn, []⟩] } }
  else s

/-- A window's occurrence is over. -/
def State.windowCloses (s : State) (rwin : Nat) : State :=
  { s with seq := { s.seq with windows := s.seq.windows.filter fun w => w.rwin != rwin } }

/-- A RESERVE entry opens its window (R54): active at once when a MISMATCH is already recorded. -/
def State.openWindow (s : State) (f : Fetched) : State :=
  let w := f.words
  let r := bits (eArg w 0) 7 0
  let x : Window := { rwin := r, lap := f.lap, index := f.index, engine := engIx (bits (eArg w 1) 2 0)
                      gear := bits (eArg w 1) 6 4, stop := f.instant + eBudget w * 32, active := false
                      domWas := 0, gearWas := 0, since := 0, run := none }
  let s := s.windowCloses r
  let s := { s with seq := { s.seq with windows := s.seq.windows ++ [x] } }
  if s.seq.mismatches.any fun m => m.rwin == r then s.activate x else s

/-- Active windows that defer an entry (R54). -/
def State.deferring (s : State) (w : List W16) : List Window :=
  s.seq.windows.filter fun x => x.active
    && ((eKind w = 5 && bits (eArg w 0) 2 0 < x.gear) || (eKind w = 4 && bits (eArg w 0) 3 0 = x.engine.val))

/-- The window of a list that became active first. -/
def firstActive : List Window → Option Window
  | [] => none
  | w :: t => match firstActive t with
    | some x => if x.since < w.since then some x else some w
    | none => some w

/-- The action of an entry at its firing (R36, R43, R45). A MEASURE entry's compare does the rest, and a LEVER entry has
set its lever ahead of every event of its tick. -/
def State.entryAction (s : State) (f : Fetched) : State :=
  let w := f.words
  match eKind w with
  | 1 => s.sendAct (0x20 + bits (eArg w 0) 12 12) f
  | 2 => s.sendAct (bits (eArg w 1) 2 0) f
  | 3 => s.sendAct 0x22 f
  | 4 => s.sendAct 0x23 f
  | 5 => s.sendAct 0x24 f
  | 7 => s.sendAct 0x25 f
  | 8 => match bits (eArg w 0) 3 0 with
    | 0 => s.sendAct 0x26 f
    | 1 => s.sendAct 0x27 f
    | 2 => s.sendAct 0x28 f
    | _ => s.reloadPoint f.lap f.index
  | 9 => s
  | 10 => s.openWindow f
  | _ => s

/-- An entry fires, or is deferred by active windows (R54). `rel` is set for a deferred entry that a window's end
releases: that end, the highest GEAR, and the gear from which its budget is lengthened. -/
def State.fireEntry (s : State) (f : Fetched) (rel : Option (Nat × Nat × Nat)) : State :=
  let hold := s.deferring f.words
  match firstActive hold with
  | some x =>
    let top := hold.foldl (fun m w => max m w.gear) ((rel.map (·.2.1)).getD 0)
    let was := (rel.map (·.2.2)).getD x.gearWas
    { s with seq := { s.seq with deferred := s.seq.deferred ++ [⟨f, hold.map (·.rwin), top, was⟩] } }
  | none =>
    match rel with
    | some (stop, top, was) =>
      let extra := if eKind f.words = 5 then 20 * (top - was) else 0
      (s.takeMonitor f stop extra).entryAction f
    | none =>
      let s := if f.instant < s.now then s.breach 5 St.CONTRACT_BREACH (some (f.lap, f.index)) (eTask f.words) 0 else s
      (s.takeMonitor f f.instant 0).entryAction f

/-- Order of firing (R41): by instant, then lap, then table order. -/
def firesBefore (a b : Fetched) : Bool :=
  a.instant < b.instant || (a.instant = b.instant && (a.lap < b.lap || (a.lap = b.lap && a.index < b.index)))

/-- The fetched entry that fires first. -/
def firstDue : List Fetched → Option Fetched
  | [] => none
  | f :: t => match firstDue t with
    | some x => if firesBefore x f then some x else some f
    | none => some f

/-- Of fetched entries, those that fire by `now` in placement `pl`, at most n in their order, and those that stay; entries
outside the placement fire nothing and are gone. -/
def dueOf (pl now : Nat) : (fuel n : Nat) → List Fetched → List Fetched × List Fetched
  | 0, _, fs => ([], fs)
  | fuel + 1, n, fs =>
    match firstDue (fs.filter fun f => f.instant ≤ now) with
    | none => ([], fs)
    | some f =>
      if !bit (ePlace f.words) pl then dueOf pl now fuel n (fs.erase f)
      else match n with
        | 0 => ([], fs)
        | m + 1 =>
          let r := dueOf pl now fuel m (fs.erase f)
          (f :: r.1, r.2)

/-- The LEVER entries of a tick set their levers, ahead of every event that enters a cable on it (R45, R266). -/
def State.leversSet (s : State) (fs : List Fetched) : State :=
  (fs.filter fun f => eKind f.words = 9).foldl (fun s f =>
    let a := eArg f.words 0
    { s.setFlag A.CBL_LEVERS (bits a 3 0) (bit a 4) with seq := { s.seq with levers := s.seq.levers ++ [bits a 3 0] } }) s

/-- Fires what is due on this tick, at most n entries. -/
def State.fireDue (s : State) (n : Nat) : State :=
  let r := dueOf (s.rd A.SEQ_STAT 9 6) s.now s.seq.fetched.length n s.seq.fetched
  let s := { s with seq := { s.seq with fetched := r.2, lastCount := s.seq.lastCount + r.1.length } }
  r.1.foldl (fun s f => s.fireEntry f none) (s.leversSet r.1)

/-- ENTRY_FIRE (R41): at most four entries on one tick. -/
def entryFireEffect (s : State) : State :=
  if !s.on 10 || !s.ntRun || s.rd A.SEQ_STAT 11 10 < 2 then s
  else
    let s := if s.seq.lastTick = s.now then s
      else { s with seq := { s.seq with lastTick := s.now, lastCount := 0, levers := [] } }
    s.fireDue (4 - s.seq.lastCount)

/-- A write of `CBL_LEVERS` (R266): a lever that an entry set on the same tick keeps the entry's level. -/
def State.leversWrite (s : State) (v : Nat) : State :=
  let keep := if s.seq.lastTick = s.now then s.seq.levers else []
  (List.range 16).foldl (fun s n => if keep.contains n then s else s.setFlag A.CBL_LEVERS n (bit v n)) s

/-- ENTRY_FIRE. -/
def execEntryFire (s : State) : Host.Outcome State Fault Refusal := .next (entryFireEffect s)

/-! ## Budgets (R52, R78) -/

/-- The operation of a monitor can still complete. -/
def State.monitorLives (s : State) (m : Monitor) : Bool :=
  match m.kind with
  | 1 => [Chain.A, Chain.B].any fun c =>
      let r := s.chain c
      (r.next ++ r.op.toList ++ r.waiting.toList).any fun o => o.lap == m.lap && o.index == m.index
  | 2 => (s.cbl.acts.any fun a => a.lap == m.lap && a.index == m.index) || (List.range 8).any fun k =>
      let e := s.engine (engIx k)
      (match e.task with
        | some t => t.lap == m.lap && t.index == m.index
        | none => false) || [0, 1].any fun (i : Fin 2) =>
          (e.bufs[i].st == .draining || e.bufs[i].st == .ended) && e.bufs[i].lap == m.lap && e.bufs[i].index == m.index
  | 4 => (s.cbl.acts.any fun a => a.lap == m.lap && a.index == m.index)
      || s.waking m.subject || (s.pwr.queue.any fun t => t.dom == m.subject)
      || (match s.pwr.current with
        | some (t, _) => t.dom == m.subject
        | none => false)
  | 5 => s.flag A.PWR_GEAR 15
  | _ => true


/-- BUDGET_EXPIRY (R52, R78): the end of the BUDGET of monitor m. A tandem run is compared then; other work that is
not complete gives OVERRUN and goes on. A monitor whose operation can no longer complete is returned. -/
def budgetExpiryEffect (m : Fin 32) (s : State) : State :=
  match s.seq.monitors[m.val]? with
  | none => s
  | some x =>
    if s.now < x.deadline || x.overrun || !s.on 10 then s
    else if x.kind = 2 && (s.pairPrimary x.lap x.index).isSome then s.compare x.lap x.index
    else
      let s := s.overrun x
      if s.monitorLives x then s.setMonitors (s.seq.monitors.set m.val { x with overrun := true })
      else s.setMonitors (s.seq.monitors.eraseIdx m.val)

/-- BUDGET_EXPIRY. -/
def execBudgetExpiry (m : Fin 32) (s : State) : Host.Outcome State Fault Refusal := .next (budgetExpiryEffect m s)

/-! ## Reserve windows end (R54, R84) -/

/-- A third run that a window's end stops or drops (R84): the pair's held buffers and its own are discarded, with one
OVERRUN and no second MISMATCH record. -/
def State.dropThird (s : State) (w : Window) (m : Mismatch) (own : List (Fin 8 × Fin 2)) : State :=
  ((s.discardPair m own).breach 1 St.CONTRACT_BREACH (some (w.lap, w.index)) 0 0).bump A.ENG_UNRESCNT

/-- The buffer of a window's third run, whether that still runs or has ended in a double trap. -/
def State.thirdBufs (s : State) (w : Window) : List (Fin 8 × Fin 2) :=
  ([0, 1].filter fun i =>
    let b := s.cbuf w.engine i
    (b.st == .filling || b.st == .held) && b.lap == w.lap && b.index == w.index).map fun i => (w.engine, i)

/-- The third run that a window's end finds under way stops, its bundle in flight unfinished. -/
def State.stopThird (s : State) (w : Window) (m : Mismatch) : State :=
  let own := s.thirdBufs w
  let s := match (s.engine w.engine).task with
    | some t => if t.third then s.stopTask w.engine else s
    | none => s
  s.dropThird w m own

/-- Deferred entries lose a window that ended. -/
def Deferred.without (d : Deferred) (rwin : Nat) : Deferred := { d with windows := d.windows.filter fun r => r != rwin }

/-- RESERVE_WINDOW_END (R54): unfinished and queued third runs end, the reserve engine's domain returns to its state,
and the deferred entries that this end releases fire in their order. -/
def reserveWindowEndEffect (rwin : Octet) (s : State) : State :=
  match s.seq.windows.find? fun w => w.rwin == rwin.toNat with
  | none => s
  | some w =>
    if s.now < w.stop || !s.on 10 then s
    else if !w.active then s.windowCloses w.rwin
    else
      let s := match w.run with
        | some m => s.stopThird w m
        | none => s
      let queued := s.seq.mismatches.filter fun m => m.rwin == w.rwin
      let s := { s with seq := { s.seq with mismatches := s.seq.mismatches.filter fun m => m.rwin != w.rwin } }
      let s := queued.foldl (fun s m => s.dropThird w m []) s
      let s := s.windowCloses w.rwin
      let s := if w.domWas < 2 && (s.domState w.engine.val ≠ w.domWas || s.waking w.engine.val) then
          s.queueTransition ⟨w.engine.val, w.domWas, 0, false, none⟩ else s
      let ds := s.seq.deferred.map fun d => d.without w.rwin
      let s := { s with seq := { s.seq with deferred := ds.filter fun d => !d.windows.isEmpty } }
      (ds.filter fun d => d.windows.isEmpty).foldl (fun s d => s.fireEntry d.entry (some (w.stop, d.top, d.was))) s

/-- RESERVE_WINDOW_END. -/
def execReserveWindowEnd (rwin : Octet) (s : State) : Host.Outcome State Fault Refusal :=
  .next (reserveWindowEndEffect rwin s)

/-! ## Entry actions at AON and the crossbar -/

/-- GRANT (R45): the entry's pattern is in force from the next fabric cycle. -/
def grantEffect (s : State) : State :=
  match s.takeAct 0x22 with
  | none => s
  | some (a, s) =>
    if s.on 8 then s.wr A.RING_GPCUR 5 0 (bits (a.arg 0) 5 0)
    else (s.setFlag (A.CBL_CONS 0x22) 2 true).missed 0x22

/-- GRANT. -/
def execGrant (s : State) : Host.Outcome State Fault Refusal := .next (grantEffect s)

/-- START_CONFIRMED (R46, R409): the first such mark after a start clears the boot-attempt count, sets CONFIRMED and
is journaled. -/
def startConfirmedEffect (s : State) : State :=
  match s.takeAct 0x26 with
  | none => s
  | some (a, s) =>
    if s.seq.confirmedOnce then s
    else
      let s := (s.touchMram 11).wr A.SYS_BOOTCNT 3 0 0
      let s := { s with seq := { s.seq with confirmedOnce := true }, upd := { s.upd with boots := 0 } }
      let s := if s.on 10 then s.setFlag A.SEQ_STAT 4 true else s
      s.jnlAdd { jnlEvent 0x12 St.OK (a.asn % 2 ^ 32) a.index 0 0 0xC0000001 with source := 4 }

/-- START_CONFIRMED. -/
def execStartConfirmed (s : State) : Host.Outcome State Fault Refusal := .next (startConfirmedEffect s)

end Sys2Proof.Machine
end

