-- ==== Sys2Proof/Machine/Clocks.lean ====
section
/-!
DEFINITION. Clock sources and their checks (R292 to R298), clock gates (R287, R288), and the requests for domain
transitions and gears that come from entries, registers and pins (R38, R275, R276, R291).
-/
namespace Sys2Proof.Machine

/-! ## Qualification (R292, R293) -/

/-- The limits of a count, and the windows in a row that qualify. -/
def countLimits : ClkSource → Option (Nat × Nat)
  | .xo32m => some (2017, 2079)
  | .xo32k => some (61, 67)
  | .rc16m => some (3516, 4297)
  | _ => none


/-- Network time waits for its rebuild after a change of its clock (R295, R297). -/
def State.timeLost (s : State) : State := { s with ntRun := false }

/-- XO32M qualifies (R292, R297): it is selected, the forced outputs are released, NOREF clears and CLK_EVT fires. -/
def State.xo32mGood (s : State) : State :=
  let back := s.clk.failed == some .xo32m
  let s := ((s.setFlag A.CLK_STAT 15 true).setFlag A.CLK_STAT 14 false).setFlag A.CLK_STAT 9 false
  let s := s.setFlag A.PWR_GEAR 14 false
  let s := if back || s.rd A.CLK_STAT 3 0 = 3 then s.wr A.CLK_STAT 3 0 0 else s
  let s := { s with clk := { s.clk with failed := if back then none else s.clk.failed, rcRun := false } }
  let s := if back then s.timeLost else s
  s.rfHaveRef.fire 0x54 0

/-- XO32K qualifies: the sleep counter runs on it. REASON goes where it is XO32K's (R297). -/
def State.xo32kGood (s : State) : State :=
  let s := (s.setFlag A.CLK_STAT 13 true).setFlag A.CLK_STAT 12 false
  let s := if [4, 5, 6].contains (s.rd A.CLK_STAT 3 0) then s.wr A.CLK_STAT 3 0 0 else s
  let s := { s with clk := { s.clk with failed := if s.clk.failed == some ClkSource.xo32k then none else s.clk.failed } }
  s.fire 0x54 0

/-- The 16 MHz RC is qualified; where XO32M is not, it is selected, the gear is held at G0, and network time is
rebuilt after a failure of XO32M (R290, R295). -/
def State.rc16mGood (s : State) : State :=
  let s := s.setFlag A.CLK_STAT 11 true
  if s.flag A.CLK_STAT 15 || s.flag A.CLK_STAT 14 then s
  else
    let s := ((s.setFlag A.CLK_STAT 14 true).setFlag A.CLK_STAT 9 false).setFlag A.PWR_GEAR 14 true
    let s := if s.clk.failed == some .xo32m then s.timeLost else s
    s.fire 0x54 0

/-! ## Failures (R295, R296, R298) -/

/-- A failure is counted and its reason recorded. -/
def State.clkFailure (s : State) (reason : Nat) : State := (s.bump A.CLK_FAILCNT).clkReason reason

/-- XO32M fails in use (R295, R124): outputs forced, PLL and gear fall, the chains go to IDLE, network time stops, and
the 16 MHz RC takes over at once if it is qualified. -/
def State.xo32mFails (s : State) (reason : Nat) (stopped : Bool) : State :=
  let s := ((s.setFlag A.CLK_STAT 15 false).setFlag A.CLK_STAT 9 true).clkFailure reason
  let s := ((s.setFlag A.CLK_STAT 10 false).wr A.PWR_GEAR 6 0 0).setFlag A.PWR_GEAR 15 false
  let s := (s.setFlag A.PWR_GEAR 14 true).rfLoseRef
  let had := s.clk.rcRun && s.flag A.CLK_STAT 11
  let s := { (s.setFlag A.CLK_STAT 11 had) with
    clk := { s.clk with mRun := !stopped, mGood := 0, pllRun := false, pllWait := false, rcRun := true
                        failed := some .xo32m } }
  if had then s.timeLost.rc16mGood else s.timeLost

/-- XO32K fails in use (R295): the sleep counter changes to the 32 kHz RC; no ball is forced. -/
def State.xo32kFails (s : State) (reason : Nat) (stopped : Bool) : State :=
  let s := ((s.setFlag A.CLK_STAT 13 false).setFlag A.CLK_STAT 12 true).clkFailure reason
  let s := { s with clk := { s.clk with kRun := !stopped, kGood := 0
                                        failed := if s.clk.failed.isNone then some .xo32k else s.clk.failed } }
  s.fire 0x54 0

/-- The 16 MHz RC fails: reported where XO32M is qualified (R298); otherwise no source is left and the outputs are
forced until one qualifies (R296). -/
def State.rc16mFails (s : State) (stopped : Bool) : State :=
  let s := (s.setFlag A.CLK_STAT 11 false).clkFailure 7
  let s := { s with clk := { s.clk with rcRun := !stopped } }
  if s.flag A.CLK_STAT 15 then s.fire 0x54 0
  else (((s.setFlag A.CLK_STAT 14 false).setFlag A.CLK_STAT 9 true).clkReason 8).timeLost

/-- The source runs. -/
def State.srcRuns (s : State) : ClkSource → Bool
  | .xo32m => s.clk.mRun
  | .xo32k => s.clk.kRun
  | .rc16m => s.clk.rcRun
  | _ => true

/-- CLOCK_SOURCE_FAILURE (R293, R295, R298): a missing-edge detector trips. -/
def clockSourceFailureEffect (src : ClkSource) (s : State) : State :=
  if !s.srcRuns src then s
  else match src with
    | .xo32m => if s.flag A.CLK_STAT 15 then s.xo32mFails 1 true
        else { s with clk := { s.clk with mRun := false, mGood := 0 } }
    | .xo32k => if s.flag A.CLK_STAT 13 then s.xo32kFails 4 true
        else { s with clk := { s.clk with kRun := false, kGood := 0 } }
    | .rc16m => if s.flag A.CLK_STAT 15 || s.flag A.CLK_STAT 14 then s.rc16mFails true
        else (s.setFlag A.CLK_STAT 11 false).clkReason 8
    | .rc4m => (s.bump A.CLK_FAILCNT).softReset 7
    | .rc32k => if s.flag A.CLK_STAT 13 then (s.clkFailure 10).fire 0x54 0 else (s.clkFailure 10).softReset 7

/-- CLOCK_SOURCE_FAILURE. -/
def execClockSourceFailure (src : ClkSource) (s : State) : Host.Outcome State Fault Refusal :=
  .next (clockSourceFailureEffect src s)

/-- FREQUENCY_COUNT (R292, R293): a window of a source ends with its count, qualifying the source, or failing it if it
is in use. -/
def frequencyCountEffect (src : ClkSource) (count : W16) (s : State) : State :=
  match countLimits src with
  | none => s
  | some (lo, hi) =>
    if !s.srcRuns src then s
    else
      let ok := lo ≤ count.toNat && count.toNat ≤ hi
      match src with
      | .xo32m =>
        let s := s.setWord A.CLK_MCOUNT count
        let s := { s with clk := { s.clk with mGood := if ok then min 2 (s.clk.mGood + 1) else 0 } }
        if s.flag A.CLK_STAT 15 then (if ok then s else s.xo32mFails 2 false)
        else if s.clk.mGood = 2 then s.xo32mGood else s
      | .xo32k =>
        let s := s.setWord A.CLK_KCOUNT count
        let s := { s with clk := { s.clk with kGood := if ok then min 2 (s.clk.kGood + 1) else 0 } }
        if s.flag A.CLK_STAT 13 then (if ok then s else s.xo32kFails 5 false)
        else if s.clk.kGood = 2 then s.xo32kGood else s
      | _ =>
        let s := s.setWord A.CLK_RCOUNT count
        if ok then s.rc16mGood
        else if s.flag A.CLK_STAT 14 || s.flag A.CLK_STAT 15 then s.rc16mFails false
        else if s.clk.failed == some .xo32m then s.clkReason 8 else s

/-- PRIMARY_RESTART (R296, R297): a failed crystal is started again. -/
def primaryRestartEffect (src : ClkSource) (s : State) : State :=
  match src with
  | .xo32m => if s.flag A.CLK_STAT 15 then s else { s with clk := { s.clk with mRun := true, mGood := 0 } }
  | .xo32k => if s.flag A.CLK_STAT 13 then s else { s with clk := { s.clk with kRun := true, kGood := 0 } }
  | _ => s

/-- PRIMARY_RESTART. -/
def execPrimaryRestart (src : ClkSource) (s : State) : Host.Outcome State Fault Refusal :=
  .next (primaryRestartEffect src s)

/-- XO32M starts, and the 16 MHz RC for its counts, if it is not running. -/
def State.xoStart (s : State) : State :=
  if s.clk.mRun then s else { s with clk := { s.clk with mRun := true, mGood := 0, rcRun := true } }

/-- XO32M stops when no switched domain is on or waking and XOHOLD is 0 (R292). -/
def State.xoStop (s : State) : State :=
  if (List.range 16).any (fun d => 2 ≤ s.domState d) || s.flag A.CLK_CTRL 15 || !s.clk.mRun then s
  else { (s.setFlag A.CLK_STAT 15 false) with clk := { s.clk with mRun := false, mGood := 0 } }

/-- XO_PRESTART (R294): an enabled wake compare is `CLK_XLEAD` sleep ticks or less away. -/
def xoPrestartEffect (s : State) : State :=
  let lead := s.rd A.CLK_XLEAD 9 0
  if (List.range 8).any fun n => s.flag A.CAD_WCSTAT n && s.rdw (A.CAD_WC n) 3 ≤ s.sleep.toNat + lead then s.xoStart
  else s

/-- XO_PRESTART. -/
def execXoPrestart (s : State) : Host.Outcome State Fault Refusal := .next (xoPrestartEffect s)

/-- A write to `CLK_CTRL` (R292, R293): XOHOLD keeps XO32M running; RECHECK starts a count of every running source,
for which the 16 MHz RC runs. The counts end as FREQUENCY_COUNT. -/
def State.clkCtrl (s : State) (v : Nat) : State :=
  let s := s.setFlag A.CLK_CTRL 15 (bit v 15)
  let s := if bit v 15 then s.xoStart else s
  if bit v 0 then { s with clk := { s.clk with rcRun := true } } else s

/-! ## Clock gates (R287) -/

/-- A write to `CLK_GATE`: 1 raises a quiesce request to a unit of a domain that is on, 0 opens the gate. -/
def State.clkGate (s : State) (v : Nat) : State :=
  (List.range 15).foldl (fun s n =>
    if bit v n then (if s.on (gateDom n) then s.setFlag A.CLK_GATE n true else s)
    else (s.setFlag A.CLK_GATE n false).setFlag A.CLK_GATESTAT n false) s

/-- GATE_CLOSE (R287): the unit acknowledges and its gate closes. -/
def gateCloseEffect (n : Fin 15) (s : State) : State :=
  if s.flag A.CLK_GATE n then s.setFlag A.CLK_GATESTAT n true else s

/-- GATE_CLOSE. -/
def execGateClose (n : Fin 15) (s : State) : Host.Outcome State Fault Refusal := .next (gateCloseEffect n s)

/-- GATE_REFUSED (R287): no acknowledgement: the gate stays open, one class 7 record is written and PWR_EVT fires. -/
def gateRefusedEffect (n : Fin 15) (s : State) : State :=
  if s.flag A.CLK_GATE n && !s.flag A.CLK_GATESTAT n then
    let s := (s.setFlag A.CLK_GATE n false).setFlag A.CLK_GATEREF n true
    (s.breach 7 St.GATE_REFUSED none 0 0).fire 0x53 0
  else s

/-- GATE_REFUSED. -/
def execGateRefused (n : Fin 15) (s : State) : Host.Outcome State Fault Refusal := .next (gateRefusedEffect n s)

/-! ## Requests for transitions (R38, R85, R273, R276) -/

/-- DOMAIN (R276): the entry's transition is queued; for a retired engine's domain it does nothing (R85), and its
monitor is returned. -/
def domainEffect (s : State) : State :=
  match s.takeAct 0x23 with
  | none => s
  | some (a, s) =>
    let d := bits (a.arg 0) 3 0
    let st := bits (a.arg 0) 5 4
    if s.heldOff d then
      s.setMonitors (s.seq.monitors.filter fun m => !(m.kind == 4 && m.lap == a.lap && m.index == a.index))
    else
      s.queueTransition ⟨d, st, if d = 8 then BitVec.ofNat 32 (a.arg 1 + 65536 * a.arg 2) else 0, false,
        some (a.lap, a.index)⟩

/-- DOMAIN. -/
def execDomain (s : State) : Host.Outcome State Fault Refusal := .next (domainEffect s)

/-- A write to `PWR_DOMCMD` (R85, R273, R276): only E0's service bank moves a retired engine's domain, and none of PD8,
PD10 and PD11 goes off under a committed sheet. -/
def State.domCmd (s : State) (who : Initiator) (d st : Nat) : State :=
  if s.heldOff d && who ≠ Initiator.service then s.rejected Win.PWR
  else if s.committed && st = 0 && (d = 8 || d = 10 || d = 11) then s.rejected Win.PWR
  else s.queueTransition ⟨d, st, if d = 8 then BitVec.ofNat 32 (s.rdw A.PWR_DOMBANKS 2) else 0, false, none⟩

/-- A write to `PWR_GEARSET` (R291). -/
def State.gearSet (s : State) (g : Nat) : State :=
  if s.rd A.SEQ_STAT 11 10 ≠ 0 then s.rejected Win.PWR else (s.setGear g).gearMonitors

/-- WAKE_PIN (R275, R281, R433): the level at a wake pin changes. A source of edge type asks once for each active
edge; one of level type holds its request while the level is active. In the commit window an edge is lost. -/
def wakePinEffect (n : Fin 4) (level window : Bool) (s : State) : State :=
  let was := s.pwr.pins.getLsbD n
  let s := { s with pwr := { s.pwr with
    pins := if level then s.pwr.pins ||| (1#4 <<< n.val) else s.pwr.pins &&& ~~~(1#4 <<< n.val) } }
  let src := 9 + n.val
  let r := A.PWR_WSRC src
  let active := level != s.flag r 13
  if !s.vio1 || !s.flag r 15 then s
  else if s.flag r 14 then
    if active && was != level then s.wakeRequest src true window else s
  else
    let s := s.setFlag A.PWR_WPEND src active
    if active then (s.wakeRequest src false window).wakeLevels else s

/-- WAKE_PIN. -/
def execWakePin (n : Fin 4) (level window : Bool) (s : State) : Host.Outcome State Fault Refusal :=
  .next (wakePinEffect n level window s)

/-! ## Write-back of corrected words (R282) -/

/-- SRAM_ECC_WRITE_BACK (R282): a corrected word of shared SRAM or of the pattern memory is written back; its error is
gone. -/
def sramEccWriteBackEffect (a : Addr) (s : State) : State :=
  { s with ecc := s.ecc.filter fun e => !(e.mem == 0 && e.addr == a.toNat && e.counted && !e.double) }

/-- SRAM_ECC_WRITE_BACK. -/
def execSramEccWriteBack (a : Addr) (s : State) : Host.Outcome State Fault Refusal :=
  .next (sramEccWriteBackEffect a s)

end Sys2Proof.Machine
end

