-- ==== Sys2Proof/Machine/Bus.lean ====
section
/-!
DEFINITION. The word address map as its initiators use it (R10 to R26): which domain an address lies in and what an
access to it does there (R18, R19), reads and writes of shared SRAM, MRAM and scratchpads, reads of registers with
their live views, writes of registers by access code with refused encodings and held words (R11, R13), and the
registers whose writes act.
-/
namespace Sys2Proof.Machine

/-! ## Bit errors and LOST banks (R60, R282, R285) -/

/-- A read meets a bit error: a single one is corrected and counted once; the answer says whether it is double. -/
def State.eccMeets (s : State) (mem a counter : Nat) : Bool × State :=
  match s.ecc.find? fun e => e.mem == mem && e.addr == a with
  | none => (false, s)
  | some e =>
    if e.double then (true, s)
    else if e.counted then (false, s)
    else (false, ({ s with ecc := s.ecc.map fun x => if x == e then { x with counted := true } else x }).bump counter)

/-- A bank is marked LOST (R285): counted, PWR_EVT, and a journal entry that the seal logic holds until PD9 is on. -/
def State.loseBank (s : State) (b : Nat) : State :=
  let s := ((s.setBankLost b true).bump A.PWR_LOSTCNT).fire 0x53 0
  s.jnlAdd { jnlEvent 0x15 St.BANK_LOST 0 0 0 b 0xC0000004 with source := 1 }

/-- A read of shared SRAM by an engine or the debug port: a LOST bank and a double-bit error read E0E0h with an error
response. -/
def State.sramRead (s : State) (a : Nat) : W16 × Bool × State :=
  if s.bankLost (bankOf a) then (0xE0E0, true, s)
  else
    let r := s.eccMeets 0 a A.PWR_ECCCNT
    if r.1 then (0xE0E0, true, r.2.loseBank (bankOf a)) else (cellsGet zeroWord s.sram a, false, r.2)

/-! ## Where an address lies (R20 to R24) -/

/-- Kind of a word address. -/
inductive Region where
  | spad
  | sram
  | mram
  | register
  /-- Inside window w, in no register map. -/
  | hole (w : Nat)
  | unmapped
deriving DecidableEq, Repr

/-- The region of a word address. -/
def regionOf (a : Nat) : Region :=
  if a < 0x8000 then .spad
  else if inSram a then .sram
  else if 0x200000 ≤ a && a < 0x400000 then .mram
  else match windowOf a with
    | none => .unmapped
    | some w => if (findReg a).isSome then .register else .hole w

/-- Crossbar port of an initiator, as `PWR_DWLAST` names it. -/
def initPort : Initiator → Nat
  | .engine k => k.val
  | .service => 0
  | .debug => 15

/-- Engine whose scratchpad an initiator sees at address 0 (R21). -/
def State.spadEngine (s : State) : Initiator → Fin 8
  | .engine k => k
  | .service => 0
  | .debug => engIx (s.rd A.ENG_DBGSEL 2 0)

/-- Domain that an access needs, with its bank; 16 is AON or none. -/
def State.addrDom (s : State) (who : Initiator) (a : Nat) : Nat × Nat :=
  match regionOf a with
  | .spad => ((s.spadEngine who).val, 0)
  | .sram => (8, bankOf a)
  | .mram => (9, 0)
  | .register => match findReg a with
    | some (r, _, _) => (r.dom, 0)
    | none => (16, 0)
  | _ => (16, 0)

/-- Block that an access reaches, as `PWR_REFUSE.BLOCK` names it (R25). -/
def blockOf (a : Nat) : Nat :=
  match regionOf a with
  | .spad => 0x1F
  | .sram => Win.RING
  | .mram => Win.JNL
  | _ => (windowOf a).getD 0

/-! ## Reads of registers -/

/-- A consumer is busy (R263). -/
def State.consBusy (s : State) (c : Nat) : Bool :=
  if 0x29 ≤ c ∧ c ≤ 0x2B then (vget s.gau.conv (c - 0x29) none).isSome
  else if c = 0x3C then s.cad.ppsHigh
  else if 0x3F ≤ c ∧ c ≤ 0x44 then s.unitBusy (c - 0x3F)
  else false

/-- `CBL_CONSc.BUSY` and `PER_Pp_IN` as they read. -/
def State.pinView (s : State) (a : Nat) : Option W16 :=
  if A.CBL_CONS 0 ≤ a ∧ a ≤ A.CBL_CONS 79 then
    some (BitVec.ofNat 16 (putBits (s.word a).toNat 0 0 (s.consBusy (a - A.CBL_CONS 0)).toNat))
  else if A.PER_P_IN 0 ≤ a ∧ a ≤ A.PER_P_IN 5 ∧ (a - A.PER_P_IN 0) % 8 = 0 then some (s.portIn ((a - A.PER_P_IN 0) / 8))
  else none

/-- Unit u of the vault runs (R342). -/
def State.vaultBusy (s : State) (u : Nat) : Bool :=
  s.vlt.ops.any fun o => vaultUnit o.op (bits (o.words.getD 3 0).toNat 15 0) == some u

/-- `VLT_STAT`, `VLT_SLOTATTR` and `VLT_SLOTGEN` as they read (R357). -/
def State.vltView (s : State) (a : Nat) : Option W16 :=
  if a = A.VLT_STAT then
    let v := putBits (s.word a).toNat 12 12 s.vlt.dbglock.toNat
    let v := putBits v 11 11 (decide (32768 - s.vlt.lmsq < (s.word A.VLT_LMSWARN).toNat)).toNat
    some (BitVec.ofNat 16 (putBits v 2 0 ((s.vaultBusy 0).toNat + (s.vaultBusy 1).toNat * 2 + (s.vaultBusy 2).toNat * 4)))
  else
    let n := s.rd A.VLT_SLOTSEL 7 0
    if a = A.VLT_SLOTATTR then
      some (if s.slotBad n then 0 else match s.keySlot n with
        | some k => k.attr
        | none => 0)
    else if a = A.VLT_SLOTGEN ∨ a = A.VLT_SLOTGEN + 1 then
      some (BitVec.ofNat 16 ((s.slotGen n).toNat / 2 ^ (16 * (a - A.VLT_SLOTGEN))))
    else none

/-- A register word as it reads, before what the read itself does: live views first, then the stored word. -/
def State.regView (s : State) (a : Nat) : W16 :=
  match windowOf a with
  | some 0 => (s.seqView a).getD (s.word a)
  | some 5 => (s.cadView a).getD (s.word a)
  | some 4 => (s.pinView a).getD (s.word a)
  | some 14 => (s.pinView a).getD (s.word a)
  | some 12 => (s.vltView a).getD (s.word a)
  | some 16 => (s.wflView a).getD (s.word a)
  | some 18 => (s.engView a).getD (s.word a)
  | some 19 => (s.jnlView a).getD (s.word a)
  | _ => s.word a

/-- An address register that moves on after each access to its data register. -/
def State.nextAddr (s : State) (a hi n : Nat) : State := s.wr a hi 0 ((s.rd a hi 0 + 1) % n)

/-- The gate word that `CBL_LVADDR` selects. -/
def State.lvWord (s : State) : W16 := cellsGet zeroWord s.cbl.gate (s.rd A.CBL_LVADDR 9 0)

/-- The hop entry that `LNK_HOPADDR` selects. -/
def State.hopWord (s : State) : W16 := cellsGet zeroWord s.lnk.hops (s.rd A.LNK_HOPADDR 7 0)

/-- `LNK_HOPADDR.ENTRY` moves on; CHAIN stays (R215). -/
def State.hopNext (s : State) : State := s.wr A.LNK_HOPADDR 6 0 ((s.rd A.LNK_HOPADDR 6 0 + 1) % 128)

/-- Registers whose read shows a word behind an address register, pops a FIFO or latches a shadow: value and state. -/
def State.dataRead (s : State) (a : Nat) : Option (W16 × State) :=
  if a = A.SEQ_TBLDATA then some (s.tblRead, s.tblNext)
  else if a = A.RING_GPDATA then
    let i := s.rd A.RING_GPADDR 12 0
    let r := s.eccMeets 0 i A.PWR_ECCCNT
    some (cellsGet onesWord s.patterns i, r.2.nextAddr A.RING_GPADDR 12 8192)
  else if a = A.CBL_LVDATA then some (s.lvWord, s.nextAddr A.CBL_LVADDR 9 640)
  else if a = A.LNK_HOPDATA then some (s.hopWord, s.hopNext)
  else if a = A.MSH_PATHDATA then
    some (BitVec.ofNat 16 (s.pathWord (s.rd A.MSH_PATHADDR 7 0)), s.nextAddr A.MSH_PATHADDR 7 256)
  else if a = A.MSH_NBRDATA then
    let i := s.rd A.MSH_NBRADDR 13 0
    some (cellsGet zeroWord s.msh.nbr i, s.nextAddr A.MSH_NBRADDR 13 16384)
  else if a = A.CAD_SNAP then some (s.word a, s.latchSnap)
  else if 0x405100 ≤ a ∧ a < 0x405200 ∧ (a - 0x405100) % 32 = 8 then
    some (s.word a, s.latchPair ((a - 0x405100) / 32))
  else if 0x40E100 ≤ a ∧ a < 0x40E160 ∧ (a - 0x40E100) % 16 = 4 then some (s.popRx ((a - 0x40E100) / 16))
  else none

/-- A register is read. -/
def State.regRead (s : State) (a : Nat) : W16 × State :=
  match s.dataRead a with
  | some r => r
  | none => (s.regView a, s)

/-- A word is read by an initiator that reaches it: its value, whether the response is an error, and the state
(R13, R20 to R22, R60, R285). -/
def State.readWord (s : State) (who : Initiator) (a : Nat) : W16 × Bool × State :=
  match regionOf a with
  | .spad =>
    let k := s.spadEngine who
    let r := s.eccMeets (k.val + 9) a A.ENG_ECCCNT
    (cellsGet zeroWord (s.engine k).spad a, r.1, r.2)
  | .sram => s.sramRead a
  | .mram => (s.mramGet a, false, s)
  | .register =>
    let r := s.regRead a
    (r.1, false, r.2)
  | _ => (0, false, s)

/-! ## Reserved encodings that depend on more than the value (R13) -/

/-- Places and index block of ring n lie as R248 asks. -/
def ringPlaced (n base idx log : Nat) : Bool :=
  let len := if isRequest n then 4 + 4 * 2 ^ log else 4
  inSram base && decide (base + 16 * 2 ^ log ≤ 0x200000) && inSram idx && decide (idx + len ≤ 0x200000)
    && bankOf idx == bankOf (idx + len - 1)

/-- LOG2SIZE that a write of `RING_CFGn` leaves. -/
def State.cfgLog (s : State) (n v : Nat) : Nat :=
  let x := bits v 3 0
  let base := s.rdw (A.RING_BASE n) 2
  let idx := s.rdw (A.RING_IDX n) 2
  if 3 ≤ x && x ≤ 10 && (!s.flag (A.RING_CFG n) 15 || ringPlaced n base idx x) then x else s.rd (A.RING_CFG n) 3 0

/-- Encodings of the ring registers. -/
def State.ringCtx (s : State) (base n lo x v : Nat) : Bool :=
  let b := s.rdw (A.RING_BASE n) 2
  let i := s.rdw (A.RING_IDX n) 2
  let log := s.rd (A.RING_CFG n) 3 0
  let en := s.flag (A.RING_CFG n) 15
  if base = A.RING_CFG 0 then
    if lo = 15 then x = 0 || (n ≠ 30 && n ≠ 31 && ringPlaced n b i (s.cfgLog n v)) else s.cfgLog n v = x
  else if base = A.RING_BASE 0 then inSram x && x % 16 = 0 && (!en || ringPlaced n x i log)
  else inSram x && x % 4 = 0 && (!en || ringPlaced n b x log)

/-- Encodings of a serial unit's registers (R326 to R329): the bits a unit does not have are gone already. -/
def serialCtx (base u lo x : Nat) : Bool :=
  if base = A.PER_S_CFG 0 then
    if lo = 8 then (if u < 2 then true else if u < 4 then bits x 1 0 ≠ 3 else bits x 5 4 ≠ 3)
    else if u < 4 then true else 1 ≤ bits x 7 3 && bits x 7 3 ≤ 16
  else if base = A.PER_S_CTRL 0 then (if 2 ≤ u ∧ u < 4 then x ≠ 0 else 1 ≤ x && x ≤ 16)
  else u < 4 || 16 ≤ x

/-- Bits that serial unit u does not have read 0 and ignore writes. -/
def serialMask (base u v : Nat) : Nat :=
  if base = A.PER_S_CFG 0 then
    if u < 2 then v - bits v 8 8 * 256
    else if u < 4 then bits v 15 14 * 16384 + bits v 9 8 * 256
    else bits v 15 10 * 1024 + bits v 7 3 * 8
  else if base = A.PER_S_CTRL 0 then (if 2 ≤ u ∧ u < 4 then v else bits v 15 15 * 32768 + bits v 7 0)
  else if base = A.PER_S_AUX 0 then (if u < 4 then 0 else v)
  else v

/-- Thresholds of the mismatch detector that a write of `RFA_MMTHR` leaves. -/
def State.back1Ok (s : State) (v : Nat) : Bool := bits v 7 0 ≤ bits v 15 8 && bits v 15 8 ≤ s.rd A.RFA_MMTHR2 7 0

/-- Encodings of the RF, lane, link and mesh registers. -/
def State.radioCtx (s : State) (base k lo x v : Nat) : Bool :=
  if base = A.RFA_MMTHR then
    if lo = 8 then s.back1Ok v else x ≤ (if s.back1Ok v then bits v 15 8 else s.rd A.RFA_MMTHR 15 8)
  else if base = A.RFA_MMTHR2 then s.rd A.RFA_MMTHR 15 8 ≤ x
  else if base = A.RF_COEX .A then x ≤ 2 && (x = 0 || s.rd (A.RF_COEX .B) 15 14 = 0)
  else if base = A.RF_COEX .B then x ≤ 2 && (x = 0 || s.rd (A.RF_COEX .A) 15 14 = 0)
  else if base = A.RXE_LANE_CFG 0 then
    if lo = 8 then x ≤ (if k < 8 then 32 else 40) else modeOn (laneChain k) x
  else if base = A.RXE_LANE_OFS 0 then (signed 10 x).natAbs ≤ (if k < 8 then 256 else 320)
  else if base = A.LNK_BE then bits v 3 0 ≤ bits v 7 4 && bits v 7 4 ≤ 8
  else if base = A.MSH_TRIM then (signed 24 x).natAbs ≤ 100000
  else modeValid x

/-- Encodings of the power, cadence, gauge and pin registers. -/
def State.blockCtx (s : State) (base k lo x v : Nat) : Bool :=
  if base = A.PWR_WSRC 0 then x = 0 || 9 ≤ k
  else if base = A.PWR_REBUILD 0 then
    x = 0 || (if bits v 15 14 ≤ 2 then bits v 15 14 else s.rd (A.PWR_REBUILD k) 15 14) ≠ 0
  else if base = A.CAD_CC_CFG 0 then x ≤ 3 && !(x = 2 && s.ccPeriod k = 0)
  else if base = A.CAD_CC_PER 0 then x ≠ 0 || s.ccMode k ≠ 2
  else if base = A.GAU_LIM_LO 0 then
    let hi := s.rd (A.GAU_LIM_HI k) 15 0
    if k < 2 then signed 16 x ≤ signed 16 hi else x ≤ hi
  else if base = A.GAU_LIM_HI 0 then
    let lo' := s.rd (A.GAU_LIM_LO k) 15 0
    if k < 2 then signed 16 lo' ≤ signed 16 x else lo' ≤ x
  else if base = A.GAU_PWM_PERIOD 0 then 2 ≤ x
  else if base = A.GAU_PWM_DUTY 0 then x ≤ s.rd (A.GAU_PWM_PERIOD k) 15 0 * 500
  else if base = A.PER_P_FUNC 0 then x = 0 || (x = 1 && 8 * k + lo / 2 < 34)
  else serialCtx base k lo x

/-- The rules that `Enc.ctx` stands for: register by its first copy's address, copy, field by its low bit, value, and
the whole value written. -/
def State.ctxOk (s : State) (base k lo x v : Nat) : Bool :=
  match windowOf base with
  | some 3 => s.ringCtx base k lo x v
  | some 6 => s.radioCtx base k lo x v
  | some 7 => s.radioCtx base k lo x v
  | some 8 => s.radioCtx base k lo x v
  | some 10 => s.radioCtx base k lo x v
  | some 11 => s.radioCtx base k lo x v
  | _ => s.blockCtx base k lo x v

/-- The value is not a reserved encoding of the field. -/
def State.encOk (s : State) (r : Reg) (k : Nat) (f : Field) (v : Nat) : Bool :=
  let x := bits v f.hi f.lo
  match f.enc with
  | .any => true
  | .rng lo hi => lo ≤ x && x ≤ hi
  | .oneOf l => l.contains x
  | .ctx => s.ctxOk r.base k f.lo x v

/-! ## Writes by access code (R11, R13) -/

/-- A field of a register after a write of the whole value v over the whole value old, and whether it is refused. -/
def State.fieldWrite (s : State) (r : Reg) (k v : Nat) (old : Nat) (f : Field) : Nat × Bool :=
  let x := bits v f.hi f.lo
  match f.acc with
  | .ro => (old, false)
  | .wo => (old, !s.encOk r k f v)
  | .w1c => (putBits old f.hi f.lo (bits old f.hi f.lo &&& (2 ^ (f.hi + 1 - f.lo) - 1 - x)), false)
  | .rw => if s.encOk r k f v then (putBits old f.hi f.lo x, false) else (old, true)
  | .rwl => if !s.committed && s.encOk r k f v then (putBits old f.hi f.lo x, false) else (old, true)

/-- All fields of a register, each judged against the state before the write. -/
def State.fieldsWrite (s : State) (r : Reg) (k v old : Nat) : List Field → Nat × Bool
  | [] => (old, false)
  | f :: t =>
    let p := s.fieldWrite r k v old f
    let q := s.fieldsWrite r k v p.1 t
    (q.1, p.2 || q.2)

/-- The field is sticky or an action, and acts on the word written. -/
def Field.atOnce (f : Field) : Bool := f.acc == .w1c || f.acc == .wo

/-- The window's WRITE_REJECTED, while the window's flag register can take it. -/
def State.rejectIn (s : State) (a : Nat) : State :=
  match windowOf a with
  | some w => if s.on (windowDom w) then s.rejected w else s
  | none => s

/-- A word of a register is stored: a single word by its fields; a lower word of a wide register is held; its highest
word transfers all of them (R13). -/
def State.regStore (s : State) (r : Reg) (k w a : Nat) (v : W16) : State :=
  let first := a - w
  if r.words ≤ 1 then
    let p := s.fieldsWrite r k (serialMask r.base k v.toNat) (s.word a).toNat r.fields
    let t := s.setWord a (BitVec.ofNat 16 p.1)
    if p.2 then t.rejectIn a else t
  else
    let old := s.rdw first r.words
    let now := s.fieldsWrite r k (v.toNat * 2 ^ (16 * w)) old
      (r.fields.filter fun f => f.atOnce && f.lo / 16 ≤ w && w ≤ f.hi / 16)
    let s := s.wrw first r.words now.1
    let held := r.fields.filter fun f => !f.atOnce && f.acc != .ro
    if held.isEmpty then s
    else if w + 1 < r.words then
      if s.committed && held.any fun f => f.acc == .rwl then s.rejectIn a
      else { s with held := cellsIns s.held a v }
    else
      let word (i : Nat) : W16 := cellsGet (fun x => s.word x) s.held (first + i)
      let whole := ofWords ((List.range w).map word) + v.toNat * 2 ^ (16 * w)
      let p := s.fieldsWrite r k whole (s.rdw first r.words) held
      let t := s.wrw first r.words p.1
      let t := { t with held := t.held.filter fun c => !(decide (first ≤ c.1) && decide (c.1 < first + r.words)) }
      if p.2 then t.rejectIn a else t

/-! ## Registers whose writes act -/

/-- The four codes of a pattern word, a reserved one left as it was (R69). -/
def State.patternWrite (s : State) (v : W16) : State :=
  let i := s.rd A.RING_GPADDR 12 0
  let old := (cellsGet onesWord s.patterns i).toNat
  let ok (m : Nat) : Bool := let c := bits v.toNat (4 * m + 3) (4 * m); c < 12 || c = 15
  let new := (List.range 4).foldl (fun w m =>
    if ok m then putBits w (4 * m + 3) (4 * m) (bits v.toNat (4 * m + 3) (4 * m)) else w) old
  let s := { s with patterns := cellsPut onesWord s.patterns i (BitVec.ofNat 16 new)
                    ecc := s.ecc.filter fun e => !(e.mem == 0 && e.addr == i) }
  if (List.range 4).all ok then s else s.rejectIn A.RING_GPDATA

/-- A path entry written (R246): CLASS 0 and NBR 3FFh are reserved encodings. -/
def State.pathWrite (s : State) (v : W16) : State :=
  let i := s.rd A.MSH_PATHADDR 7 0
  let x := v.toNat
  let okC := bits x 13 10 ≠ 0
  let okN := bits x 9 0 ≠ 0x3FF
  let w := putBits (s.pathWord i) 15 15 (bits x 15 15)
  let w := if okC then putBits w 13 10 (bits x 13 10) else w
  let w := if okN then putBits w 9 0 (bits x 9 0) else w
  let s := { s with msh := { s.msh with path := cellsPut zeroWord s.msh.path i (BitVec.ofNat 16 w) } }
  if okC && okN then s else s.rejectIn A.MSH_PATHDATA

/-- A neighbour table word written by firmware (R3, R245, R246): SHORT takes no 0000h; a write that comes while a frame
is judged takes effect after it. -/
def State.nbrWrite (s : State) (v : W16) : State :=
  let i := s.rd A.MSH_NBRADDR 13 0
  let short0 := i % 16 = 0 && v = 0
  let s := if short0 then s
    else if s.lnk.judging.isEmpty then s.nbrStore i v
    else { s with msh := { s.msh with nbrLate := s.msh.nbrLate ++ [(i, v)] } }
  if short0 || (i % 16 = 5 && 5 ≤ bits v.toNat 11 9) then s.rejectIn A.MSH_NBRDATA else s

/-- Registers that stand for a word behind an address register, and those written as a whole. -/
def State.dataWrite (s : State) (a : Nat) (v : W16) : Option State :=
  if a = A.SEQ_TBLDATA then some (if s.committed then (s.rejectIn a).tblNext else (s.tblWrite v).tblNext)
  else if a = A.RING_GPDATA then
    some ((if s.committed then s.rejectIn a else s.patternWrite v).nextAddr A.RING_GPADDR 12 8192)
  else if a = A.CBL_LVDATA then
    let w := BitVec.ofNat 16 (v.toNat % 32)
    some ((if s.committed then s.rejectIn a
      else { s with cbl := { s.cbl with gate := cellsPut zeroWord s.cbl.gate (s.rd A.CBL_LVADDR 9 0) w } }).nextAddr
        A.CBL_LVADDR 9 640)
  else if a = A.LNK_HOPDATA then
    let w := v &&& 0xC3FF
    some ((if s.committed then s.rejectIn a
      else { s with lnk := { s.lnk with hops := cellsPut zeroWord s.lnk.hops (s.rd A.LNK_HOPADDR 7 0) w } }).hopNext)
  else if a = A.MSH_PATHDATA then some ((s.pathWrite v).nextAddr A.MSH_PATHADDR 7 256)
  else if a = A.MSH_NBRDATA then some ((s.nbrWrite v).nextAddr A.MSH_NBRADDR 13 16384)
  else if a = A.CLK_GATE then some (s.clkGate v.toNat)
  else if a = A.CBL_LEVERS then some (s.leversWrite v.toNat)
  else if a = A.JNL_STAGE 15 then some s
  else none

/-- What a write of EN does (R191, R261): `s` has the field at its old value. -/
def State.enWrite (s : State) (reg v : Nat) (off : State → State) : State :=
  let new := bits v 15 14
  let old := s.rd reg 15 14
  if new = 0 then
    if old = 1 then off s else { s with again := s.again.filter fun x => x ≠ reg }
  else if new = 1 then
    if old = 2 then { s with again := if s.again.contains reg then s.again else reg :: s.again } else s.wr reg 15 14 1
  else s

/-- The pin request of a wake source follows its settings (R275). -/
def State.wsrcWritten (s : State) (n : Nat) : State :=
  if n < 9 then s.wakeLevels
  else
    let r := A.PWR_WSRC n
    let active := s.pwr.pins.getLsbD (n - 9) != s.flag r 13
    (s.setFlag A.PWR_WPEND n (s.vio1 && s.flag r 15 && !s.flag r 14 && active)).wakeLevels

/-- Limits newly enabled judge their first result as one that follows an inside result (R318). -/
def State.limitsEnabled (s : State) (old : Nat) : State :=
  (List.range 3).foldl (fun s i =>
    if s.flag A.GAU_LIMCFG (4 + i) && !bit old (4 + i) then
      { s with gau := { s.gau with inside := vset s.gau.inside i true } }
    else s) s

/-- The initiator is E0's service bank, with no task on E0 (R406). -/
def State.loaderMay (s : State) (who : Initiator) : Bool := who == .service && (s.engine 0).task.isNone

/-- A write to `SYS_E0LDDATA` (R406): a word of E0's image below the resident region, and the address moves on. -/
def State.e0ldData (s : State) (who : Initiator) (v : W16) : State :=
  let a := s.rd A.SYS_E0LDADDR 14 0
  if !s.loaderMay who then s.rejected Win.SYS
  else (s.putMem 0 false a v).wr A.SYS_E0LDADDR 14 0 (if a = 0x4FFF then 0 else a + 1)

/-- Actions of the windows SEQ to CBL: `v` is the word written. -/
def State.actControl (s : State) (who : Initiator) (base k : Nat) (v : Nat) : State :=
  if base = A.SEQ_CTRL then s.seqCtrl v
  else if base = A.PWR_GEARSET then (if bits v 2 0 ≤ 4 then s.gearSet (bits v 2 0) else s)
  else if base = A.PWR_DOMCMD then (if bits v 5 4 ≤ 2 then s.domCmd who (bits v 3 0) (bits v 5 4) else s)
  else if base = A.PWR_WSRC 0 then s.wsrcWritten k
  else if base = A.PWR_WSET 0 then s.wakeLevels
  else if base = A.CLK_CTRL then s.clkCtrl v
  else if base = A.RING_ABORT then s.startAbort v
  else if base = A.CBL_FIRE then (if bits v 6 0 < 96 then s.fork (bits v 6 0) 0 else s)
  else s

/-- The word written to PER of a periodic channel leaves 0 in it, which is refused (R304). -/
def State.zeroPeriod (s : State) (base k : Nat) (v : W16) : Bool :=
  base == A.CAD_CC_PER 0 && s.ccMode k == 2 && v == 0 && cellsGet (fun x => s.word x) s.held (A.CAD_CC_PER k) == 0

/-- Actions of the window CAD; w is the word of the register. -/
def State.actCadence (s : State) (base k w : Nat) : State :=
  if base = A.CAD_WC 0 ∧ w = 2 then s.armWake k (s.rdw (A.CAD_WC k) 3)
  else if base = A.CAD_CC_CFG 0 then s.modeWritten k
  else if base = A.CAD_CC_TGT 0 ∧ w = 3 then s.takeTarget k (s.ccTarget k)
  else if base = A.CAD_CC_PER 0 ∧ w = 1 then s.periodWritten k
  else s

/-- Actions of the radio windows. -/
def State.actRadio (s : State) (who : Initiator) (base k v : Nat) : State :=
  if base = A.RF_CTRL .A then
    let s := if bit v 0 then s.calDue .A else s
    if bit v 1 then s.searchDue else s
  else if base = A.RF_CTRL .B then (if bit v 0 then s.calDue .B else s)
  else if base = A.RF_COEX .A then s.coexOff .A
  else if base = A.RF_COEX .B then s.coexOff .B
  else if base = A.RXE_LANE_CFG 0 then
    if bits v 15 14 = 0 then (if s.rd (A.RXE_LANE_CFG k) 15 14 = 0 then s else s.laneDisable k)
    else if bits v 15 14 = 1 then s.laneEnable k else s
  else if base = A.LNK_CTRL then s.enWrite A.LNK_CTRL v State.linkDisable
  else if base = A.MSH_CTRL then s.enWrite A.MSH_CTRL v State.relayDisable
  else if base = A.MSH_STAGECTL then (if who = .service then (s.stageCtl v).stageChanged else s.stageCtl v)
  else s

/-- Actions of the vault, gauge, peripheral and Waifeti windows. A transfer that runs has begun on the wire when a
plain write disables its unit (log entry 18). -/
def State.actPeripheral (s : State) (base k v old : Nat) : State :=
  if base = A.VLT_CTRL then
    let s := s.enWrite A.VLT_CTRL v State.vaultDisabled
    if bit v 0 then s.reseed else s
  else if base = A.GAU_CTRL then s.enWrite A.GAU_CTRL v fun s => s.disableFn A.GAU_CTRL [45] s.gaugeBusy
  else if base = A.GAU_LIMCFG then s.limitsEnabled old
  else if base = A.GAU_DAC_CFG 0 then (if bit v 15 then s.dacLoad k 0 [] else s)
  else if base = A.PER_S_CFG 0 then s.enWrite (A.PER_S_CFG k) v fun s => s.unitDisabled k true
  else if base = A.PER_S_CTRL 0 then (if bit v 15 then s.startWritten k else s)
  else if base = A.PER_S_TXDATA 0 then s.pushTx k (BitVec.ofNat 16 v)
  else if base = A.WFL_CFG then s.enWrite A.WFL_CFG v State.wflDisabled
  else if base = A.WFL_ADDRCTL then s.addrCtl v
  else if base = A.WFL_RXFREE then s.rxFree v
  else if base = A.WFL_RSPCTL then s.rspCtl v
  else s

/-- Actions of the windows SYS, ENG and JNL. -/
def State.actSystem (s : State) (who : Initiator) (base v : Nat) : State :=
  if base = A.SYS_MWDATA then s.mwData who (BitVec.ofNat 16 v)
  else if base = A.SYS_E0LDDATA then s.e0ldData who (BitVec.ofNat 16 v)
  else if base = A.ENG_RETSET then s.retSet (bits v 7 0)
  else if base = A.ENG_REINT then s.reint (bits v 15 8) (engIx (bits v 2 0))
  else if base = A.ENG_TEST then (if bit v 3 then s.testStart (engIx (bits v 2 0)) else s)
  else if base = A.ENG_LDCTL then (if bit v 15 then s.ldDone (engIx (s.rd A.ENG_LDCTL 2 0)) else s)
  else if base = A.ENG_LDDATA then s.ldData (BitVec.ofNat 16 v)
  else if base = A.JNL_CTRL then (if bit v 0 then s.jnlCommit else s)
  else s

/-- Registers with an EN field of two bits, whose write the action stores. -/
def enBases : List Nat :=
  [A.RXE_LANE_CFG 0, A.LNK_CTRL, A.MSH_CTRL, A.VLT_CTRL, A.GAU_CTRL, A.PER_S_CFG 0, A.WFL_CFG]

/-- A register word is written by an initiator that reaches it (R11, R13): stored by its fields, then what the write
does. -/
def State.regWrite (s : State) (who : Initiator) (a : Nat) (v : W16) : State :=
  match s.dataWrite a v with
  | some t => t
  | none => match findReg a with
    | none => s
    | some (r, k, w) =>
      let old := (s.word a).toNat
      let t := s.regStore r k w a v
      let t := if enBases.contains r.base then t.wr a 15 14 (bits old 15 14) else t
      match windowOf a with
      | some 5 =>
        if s.zeroPeriod r.base k v then t else if r.base = A.CAD_PPSCFG then t.ownEdges s else t.actCadence r.base k w
      | some 6 => t.actRadio who r.base k v.toNat
      | some 7 => t.actRadio who r.base k v.toNat
      | some 8 => t.actRadio who r.base k v.toNat
      | some 10 =>
        if r.base = A.LNK_DWPROF 1 then
          (if t.dwellSub (k + 1) = s.dwellSub (k + 1) then t else t.rebaseDwell (k + 1))
        else t.actRadio who r.base k v.toNat
      | some 11 => t.actRadio who r.base k v.toNat
      | some 12 => t.actPeripheral r.base k v.toNat old
      | some 13 => t.actPeripheral r.base k v.toNat old
      | some 14 =>
        if r.base = A.PER_P_DIR 0 || r.base = A.PER_P_OUT 0 || r.base = A.PER_P_FUNC 0 then t.ownEdges s
        else t.actPeripheral r.base k v.toNat old
      | some 16 => t.actPeripheral r.base k v.toNat old
      | some 17 => t.actSystem who r.base v.toNat
      | some 18 => t.actSystem who r.base v.toNat
      | some 19 => t.actSystem who r.base v.toNat
      | _ => t.actControl who r.base k v.toNat

/-- A word is written by an initiator that reaches it (R13, R20 to R23); the answer says whether the response is an
error. -/
def State.writeWord (s : State) (who : Initiator) (a : Nat) (v : W16) : Bool × State :=
  match regionOf a with
  | .spad => (false, s.putMem (s.spadEngine who) true a v)
  | .sram => (false, s.sramPut a v)
  | .mram => (true, s)
  | .register => (false, s.regWrite who a v)
  | .hole _ => (true, s.rejectIn a)
  | .unmapped => (true, s)

/-! ## Accesses of the initiators -/

/-- An error response. -/
def State.errorTo (s : State) : State := { s with errors := s.errors + 1 }

/-- Domain that a write needs: a write into the MRAM window is answered without one (R23). -/
def State.writeDom (s : State) (who : Initiator) (a : Nat) : Nat × Nat :=
  if regionOf a = .mram then (16, 0) else s.addrDom who a

/-- A write that its domain admits. -/
def State.writeNow (s : State) (who : Initiator) (a : Nat) (v : W16) : State :=
  let r := s.writeWord who a v
  if r.1 then r.2.errorTo else r.2

/-- A read that its domain admits. -/
def State.readNow (s : State) (who : Initiator) (a : Nat) : State :=
  let r := s.readWord who a
  let t := { r.2.2 with lastRead := r.1 }
  if r.2.1 then t.errorTo else t

/-- The debug access port is locked out of everything but boundary scan (R355). -/
def State.shutOut (s : State) (who : Initiator) : Bool := who == .debug && s.vlt.dbglock

/-- A write by an initiator (R18, R19): served, kept until its domain is on, or answered with an error. -/
def State.initWrite (s : State) (who : Initiator) (a : Nat) (v : W16) : State :=
  if s.shutOut who then s.errorTo
  else
    let d := s.writeDom who a
    let r := s.reach d.1 d.2 (d.1 == 8 && inSram a) (blockOf a) (initPort who)
    match r.1 with
    | .served => r.2.writeNow who a v
    | .waits => { r.2 with waits := r.2.waits ++ [⟨who, (initPort who), a, .write v, some d.1, d.2⟩] }
    | .closed => r.2.errorTo

/-- A read by an initiator. -/
def State.initRead (s : State) (who : Initiator) (a : Nat) : State :=
  if s.shutOut who then s.errorTo
  else
    let d := s.addrDom who a
    let r := s.reach d.1 d.2 (d.1 == 8 && inSram a) (blockOf a) (initPort who)
    match r.1 with
    | .served => r.2.readNow who a
    | .waits => { r.2 with waits := r.2.waits ++ [⟨who, (initPort who), a, .read, some d.1, d.2⟩] }
    | .closed => { r.2.errorTo with lastRead := 0 }

/-- A data register is written, or read where no word is given. -/
def State.initAccess (s : State) (who : Initiator) (a : Nat) (w : Option W16) : State :=
  match w with
  | some v => s.initWrite who a v
  | none => s.initRead who a

end Sys2Proof.Machine
end

