-- ==== Sys2Proof/Machine/Points.lean ====
section
/-!
DEFINITION. The points of the object dictionary (R358 to R365, R429): which exist, with their properties, what they
read, which values they take, and how a written value reaches its register or target.
-/
namespace Sys2Proof.Machine

/-! ## Abort codes (R379) -/

def Ab.UNKNOWN_OP : Nat := 0x01000001
def Ab.MALFORMED : Nat := 0x01000002
def Ab.BAD_TAG : Nat := 0x01000003
def Ab.ROLE_DENIED : Nat := 0x01000004
def Ab.REQID_STALE : Nat := 0x01000005
def Ab.REQID_REUSED : Nat := 0x01000006
def Ab.NO_SUCH_REQUEST : Nat := 0x01000007
def Ab.NO_SUCH_INDEX : Nat := 0x02000001
def Ab.NO_SUCH_SUB : Nat := 0x02000002
def Ab.RESERVED_INDEX : Nat := 0x02000003
def Ab.KICKSTAND_ABSENT : Nat := 0x02000004
def Ab.READ_ONLY : Nat := 0x02000005
def Ab.WRONG_OP : Nat := 0x02000006
def Ab.LENGTH_MISMATCH : Nat := 0x02000007
def Ab.VALUE_RESERVED : Nat := 0x02000008
def Ab.VALUE_RANGE : Nat := 0x02000009
def Ab.LOCKED_BY_SHEET : Nat := 0x03000001
def Ab.DOMAIN_UNAVAILABLE : Nat := 0x03000002
def Ab.BUSY : Nat := 0x03000003
def Ab.EXEC_LIMIT : Nat := 0x03000004
def Ab.STALE_STAGE : Nat := 0x03000005
def Ab.JOURNAL_UNAVAILABLE : Nat := 0x03000006
def Ab.HARDWARE_REFUSED : Nat := 0x04000001
def Ab.OPERATION_FAILED : Nat := 0x04000002

/-! ## Which points exist (R359, R363 to R365, R429) -/

/-- Octets of a type by its code; 0 is variable (R359). -/
def typeSize (t : Nat) : Nat := [0, 1, 1, 2, 4, 8, 1, 2, 4, 8, 8, 0, 0].getD t 0

/-- Type codes that the rows below use. -/
def T.U8 : Nat := 2
def T.U16 : Nat := 3
def T.U32 : Nat := 4
def T.U64 : Nat := 5
def T.OCTETS : Nat := 11
def T.EXEC : Nat := 12

/-- Persistence classes (R361); an EXEC point has none. -/
def Cl.live : Nat := 1
def Cl.session : Nat := 2
def Cl.persistent : Nat := 3

/-- A point with its properties (R358). Roles are 0 for none and 1 to 4 (R360); `size` is the octets of a value, the
largest for OCTETS, the arguments for EXEC; `target` is a function point's word address. -/
structure PointInfo where
  type : Nat
  read : Nat
  write : Nat
  cls : Nat
  kick : Bool
  size : Nat
  dflt : List Octet
  target : Option Nat
deriving DecidableEq, Repr

/-- A row of R364 or R429: index, first and last sub-index, type, roles, class, kickstand mark, octets of OCTETS or of
EXEC arguments, default. -/
structure OwnRow where
  index : Nat
  lo : Nat
  hi : Nat
  type : Nat
  read : Nat
  write : Nat
  cls : Nat
  kick : Bool
  size : Nat
  dflt : Nat
deriving DecidableEq, Repr

/-- Rows 0100h to 1FFFh of R364. -/
def ownIdentity : List OwnRow :=
  [⟨0x0100, 1, 1, T.U32, 1, 0, 1, true, 4, 0x49535A52⟩, ⟨0x0100, 2, 2, T.U16, 1, 0, 1, true, 2, 0x9616⟩,
   ⟨0x0100, 3, 3, T.U8, 1, 0, 1, true, 1, 0x42⟩, ⟨0x0100, 4, 5, T.U64, 1, 0, 1, true, 8, 0⟩,
   ⟨0x0101, 1, 1, T.U32, 1, 4, 3, true, 4, 0⟩, ⟨0x0101, 2, 2, T.U16, 1, 4, 3, true, 2, 0⟩,
   ⟨0x0101, 3, 3, T.U8, 1, 3, 3, true, 1, 0⟩, ⟨0x0101, 4, 4, T.U16, 1, 4, 3, true, 2, 0xFFFE⟩,
   ⟨0x0102, 1, 1, T.U32, 1, 0, 1, true, 4, 0⟩, ⟨0x0102, 2, 2, T.U16, 1, 0, 1, true, 2, 0⟩,
   ⟨0x1100, 1, 4, T.U8, 4, 4, 3, true, 1, 0⟩, ⟨0x1101, 0, 0, T.U8, 1, 0, 1, true, 1, 0⟩,
   ⟨0x1200, 1, 16, T.U8, 3, 4, 3, false, 1, 0⟩, ⟨0x1202, 1, 1, T.U32, 1, 0, 3, false, 4, 0⟩,
   ⟨0x1202, 2, 2, T.U8, 1, 0, 3, false, 1, 0⟩, ⟨0x1210, 1, 1, T.U8, 1, 3, 3, false, 1, 0xFF⟩,
   ⟨0x1210, 2, 2, T.U8, 1, 3, 3, false, 1, 8⟩]

/-- Rows 2000h to 9FFFh of R364. -/
def ownBlocks : List OwnRow :=
  [⟨0x2000, 1, 1, T.U8, 1, 0, 1, true, 1, 0⟩, ⟨0x2010, 1, 1, T.U8, 1, 0, 1, true, 1, 0⟩,
   ⟨0x2010, 2, 2, T.EXEC, 1, 3, 0, false, 1, 0⟩, ⟨0x2011, 1, 8, T.U16, 1, 0, 1, true, 2, 0⟩,
   ⟨0x2020, 1, 1, T.U32, 1, 0, 1, true, 4, 0⟩, ⟨0x2021, 1, 1, T.U32, 1, 0, 1, true, 4, 0⟩,
   ⟨0x4000, 1, 1, T.U8, 1, 3, 3, false, 1, 0x28⟩, ⟨0x4000, 2, 2, T.U8, 1, 3, 3, false, 1, 0x14⟩,
   ⟨0x4010, 1, 8, T.U16, 1, 3, 3, false, 2, 0x4000⟩, ⟨0x4010, 9, 10, T.U16, 1, 3, 3, false, 2, 0x4080⟩,
   ⟨0x9000, 1, 1, T.U8, 1, 0, 1, true, 1, 0⟩, ⟨0x9000, 2, 2, T.U8, 1, 0, 1, false, 1, 0⟩,
   ⟨0x9001, 1, 1, T.EXEC, 1, 3, 0, false, 2, 0⟩, ⟨0x9001, 2, 2, T.EXEC, 1, 3, 0, false, 0, 0⟩,
   ⟨0x9002, 1, 14, T.U16, 1, 0, 1, false, 2, 0⟩]

/-- Rows B000h to DFFFh of R364 and R429. -/
def ownServices : List OwnRow :=
  [⟨0xB000, 1, 1, T.EXEC, 1, 2, 0, true, 32, 0⟩, ⟨0xB000, 2, 2, T.OCTETS, 1, 0, 2, true, 2940, 0⟩,
   ⟨0xB001, 1, 1, T.U16, 1, 0, 1, true, 2, 0⟩, ⟨0xB002, 1, 1, T.EXEC, 1, 4, 0, true, 0, 0⟩,
   ⟨0xB002, 2, 2, T.OCTETS, 4, 4, 2, true, 4096, 0⟩, ⟨0xB002, 3, 3, T.U64, 1, 0, 1, true, 8, 0⟩,
   ⟨0xB010, 0, 255, T.U16, 3, 0, 1, false, 2, 0⟩, ⟨0xC000, 1, 3, T.U32, 1, 0, 1, true, 4, 0⟩,
   ⟨0xD000, 1, 1, T.U8, 1, 3, 3, true, 1, 3⟩, ⟨0xD000, 2, 2, T.U16, 1, 0, 1, true, 2, 0⟩,
   ⟨0xD000, 3, 4, T.EXEC, 1, 3, 0, true, 0, 0⟩, ⟨0xD001, 1, 1, T.U8, 1, 3, 3, true, 1, 1⟩,
   ⟨0xD001, 2, 2, T.U32, 1, 3, 3, true, 4, 0x0253B400⟩, ⟨0xD001, 3, 3, T.U8, 1, 3, 3, true, 1, 0x80⟩,
   ⟨0xD010, 1, 1, T.OCTETS, 3, 3, 2, true, 3020, 0⟩, ⟨0xD010, 2, 2, T.EXEC, 1, 3, 0, true, 0, 0⟩,
   ⟨0xD010, 3, 3, T.OCTETS, 1, 3, 1, true, 1024, 0⟩, ⟨0xD010, 4, 4, T.U32, 1, 0, 1, true, 4, 0⟩,
   ⟨0xD010, 5, 5, T.EXEC, 1, 3, 0, true, 0, 0⟩, ⟨0xD010, 6, 6, T.U8, 1, 0, 1, true, 1, 0⟩,
   ⟨0xD010, 7, 7, T.U16, 1, 0, 1, true, 2, 0⟩, ⟨0xD010, 8, 8, T.U32, 1, 0, 1, true, 4, 0⟩,
   ⟨0xD011, 1, 1, T.EXEC, 1, 4, 0, true, 17, 0⟩, ⟨0xD012, 1, 1, T.U32, 1, 4, 3, true, 4, 0⟩]

/-- The part's own rows beyond the sizes of types. -/
def ownRows : List OwnRow := ownIdentity ++ ownBlocks ++ ownServices

/-- A row as a point. -/
def OwnRow.info (r : OwnRow) : PointInfo where
  type := r.type
  read := r.read
  write := r.write
  cls := r.cls
  kick := r.kick
  size := r.size
  dflt := toOctets (typeSize r.type) r.dflt
  target := none

/-- A record of the function table as a point; an EXEC takes up to its MAXLEN octets. -/
def Point.info (p : Point) : PointInfo where
  type := p.type
  read := p.readRole
  write := p.writeRole
  cls := if p.type = T.EXEC then 0 else p.cls
  kick := false
  size := if typeSize p.type = 0 then p.maxLen else typeSize p.type
  dflt := toOctets (typeSize p.type) p.dflt
  target := some p.target

/-- The point that INDEX and SUB name, or the abort code of R363. -/
def State.point (s : State) (index sub : Nat) : Except Nat PointInfo :=
  if 0xE000 ≤ index then .error Ab.RESERVED_INDEX
  else if 0x0001 ≤ index ∧ index ≤ 0x000C then
    if sub = 0 then .ok ⟨T.U16, 1, 0, 1, true, 2, [], none⟩ else .error Ab.NO_SUCH_SUB
  else if 0x6000 ≤ index ∧ index < 0x9000 then
    match s.dict.points.filter fun p => p.index == index with
    | [] => .error Ab.NO_SUCH_INDEX
    | ps => match ps.find? fun p => p.sub == sub with
      | some p => .ok p.info
      | none => .error Ab.NO_SUCH_SUB
  else
    match ownRows.filter fun r => r.index == index with
    | [] => .error Ab.NO_SUCH_INDEX
    | rs => match rs.find? fun r => r.lo ≤ sub && sub ≤ r.hi with
      | some r => .ok r.info
      | none => .error Ab.NO_SUCH_SUB

/-! ## What a point reads -/

/-- Register behind an own point, as the word address that settles its domain; none where it has none. -/
def pointReg (index sub : Nat) : Option Nat :=
  match index with
  | 0x0100 => if sub = 4 then some A.VLT_DEVID else if sub = 5 then some A.LNK_EXT else none
  | 0x0101 => if sub = 2 then some A.LNK_PANID else if sub = 3 then some A.MSH_CTRL else if sub = 4 then some A.LNK_SHORT
      else none
  | 0x4000 => some (A.RF_TXPWR (if sub = 1 then .A else .B))
  | 0x4010 => some (A.RXE_LANE_CFG (sub - 1))
  | 0x9000 => some A.SEQ_STAT
  | 0x9002 => some (A.SEQ_BRCNT sub)
  | 0xB001 => some A.VLT_LMSQ
  | 0xB010 => some A.VLT_SLOTATTR
  | 0xC000 => some A.JNL_HEAD
  | _ => none

/-- Newest entry accepted. -/
def State.jnlLast (s : State) : Nat := s.jnlHead - 1

/-- The attribute word of slot n as the dictionary reads it. -/
def State.slotAttrOf (s : State) (n : Nat) : Nat :=
  if s.slotBad n then 0 else match s.keySlot n with
    | some k => k.attr.toNat
    | none => 0

/-- Value of a live point of the part's own (R359, R364, R429). -/
def State.liveValue (s : State) (index sub : Nat) : Nat :=
  match index with
  | 0x0100 =>
    if sub = 1 then 0x49535A52 else if sub = 2 then (s.word A.SYS_PART).toNat else if sub = 3 then (s.word A.SYS_STEP).toNat
    else if sub = 4 then s.rdw A.VLT_DEVID 4 else s.rdw A.LNK_EXT 4
  | 0x0102 => if sub = 1 then s.runVersion else hdr s.runHdr 10 2
  | 0x1101 => s.wflAddr
  | 0x2000 => s.rd A.PWR_GEAR 2 0
  | 0x2010 => s.rd A.ENG_RETIRED 7 0
  | 0x2011 => (s.regView (A.ENG_STAT (sub - 1))).toNat
  | 0x2020 => s.rdw (A.PWR_DSTAT 0) 2
  | 0x2021 => s.rdw A.PWR_BANKLOST 2
  | 0x9000 => if sub = 1 then s.rd A.SEQ_STAT 11 10 else s.rd A.SEQ_STAT 9 6
  | 0x9002 => (s.word (A.SEQ_BRCNT sub)).toNat
  | 0xB001 => 32768 - s.rdw A.VLT_LMSQ 2
  | 0xB002 => s.rdw A.VLT_DBGCHAL 4
  | 0xB010 => s.slotAttrOf sub
  | 0xC000 => if sub = 1 then s.jnlLast else if sub = 2 then (if s.jnlLast = 0 then 0 else max 1 (s.jnlLast - 8191))
      else s.rdw A.JNL_DURABLE 2
  | 0xD000 => (s.word A.SYS_STARTREASON).toNat
  | 0xD010 =>
    if sub = 4 then s.upd.received else if sub = 6 then s.upd.stState else if sub = 7 then s.upd.reason
    else if s.upd.stState = 0 then 0 else hdrVersion (s.stagedOctets 0 256)
  | i => typeSize i

/-- Stored value of a session point. -/
def State.sessionValue (s : State) (index sub : Nat) : Option (List Octet) :=
  (s.dict.session.find? fun p => p.index == index && p.sub == sub).map (·.value)

/-- A session point's value is stored. -/
def State.putSession (s : State) (index sub : Nat) (v : List Octet) : State :=
  { s with dict := { s.dict with
    session := s.dict.session.filter (fun p => !(p.index == index && p.sub == sub)) ++ [⟨index, sub, v, 0⟩] } }

/-- State of an EXEC point (R359): 0 idle, 1 running, 2 last run OK, 3 last run failed. -/
def State.execState (s : State) (index sub : Nat) : Nat :=
  if s.dict.execs.any fun e => e.cmd.index == index && e.cmd.sub == sub then 1
  else match s.dict.execLast.find? fun p => p.1 == index && p.2.1 == sub with
    | some p => p.2.2
    | none => 0

/-- Words that a function point takes at its target: a one-octet type takes one word. -/
def PointInfo.words (p : PointInfo) : Nat := (p.size + 1) / 2

/-- n words from an address on as the service reads them. -/
def State.readTarget (s : State) (a : Nat) : Nat → List W16 × State
  | 0 => ([], s)
  | n + 1 =>
    let r := s.readWord .service a
    let t := r.2.2.readTarget (a + 1) n
    (r.1 :: t.1, t.2)

/-- The whole value of a point that can be read. -/
def State.pointValue (s : State) (index sub : Nat) (p : PointInfo) : List Octet × State :=
  if p.type = T.EXEC then (toOctets 1 (s.execState index sub), s)
  else if p.cls = Cl.persistent then ((s.setting index sub).getD p.dflt, s)
  else if p.cls = Cl.session then ((s.sessionValue index sub).getD p.dflt, s)
  else match p.target with
    | some a =>
      let r := s.readTarget a p.words
      ((unpackWords r.1).take p.size, r.2)
    | none => (if p.type = T.OCTETS then [] else toOctets p.size (s.liveValue index sub), s)

/-- The domain of the register or memory behind a point is on (R362). -/
def State.pointOn (s : State) (index sub : Nat) (p : PointInfo) : Bool :=
  match (match p.target with
    | some a => some a
    | none => pointReg index sub) with
  | none => true
  | some a =>
    let d := s.addrDom .service a
    (16 ≤ d.1 || s.on d.1) && !(inSram a && s.bankDown d.1 d.2)

/-! ## Which values a point takes (R361, R364, R429) -/

/-- Abort code of a value of an own point at check 9 of R372, 0 if it is taken. -/
def State.valueCode (s : State) (index sub v : Nat) : Nat :=
  match index with
  | 0x0101 =>
    if sub = 2 then (if v = 0xFFFF then Ab.VALUE_RESERVED else 0)
    else if sub = 3 then (if v = 0xFF then Ab.VALUE_RESERVED else 0)
    else if sub = 4 then (if v = 0 then Ab.VALUE_RESERVED else 0)
    else 0
  | 0x1100 => if v = 0 ∨ 0x10 ≤ v then 0 else Ab.VALUE_RESERVED
  | 0x1200 => if v ≤ 4 then 0 else Ab.VALUE_RESERVED
  | 0x1210 => if sub = 2 ∧ 15 < v then Ab.VALUE_RANGE else 0
  | 0x4000 => if v ≤ (if sub = 1 then 72 else 30) then 0 else Ab.VALUE_RESERVED
  | 0x4010 =>
    let k := sub - 1
    match findReg (A.RXE_LANE_CFG k) with
    | some (r, j, _) => if r.fields.all fun f => s.encOk r j f v then 0 else Ab.VALUE_RESERVED
    | none => 0
  | 0xD000 => if 2 ≤ v ∧ v ≤ 7 then 0 else Ab.VALUE_RANGE
  | 0xD001 =>
    if sub = 1 then (if v ≤ 1 then 0 else Ab.VALUE_RANGE)
    else if sub = 3 then
      let c : Chain := if ofOctets ((s.setting 0xD001 1).getD [1]) = 0 then .A else .B
      if modeOn c v then 0 else Ab.VALUE_RESERVED
    else 0
  | 0xD012 => if ofOctets ((s.setting 0xD012 1).getD []) ≤ v then 0 else Ab.VALUE_RANGE
  | _ => 0

/-- The register behind the point is RWL, and so locked while a sheet is committed (R378). -/
def rwlPoint (index sub : Nat) (p : PointInfo) : Bool :=
  match (match p.target with
    | some a => some a
    | none => pointReg index sub) with
  | none => false
  | some a =>
    if index = 0x0101 then 2 ≤ sub
    else match findReg a with
      | some (r, _, w) => r.fields.any fun f => f.acc == .rwl && f.lo / 16 ≤ w && w ≤ f.hi / 16
      | none => false

/-! ## How a value takes effect -/

/-- A register or memory word written by the service: whether the block took it (R25, R379). -/
def State.serviceWrite (s : State) (a : Nat) (v : W16) : Bool × State :=
  match windowOf a with
  | none =>
    let r := s.writeWord .service a v
    (!r.1, r.2)
  | some w =>
    let old := s.flag (A.FLAGS w) 0
    let r := (s.setFlag (A.FLAGS w) 0 false).writeWord .service a v
    let bad := r.2.flag (A.FLAGS w) 0
    (!bad && !r.1, r.2.setFlag (A.FLAGS w) 0 (old || bad))

/-- Words written from an address on; whether all were taken. -/
def State.serviceWrites (s : State) (a : Nat) : List W16 → Bool × State
  | [] => (true, s)
  | v :: t =>
    let r := s.serviceWrite a v
    let q := r.2.serviceWrites (a + 1) t
    (r.1 && q.1, q.2)

/-- EN as a write that keeps it gives it: 10b is no value to write. -/
def keepEn (w : Nat) : Nat := if bits w 15 14 = 2 then putBits w 15 14 0 else w

/-- Words that a function point's value becomes at its target. -/
def valueWords (p : PointInfo) (v : List Octet) : List W16 :=
  if p.size = 1 then
    let x := ofOctets v
    [if p.type = 6 then BitVec.ofInt 16 (signed 8 x) else BitVec.ofNat 16 x]
  else packOctets v

/-- A value reaches the register or target behind its point, whose domain is on. -/
def State.applyPoint (s : State) (index sub : Nat) (p : PointInfo) (v : List Octet) : Bool × State :=
  let x := ofOctets v
  match p.target with
  | some a => s.serviceWrites a (valueWords p v)
  | none => match index with
    | 0x0101 =>
      if sub = 2 then s.serviceWrite A.LNK_PANID (BitVec.ofNat 16 x)
      else if sub = 3 then
        s.serviceWrite A.MSH_CTRL (BitVec.ofNat 16 (putBits (keepEn (s.word A.MSH_CTRL).toNat) 7 0 x))
      else if sub = 4 then s.serviceWrite A.LNK_SHORT (BitVec.ofNat 16 x)
      else (true, s)
    | 0x4000 =>
      let a := A.RF_TXPWR (if sub = 1 then .A else .B)
      s.serviceWrite a (BitVec.ofNat 16 (putBits (s.word a).toNat 6 0 x))
    | 0x4010 => s.serviceWrite (A.RXE_LANE_CFG (sub - 1)) (BitVec.ofNat 16 x)
    | _ => (true, s)

/-- Persistent points of the part's own that have a register. -/
def ownSettings : List (Nat × Nat) :=
  [(0x0101, 2), (0x0101, 3), (0x0101, 4), (0x4000, 1), (0x4000, 2)] ++ (List.range 10).map fun k => (0x4010, k + 1)

/-- All persistent points with a register or target. -/
def State.settingPoints (s : State) : List (Nat × Nat) :=
  ownSettings ++ (s.dict.points.filter fun p => p.cls == Cl.persistent && p.type != T.EXEC).map fun p => (p.index, p.sub)

/-- One persistent point is applied (R361): its stored value, or its default where none is stored. -/
def State.applySetting (s : State) (i : Nat × Nat) : State :=
  match s.point i.1 i.2 with
  | .error _ => s
  | .ok p =>
    if !s.pointOn i.1 i.2 p || (s.committed && rwlPoint i.1 i.2 p) then s
    else
      let s := { s with dict := { s.dict with unapplied := s.dict.unapplied.erase i } }
      (s.applyPoint i.1 i.2 p ((s.setting i.1 i.2).getD p.dflt)).2

/-- Domain of the register or target behind a point. -/
def State.pointDom (s : State) (i : Nat × Nat) : Nat :=
  match s.point i.1 i.2 with
  | .error _ => 16
  | .ok p => match (match p.target with
      | some a => some a
      | none => pointReg i.1 i.2) with
    | some a => (s.addrDom .service a).1
    | none => 16


/-- Settings at a wake of domain d: every persistent point from off, and from retention those written while the
domain was not on (R361, R362). The service, on E0, does it. -/
def State.applyAtWake (s : State) (d : Nat) (fromOff : Bool) : State :=
  if !s.serves then s
  else (s.settingPoints.filter fun i => s.pointDom i == d && (fromOff || s.dict.unapplied.contains i)).foldl
    (fun s i => s.applySetting i) s

/-- Settings at a start (R361). -/
def State.applyAll (s : State) : State := s.settingPoints.foldl (fun s i => s.applySetting i) s

end Sys2Proof.Machine
end

