-- ==== Sys2Proof/Machine/Flags.lean ====
section
/-!
DEFINITION. The values and flags that the A and M units compute (R102, R103): sums and differences with carry,
borrow and overflow, saturation, shifts and rotates, products, and 40-bit accumulator arithmetic.
-/
namespace Sys2Proof.Machine

/-- What an A syllable computes: the value for its destination, the flags it writes (mask and value) and the sticky
flags it raises. -/
structure AluOut where
  res : Option W16
  mask : W16
  val : W16
  sticky : W16
deriving DecidableEq, Repr

/-- Bits of c0 FLAGS (R92). -/
def flagC : Nat := 1
def flagV : Nat := 2
def flagN : Nat := 4
def flagZ : Nat := 8
def flagSAT : Nat := 16
def flagAOV : Nat := 32

/-- A value with no flag. -/
def plain (v : W16) : AluOut := ⟨some v, 0, 0, 0⟩

/-- N and Z of a result. -/
def nzOf (v : W16) : Nat := v.msb.toNat * flagN + (decide (v = 0)).toNat * flagZ

/-- A value with N and Z. -/
def withNZ (v : W16) : AluOut := ⟨some v, BitVec.ofNat 16 (flagN + flagZ), BitVec.ofNat 16 (nzOf v), 0⟩

/-- A value with C, V, N and Z. -/
def withCVNZ (v : W16) (c o : Bool) : AluOut :=
  ⟨some v, BitVec.ofNat 16 (flagC + flagV + flagN + flagZ),
    BitVec.ofNat 16 (nzOf v + c.toNat * flagC + o.toNat * flagV), 0⟩

/-- The signed value lies outside 16 bits. -/
def out16 (x : Int) : Bool := decide (x < -32768) || decide (32767 < x)

/-- Saturation to 16 signed bits. -/
def sat16 (x : Int) : W16 := BitVec.ofInt 16 (clampInt (-32768) 32767 x)

/-- A saturated value with N, Z and SAT. -/
def withSat (x : Int) : AluOut := { withNZ (sat16 x) with sticky := BitVec.ofNat 16 ((out16 x).toNat * flagSAT) }

/-- Addition with a carry in: C is the carry out of bit 15. -/
def addFlags (x y : W16) (c : Bool) : AluOut :=
  withCVNZ (BitVec.ofNat 16 (x.toNat + y.toNat + c.toNat)) (decide (65536 ≤ x.toNat + y.toNat + c.toNat))
    (out16 (x.toInt + y.toInt + c.toNat))

/-- Subtraction with a borrow in: C is the borrow. -/
def subFlags (x y : W16) (c : Bool) : AluOut :=
  withCVNZ (BitVec.ofInt 16 ((x.toNat : Int) - y.toNat - c.toNat)) (decide (x.toNat < y.toNat + c.toNat))
    (out16 (x.toInt - y.toInt - c.toNat))

/-- A truth value as a word. -/
def boolWord (b : Bool) : W16 := if b then 1 else 0

/-- Leading zeros of a word, 0 to 16. -/
def clz16 (v : W16) : W16 := BitVec.ofNat 16 ((List.range 16).findIdx fun i => v.getLsbD (15 - i))

/-- Number of ones of a word. -/
def popc16 (v : W16) : W16 := BitVec.ofNat 16 ((List.range 16).filter fun i => v.getLsbD i).length

/-- Operations of format AR (R102). -/
inductive ArOp where
  | add | adc | sub | sbc | adds | subs | and | or | xor | andn | shl | shr | sar | rol | min | max | minu | maxu
  | abs | neg | cmpeq | cmpne | cmplt | cmpltu | movz | movnz | pack | unpkl | unpkh | swapb | sexb | clz | popc
deriving DecidableEq, Repr

/-- Operations of format AI (R102). -/
inductive AiOp where
  | addi | andi | ori | xori | shli | shri | sari | cmpeqi | cmplti
deriving DecidableEq, Repr

/-- An AR operation on s and t with the carry flag (R102). -/
def ArOp.eval (op : ArOp) (s t : W16) (c : Bool) : AluOut :=
  match op with
  | .add => addFlags s t false
  | .adc => addFlags s t c
  | .sub => subFlags s t false
  | .sbc => subFlags s t c
  | .adds => withSat (s.toInt + t.toInt)
  | .subs => withSat (s.toInt - t.toInt)
  | .and => withNZ (s &&& t)
  | .or => withNZ (s ||| t)
  | .xor => withNZ (s ^^^ t)
  | .andn => withNZ (s &&& ~~~t)
  | .shl => withNZ (s <<< (t.toNat % 32))
  | .shr => withNZ (s >>> (t.toNat % 32))
  | .sar => withNZ (s.sshiftRight (t.toNat % 32))
  | .rol => withNZ (s.rotateLeft (t.toNat % 16))
  | .min => plain (if s.slt t then s else t)
  | .max => plain (if s.slt t then t else s)
  | .minu => plain (if s.ult t then s else t)
  | .maxu => plain (if s.ult t then t else s)
  | .abs => withSat (if s.msb then -s.toInt else s.toInt)
  | .neg => subFlags 0 s false
  | .cmpeq => plain (boolWord (s == t))
  | .cmpne => plain (boolWord (s != t))
  | .cmplt => plain (boolWord (s.slt t))
  | .cmpltu => plain (boolWord (s.ult t))
  | .movz => if t = 0 then plain s else ⟨none, 0, 0, 0⟩
  | .movnz => if t = 0 then ⟨none, 0, 0, 0⟩ else plain s
  | .pack => plain ((t <<< 8) ||| (s &&& 0xFF))
  | .unpkl => plain (s &&& 0xFF)
  | .unpkh => plain (s >>> 8)
  | .swapb => plain ((s <<< 8) ||| (s >>> 8))
  | .sexb => plain ((s.setWidth 8).signExtend 16)
  | .clz => plain (clz16 s)
  | .popc => plain (popc16 s)

/-- An AI operation on s and IMM12 (R100, R102). -/
def AiOp.eval (op : AiOp) (s : W16) (imm : BitVec 12) : AluOut :=
  let x : W16 := imm.signExtend 16
  let z : W16 := imm.setWidth 16
  match op with
  | .addi => addFlags s x false
  | .andi => withNZ (s &&& z)
  | .ori => withNZ (s ||| z)
  | .xori => withNZ (s ^^^ z)
  | .shli => withNZ (s <<< (imm.toNat % 16))
  | .shri => withNZ (s >>> (imm.toNat % 16))
  | .sari => withNZ (s.sshiftRight (imm.toNat % 16))
  | .cmpeqi => plain (boolWord (s == x))
  | .cmplti => plain (boolWord (s.slt x))

/-! ## The M unit (R103) -/

/-- Operations of the M unit. -/
inductive MOp where
  | mul | mulh | mulhu | mulq | mpy | mac | msu | macu | macq | aclr | ashl | ashr | aadd | ald | aext | aextl | aexth
  | aextg
deriving DecidableEq, Repr

/-- What an M syllable computes: a word for g[D], a new accumulator, and the sticky flags it raises. -/
structure MulOut where
  res : Option W16
  acc : Option (BitVec 40)
  sticky : W16
deriving DecidableEq, Repr

/-- A word and no accumulator. -/
def mWord (v : W16) : MulOut := ⟨some v, none, 0⟩

/-- A saturated word with SAT. -/
def mSat (x : Int) : MulOut := ⟨some (sat16 x), none, BitVec.ofNat 16 ((out16 x).toNat * flagSAT)⟩

/-- An accumulator from a true result, with AOV where it lies outside the signed 40-bit range. -/
def mAcc (x : Int) : MulOut :=
  ⟨none, some (BitVec.ofInt 40 x),
    BitVec.ofNat 16 ((decide (x < -(2 ^ 39 : Int)) || decide ((2 ^ 39 : Int) ≤ x)).toNat * flagAOV)⟩

/-- The rounding term of AEXT. -/
def aextRound (imm : Nat) (truncate : Bool) : Int := if imm = 0 || truncate then 0 else ((2 ^ (imm - 1) : Nat) : Int)

/-- An M operation on s, t, the named accumulator, IMM5, the accumulator that IMM5[1:0] names, and RNDM (R103). -/
def MOp.eval (op : MOp) (s t : W16) (acc : BitVec 40) (imm : BitVec 5) (other : BitVec 40) (truncate : Bool) : MulOut :=
  let p : Int := s.toInt * t.toInt
  match op with
  | .mul => mWord (BitVec.ofInt 16 p)
  | .mulh => mWord (BitVec.ofInt 16 (p / 65536))
  | .mulhu => mWord (BitVec.ofNat 16 (s.toNat * t.toNat / 65536))
  | .mulq => mSat ((p + 0x4000) / 32768)
  | .mpy => mAcc p
  | .mac => mAcc (acc.toInt + p)
  | .msu => mAcc (acc.toInt - p)
  | .macu =>
    let x := acc.toNat + s.toNat * t.toNat
    ⟨none, some (BitVec.ofNat 40 x), BitVec.ofNat 16 ((decide (2 ^ 40 ≤ x)).toNat * flagAOV)⟩
  | .macq => mAcc (acc.toInt + p * 2)
  | .aclr => ⟨none, some 0, 0⟩
  | .ashl => mAcc (acc.toInt * ((2 ^ imm.toNat : Nat) : Int))
  | .ashr => ⟨none, some (acc.sshiftRight imm.toNat), 0⟩
  | .aadd => mAcc (acc.toInt + other.toInt)
  | .ald => ⟨none, some ((t ++ s).signExtend 40), 0⟩
  | .aext => mSat ((acc.toInt + aextRound imm.toNat truncate) / ((2 ^ imm.toNat : Nat) : Int))
  | .aextl => mWord (acc.setWidth 16)
  | .aexth => mWord ((acc >>> 16).setWidth 16)
  | .aextg => mWord (((acc >>> 32).setWidth 8).signExtend 16)

end Sys2Proof.Machine
end

