-- ==== Sys2Proof/Machine/Operands.lean ====
section
/-!
DEFINITION. Syllables and bundles (R94 to R96, R100, R101, R117): the payload formats, what is reserved in them, the
bundle at an address, and effective addresses.
-/
namespace Sys2Proof.Machine

/-- A syllable of the A unit (R102). -/
inductive ASyl where
  | nop
  | ar (op : ArOp) (d s t : BitVec 5)
  | ai (op : AiOp) (d s : BitVec 5) (imm : BitVec 12)
  | movi (d : BitVec 5) (imm : W16)
  | movc (d : BitVec 5) (cr : BitVec 4)
  | movtc (s : BitVec 5) (cr : BitVec 4)
deriving DecidableEq, Repr

/-- A syllable of the L unit (R104). -/
inductive LSyl where
  | la (a : BitVec 3) (imm : Addr)
  | ld (g : BitVec 5) (a : BitVec 3) (mode : BitVec 2) (imm : BitVec 12)
  | st (g : BitVec 5) (a : BitVec 3) (mode : BitVec 2) (imm : BitVec 12)
  | ldim (g s : BitVec 5)
  | ada (a b : BitVec 3) (imm : W16)
  | movga (a : BitVec 3) (s t : BitVec 5)
  | movag (g : BitVec 5) (a : BitVec 3) (h : Bool)
deriving DecidableEq, Repr

/-- A syllable of the B unit (R108). -/
inductive BSyl where
  | br (target : BitVec 14)
  | bz (g : BitVec 5) (target : BitVec 14)
  | bnz (g : BitVec 5) (target : BitVec 14)
  | bltz (g : BitVec 5) (target : BitVec 14)
  | bgez (g : BitVec 5) (target : BitVec 14)
  | bdec (g : BitVec 5) (target : BitVec 14)
  | call (target : BitVec 14)
  | jr (g : BitVec 5)
  | trap (code : Octet)
  | rett
  | tend
  | brk
deriving DecidableEq, Repr

/-- A syllable of the Q unit (R107). -/
inductive QSyl where
  | qavl (g : BitVec 5) (ring : BitVec 6)
  | qspace (g : BitVec 5) (ring : BitVec 6)
  | qhead (a : BitVec 3) (ring : BitVec 6)
  | qtail (a : BitVec 3) (ring : BitVec 6)
  | qpost (ring : BitVec 6) (n : BitVec 11)
  | qfetch (ring : BitVec 6) (n : BitVec 11)
  | qevt (n : BitVec 2)
deriving DecidableEq, Repr

/-- A syllable by unit (R94). -/
inductive Syll where
  | a (x : ASyl)
  | m (op : MOp) (d s t : BitVec 5) (ac : BitVec 2) (imm : BitVec 5)
  | l (x : LSyl)
  | b (x : BSyl)
  | q (x : QSyl)
deriving DecidableEq, Repr

/-! ## Field values that are reserved (R117) -/

/-- MODE 11b, and MODE 10b with IMM12[11:5] not 0, are reserved (R101). -/
def modeOk (mode : BitVec 2) (imm : BitVec 12) : Bool := mode != 3 && (mode != 2 || decide (imm.toNat < 32))

/-- A TARGET at or above 3000h is reserved (R108). -/
def targetOk (t : BitVec 14) : Bool := decide (t.toNat < 0x3000)

/-- N of QPOST and QFETCH is 1 to 1,024 (R107). -/
def countOk (n : BitVec 11) : Bool := decide (1 ≤ n.toNat) && decide (n.toNat ≤ 1024)

/-- No field of the syllable holds a reserved value (R117). -/
def Syll.ok : Syll → Bool
  | .a (.ai .shli _ _ imm) => decide (imm.toNat < 16)
  | .a (.ai .shri _ _ imm) => decide (imm.toNat < 16)
  | .a (.ai .sari _ _ imm) => decide (imm.toNat < 16)
  | .a (.movc _ cr) => decide (cr.toNat < 14)
  | .a (.movtc _ cr) => decide (cr.toNat < 14)
  | .m .ashl _ _ _ _ imm => imm != 0
  | .m .ashr _ _ _ _ imm => imm != 0
  | .m .aadd _ _ _ _ imm => decide (imm.toNat < 4)
  | .l (.ld _ _ mode imm) => modeOk mode imm
  | .l (.st _ _ mode imm) => modeOk mode imm
  | .b (.br t) => targetOk t
  | .b (.bz _ t) => targetOk t
  | .b (.bnz _ t) => targetOk t
  | .b (.bltz _ t) => targetOk t
  | .b (.bgez _ t) => targetOk t
  | .b (.bdec _ t) => targetOk t
  | .b (.call t) => targetOk t
  | .q (.qpost _ n) => countOk n
  | .q (.qfetch _ n) => countOk n
  | _ => true

/-! ## Payloads (R100) -/

/-- Bits hi..lo of a syllable. -/
def Syl.field (w : Syl) (hi lo : Nat) : Nat := bits w.toNat hi lo

/-- Five bits from bit lo on. -/
def Syl.r (w : Syl) (lo : Nat) : BitVec 5 := BitVec.ofNat 5 (Syl.field w (lo + 4) lo)

/-- Three bits from bit lo on. -/
def Syl.a3 (w : Syl) (lo : Nat) : BitVec 3 := BitVec.ofNat 3 (Syl.field w (lo + 2) lo)

/-- AR operations in the order of their opcodes 01h to 21h. -/
def arOps : List ArOp :=
  [.add, .adc, .sub, .sbc, .adds, .subs, .and, .or, .xor, .andn, .shl, .shr, .sar, .rol, .min, .max]
  ++ [.minu, .maxu, .abs, .neg, .cmpeq, .cmpne, .cmplt, .cmpltu, .movz, .movnz, .pack, .unpkl, .unpkh, .swapb, .sexb,
      .clz, .popc]

/-- AI operations in the order of their opcodes 28h to 30h. -/
def aiOps : List AiOp := [.addi, .andi, .ori, .xori, .shli, .shri, .sari, .cmpeqi, .cmplti]

/-- Operations whose T is must-be-zero. -/
def ArOp.oneSource : ArOp → Bool
  | .abs => true
  | .neg => true
  | .unpkl => true
  | .unpkh => true
  | .swapb => true
  | .sexb => true
  | .clz => true
  | .popc => true
  | _ => false

/-- Payload of an A syllable. -/
def decodeA (w : Syl) : Option ASyl :=
  let op := Syl.field w 27 22
  if op = 0 then (if Syl.field w 27 0 = 0 then some .nop else none)
  else if op ≤ 0x21 then
    match arOps[op - 1]? with
    | none => none
    | some o =>
      if Syl.field w 6 0 ≠ 0 || (o.oneSource && Syl.field w 11 7 ≠ 0) then none
      else some (.ar o (Syl.r w 17) (Syl.r w 12) (Syl.r w 7))
  else if 0x28 ≤ op ∧ op ≤ 0x30 then
    (aiOps[op - 0x28]?).map fun o => .ai o (Syl.r w 17) (Syl.r w 12) (BitVec.ofNat 12 (Syl.field w 11 0))
  else if op = 0x38 then
    if Syl.field w 16 16 ≠ 0 then none else some (.movi (Syl.r w 17) (BitVec.ofNat 16 (Syl.field w 15 0)))
  else if op = 0x39 then
    if Syl.field w 16 12 ≠ 0 || Syl.field w 7 0 ≠ 0 then none
    else some (.movc (Syl.r w 17) (BitVec.ofNat 4 (Syl.field w 11 8)))
  else if op = 0x3A then
    if Syl.field w 21 17 ≠ 0 || Syl.field w 7 0 ≠ 0 then none
    else some (.movtc (Syl.r w 12) (BitVec.ofNat 4 (Syl.field w 11 8)))
  else none

/-- M opcodes with the fields that the operation names: D, S and T, AC, IMM5. -/
def mOps : List (Nat × MOp × Bool × Bool × Bool × Bool) :=
  [(0x01, .mul, true, true, false, false), (0x02, .mulh, true, true, false, false),
   (0x03, .mulhu, true, true, false, false), (0x04, .mulq, true, true, false, false),
   (0x08, .mpy, false, true, true, false), (0x09, .mac, false, true, true, false),
   (0x0A, .msu, false, true, true, false), (0x0B, .macu, false, true, true, false),
   (0x0C, .macq, false, true, true, false), (0x10, .aclr, false, false, true, false),
   (0x11, .ashl, false, false, true, true), (0x12, .ashr, false, false, true, true),
   (0x13, .aadd, false, false, true, true), (0x14, .ald, false, true, true, false),
   (0x18, .aext, true, false, true, true), (0x19, .aextl, true, false, true, false),
   (0x1A, .aexth, true, false, true, false), (0x1B, .aextg, true, false, true, false)]

/-- Payload of an M syllable. -/
def decodeM (w : Syl) : Option Syll :=
  match mOps.find? fun e => e.1 == Syl.field w 27 22 with
  | none => none
  | some (_, op, d, st, ac, imm) =>
    if (!d && Syl.field w 21 17 ≠ 0) || (!st && Syl.field w 16 7 ≠ 0) || (!ac && Syl.field w 6 5 ≠ 0)
        || (!imm && Syl.field w 4 0 ≠ 0) then none
    else some (.m op (Syl.r w 17) (Syl.r w 12) (Syl.r w 7) (BitVec.ofNat 2 (Syl.field w 6 5)) (Syl.r w 0))

/-- Payload of an L syllable. -/
def decodeL (w : Syl) : Option LSyl :=
  if Syl.field w 27 27 = 1 then some (.la (Syl.a3 w 24) (BitVec.ofNat 24 (Syl.field w 23 0)))
  else match Syl.field w 26 22 with
    | 1 => some (.ld (Syl.r w 17) (Syl.a3 w 14) (BitVec.ofNat 2 (Syl.field w 13 12)) (BitVec.ofNat 12 (Syl.field w 11 0)))
    | 2 => some (.st (Syl.r w 17) (Syl.a3 w 14) (BitVec.ofNat 2 (Syl.field w 13 12)) (BitVec.ofNat 12 (Syl.field w 11 0)))
    | 3 => if Syl.field w 11 0 = 0 then some (.ldim (Syl.r w 17) (Syl.r w 12)) else none
    | 4 => some (.ada (Syl.a3 w 19) (Syl.a3 w 16) (BitVec.ofNat 16 (Syl.field w 15 0)))
    | 5 => if Syl.field w 8 0 = 0 then some (.movga (Syl.a3 w 19) (Syl.r w 14) (Syl.r w 9)) else none
    | 6 => if Syl.field w 12 0 = 0 then some (.movag (Syl.r w 17) (Syl.a3 w 14) (decide (Syl.field w 13 13 = 1))) else none
    | _ => none

/-- Payload of a B syllable. -/
def decodeB (w : Syl) : Option BSyl :=
  let g := Syl.r w 17
  let t := BitVec.ofNat 14 (Syl.field w 13 0)
  if Syl.field w 16 14 ≠ 0 then none
  else match Syl.field w 27 22 with
    | 1 => if g = 0 then some (.br t) else none
    | 2 => some (.bz g t)
    | 3 => some (.bnz g t)
    | 4 => some (.bltz g t)
    | 5 => some (.bgez g t)
    | 6 => some (.bdec g t)
    | 7 => if g = 0 then some (.call t) else none
    | 8 => if t = 0 then some (.jr g) else none
    | 9 => if g = 0 ∧ t.toNat < 256 then some (.trap (t.setWidth 8)) else none
    | 10 => if g = 0 ∧ t = 0 then some .rett else none
    | 11 => if g = 0 ∧ t = 0 then some .tend else none
    | 12 => if g = 0 ∧ t = 0 then some .brk else none
    | _ => none

/-- Payload of a Q syllable. -/
def decodeQ (w : Syl) : Option QSyl :=
  let g := Syl.r w 17
  let ring := BitVec.ofNat 6 (Syl.field w 16 11)
  let n := BitVec.ofNat 11 (Syl.field w 10 0)
  match Syl.field w 27 22 with
  | 1 => if n = 0 then some (.qavl g ring) else none
  | 2 => if n = 0 then some (.qspace g ring) else none
  | 3 => if n = 0 ∧ g.toNat < 8 then some (.qhead (g.setWidth 3) ring) else none
  | 4 => if n = 0 ∧ g.toNat < 8 then some (.qtail (g.setWidth 3) ring) else none
  | 5 => if g = 0 then some (.qpost ring n) else none
  | 6 => if g = 0 then some (.qfetch ring n) else none
  | 7 => if g = 0 ∧ ring = 0 ∧ n.toNat < 4 then some (.qevt (n.setWidth 2)) else none
  | _ => none

/-- A syllable, none where its tag, opcode, a field value or a must-be-zero bit is reserved (R117). -/
def decodeSyl (w : Syl) : Option Syll :=
  let x : Option Syll := match Syl.field w 30 28 with
    | 0 => (decodeA w).map Syll.a
    | 1 => decodeM w
    | 2 => (decodeL w).map Syll.l
    | 3 => (decodeB w).map Syll.b
    | 4 => (decodeQ w).map Syll.q
    | _ => none
  x.filter Syll.ok

/-! ## Bundles (R95, R96) -/

/-- Place of a syllable's unit in the canonical order. -/
def Syll.rank : Syll → Nat
  | .a _ => 0
  | .m .. => 1
  | .l _ => 2
  | .b _ => 3
  | .q _ => 4

/-- What a bundle's fetch finds: its syllables up to the first that is reserved or breaks the bundle rule, how many were
fetched, a double-bit error among them, the index of that first one, whether the bundle runs into syllable address 3000h
without a stop, and the syllables behind that first one that decode. One with a double-bit error is in neither list. -/
structure Fetch where
  syls : List Syll
  size : Nat
  memerr : Bool
  undef : Option Nat
  beyond : Bool
  more : List Syll
deriving DecidableEq, Repr

/-- Whether a syllable may follow in the bundle: canonical order, two A at most and one of each other (R95). -/
def mayFollow (before : List Syll) (x : Syll) : Bool :=
  before.all (fun y => decide (y.rank < x.rank) || (y.rank == 0 && x.rank == 0))
    && decide ((before.filter fun y => y.rank == x.rank).length < (if x.rank = 0 then 2 else 1))

/-- The bundle from syllable address pc on: `rd` reads a syllable and says whether it has a double-bit error. -/
def fetchFrom (rd : Nat → Syl × Bool) (pc : Nat) : (fuel : Nat) → Fetch → Fetch
  | 0, f => if f.undef.isNone then { f with undef := some 5 } else f
  | fuel + 1, f =>
    let a := pc + f.size
    if 0x3000 ≤ a then { f with beyond := true }
    else
      let w := rd a
      let f := { f with memerr := f.memerr || w.2 }
      let f := if w.2 then { f with size := f.size + 1 }
        else if f.undef.isSome then { f with size := f.size + 1, more := f.more ++ (decodeSyl w.1).toList }
        else match decodeSyl w.1 with
          | none => { f with undef := some f.size, size := f.size + 1 }
          | some x =>
            if mayFollow f.syls x then { f with syls := f.syls ++ [x], size := f.size + 1 }
            else { f with undef := some f.size, size := f.size + 1 }
      if w.1.msb then f else fetchFrom rd pc fuel f

/-- The bundle at pc. -/
def fetchBundle (rd : Nat → Syl × Bool) (pc : Nat) : Fetch := fetchFrom rd pc 6 ⟨[], 0, false, none, false, []⟩

/-- A bundle of one syllable, as it is fetched. -/
def fetchOne (x : Syll) : Fetch := ⟨[x], 1, false, if x.ok then none else some 0, false, []⟩

/-! ## Effective addresses (R101) -/

/-- EA of an LM syllable. -/
def effAddr (b : Bank) (a : BitVec 3) (mode : BitVec 2) (imm : BitVec 12) : Addr :=
  let base := b.a[a.toNat]
  if mode = 1 then base
  else if mode = 2 then base + (b.g[imm.toNat % 32]).setWidth 24
  else base + imm.signExtend 24

/-- The address register as an LM syllable leaves it, in MODE 01b. -/
def postIncrement (b : Bank) (a : BitVec 3) (mode : BitVec 2) (imm : BitVec 12) : List Flight :=
  if mode = 1 then [⟨1, .a a (b.a[a.toNat] + imm.signExtend 24)⟩] else []

end Sys2Proof.Machine
end

