-- ==== Sys2Proof/Machine/Spoke.lean ====
section
/-!
DEFINITION. An engine's cycle (R91 to R116): what lands, what traps, the bundle that issues, its accesses through the
crossbar, the commit buffer and the register windows, stalls and how they end, TEND and the drain of a buffer.
-/
namespace Sys2Proof.Machine

/-! ## Banks and their users (R66, R91, R93) -/

/-- The register bank of a runner. -/
def State.bankOfWho (s : State) : Initiator → Bank
  | .engine k => (s.engine k).bank
  | _ => s.svc

/-- The register bank of a runner replaced. -/
def State.setBankOf (s : State) (who : Initiator) (b : Bank) : State :=
  match who with
  | .engine k => s.setEngine k { s.engine k with bank := b }
  | _ => { s with svc := b }

/-- Engine that a runner runs on. -/
def engineOf : Initiator → Fin 8
  | .engine k => k
  | _ => 0

/-- The task of a runner; the service has none. -/
def State.taskOfWho (s : State) : Initiator → Option Task
  | .engine k => (s.engine k).task
  | _ => none

/-- Who issues bundles on engine k: its task, or on E0 the service (R66). A halted engine, one in a self-test and one
whose domain is not on issue nothing. -/
def State.runner (s : State) (k : Fin 8) : Option Initiator :=
  if !s.on k.val || (s.engine k).halted || s.selfTest == some k then none
  else match (s.engine k).task with
    | some _ => some (.engine k)
    | none => if k = 0 && s.svcRun then some .service else none

/-- The run's effects are buffered (R75). -/
def State.buffered (s : State) (who : Initiator) : Bool :=
  match s.taskOfWho who with
  | some t => t.buffered
  | none => false

/-- The partner of a pair in lockstep: the primary's port issues each access for both (R73). -/
def State.mirrors (s : State) (who : Initiator) : Bool :=
  match s.taskOfWho who with
  | some t => t.mate.isSome && t.lockstep && !t.primary
  | none => false

/-- Port through which a runner's access goes (R27, R73). -/
def State.portOf (s : State) (who : Initiator) : Nat :=
  match s.taskOfWho who with
  | some t => match t.mate with
    | some q => if t.lockstep && !t.primary then q.val else (engineOf who).val
    | none => (engineOf who).val
  | none => (engineOf who).val

/-- A runner stalls while an access of its own waits (R97). -/
def State.stalledWho (s : State) (who : Initiator) : Bool := s.waits.any fun w => w.who == who

/-! ## Fabric cycles and grant slots (R68 to R72) -/

/-- adv fabric cycles pass: the phase counts while the PD8 base is on. -/
def State.cycles (s : State) (adv : BitVec 4) : State :=
  if adv = 0 then s
  else { s with phase := if s.on 8 then s.phase + adv else s.phase, xbarUsed := [], drainUsed := [] }

/-- A bank serves an access in this cycle. -/
def State.takeBank (s : State) (bank : Nat) : State := { s with xbarUsed := bank :: s.xbarUsed }

/-- How `xbarUsed` counts a runner's use of a bank: the partner in lockstep rides on the primary's access, and its own
are counted from 32 on (R73). -/
def State.useOf (s : State) (who : Initiator) (bank : Nat) : Nat := if s.mirrors who then 32 + bank else bank

/-- A runner's record for an access outside its slot: none for the service (R66), nor for the partner of a pair
(R73, R74). -/
def State.offSlotOf (s : State) (who : Initiator) : State :=
  match s.taskOfWho who with
  | none => s
  | some t =>
    if t.mate.isSome && !t.primary then s
    else s.offSlot (some (t.lap, t.index)) (if t.third then 0 else t.task.toNat)

/-- An access to a bank of shared SRAM issues (R18, R70): served in its slot, or kept until it is served. -/
def State.xbar (s : State) (who : Initiator) (a : Nat) (kind : AccessKind) : Bool × State :=
  let port := s.portOf who
  let bank := bankOf a
  let r := s.reach 8 bank true Win.RING port
  match r.1 with
  | .waits => (false, { r.2 with waits := r.2.waits ++ [⟨who, port, a, kind, some 8, bank⟩] })
  | .closed => (true, r.2)
  | .served =>
    if s.slotCode bank = port ∧ !s.drainUsed.contains port ∧ !s.xbarUsed.contains (s.useOf who bank) then
      (true, r.2.takeBank (s.useOf who bank))
    else (false, { (r.2.offSlotOf who) with waits := r.2.waits ++ [⟨who, port, a, kind, none, bank⟩] })

/-- An access to a register window or to MRAM (R99): served, or kept until its domain is on. -/
def State.windowAccess (s : State) (who : Initiator) (a : Nat) (kind : AccessKind) : Bool × State :=
  let port := s.portOf who
  let d := s.addrDom who a
  let r := s.reach d.1 d.2 false (blockOf a) port
  match r.1 with
  | .waits => (false, { r.2 with waits := r.2.waits ++ [⟨who, port, a, kind, some d.1, d.2⟩] })
  | _ => (true, r.2)

/-! ## Flights (R97, R98) -/

/-- Results added to a runner's. -/
def State.fly (s : State) (who : Initiator) (fs : List Flight) : State :=
  let b := s.bankOfWho who
  s.setBankOf who { b with flight := b.flight ++ fs }

/-- The result of a load that goes to its target: it lands ahead of what a later unit of its bundle has got, also where
the load was served after that (R98). -/
def State.flyLoad (s : State) (who : Initiator) (f : Landing) : State :=
  let b := s.bankOfWho who
  s.setBankOf who { b with
    flight := (b.flight.filter fun x => decide (x.left < 4)) ++ ⟨4, f⟩ :: b.flight.filter fun x => decide (4 ≤ x.left) }

/-- Bits of control register n that MOVTC writes (R92, R113). -/
def cregMask (n : Nat) (v : W16) : W16 :=
  if n = 0 then 0x003F
  else if n = 1 then 0x0080
  else if n = 5 then (if v.toNat % 16 < 6 then 0xEFFF else 0xEFF0)
  else if n ≤ 4 || n = 12 || n = 13 then 0xFFFF
  else 0

/-- A control register after MOVTC. -/
def cregWrite (b : Bank) (n : BitVec 4) (v : W16) : Bank :=
  let m := cregMask n.toNat v
  { b with c := b.c.set n.toNat ((b.c[n.toNat] &&& ~~~m) ||| (v &&& m)) }

/-- One result lands, sticky flags apart. -/
def landOne (b : Bank) : Landing → Bank
  | .g r v => { b with g := b.g.set r.toNat v }
  | .a r v => { b with a := b.a.set r.toNat v }
  | .c r v => cregWrite b r v
  | .flags m v _ => { b with c := b.c.set 0 ((b.c[0] &&& ~~~m) ||| v) }
  | .trap _ _ _ => b
  | .endTrap => { b with c := b.c.set 1 (b.c[1] &&& ~~~0x0040) }

/-- Sticky flags of a result. -/
def Landing.stickies : Landing → W16
  | .flags _ _ st => st
  | _ => 0

/-- The data trap of a faulting load. -/
def Landing.fault : Landing → Option (BitVec 4 × BitVec 8 × Addr)
  | .trap cause code at_ => some (cause, code, at_)
  | _ => none

/-- The results due in a cycle land, those of later bundles and later units last, and sticky flags are ORed (R98).
Answers the bank and the data traps due, earliest-issued first. -/
def landAll (b : Bank) : Bank × List (BitVec 4 × BitVec 8 × Addr) :=
  let now := (b.flight.filter fun f => decide (f.left ≤ 1)).map (·.land)
  let later := (b.flight.filter fun f => decide (1 < f.left)).map fun f => { f with left := f.left - 1 }
  let t := now.foldl landOne { b with flight := later }
  ({ t with c := t.c.set 0 (now.foldl (fun m x => m ||| x.stickies) t.c[0]) }, now.filterMap Landing.fault)

/-- INTRAP of c1 (R92). -/
def Bank.inTrap (b : Bank) : Bool := b.c[1].getLsbD 6

/-- A trap entry is in progress (R114). -/
def Bank.entering (b : Bank) : Bool := decide (0 < b.hold) && b.inTrap

/-! ## Traps (R112 to R116) -/

/-- A trap: cause, code, faulting word address. -/
structure Trap where
  cause : Nat
  code : Nat
  addr : Nat
deriving DecidableEq, Repr

/-- Whether TADDRL and TADDRH show the faulting word address (R114). -/
def Trap.hasAddr (t : Trap) : Bool :=
  (t.cause == 1 && t.code != 2) || (t.cause == 2 && t.code != 4)

/-- TCAUSE (R113). -/
def Trap.word (t : Trap) (ds data multi : Bool) : W16 :=
  BitVec.ofNat 16 (ds.toNat * 32768 + data.toNat * 16384 + multi.toNat * 8192 + t.code % 256 * 16 + t.cause % 16)

/-- The bank as trap entry leaves it (R114). -/
def trapBank (b : Bank) (t : Trap) (data multi : Bool) : Bank :=
  let a := if t.hasAddr then t.addr else 0
  let saved := b.c.set 3 b.pc
  let saved := saved.set 4 (b.target.getD 0)
  let saved := saved.set 5 (t.word b.target.isSome data multi)
  let saved := saved.set 6 (BitVec.ofNat 16 a)
  let saved := saved.set 7 (BitVec.ofNat 16 (a / 65536 % 256))
  { b with
    c := saved.set 1 (saved[1] ||| 0x0040)
    pc := b.c[2] + BitVec.ofNat 16 (8 * t.cause)
    target := none
    hold := 3 }

/-- A trap is taken (R114); one raised while INTRAP is 1 is a double trap (R116). -/
def State.raise (s : State) (who : Initiator) (t : Trap) (data multi : Bool) : State :=
  let b := s.bankOfWho who
  if b.inTrap then
    match who with
    | .engine k => s.taskFails k
    | _ => s.softReset 6
  else s.setBankOf who (trapBank b t data multi)

/-! ## Loads, stores and Q operations as they are served -/

/-- The commit buffer that a runner fills. -/
def State.bufOf (s : State) (who : Initiator) : Option (Fin 8 × Fin 2) :=
  match s.taskOfWho who with
  | some t => if t.buffered then some (engineOf who, t.buf) else none
  | none => none

/-- Data of the latest store entry for an address in the run's buffer (R76). -/
def State.forward (s : State) (who : Initiator) (a : Nat) : Option W16 :=
  match s.bufOf who with
  | none => none
  | some (k, i) => (s.cbuf k i).ents.foldl (fun r e => match e with
      | .store x v => if x.toNat = a then some v else r
      | _ => r) none

/-- An effect is appended to the run's buffer (R75). -/
def State.append (s : State) (who : Initiator) (e : BufEntry) : State :=
  match s.bufOf who with
  | none => s
  | some (k, i) => s.setCbuf k i { s.cbuf k i with ents := (s.cbuf k i).ents ++ [e] }

/-- The task of a runner changed. -/
def State.mapTask (s : State) (who : Initiator) (f : Task → Task) : State :=
  match who with
  | .engine k => s.setTask k ((s.engine k).task.map f)
  | _ => s

/-- The partner of a primary in lockstep. -/
def State.partnerOf (s : State) (who : Initiator) : Option (Fin 8) :=
  match s.taskOfWho who with
  | some t => if t.lockstep && t.primary then t.mate else none
  | none => none

/-- A read of a primary's load keeps its data for the partner, unless the partner has taken the word ahead of it in the
same cycle (R73). -/
def State.giveLoad (s : State) (who : Initiator) (a : Nat) (v : W16) (err : Bool) : State :=
  match s.partnerOf who with
  | none => s
  | some q => s.mapTask (.engine q) fun t =>
      if 0 < t.ahead then { t with ahead := t.ahead - 1 } else { t with given := t.given ++ [(a, v, err)] }

/-- The word of a load and whether its response is an error (R73): the partner in lockstep takes what its primary's access
got, or reads ahead of it without an effect of its own. -/
def State.loadWord (s : State) (who : Initiator) (a : Nat) : W16 × Bool × State :=
  if s.mirrors who then
    match (s.taskOfWho who).bind fun t => t.given.find? fun g => g.1 == a with
    | some (x, v, err) => (v, err, s.mapTask who fun t => { t with given := t.given.erase (x, v, err) })
    | none =>
      let r := s.readWord who a
      (r.1, r.2.1, s.mapTask who fun t => { t with ahead := t.ahead + 1 })
  else
    let r := s.readWord who a
    (r.1, r.2.1, r.2.2.giveLoad who a r.1 r.2.1)

/-- A load is served (R76, R285): the word of the run's own buffer, or of its target. -/
def State.loadServed (s : State) (who : Initiator) (r : BitVec 5) (a : Nat) : State :=
  match s.forward who a with
  | some v => s.flyLoad who (.g r v)
  | none =>
    let x := s.loadWord who a
    x.2.2.flyLoad who (if x.2.1 then .trap 1 1 (BitVec.ofNat 24 a) else .g r x.1)

/-- An unbuffered store is served. -/
def State.storeServed (s : State) (who : Initiator) (a : Nat) (v : W16) : State := (s.writeWord who a v).2

/-- Address of the index word that a Q operation reads or advances (R114). -/
def State.idxWord (s : State) (op : Nat) (n : Nat) : Nat :=
  if op = 2 || op = 4 || op = 5 then s.idxAddr n else s.idxAddr n + (if isRequest n then 3 else 1)

/-- A refused Q operation of an engine: data trap BUSERR code 5 (R107). -/
def State.qRefused (s : State) (who : Initiator) (op n : Nat) : State :=
  let t := if s.mirrors who then s else s.refuseQ n
  t.fly who [⟨4, .trap 2 5 (BitVec.ofNat 24 (s.idxWord op n))⟩]

/-- An engine's own post (R53 class 2): the places it posted on a request ring are its task's until they complete. -/
def State.ownPosted (s : State) (who : Initiator) (n first k : Nat) : State :=
  match who with
  | .engine e =>
    if isRequest n then
      let ps := (List.range k).map fun j => (first + j) % s.ringSize n
      s.setRing n { s.ring n with owner := (s.ring n).owner ++ ps.map fun p => (p, e) }
    else s
  | _ => s

/-- A Q operation is served (R250, R251): opcode, register, ring, count. -/
def State.qServed (s : State) (who : Initiator) (op : Nat) (r : BitVec 5) (n k : Nat) : State :=
  let word (x : Option Nat) : State := match x with
    | some v => s.fly who [⟨4, .g r (BitVec.ofNat 16 v)⟩]
    | none => s.qRefused who op n
  let addr (x : Option Nat) : State := match x with
    | some v => s.fly who [⟨4, .a (r.setWidth 3) (BitVec.ofNat 24 v)⟩]
    | none => s.qRefused who op n
  if op = 1 then word (s.qavl n)
  else if op = 2 then word (s.qspace n)
  else if op = 3 then addr (s.qhead n)
  else if op = 4 then addr (s.qtail n)
  else if op = 5 then
    match s.qpost n k with
    | some t => t.ownPosted who n (s.ring n).pi.toNat k
    | none => s.qRefused who op n
  else (s.qfetch n k).getD (s.qRefused who op n)

/-- What a waiting access does when it is served. -/
def State.accessServed (s : State) (w : Access) : State :=
  match w.kind with
  | .load r => s.loadServed w.who r w.addr
  | .store v => s.storeServed w.who w.addr v
  | .ring op r n k => s.qServed w.who op.toNat r n.toNat k
  | .write v => s.writeNow w.who w.addr v
  | .read => s.readNow w.who w.addr
  | .drain => s

/-! ## The end of a run (R110) -/

/-- TEND's effect once no access of the run waits: the service idles; a task ends with the registers that the TEND
bundle read. -/
def State.runEnds (s : State) (who : Initiator) : State :=
  let b := s.bankOfWho who
  let s := s.setBankOf who { b with flight := [], ending := false }
  match who with
  | .engine k => s.taskEnd k b
  | _ => { s with svcRun := false }

/-- A run that has issued TEND ends when its last access has completed. -/
def State.settleEnd (s : State) (who : Initiator) : State :=
  if (s.bankOfWho who).ending && !s.stalledWho who then s.runEnds who else s

/-- A waiting access leaves the queue and completes. -/
def State.serveAccess (s : State) (w : Access) : State :=
  (({ s with waits := s.waits.erase w }).accessServed w).settleEnd w.who

/-! ## Precise traps of a bundle (R105, R112, R114) -/

/-- Effects that a bundle appends to the run's buffer (R75, R81). -/
def appends (b : Bank) (xs : List Syll) : Nat :=
  (xs.filter fun x => match x with
    | .l (.st _ a m i) => regionOf (effAddr b a m i).toNat != .spad
    | .q (.qpost _ _) => true
    | .q (.qfetch _ _) => true
    | _ => false).length

/-- The run's buffer has no room for the bundle's effects (R81). -/
def State.overfull (s : State) (who : Initiator) (b : Bank) (xs : List Syll) : Bool :=
  match s.bufOf who with
  | none => false
  | some (k, i) => decide (512 < (s.cbuf k i).ents.length + appends b xs)

/-- The address lies in no map (R20, R25). -/
def unmappedAt (a : Nat) : Bool :=
  match regionOf a with
  | .unmapped => true
  | .hole _ => true
  | _ => false

/-- Precise traps of one syllable at index i: GUARDOP, BUSERR, SOFT (R112). -/
def sylTraps (b : Bank) (buffered : Bool) (i : Nat) : Syll → List Trap
  | .a (.movtc _ cr) => if buffered && (cr.toNat == 12 || cr.toNat == 13) then [⟨4, i, 0⟩] else []
  | .q (.qevt _) => if buffered then [⟨4, i, 0⟩] else []
  | .b (.trap c) => [⟨5, c.toNat, 0⟩]
  | .l (.ldim _ r) => if 0x6000 ≤ (b.g[r.toNat]).toNat then [⟨2, 0, (b.g[r.toNat]).toNat⟩] else []
  | .l (.ld _ a m i) =>
    let x := (effAddr b a m i).toNat
    if unmappedAt x then [⟨2, 0, x⟩] else []
  | .l (.st _ a m i) =>
    let x := (effAddr b a m i).toNat
    if unmappedAt x then [⟨2, 1, x⟩] else if regionOf x = .mram then [⟨2, 2, x⟩] else []
  | _ => []

/-- A syllable appends to the run's buffer. -/
def Syll.appendsOne (b : Bank) (x : Syll) : Bool := appends b [x] == 1

/-- Precise traps of the syllables in canonical order; COMMITFULL stands with the first syllable that appends. -/
def preciseFrom (b : Bank) (buffered full : Bool) : Nat → List Syll → List Trap
  | _, [] => []
  | i, x :: t =>
    let full' := full && x.appendsOne b
    sylTraps b buffered i x ++ (if full' && !(sylTraps b buffered i x).any (·.cause == 2) then [⟨3, 0, 0⟩] else [])
      ++ preciseFrom b buffered (full && !full') (i + 1) t

/-- A B syllable of a delay bundle, by its index (R109). -/
def Fetch.delayB (f : Fetch) (delay : Bool) : Option Nat := if delay then f.syls.findIdx? fun x => x.rank == 3 else none

/-- Index of the bundle's first offending syllable (R109, R117): the syllables of `syls` come before the one of `undef`. -/
def Fetch.undefAt (f : Fetch) (delay : Bool) : Option Nat := (f.delayB delay).or f.undef

/-- Every precise trap of the bundle due, in the order of R114: a bundle that is UNDEF or has a double-bit error still has
the causes of its other syllables. One without its stop bit below 3000h has one cause alone (R96). -/
def State.bundleTraps (s : State) (who : Initiator) (b : Bank) (f : Fetch) : List Trap :=
  let d := b.target.isSome
  let mem : List Trap := if f.memerr then [⟨1, 2, 0⟩] else []
  let und : List Trap := match f.undefAt d with
    | some i => [⟨0, i, 0⟩]
    | none => []
  if f.beyond then (mem ++ und ++ ([⟨2, 4, 0⟩] : List Trap)).take 1
  else
    let xs := f.syls ++ f.more
    mem ++ und ++ (preciseFrom b (s.buffered who) (s.overfull who b xs) 0 xs).filter fun (t : Trap) =>
      !((f.delayB d).isSome && t.cause == 5)

/-! ## The bundle that issues -/

/-- Control register n as MOVC reads it: c9 and c10 count cycles (R92). -/
def Bank.cread (b : Bank) (n : BitVec 4) : W16 :=
  if n = 9 then b.cyc.setWidth 16 else if n = 10 then (b.cyc >>> 16).setWidth 16 else b.c[n.toNat]

/-- Results of an A or M computation that goes to d after `vis` cycles. -/
def resultFlights (vis : Nat) (d : BitVec 5) (res : Option W16) (mask val sticky : W16) : List Flight :=
  (match res with
    | some v => [⟨vis, .g d v⟩]
    | none => [])
  ++ (if mask = 0 && sticky = 0 then [] else [⟨vis, .flags mask val sticky⟩])

/-- Results of an A syllable (R102). -/
def aFlights (b : Bank) : ASyl → List Flight
  | .nop => []
  | .ar op d x y =>
    let r := op.eval b.g[x.toNat] b.g[y.toNat] (b.c[0].getLsbD 0)
    resultFlights 1 d r.res r.mask r.val r.sticky
  | .ai op d x imm =>
    let r := op.eval b.g[x.toNat] imm
    resultFlights 1 d r.res r.mask r.val r.sticky
  | .movi d imm => [⟨1, .g d imm⟩]
  | .movc d cr => [⟨1, .g d (b.cread cr)⟩]
  | .movtc x cr => [⟨1, .c cr b.g[x.toNat]⟩]

/-- What an M syllable computes on a bank (R103). -/
def mulOf (b : Bank) (op : MOp) (x y : BitVec 5) (ac : BitVec 2) (imm : BitVec 5) : MulOut :=
  op.eval b.g[x.toNat] b.g[y.toNat] b.acc[ac.toNat] imm (b.acc[imm.toNat % 4]'(Nat.mod_lt _ (by decide))) (b.c[1].getLsbD 7)

/-- An M syllable (R103): its results and flags at 2, the accumulator for every later M syllable. -/
def State.mIssue (s : State) (who : Initiator) (b : Bank) (op : MOp) (d x y : BitVec 5) (ac : BitVec 2)
    (imm : BitVec 5) : State :=
  let r := mulOf b op x y ac imm
  let now := s.bankOfWho who
  let s := match r.acc with
    | some v => s.setBankOf who { now with acc := now.acc.set ac.toNat v }
    | none => s
  s.fly who (resultFlights 2 d r.res 0 0 r.sticky)

/-- A word of engine k's instruction memory: E0's resident region holds the boot ROM from its copy on (R59, R406). -/
def State.imemWord (s : State) (k : Fin 8) (i : Nat) : W16 :=
  if k.val = 0 ∧ 0x5000 ≤ i ∧ s.romIn then Config.bootRom (i - 0x5000) else cellsGet zeroWord (s.engine k).imem i

/-- Syllable n of engine k's instruction memory, and whether it has a double-bit error (R60). -/
def State.syllable (s : State) (k : Fin 8) (n : Nat) : Syl × Bool :=
  (s.imemWord k (2 * n + 1) ++ s.imemWord k (2 * n), (s.eccMeets (k.val + 1) n A.ENG_ECCCNT).1)

/-- A load from the scratchpad, visible at 2 (R60, R104). -/
def State.spadLoad (s : State) (who : Initiator) (g : BitVec 5) (a : Nat) : State :=
  let x := s.readWord who a
  x.2.2.fly who [⟨2, if x.2.1 then .trap 1 0 (BitVec.ofNat 24 a) else .g g x.1⟩]

/-- LD (R99, R104, R105). -/
def State.ldIssue (s : State) (who : Initiator) (g : BitVec 5) (a : Nat) : State :=
  match regionOf a with
  | .spad => s.spadLoad who g a
  | .sram =>
    let r := s.xbar who a (.load g)
    if r.1 then r.2.loadServed who g a else r.2
  | _ =>
    let r := s.windowAccess who a (.load g)
    if r.1 then r.2.loadServed who g a else r.2

/-- ST (R75, R99, R104). -/
def State.stIssue (s : State) (who : Initiator) (a : Nat) (v : W16) : State :=
  match regionOf a with
  | .spad => (s.writeWord who a v).2
  | .sram =>
    if s.buffered who then s.append who (.store (BitVec.ofNat 24 a) v)
    else
      let r := s.xbar who a (.store v)
      if r.1 then r.2.storeServed who a v else r.2
  | _ =>
    if s.buffered who then s.append who (.store (BitVec.ofNat 24 a) v)
    else
      let r := s.windowAccess who a (.store v)
      if r.1 then r.2.storeServed who a v else r.2

/-- LDIM (R60, R104): word i of the engine's own instruction memory. -/
def State.ldimIssue (s : State) (who : Initiator) (g : BitVec 5) (i : Nat) : State :=
  let k := engineOf who
  let x := s.eccMeets (k.val + 1) (i / 2) A.ENG_ECCCNT
  x.2.fly who [⟨2, if x.1 then .trap 1 3 (BitVec.ofNat 24 i) else .g g (s.imemWord k i)⟩]

/-- An L syllable issues; operands are those of bank b (R104). -/
def State.lIssue (s : State) (who : Initiator) (b : Bank) : LSyl → State
  | .la a imm => s.fly who [⟨1, .a a imm⟩]
  | .ld g a m i => (s.fly who (postIncrement b a m i)).ldIssue who g (effAddr b a m i).toNat
  | .st g a m i => (s.fly who (postIncrement b a m i)).stIssue who (effAddr b a m i).toNat b.g[g.toNat]
  | .ldim g x => s.ldimIssue who g (b.g[x.toNat]).toNat
  | .ada a x imm => s.fly who [⟨1, .a a (b.a[x.toNat] + imm.signExtend 24)⟩]
  | .movga a x y => s.fly who [⟨1, .a a ((b.g[y.toNat]).setWidth 8 ++ b.g[x.toNat])⟩]
  | .movag g a h =>
    s.fly who [⟨1, .g g (if h then (b.a[a.toNat] >>> 16).setWidth 16 else (b.a[a.toNat]).setWidth 16)⟩]

/-- A Q operation through the crossbar, at the bank of the ring's index words (R107). -/
def State.qIssueAt (s : State) (who : Initiator) (op : Nat) (r : BitVec 5) (n k : Nat) : State :=
  let x := s.xbar who (s.idxWord op n) (.ring (BitVec.ofNat 6 op) r (BitVec.ofNat 6 n) k)
  if x.1 then x.2.qServed who op r n k else x.2

/-- A Q syllable issues (R75, R107). -/
def State.qIssue (s : State) (who : Initiator) : QSyl → State
  | .qavl g n => s.qIssueAt who 1 g n.toNat 0
  | .qspace g n => s.qIssueAt who 2 g n.toNat 0
  | .qhead a n => s.qIssueAt who 3 (a.setWidth 5) n.toNat 0
  | .qtail a n => s.qIssueAt who 4 (a.setWidth 5) n.toNat 0
  | .qpost n k => if s.buffered who then s.append who (.post n k.toNat) else s.qIssueAt who 5 0 n.toNat k.toNat
  | .qfetch n k => if s.buffered who then s.append who (.fetch n k.toNat) else s.qIssueAt who 6 0 n.toNat k.toNat
  | .qevt x => s.fire (0x10 + 4 * (engineOf who).val + x.toNat) 0

/-- Target of a B syllable that branches (R108). -/
def branchTo (b : Bank) : BSyl → Option W16
  | .br t => some (t.setWidth 16)
  | .bz g t => if b.g[g.toNat] = 0 then some (t.setWidth 16) else none
  | .bnz g t => if b.g[g.toNat] = 0 then none else some (t.setWidth 16)
  | .bltz g t => if (b.g[g.toNat]).msb then some (t.setWidth 16) else none
  | .bgez g t => if (b.g[g.toNat]).msb then none else some (t.setWidth 16)
  | .bdec g t => if b.g[g.toNat] - 1 = 0 then none else some (t.setWidth 16)
  | .call t => some (t.setWidth 16)
  | .jr g => some (b.g[g.toNat] &&& 0x3FFF)
  | _ => none

/-- The CALL link: the address of the bundle after the delay bundle, a free value where the delay bundle has no end
(log entry 19). -/
def State.linkOf (s : State) (k : Fin 8) (next : W16) : W16 × State :=
  let f := fetchBundle (s.syllable k) next.toNat
  if f.beyond || !((s.syllable k (next.toNat + f.size - 1)).1.msb) then s.draw 16
  else (next + BitVec.ofNat 16 f.size, s)

/-- RETT (R115): INTRAP clears in the next cycle and the bundle at TPC issues in the one after. -/
def rettBank (b : Bank) : Bank :=
  { b with
    pc := b.c[3]
    target := if b.c[5].getLsbD 15 then some b.c[4] else none
    hold := 2
    flight := b.flight ++ [⟨1, .endTrap⟩] }

/-- A B syllable's register result and its effect on the run, BRK and TRAP aside (R108, R110, R115). -/
def State.bIssue (s : State) (who : Initiator) (b : Bank) (next : W16) : BSyl → State
  | .bdec g _ => s.fly who [⟨1, .g g (b.g[g.toNat] - 1)⟩]
  | .call _ =>
    let r := s.linkOf (engineOf who) next
    r.2.fly who [⟨1, .g 31 r.1⟩]
  | .rett => s.setBankOf who (rettBank (s.bankOfWho who))
  | .tend => s.setBankOf who { s.bankOfWho who with flight := [], ending := true }
  | _ => s

/-- One syllable of an issuing bundle: every operand is that of bank b (R97). -/
def State.sylIssue (s : State) (who : Initiator) (b : Bank) (next : W16) : Syll → State
  | .a x => s.fly who (aFlights b x)
  | .m op d x y ac imm => s.mIssue who b op d x y ac imm
  | .l x => s.lIssue who b x
  | .b x => s.bIssue who b next x
  | .q x => s.qIssue who x

/-- Where the next bundle comes from (R108): the target of the branch before, then a new target after one delay
bundle. -/
def nextBank (b : Bank) (next : W16) (target : Option W16) : Bank :=
  match b.target with
  | some t => { b with pc := t, target := none }
  | none => { b with pc := next, target := target }

/-- Branch target of a bundle. -/
def bundleTarget (b : Bank) (xs : List Syll) : Option W16 :=
  xs.findSome? fun x => match x with
    | .b y => branchTo b y
    | _ => none

/-- The bundle holds the B syllable given. -/
def hasB (xs : List Syll) (y : BSyl) : Bool := xs.contains (.b y)

/-- The crossbar requests of a bundle, as the split detector compares them (R74): those that a buffered run appends to its
buffer count like the others (log entry 63). -/
def bundleRequests (b : Bank) (xs : List Syll) : Nat :=
  xs.foldl (fun m x => match x with
    | .l (.ld _ a md i) => let e := (effAddr b a md i).toNat; if inSram e then m + 2 ^ 16 * (1 + 4 * e) else m
    | .l (.st g a md i) =>
      let e := (effAddr b a md i).toNat
      if regionOf e = .spad then m else m + 2 ^ 16 * (2 + 4 * (e + 2 ^ 24 * (b.g[g.toNat]).toNat))
    | .q (.qavl _ n) => m + 2 ^ 64 * (1 + 8 * n.toNat)
    | .q (.qspace _ n) => m + 2 ^ 64 * (2 + 8 * n.toNat)
    | .q (.qhead _ n) => m + 2 ^ 64 * (3 + 8 * n.toNat)
    | .q (.qtail _ n) => m + 2 ^ 64 * (4 + 8 * n.toNat)
    | .q (.qpost n k) => m + 2 ^ 64 * (5 + 8 * (n.toNat + 64 * k.toNat))
    | .q (.qfetch n k) => m + 2 ^ 64 * (6 + 8 * (n.toNat + 64 * k.toNat))
    | _ => m) 0

/-- The cycle of a pair in lockstep is compared (R74). -/
def State.compareCycle (s : State) (who : Initiator) (x : Nat) : State :=
  match who with
  | .engine k => s.detectSplit k x
  | _ => s

/-- Single-bit errors of the syllables fetched are counted (R60). -/
def State.fetchCounts (s : State) (k : Fin 8) (pc n : Nat) : State :=
  (List.range n).foldl (fun s i => (s.eccMeets (k.val + 1) (pc + i) A.ENG_ECCCNT).2) s

/-- A bundle without a precise trap issues (R95 to R99): its syllables in canonical order, then the sequence. TEND ends
the run once its accesses have completed; its bundle's own results are discarded (R110). -/
def State.bundleRuns (s : State) (who : Initiator) (f : Fetch) : State :=
  let b := s.bankOfWho who
  let next := b.pc + BitVec.ofNat 16 f.size
  let s := s.compareCycle who (b.pc.toNat + bundleRequests b f.syls)
  let s := f.syls.foldl (fun s x => s.sylIssue who b next x) s
  let s := if hasB f.syls .rett then s
    else
      let t := nextBank b next (bundleTarget b f.syls)
      s.setBankOf who { s.bankOfWho who with pc := t.pc, target := t.target }
  if hasB f.syls .tend then (s.setBankOf who { s.bankOfWho who with flight := [], acc := b.acc }).settleEnd who else s

/-- A store to an unmapped word of a window, refused at issue, sets the block's WRITE_REJECTED (R13, R25). -/
def State.refusedStore (s : State) (t : Trap) : State :=
  if t.cause = 2 ∧ t.code = 1 then match regionOf t.addr with
    | .hole _ => s.rejectIn t.addr
    | _ => s
  else s

/-- BRK halts before its bundle issues, and so before any trap of the bundle's other syllables (R111): halting enabled
through the debug port, the lock open, the run not buffered, and not resumed at this bundle. A bundle that is UNDEF or
whose fetch fails is none with a BRK. -/
def State.brkHalts (s : State) (who : Initiator) (b : Bank) (f : Fetch) : Bool :=
  hasB f.syls .brk && !f.memerr && !f.beyond && (f.undefAt b.target.isSome).isNone
    && s.dbgHalt && !s.vlt.dbglock && !s.buffered who && !(s.engine (engineOf who)).resumed

/-- The bundle due in this cycle, given what was fetched: it traps, halts the engine or issues. -/
def State.issueFetched (s : State) (who : Initiator) (f : Fetch) : State :=
  let k := engineOf who
  let b := s.bankOfWho who
  if s.brkHalts who b f then s.setEngine k { s.engine k with halted := true }
  else match s.bundleTraps who b f with
    | t :: rest => (((s.refusedStore t).compareCycle who 0xFFFF).raise who t false (!rest.isEmpty))
    | [] => (s.setEngine k { s.engine k with resumed := false }).bundleRuns who f

/-- A cycle of a runner that does not stall (R97, R112, R114): results land; a data trap is taken or, during entry, only
noted; otherwise the bundle due issues. `f` is what the fetch finds. -/
def State.runCycle (s : State) (who : Initiator) (f : Fetch) : State :=
  let r := landAll (s.bankOfWho who)
  let b := r.1
  let issues := decide (b.hold ≤ 1)
  let b' := { b with hold := b.hold - 1 }
  match r.2, b.entering with
  | [], _ =>
    let s := s.setBankOf who b'
    if issues then s.issueFetched who f else s.compareCycle who 0xFFFF
  | _ :: _, true =>
    let s := s.setBankOf who { b' with c := b'.c.set 5 (b'.c[5] ||| 0x2000) }
    if issues then s.issueFetched who f else s.compareCycle who 0xFFFF
  | (c, d, a) :: rest, false =>
    let multi := !rest.isEmpty || (issues && !(s.bundleTraps who b f).isEmpty)
    ((s.setBankOf who b').compareCycle who 0xFFFF).raise who ⟨c.toNat, d.toNat, a.toNat⟩ true multi

/-- c9 and c10 count the cycle, stalls included (R92). The count is that of the run that has the cycle. -/
def State.countCycle (s : State) (who : Initiator) : State :=
  let b := s.bankOfWho who
  s.setBankOf who { b with cyc := b.cyc + 1 }

/-- The cycle of a runner. The count goes up with the cycle before the next; the run may have ended in it. -/
def State.cycleOf (s : State) (who : Initiator) (f : Fetch) (fetched : Nat) : State :=
  if s.stalledWho who || (s.bankOfWho who).ending then s.countCycle who
  else
    let b := s.bankOfWho who
    let s := if b.hold ≤ 1 then s.fetchCounts (engineOf who) b.pc.toNat fetched else s
    let n := b.cyc
    let t := s.runCycle who f
    if t.runner (engineOf who) = some who then t.setBankOf who { t.bankOfWho who with cyc := n + 1 } else t

/-- BUNDLE_ISSUE (R95): the engine's next cycle, adv fabric cycles after the last one commanded. -/
def bundleIssueEffect (k : Fin 8) (adv : BitVec 4) (s : State) : State :=
  let s := s.cycles adv
  match s.runner k with
  | none => s
  | some who =>
    let f := fetchBundle (s.syllable k) (s.bankOfWho who).pc.toNat
    s.cycleOf who f f.size

/-- BUNDLE_ISSUE. -/
def execBundleIssue (k : Fin 8) (adv : BitVec 4) (s : State) : Host.Outcome State Fault Refusal :=
  .next (bundleIssueEffect k adv s)

/-- A cycle in which the bundle due is the one syllable given. -/
def issueOne (k : Fin 8) (adv : BitVec 4) (x : Syll) (s : State) : State :=
  let s := s.cycles adv
  match s.runner k with
  | none => s
  | some who => s.cycleOf who (fetchOne x) 0

/-- DATA_TRAP (R112): the engine's cycle in which the result of a faulting load would have become visible. -/
def dataTrapEffect (k : Fin 8) (adv : BitVec 4) (s : State) : State :=
  match s.runner k with
  | none => s
  | some who =>
    if s.stalledWho who || (landAll (s.bankOfWho who)).2.isEmpty then s else bundleIssueEffect k adv s

/-- DATA_TRAP. -/
def execDataTrap (k : Fin 8) (adv : BitVec 4) (s : State) : Host.Outcome State Fault Refusal :=
  .next (dataTrapEffect k adv s)

/-- ENGINE_ECC_WRITE_BACK (R60): a corrected word or syllable is written back; memory 0 is the instruction memory. -/
def engineEccWriteBackEffect (k : Fin 8) (spad : Bool) (a : BitVec 15) (s : State) : State :=
  { s with ecc := s.ecc.filter fun e =>
      !(e.mem == k.val + 1 + 8 * spad.toNat && e.addr == a.toNat && e.counted && !e.double) }

/-- ENGINE_ECC_WRITE_BACK. -/
def execEngineEccWriteBack (k : Fin 8) (spad : Bool) (a : BitVec 15) (s : State) : Host.Outcome State Fault Refusal :=
  .next (engineEccWriteBackEffect k spad a s)

/-- E0_SVC n (R66, R263): bit n of `ENG_SVCIN`, and the service bank wakes. -/
def e0SvcEffect (n : Fin 16) (s : State) : State :=
  s.onEvent (0x10 + n.val) false fun _ _ _ s =>
    let s := if s.flag A.ENG_SVCIN n.val then s.setFlag (A.CBL_CONS (0x10 + n.val)) 1 true else s
    let s := s.setFlag A.ENG_SVCIN n.val true
    if s.on 0 then { s with svcRun := true } else s

/-- E0_SVC. -/
def execE0Svc (n : Fin 16) (s : State) : Host.Outcome State Fault Refusal := .next (e0SvcEffect n s)

/-- DEBUG_RESUME (R111): the debug port sets whether BRK halts and resumes the engine. With the lock closed it gets an
error response. -/
def debugResumeEffect (k : Fin 8) (halting : Bool) (s : State) : State :=
  if s.vlt.dbglock then s.errorTo
  else
    let s := { s with dbgHalt := halting }
    let e := s.engine k
    if e.halted then s.setEngine k { e with halted := false, resumed := true } else s

/-- DEBUG_RESUME. -/
def execDebugResume (k : Fin 8) (halting : Bool) (s : State) : Host.Outcome State Fault Refusal :=
  .next (debugResumeEffect k halting s)

/-! ## Accesses that wait for the crossbar (R70, R71) -/

/-- The first access of a port that waits for a slot. -/
def State.slotWait (s : State) (port : Nat) : Option Access := s.waits.find? fun w => w.port == port && w.dom.isNone

/-- A lower-numbered port waits for the bank. -/
def State.lowerWaits (s : State) (port bank : Nat) : Bool :=
  s.waits.any fun w => w.dom.isNone && decide (w.port < port) && w.bank == bank

/-- A port may use a bank in this phase (R70): its own phase, or a free one that nobody ahead of it takes. The drain
keeps priority on its port (R79). -/
def State.mayUse (s : State) (port bank : Nat) : Bool :=
  s.on 8 && s.bankState bank == 2 && !s.xbarUsed.contains bank && !s.drainUsed.contains port
    && (s.slotCode bank == port || (s.slotCode bank == 15 && !s.lowerWaits port bank))

/-- Accesses issued together by a pair in lockstep: same port, word and kind (R73). -/
def State.sameAccess (s : State) (w : Access) : List Access :=
  s.waits.filter fun x => x.port == w.port && x.addr == w.addr && x.kind == w.kind && x.dom == w.dom

/-- OFF_SLOT_SERVED (R70): a waiting access of the port finds a cycle in which it may use its bank. -/
def offSlotServedEffect (port : BitVec 4) (adv : BitVec 4) (s : State) : State :=
  let s := s.cycles adv
  match s.slotWait port.toNat with
  | none => s
  | some w =>
    if s.mayUse port.toNat w.bank then (s.sameAccess w).foldl (fun s x => s.serveAccess x) (s.takeBank w.bank) else s

/-- OFF_SLOT_SERVED. -/
def execOffSlotServed (port : BitVec 4) (adv : BitVec 4) (s : State) : Host.Outcome State Fault Refusal :=
  .next (offSlotServedEffect port adv s)

/-- An access ends with an error response (R71): a load or Q operation raises BUSERR code 3, a store is discarded. -/
def State.timeOut (s : State) (w : Access) : State :=
  let s := { s with waits := s.waits.erase w }
  let s := match w.kind with
    | .load _ => s.flyLoad w.who (.trap 2 3 (BitVec.ofNat 24 w.addr))
    | .ring .. => s.fly w.who [⟨4, .trap 2 3 (BitVec.ofNat 24 w.addr)⟩]
    | .write _ => s.errorTo
    | .read => s.errorTo
    | _ => s
  s.settleEnd w.who

/-- CROSSBAR_TIMEOUT (R71): a waiting access of a port without an own phase for its bank has waited 256 cycles. -/
def crossbarTimeoutEffect (port : BitVec 4) (s : State) : State :=
  match s.slotWait port.toNat with
  | none => s
  | some w =>
    if s.ownPhase port.toNat w.bank then s else (s.sameAccess w).foldl (fun s x => s.timeOut x) s

/-- CROSSBAR_TIMEOUT. -/
def execCrossbarTimeout (port : BitVec 4) (s : State) : Host.Outcome State Fault Refusal :=
  .next (crossbarTimeoutEffect port s)

/-! ## The drain (R78, R79, R251) -/

/-- The draining buffer of an engine. DESIGN CHOICE: of two that drain, buffer 0 goes first; the manual gives them no order
(log entry 102). -/
def State.drainBuf (s : State) (k : Fin 8) : Option (Fin 2) :=
  if (s.cbuf k 0).st = .draining then some 0 else if (s.cbuf k 1).st = .draining then some 1 else none

/-- A refused entry of a drain is discarded (R251). -/
def State.drainRefused (s : State) (n : Nat) : State := (s.setFlag (A.RING_STAT n) 14 true).bump A.RING_REFCNT

/-- An entry of a drain is performed. -/
def State.drainPerform (s : State) (k : Fin 8) : BufEntry → State
  | .store a v => (s.writeWord (.engine k) a.toNat v).2
  | .post n c => (s.qpost n.toNat c).getD (s.drainRefused n.toNat)
  | .fetch n c => (s.qfetch n.toNat c).getD (s.drainRefused n.toNat)

/-- Word address that an entry's access goes to. -/
def State.drainAddr (s : State) : BufEntry → Nat
  | .store a _ => a.toNat
  | .post n _ => s.idxWord 5 n.toNat
  | .fetch n _ => s.idxWord 6 n.toNat

/-- The first entry of a buffer is over; after the last one the drain is done. -/
def State.drainPop (s : State) (k : Fin 8) (i : Fin 2) : State :=
  let b := s.cbuf k i
  let t := s.setCbuf k i { b with ents := b.ents.tail }
  if b.ents.tail.isEmpty then t.drainDone k i else t

/-- The drain's port may use the bank: in its own phase, or off slot where it has none (R78). -/
def State.drainMayUse (s : State) (k : Fin 8) (bank : Nat) : Bool :=
  s.on 8 && s.bankState bank == 2 && !s.xbarUsed.contains bank
    && (s.slotCode bank == k.val
      || (!s.ownPhase k.val bank && s.slotCode bank == 15 && !s.lowerWaits k.val bank))

/-- The record of an entry without an in-slot cycle. -/
def State.drainOffSlot (s : State) (k : Fin 8) (i : Fin 2) : State :=
  let b := s.cbuf k i
  let w := (cellsGet zeroWord s.seq.table (b.index * 8)).toNat
  s.offSlot (some (b.lap, b.index))
    (if bits w 15 12 = 2 then (cellsGet zeroWord s.seq.table (b.index * 8 + 5)).toNat % 256 else 0)

/-- The first entry goes to shared SRAM in this cycle, if its port may use the bank. -/
def State.drainXbar (s : State) (k : Fin 8) (i : Fin 2) (e : BufEntry) (bank : Nat) : State :=
  if !s.drainMayUse k bank then s
  else
    let off := s.slotCode bank ≠ k.val
    let s := { s.takeBank bank with drainUsed := k.val :: s.drainUsed }
    let s := if off then s.drainOffSlot k i else s
    (s.drainPerform k e).drainPop k i

/-- DRAIN_ENTRY (R78): the first entry of engine k's draining buffer finds its cycle. A store to a register needs no
slot; a domain that is not on is woken first. -/
def drainEntryEffect (k : Fin 8) (adv : BitVec 4) (s : State) : State :=
  let s := s.cycles adv
  match s.drainBuf k with
  | none => s
  | some i =>
    match (s.cbuf k i).ents with
    | [] => s.drainDone k i
    | e :: _ =>
      let a := s.drainAddr e
      let d := s.addrDom (.engine k) a
      let r := s.reach d.1 d.2 (inSram a) (blockOf a) k.val
      match r.1 with
      | .waits => r.2
      | _ => if inSram a then r.2.drainXbar k i e (bankOf a) else (r.2.drainPerform k e).drainPop k i

/-- DRAIN_ENTRY. -/
def execDrainEntry (k : Fin 8) (adv : BitVec 4) (s : State) : Host.Outcome State Fault Refusal :=
  .next (drainEntryEffect k adv s)

/-- DRAIN_ENTRY_TIMEOUT (R78): an entry whose port has no own phase for its bank is discarded after 256 cycles, with the
record of its off-slot access and a second one. -/
def drainEntryTimeoutEffect (k : Fin 8) (s : State) : State :=
  match s.drainBuf k with
  | none => s
  | some i =>
    match (s.cbuf k i).ents with
    | [] => s.drainDone k i
    | e :: _ =>
      let a := s.drainAddr e
      if !inSram a || s.ownPhase k.val (bankOf a) then s
      else ((s.drainOffSlot k i).drainOffSlot k i).drainPop k i

/-- DRAIN_ENTRY_TIMEOUT. -/
def execDrainEntryTimeout (k : Fin 8) (s : State) : Host.Outcome State Fault Refusal :=
  .next (drainEntryTimeoutEffect k s)

end Sys2Proof.Machine
end

