-- ==== Sys2Proof/Machine/Moves.lean ====
section
/-!
DEFINITION. Domain transitions as the power controller runs them (R18, R38, R50, R274 to R286): the wake steps, PREPARE
and COMMIT, seals of retained banks, accesses that waited for a domain, and the rebuild of LOST banks.
-/
namespace Sys2Proof.Machine

/-! ## The transition in progress -/

/-- `PWR_XSTAT` while a transition of domain d is in phase p. -/
def State.showPhase (s : State) (d : Nat) (p : XPhase) : State :=
  let code := match p with
    | .wake _ => 2
    | .prepare => 3
    | .commit => 4
  ((s.setFlag A.PWR_XSTAT 15 true).wr A.PWR_XSTAT 14 12 code).wr A.PWR_XSTAT 11 8 d

/-- The transition is in phase p. -/
def State.inPhase (s : State) (t : Transition) (p : XPhase) : State :=
  ({ s with pwr := { s.pwr with current := some (t, p) } }).showPhase t.dom p

/-- The DOMAIN entry that a transition came from is complete (R36, R52). -/
def State.domainMonitor (s : State) (t : Transition) : State :=
  match t.entry with
  | some (l, i) => s.monitorsDone fun m => m.kind == 4 && m.lap == l && m.index == i
  | none => s

/-- State to which a transition of PD8 takes bank b (R38). -/
def State.bankTarget (s : State) (t : Transition) (b : Nat) : Nat :=
  if t.banks.getLsbD b then t.target
  else if t.target ≠ 2 && s.domState 8 = 2 && s.bankState b = 2 then 1
  else s.bankState b

/-- Banks that a transition of PD8 moves, with their states before it. -/
def State.bankMoves (s : State) (t : Transition) : List (Nat × Nat) :=
  if t.dom ≠ 8 then []
  else (List.range 32).filterMap fun b =>
    if s.bankTarget t b ≠ s.bankState b then some (b, s.bankState b) else none

/-- Something comes on in the transition: the domain, a bank, or what passes through on to retention (R50). -/
def wakesFirst (t : Transition) (was : Nat) (moves : List (Nat × Nat)) : Bool :=
  (t.dom ≠ 8 && was < t.target) || (t.dom = 8 && (was < t.target || moves.any fun m => m.2 < t.target))

/-- Something leaves the on state in it, so that PREPARE runs (R50). -/
def leavesFirst (t : Transition) (was : Nat) (moves : List (Nat × Nat)) : Bool :=
  t.target < 2 && (was = 2 || moves.any fun m => m.2 = 2)

/-- The domain reads as in transition. A transition of PD8 whose base holds its target moves only banks, unless its
base has to come on for them. -/
def movesBase (t : Transition) (was : Nat) (moves : List (Nat × Nat)) : Bool :=
  t.dom ≠ 8 || was ≠ t.target || (was < 2 && wakesFirst t was moves)

/-- TRANSITION_START (R50, R274, R276 to R278): the controller takes up the head of its queue. One whose target is
reached completes at once. A wake starts XO32M (R292). -/
def transitionStartEffect (s : State) : State :=
  if s.pwr.current.isSome then s
  else match s.pwr.queue with
    | [] => s
    | t :: rest =>
      let s := s.setQueue rest
      let was := s.domState t.dom
      let moves := s.bankMoves t
      if was = t.target && moves.isEmpty then s.domainMonitor t
      else
        let s := { s with pwr := { s.pwr with moving := moves, was := was, thenRetain := false, latched := none } }
        let s := if movesBase t was moves then s.setDomState t.dom 3 else s
        let s := moves.foldl (fun s m => s.setBankState m.1 3) s
        if wakesFirst t was moves then
          let s := { s with pwr := { s.pwr with thenRetain := t.target < 2 } }
          (s.inPhase t (.wake 0)).xoStart
        else if leavesFirst t was moves then s.inPhase t .prepare
        else s.inPhase t .commit

/-- TRANSITION_START. -/
def execTransitionStart (s : State) : Host.Outcome State Fault Refusal := .next (transitionStartEffect s)

/-! ## Seals (R282 to R285) -/

/-- Canary i of bank b with stamp v (R283). -/
def canaryOf (v : W16) (b i : Nat) : W16 :=
  if i = 0 then v else if i = 1 then v ^^^ 0xFFFF else if i = 2 then BitVec.ofNat 16 (0x5A00 + b)
  else BitVec.ofNat 16 (0xA500 + b)

/-- The four canaries of each bank are written with a new stamp (R283), which ends the bit errors on them. -/
def State.sealBanks (s : State) (bs : List Nat) : State :=
  if bs.isEmpty then s
  else
    let v := s.word A.PWR_SEALCNT + 1
    bs.foldl (fun s b =>
      { s with ecc := s.ecc.filter fun e => !e.onCanary b, pwr := { s.pwr with
          stamp := vset s.pwr.stamp b v
          canary := (List.range 4).foldl (fun c i => cellsPut zeroWord c (4 * b + i) (canaryOf v b i)) s.pwr.canary } })
      (s.setWord A.PWR_SEALCNT v)

/-- The canaries of a bank, after correction, are what its stamp asks for, with no double-bit error (R284). -/
def State.sealGood (s : State) (b : Nat) : Bool :=
  ((List.range 4).all fun i => cellsGet zeroWord s.pwr.canary (4 * b + i) == canaryOf (vget s.pwr.stamp b 0) b i)
    && s.ecc.all fun e => !(e.onCanary b && e.double)

/-- The seal check of a bank that wakes from retention (R284, R285): corrected errors of its canaries count. -/
def State.checkSeal (s : State) (t : Transition) (b : Nat) : State :=
  let s := s.bumpBy A.PWR_ECCCNT (s.ecc.countP fun e => e.onCanary b && !e.double)
  if s.sealGood b then s else (s.breach 8 St.BANK_LOST t.entry 0 8).loseBank b

/-! ## Ready (R274) -/

/-- A bank is on: checked where it was retained, its words zero and its LOST bit clear where it was off (R285). -/
def State.bankAwake (s : State) (m : Nat × Nat) (t : Transition) : State :=
  let s := s.setBankState m.1 2
  if m.2 = 1 then s.checkSeal t m.1 else { s.setBankLost m.1 false with sram := s.sram.filter fun c => bankOf c.1 != m.1 }

/-- The memory step (R50, R274, R284, R330, R383): banks are checked or cleared, key slots reloaded, the head found. -/
def State.memoryStep (s : State) (t : Transition) : State :=
  let fromOff := s.pwr.was = 0
  let s := if t.dom = 8 then
      { (s.pwr.moving.filter fun m => m.2 < 2).foldl (fun s m => s.bankAwake m t) s with
        pwr := { s.pwr with moving := s.pwr.moving.map fun m => if m.2 < 2 then (m.1, 2) else m } }
    else s
  let s := if t.dom = 14 && fromOff then s.vaultLoad else s
  if t.dom = 9 && fromOff then s.headSearch else s

/-- What else a domain's wake does before it reports ready: RWL registers of PD15 come back from their store, and the
chains learn whether they have a reference (R124, R273). -/
def State.logicStep (s : State) (d : Nat) : State :=
  let s := match s.wflStore with
    | some cs => if d = 15 then cs.foldl (fun s c => s.setWord c.1 c.2) s else s
    | none => s
  let noref := !s.flag A.CLK_STAT 15
  if d = 12 then s.setFlag (A.RF_STAT .A) 8 noref
  else if d = 13 then s.setFlag (A.RF_STAT .B) 8 noref
  else s

/-- The frame counters after PD11 wakes from off (R211): each starts at its reservation, and a new one is asked for. -/
def State.countersFromReserve (s : State) : State :=
  (List.range 16).foldl (fun s j => (s.wrw (A.LNK_FC j) 2 (s.fcReserve j)).fcRenew j) s

/-- What a wake from off brings back in a domain that is on again: PD0's resident region (R406), PD11's frame counters
(R211). -/
def State.wokenFromOff (s : State) (d : Nat) : State :=
  if d = 0 then { s with romIn := true } else if d = 11 then s.countersFromReserve else s

/-- The domain is ready: it reads on, PWR_READY fires, and what waited for it goes on (R274, R361, R396). -/
def State.domainReady (s : State) (t : Transition) : State :=
  let fromOff := s.pwr.was = 0
  let s := ((s.setDomState t.dom 2).endTransition).fire 0x52 0
  let s := s.domainMonitor t
  let s := if fromOff then s.wokenFromOff t.dom else s
  let s := if t.dom = 15 then s.wflRead else s
  (s.applyAtWake t.dom fromOff).wakeLevels

/-- The wake part is over: ready, or on to PREPARE where the transition ends in retention (R50). -/
def State.wakeOver (s : State) (t : Transition) : State :=
  let s := s.logicStep t.dom
  if s.pwr.thenRetain then s.inPhase t .prepare
  else
    (if t.dom = 8 && s.pwr.was ≠ 2 then { s with phase := 0 } else s).domainReady t

/-- WAKE_STEP_READY (R274): regulator, clock, memory and logic in order. The clock step waits for a qualified source. -/
def wakeStepReadyEffect (s : State) : State :=
  match s.pwr.current with
  | some (t, .wake k) =>
    if k = 1 && !s.clocked then s
    else if k = 2 then (s.memoryStep t).inPhase t (.wake 3)
    else if k < 2 then s.inPhase t (.wake (k + 1))
    else s.wakeOver t
  | _ => s

/-! ## PREPARE (R278, R279) -/

/-- Engine k refuses an entry of its domain. -/
def State.engineBusy (s : State) (k : Fin 8) : Bool :=
  (s.engine k).task.isSome || s.selfTest == some k || s.drains k

/-- A transmit descriptor, a relayed control frame's among them, is past its commit point, or a frame is judged or
acknowledged. -/
def State.linkBusy (s : State) : Bool :=
  (List.range' 1 17).any (fun n => (s.ring n).out.any fun d => d.2.2)
    || s.msh.relays.any (fun r => r.cls == 0 && r.committed) || !s.lnk.judging.isEmpty
    || (s.lnk.ackOut[0]).isSome || (s.lnk.ackOut[1]).isSome

/-- The Waifeti frame engine refuses (R400). -/
def State.frameBusy (s : State) : Bool :=
  s.wfl.header.isSome || (List.range 4).any (fun i => s.flag A.WFL_STAT i) || !s.wfl.pend.isEmpty

/-- Blocks of domain d that refuse its entry, lowest window first (R278, R129, R400). A gated unit is ready at once. -/
def State.refusers (s : State) (d : Nat) : List Nat :=
  let gate (n : Nat) : Bool := s.flag A.CLK_GATESTAT n
  if d < 8 then (if s.engineBusy (Fin.ofNat 8 d) then [0x1F] else [])
  else if d = 11 then
    (if (List.range 10).any (fun k => match (vget s.lane k Lane.init).frame with
        | some f => f.sub == 4
        | none => false) then [Win.RXE] else [])
    ++ (if s.linkBusy then [Win.LNK] else [])
    ++ (if s.msh.relays.any (fun r => r.committed) || s.msh.holdWait.isSome then [Win.MSH] else [])
  else if d = 12 then (if s.rfState .A ≠ 0 then [Win.RFA] else [])
  else if d = 13 then (if s.rfState .B ≠ 0 then [Win.RFB] else [])
  else if d = 14 then (if s.vlt.ops.any fun o => o.committed && !gate o.unit then [Win.VLT] else [])
  else if d = 15 then
    (if s.gaugeBusy then [Win.GAU] else [])
    ++ (if (List.range 6).any fun u => s.unitBusy u && !gate (unitGate u) then [Win.PER] else [])
    ++ (if !s.pan.isEmpty && !gate 3 then [Win.PAN] else [])
    ++ (if s.frameBusy && !gate 13 then [Win.WFL] else [])
  else []

/-- Blocks of a domain, by window number or 1Fh for an engine. -/
def blocksOf (d : Nat) : List Nat :=
  if d < 8 then [0x1F]
  else if d = 8 then [Win.RING]
  else if d = 9 then [Win.JNL]
  else if d = 10 then [Win.SEQ, Win.CBL]
  else if d = 11 then [Win.RXE, Win.MOD, Win.LNK, Win.MSH]
  else if d = 12 then [Win.RFA]
  else if d = 13 then [Win.RFB]
  else if d = 14 then [Win.VLT]
  else [Win.CAD, Win.GAU, Win.PER, Win.PAN, Win.WFL]

/-- PREPARE_DONE (R278 to R280): every block has answered, or the 32nd cycle has passed; `noReply` names a block that
had not answered by then. The entry goes to COMMIT, or ends refused. PD9's waits until its writer is idle (R50). -/
def prepareDoneEffect (noReply : Option (BitVec 5)) (s : State) : State :=
  match s.pwr.current with
  | some (t, .prepare) =>
    if t.dom = 9 && s.dict.writing.isSome then s
    else match s.refusers t.dom with
      | b :: _ => s.refuseEntry 0 b
      | [] =>
      if t.dom ≠ 9 && noReply.any fun b => (blocksOf t.dom).contains b.toNat then
        s.refuseEntry 1 ((noReply.getD 0).toNat)
      else { s.inPhase t .commit with ntRun := s.ntRun && t.dom ≠ 10 }
  | _ => s

/-- PREPARE_DONE. -/
def execPrepareDone (noReply : Option (BitVec 5)) (s : State) : Host.Outcome State Fault Refusal :=
  .next (prepareDoneEffect noReply s)

/-! ## The end of an entry (R61, R271, R272, R280, R281) -/

/-- An engine's registers that retention loses (R61). -/
def State.engineRetained (s : State) (k : Fin 8) : State :=
  let lose (b : Bank) : Bank := { b with g := Bank.init.g, a := Bank.init.a, acc := Bank.init.acc }
  let e := s.engine k
  let s := s.setEngine k { e with bank := lose e.bank }
  if k.val = 0 then { s with svc := lose s.svc } else s

/-- Domain d enters retention. -/
def State.domRetained (s : State) (d : Nat) : State :=
  let s := (s.setDomState d 1).clearGates d
  if d < 8 then s.engineRetained (Fin.ofNat 8 d) else s

/-- PD8's part of an entry's end: its base and the banks that move. -/
def State.ramEntry (s : State) (t : Transition) : State :=
  let s := s.pwr.moving.foldl (fun s m => if t.banks.getLsbD m.1 && t.target = 0 then s.bankOff m.1 else s.setBankState m.1 1) s
  let sealed := s.pwr.moving.filter fun m => m.2 = 2 && s.bankState m.1 = 1
  let s := s.sealBanks (sealed.map (·.1))
  if s.domState 8 ≠ 3 then s
  else if t.target = 0 then (s.loseBlocks 8).setDomState 8 0
  else s.setDomState 8 1

/-- An access to a retired engine's domain completes at once with an error response, a read as 0 (R85). -/
def State.closedAccess (s : State) (w : Access) : State :=
  let t := { s with waits := s.waits.erase w }
  match w.kind with
  | .write _ => t.errorTo
  | .read => { t.errorTo with lastRead := 0 }
  | _ => s.serveAccess w

/-- The accesses that waited for an entry to complete, of the runners and the debug port and of the blocks, make demand
wakes (R18, R19); an access to a domain that is held off from now on ends as R85 says. -/
def State.rewake (s : State) (d : Nat) : State :=
  let s := (s.waits.filter fun w => w.dom == some d).foldl (fun s w =>
    if s.heldOff d then s.closedAccess w else s.wakeFor d w.bank w.port none 0) s
  let blocks := s.portWaits.filter fun p => p.1 == d
  blocks.foldl (fun s p => s.wakeFor d p.2.2 p.2.1 none 0)
    { s with portWaits := s.portWaits.filter fun p => p.1 != d }

/-- A journal entry that waited out PD9's transition makes a demand wake where PD9 is no longer on, unless it is the seal
logic's (R382). -/
def State.jnlRewake (s : State) (d : Nat) : State :=
  if d = 9 && s.dict.jnl.any (fun r => r.source != 1) then s.wakeFor 9 0 11 none 0 else s

/-- A source that holds a level request names the domain in its set (R275). -/
def State.levelHeld (s : State) (d : Nat) : Bool :=
  (List.range 13).any fun n => s.flag A.PWR_WPEND n && (s.wakeSet n).contains d

/-- A wake latched during COMMIT is the next transition; a level request that came in the commit window, where it is
still asserted (R281). -/
def State.runLatched (s : State) (d : Nat) (l : Option Bool) : State :=
  if l = some false || (l = some true && s.levelHeld d) then
    s.setQueue (s.wakeTransition d :: s.pwr.queue.filter fun x => x.demand || x.dom != d || x.target != 2)
  else s

/-- ENTRY_COMPLETE (R280, R281): the entry is complete at the end of the commit window. -/
def entryCompleteEffect (s : State) : State :=
  match s.pwr.current with
  | some (t, .commit) =>
    let latched := s.pwr.latched
    let s := if t.dom = 8 then s.ramEntry t
      else if t.target = 0 then s.domOff t.dom else s.domRetained t.dom
    let s := s.endTransition.domainMonitor t
    let s := ((s.rewake t.dom).jnlRewake t.dom).runLatched t.dom latched
    s.wakeLevels.xoStop
  | _ => s

/-- ENTRY_COMPLETE. -/
def execEntryComplete (s : State) : Host.Outcome State Fault Refusal := .next (entryCompleteEffect s)

/-! ## Accesses that waited (R18, R19) -/

/-- What an access waited for is on. -/
def State.readyFor (s : State) (w : Access) (d : Nat) : Bool :=
  s.on d && !(d == 8 && inSram w.addr && s.bankState w.bank ≠ 2)

/-- An access of a runner to shared SRAM goes on to its crossbar slot; any other is served. -/
def State.wokenAccess (s : State) (w : Access) : State :=
  let slot := inSram w.addr && (match w.kind with
    | .load _ => true
    | .store _ => true
    | .ring .. => true
    | _ => false)
  if slot then { s with waits := s.waits.map fun x => if x == w then { x with dom := none } else x }
  else s.serveAccess w

/-- What the blocks kept until PD8 and its banks or PD14 were on goes on (R18, R26, R30): octets, completions,
acknowledgements and preparations; functions that were disabling may have nothing left (R261). -/
def State.blocksGoOn (s : State) (d : Nat) : State :=
  if d = 8 then
    let s := (s.lateOctets.lateCompletions).resumeSeals.settleEn
    (s.enSettle A.VLT_CTRL (!s.vlt.ops.isEmpty)).enSettle A.GAU_CTRL s.gaugeBusy
  else if d = 14 then s.lateAcks.resumeSeals
  else s

/-- DEMAND_WAKE_COMPLETE (R18): what waited for domain d completes with its normal result, where what it waits for is
on. -/
def demandWakeCompleteEffect (d : Fin 16) (s : State) : State :=
  let s := (s.waits.filter fun w => w.dom == some d.val && s.readyFor w d).foldl (fun s w => s.wokenAccess w) s
  if s.on d then s.blocksGoOn d else s

/-- DEMAND_WAKE_COMPLETE. -/
def execDemandWakeComplete (d : Fin 16) (s : State) : Host.Outcome State Fault Refusal :=
  .next (demandWakeCompleteEffect d s)

/-! ## The rebuild of LOST banks (R286) -/

/-- Words of the image that a bank is rebuilt from: zeros, an image of the running sheet package, or free words of the
Pannier store (log entry 4); none where the image is not there. -/
def State.bankImage (s : State) (b : Nat) : Option (List W16 × State) :=
  let src := s.rd (A.PWR_REBUILD b) 15 14
  let k := s.rd (A.PWR_REBUILD b) 11 0
  if src = 0 then some ([], s)
  else if src = 1 then
    if k < s.pkgBanks then
      let at_ := bodyAt s.runHdr + (section_ s.runHdr 16).1 + s.pkgBankAt + 65536 * k
      some (packOctets (s.areaOctets runningArea at_ 65536), s)
    else none
  else if Config.storePresent then
    let c := s.freeCtr
    some ((List.range 32768).map fun i => Config.freeValue 16 (c + i), { s with freeCtr := c + 32768 })
  else none

/-- A LOST bank is written from its image, and its bit is cleared. -/
def State.rebuild (s : State) (b : Nat) : State :=
  if !s.bankLost b || s.bankState b ≠ 2 || !s.on 8 then s
  else match s.bankImage b with
    | none => s
    | some (ws, s) =>
      let base := 0x100000 + 0x8000 * b
      let new := cellsFrom zeroWord base (ws.take 0x8000)
      let below := s.sram.filter fun c => c.1 < base
      let above := s.sram.filter fun c => base + 0x8000 ≤ c.1
      { s.setBankLost b false with
        sram := below ++ new ++ above
        ecc := s.ecc.filter fun e => !(e.mem == 0 && inSram e.addr && bankOf e.addr == b) }

/-- BANK_REBUILD (R286): E0's service rebuilds every LOST bank that is on. -/
def bankRebuildEffect (s : State) : State :=
  if s.serves then (List.range 32).foldl (fun s b => s.rebuild b) s else s

/-- BANK_REBUILD. -/
def execBankRebuild (s : State) : Host.Outcome State Fault Refusal := .next (bankRebuildEffect s)

end Sys2Proof.Machine
end

