-- ==== Sys2Proof/Machine/Responses.lean ====
section
/-!
DEFINITION. The dictionary service's input and output (R366 to R371, R374, R375): the command at the head of ring 0,
journal entries by request, roles and tags, and responses to the wire and to the mesh.
-/
namespace Sys2Proof.Machine

/-! ## Journal entries by field (R380) -/

def jWord (e : List W16) (k : Nat) : Nat := (e.getD k 0).toNat
def jSeq (e : List W16) : Nat := ofWords (e.take 2)
def jType (e : List W16) : Nat := bits (jWord e 6) 15 8
def jStatus (e : List W16) : Nat := bits (jWord e 6) 7 0
def jOrigin (e : List W16) : Nat := jWord e 8 + 65536 * jWord e 9
def jDetail (e : List W16) : Nat := jWord e 10 + 65536 * jWord e 11
def jIndex (e : List W16) : Nat := jWord e 12
def jSub (e : List W16) : Nat := bits (jWord e 13) 15 8
def jOp (e : List W16) : Nat := bits (jWord e 7) 7 0

/-- The entry records a command: COMMAND, or the HOLD of a mesh frame, which stands for one (R377). -/
def jCommand (e : List W16) : Bool := jType e = 1 || (jType e = 0x14 && jOrigin e ≠ 0xC0000002)

/-- Operation, index and sub-index of a command's entry. -/
def jPoint (e : List W16) : Nat × Nat × Nat := if jType e = 1 then (jOp e, jIndex e, jSub e) else (5, 0, 0)

/-- The command's entry of an origin and REQID that the journal holds. -/
def State.commandEntry (s : State) (origin reqid : Nat) : Option (List W16) :=
  s.jnlEntries.find? fun e => jCommand e && jOrigin e = origin && jDetail e = reqid

/-- The OUTCOME entry that follows a command's. -/
def State.outcomeEntry (s : State) (origin reqid seq : Nat) : Option (List W16) :=
  s.jnlEntries.find? fun e => jType e = 2 && jOrigin e = origin && jDetail e = reqid && seq < jSeq e

/-! ## The command at the head of ring 0 (R366, R369, R398) -/

/-- A command as it came in. -/
structure Incoming where
  origin : Origin
  /-- From the wire, with eight TAG octets. -/
  wire : Bool
  octets : List Octet
  /-- Waifeti receive slot that holds it. -/
  slot : Option Nat
  /-- Key map entry that opened a mesh frame. -/
  key : Option Nat
  /-- The frame carries schedule content and is stale (R226, R378). -/
  stale : Bool
  /-- A HOLD frame, whose entry the relay engine writes (R377). -/
  hold : Bool
deriving DecidableEq, Repr

def Incoming.op (c : Incoming) : Nat := oct c.octets 0
def Incoming.role (c : Incoming) : Nat := oct c.octets 1 / 16
def Incoming.reqid (c : Incoming) : Nat := octs c.octets 2 4
def Incoming.index (c : Incoming) : Nat := octs c.octets 6 2
def Incoming.sub (c : Incoming) : Nat := oct c.octets 8
def Incoming.offset (c : Incoming) : Nat := octs c.octets 10 2
def Incoming.len (c : Incoming) : Nat := octs c.octets 12 2
/-- Octets without the TAG. -/
def Incoming.body (c : Incoming) : List Octet := if c.wire then c.octets.take (c.octets.length - 8) else c.octets
def Incoming.tag (c : Incoming) : List Octet := c.octets.drop (c.octets.length - 8)
def Incoming.data (c : Incoming) : List Octet := c.body.drop 14

/-- Word k of the record at the head of ring 0. -/
def State.headWord (s : State) (k : Nat) : Nat := (s.placeWord 0 (s.ring 0).ci.toNat k).toNat

/-- A record from the wire: LANE reads Fh. -/
def State.headWire (s : State) : Bool := bits (s.headWord 2) 3 0 = 15

/-- Ring 0 holds a record that the service can take now: E0 serves, PD8 is on, and no command waits for its entry
(R373). -/
def State.headReady (s : State) : Bool :=
  s.serves && s.on 8 && s.ringEn 0 && 0 < (s.ring 0).used && s.dict.waiting.isEmpty
    && s.bankState (bankOf (s.placeAddr 0 (s.ring 0).ci.toNat)) = 2

/-- The head is a RESET frame's record (R399). -/
def State.headReset (s : State) : Bool := s.headWire && bits (s.headWord 2) 15 8 = 5

/-- The head as a command. -/
def State.incoming (s : State) : Incoming :=
  if s.headWire then
    let buf := s.headWord 4 + 65536 * bits (s.headWord 5) 7 0
    { origin := .wire, wire := true, octets := s.octets buf (bits (s.headWord 3) 10 0)
      slot := some (bits (s.headWord 11) 1 0), key := none, stale := false, hold := false }
  else
    let place := (s.ring 0).ci.toNat % s.ringSize 0
    let frame := match s.lnk.control.find? fun e => e.1 == place with
      | some e => e.2
      | none => []
    let pay := frame.drop (bits (s.headWord 13) 10 0)
    match parseMesh pay with
    | some m =>
      { origin := .mesh (BitVec.ofNat 8 m.zone) (BitVec.ofNat 16 m.origin), wire := false
        octets := pay.drop (if m.kind = 3 then 20 else 16), slot := none, key := s.rxKey (parseMhr frame)
        stale := m.sched && m.zone = s.rd A.MSH_CTRL 7 0 && m.stage < s.stage, hold := m.kind = 3 }
    | none => { origin := .none, wire := false, octets := [], slot := none, key := none, stale := false, hold := false }

/-- The head is taken from ring 0, its copy and its receive slot freed. -/
def State.takeHead (s : State) : State :=
  let slot := if s.headWire then some (bits (s.headWord 11) 1 0) else none
  let place := (s.ring 0).ci.toNat % s.ringSize 0
  let s := (s.qfetch 0 1).getD s
  let s := { s with lnk := { s.lnk with control := s.lnk.control.filter fun e => e.1 != place } }
  match slot with
  | some i => s.rxFree (2 ^ i)
  | none => s

/-! ## Roles and tags (R370, R371) -/

/-- Site identifier; 0 while the node is not provisioned. -/
def State.siteId (s : State) : Nat := ofOctets ((s.setting 0x0101 1).getD [])

/-- Key slot that 1100h names for a role; 0 is none. -/
def State.wireSlot (s : State) (role : Nat) : Nat := ofOctets ((s.setting 0x1100 role).getD [])

/-- A slot that a CMAC may be computed under. -/
def State.cmacSlot (s : State) (n : Nat) : Bool :=
  s.puf ≠ 2 && !s.slotBad n && match s.keySlot n with
    | some k => (attrType k.attr = 1 || attrType k.attr = 2) && k.attr.getLsbD 10
    | none => false

/-- The first eight octets of CMAC-AES under a slot. -/
def State.cmac8 (s : State) (slot : Nat) (msg : List Octet) : List Octet :=
  vaultOctets 0x07 (s.keyOf slot) (packOctets msg) 8

/-- The key slot of a command's tag, where it carries one that is checked. -/
def State.tagSlot (s : State) (c : Incoming) : Option Nat :=
  if c.wire && s.siteId ≠ 0 && 1 ≤ c.role && c.role ≤ 4 && s.wireSlot c.role ≠ 0 then some (s.wireSlot c.role) else none

/-- Check 2 of R372. -/
def State.tagOk (s : State) (c : Incoming) : Bool :=
  if !c.wire || s.siteId = 0 then true
  else match s.tagSlot c with
    | some n => s.cmacSlot n && s.cmac8 n (toOctets 4 c.origin.code.toNat ++ c.body) == c.tag
    | none => c.role ≠ 1 || c.tag == List.replicate 8 0

/-- Check 3 of R372: the role claimed is a role, and granted. -/
def State.roleOk (s : State) (c : Incoming) : Bool :=
  1 ≤ c.role && c.role ≤ 4 &&
    (if c.wire then s.siteId = 0 || c.role = 1 || s.wireSlot c.role ≠ 0
    else match c.key with
      | some j => c.role ≤ ofOctets ((s.setting 0x1200 (j + 1)).getD [])
      | none => false)

/-! ## Responses (R368, R369, R398) -/

/-- The octets of a response, without a tag. -/
def Response.octets (r : Response) : List Octet :=
  [BitVec.ofNat 8 (r.op + 0x80), BitVec.ofNat 8 r.status] ++ toOctets 4 r.reqid.toNat ++ toOctets 4 r.jseq.toNat
    ++ toOctets 4 r.abort.toNat ++ [r.flags, 0] ++ toOctets 2 r.data.length ++ r.data

/-- E0's service writes octets into shared SRAM (R18, R66): no OFF_SLOT record, and a sleeping bank wakes first. -/
def State.serviceOctets (s : State) (a : Nat) (os : List Octet) : State :=
  let n := (os.length + 1) / 2
  let t := s.portWake 0 a n
  if t.ramReady a n then t.putOctets a 0 os else { t with latePuts := t.latePuts ++ [(a, 0, os)] }

/-- A response goes into the lowest free response slot; none where four are pending or PD15 is not on. -/
def State.sendWire (s : State) (r : Response) : Option State :=
  if !s.on 15 then none
  else match (List.range 4).find? fun j => !(s.wfl.pend.any fun p => p.slot == j) with
    | none => none
    | some j =>
      let tag := match r.tag with
        | some n => s.cmac8 n (toOctets 4 r.origin.code.toNat ++ r.octets)
        | none => List.replicate 8 0
      let os := r.octets ++ tag
      let a := s.rdw A.WFL_RSPBASE 2 + 528 * j
      some ((s.serviceOctets a os).rspCtl (j * 16384 + os.length))

/-- Path of mesh responses, and their TTL (1210h). -/
def State.responsePath (s : State) : Nat := ofOctets ((s.setting 0x1210 1).getD [0xFF])
def State.responseTtl (s : State) : Nat := ofOctets ((s.setting 0x1210 2).getD [8])

/-- A response is posted on ring 1 as a control frame of class 0, PATH or FLOOD (R369). Its MAC header is one of the
relay engine's; where in shared SRAM the service builds it and its SEQ are free (log entry 21). -/
def State.sendMesh (s : State) (zone : Octet) (node : W16) (r : Response) : Option State :=
  if !s.on 11 || !s.on 8 then none
  else match s.qpost 1 1 with
    | none => none
    | some posted =>
      let flood := s.responsePath = 0xFF
      let b := posted.draw 16
      let q := b.2.draw 16
      let buf := 0x100000 + 16 * b.1.toNat
      let nbr := if flood then 0x3FF else bits (s.pathWord s.responsePath) 9 0
      let m : Mesh :=
        { dual := false, kind := if flood then 1 else 2, cls := 0, hops := 0, ttl := s.responseTtl, zone := zone.toNat
          path := if flood then 0 else s.responsePath, sched := false, origin := (s.word A.LNK_SHORT).toNat
          seq := q.1.toNat, dest := if flood then 0xFFFF else node.toNat, stage := s.stage }
      let rc := s.rclass 0
      let os := s.relayFrame 0 nbr (!flood) m r.octets
      let ws : List W16 := ([0, bits rc 23 16 * 256 + bits rc 15 12 * 16 + 4, 0, os.length, 15, buf % 65536, buf / 65536,
        16384 + bits rc 3 0 * 1024 + nbr] ++ List.replicate 8 0).map (BitVec.ofNat 16)
      some ((q.2.putOctets buf 0 os).sramPuts (s.placeAddr 1 (s.ring 1).pi.toNat) ws)

/-- A response leaves by the way its command came; none where it has to wait. -/
def State.sendResponse (s : State) (r : Response) : Option State :=
  match r.origin with
  | .wire => s.sendWire r
  | .mesh z n => s.sendMesh z n r
  | _ => some s

/-- Responses that wait are sent in order, as far as there is room. -/
def State.flushResponses (s : State) : State :=
  s.dict.responses.foldl (fun s r => match s.sendResponse r with
    | some t => { t with dict := { t.dict with responses := t.dict.responses.erase r } }
    | none => s) s

/-- A response is given. -/
def State.respond (s : State) (r : Response) : State :=
  ({ s with dict := { s.dict with responses := s.dict.responses ++ [r] } }).flushResponses

/-- A command is refused with an abort code (R368). -/
def State.refuse (s : State) (c : Incoming) (abort : Nat) : State :=
  s.respond { origin := c.origin, op := c.op, status := St.BAD_DESCRIPTOR, reqid := BitVec.ofNat 32 c.reqid, jseq := 0
              abort := BitVec.ofNat 32 abort, flags := 0, data := [], tag := s.tagSlot c }

/-- A command that is not journaled is answered. -/
def State.answer (s : State) (c : Incoming) (data : List Octet) : State :=
  s.respond { origin := c.origin, op := c.op, status := St.OK, reqid := BitVec.ofNat 32 c.reqid, jseq := 0, abort := 0
              flags := 0, data := data, tag := s.tagSlot c }

/-- An accepted command is answered. -/
def State.answerCmd (s : State) (c : DictCmd) (status abort : Nat) : State :=
  s.respond { origin := c.origin, op := c.op, status := status, reqid := c.reqid, jseq := c.seq
              abort := BitVec.ofNat 32 abort, flags := 0, data := [], tag := c.tag }

/-- FETCH (R398): once a response has left, one that waited for a slot takes it. -/
def execFetch (accept : Bool) (s : State) : Host.Outcome State Fault Refusal :=
  .next (s.wflBack 2 s.wflOldest
    (fun s => ({ s with wfl := { s.wfl with pend := s.wfl.pend.tail } }).flushResponses) accept)

/-- RESPONSE_EXPIRY (R400): a response not fetched in time is discarded. -/
def execResponseExpiry (slot : Fin 4) (s : State) : Host.Outcome State Fault Refusal :=
  .next (responseExpiryEffect slot s).flushResponses

end Sys2Proof.Machine
end

