-- ==== Sys2Proof/Machine/Update.lean ====
section
/-!
DEFINITION. EXECs as they end (R373, R376), the route sheet of the running package, and the loader (R417 to R428):
staging, activation, the copy of an image, and settings whose format changed.
-/
namespace Sys2Proof.Machine

/-! ## EXECs that end (R359, R373) -/

/-- An OUTCOME entry of a command. -/
def State.outcome (s : State) (origin reqid : BitVec 32) (index sub status : Nat) : State :=
  s.jnlService (jnlEvent 2 status reqid.toNat index sub 0 origin)

/-- The EXEC that runs on a point. -/
def State.execOf (s : State) (index sub : Nat) : Option ExecRun :=
  s.dict.execs.find? fun e => e.cmd.index == index && e.cmd.sub == sub

/-- The EXEC of a point is past its commit point (R364, R429). -/
def State.execCommits (s : State) (index sub : Nat) : State :=
  { s with dict := { s.dict with
    execs := s.dict.execs.map fun e => if e.cmd.index == index && e.cmd.sub == sub then { e with committed := true } else e } }

/-- The EXEC of a point ends: its state, and its OUTCOME entry with the final status. -/
def State.finishExec (s : State) (index sub status : Nat) : State :=
  match s.execOf index sub with
  | none => s
  | some e =>
    let last := s.dict.execLast.filter fun p => !(p.1 == index && p.2.1 == sub)
    let s := { s with dict := { s.dict with
      execs := s.dict.execs.erase e, execLast := last ++ [(index, sub, if status = St.OK then 2 else 3)] } }
    s.outcome e.cmd.origin.code e.cmd.reqid index sub status

/-- An EXEC that its first checks refuse (R379, R417, R419): answered OPERATION_FAILED, or OK with code 0. -/
def State.answerExec (s : State) (index sub status : Nat) : State :=
  match s.execOf index sub with
  | none => s
  | some e => s.answerCmd e.cmd status (if status = St.OK then 0 else Ab.OPERATION_FAILED)

/-- Reason of an update step that fails: D010h.07, and a REFUSED entry (R417, R425). -/
def State.updateFails (s : State) (status reason : Nat) : State :=
  ({ s with upd := { s.upd with reason := reason } }).updateEntry 9 0 status reason

/-! ## The sheet package (R365, R416) -/

/-- The running package's sheet goes into the sequencer, its function table and reload rows to the service (R365). -/
def State.loadSheet (s : State) : State :=
  let s := s.wrw A.SEQ_SLOTLEN 2 (s.pkg 0 4)
  let s := (List.range 8).foldl (fun s n =>
    ((s.setWord (A.SEQ_LAP_CFG n) (BitVec.ofNat 16 ((bit (s.pkg 4 1) n).toNat * 32768 + s.pkgLap n 0))).setWord
      (A.SEQ_LAP_BASE n) (BitVec.ofNat 16 (s.pkgLap n 1))).setWord (A.SEQ_LAP_COUNT n) (BitVec.ofNat 16 (s.pkgLap n 2))) s
  let table := packOctets ((s.runSection 16).drop 80 |>.take (16 * s.pkgEntries))
  { s with
    seq := { s.seq with table := wordCells table }
    dict := { s.dict with points := s.pkgPointList }
    upd := { s.upd with rows := s.pkgRows } }

/-- Octets that MEAS1 is extended with for a committed sheet (R353): the package's section, or in kickstand the
table. -/
def State.sheetOctets (s : State) : List Octet :=
  if s.flag A.SYS_BOOTCNT 7 then unpackWords ((List.range 0x10000).map fun i => cellsGet zeroWord s.seq.table i)
  else s.runSection 16

/-! ## Image checks (R414, R415, R417) -/

/-- The first of checks 1 to 3 that a header fails. -/
def headFault (h : List Octet) : Option Nat :=
  if h.take 4 ≠ [0x4C, 0x4A, 0x49, 0x4D] || hdr h 4 2 ≠ 1 then some 0x0101
  else if hdr h 6 2 ≠ 0x9616 then some 0x0102
  else if !bit (hdr h 8 1) 1 then some 0x0103
  else none

/-- Rollback floor (D012h.01). -/
def State.floor (s : State) : Nat := ofOctets ((s.setting 0xD012 1).getD [])

/-- The first of checks 1 to 8 that a header to be staged fails; `have_` octets of header and signatures were written. -/
def State.openFault (s : State) (h : List Octet) (have_ : Nat) : Option Nat :=
  match headFault h with
  | some r => some r
  | none =>
    if hdr h 32 4 ≠ 0 && hdr h 32 4 ≠ s.siteId then some 0x0104
    else if s.runVersion < hdr h 16 4 || hdr h 20 4 < s.runVersion then some 0x0105
    else if hdrVersion h = s.runVersion || hdrVersion h < s.floor then some 0x0106
    else if 0x180000 < bodyAt h + hdrBodyLen h then some 0x0107
    else if !headerShape h || have_ < bodyAt h then some 0x0108
    else none

/-- A key slot that a verification may use. -/
def State.verifySlot (s : State) (n : Nat) : Option KeySlot :=
  if s.puf = 2 || s.slotBad n then none else s.keySlot n

/-- Both signatures of a header verify under slots 6 and 7 (check 9). -/
def State.signed_ (s : State) (h sigs : List Octet) : Bool := dualResult (s.verifySlot 6) (s.verifySlot 7) h sigs = 0

/-- Record i of an encrypted body (R415), opened. -/
def openRecord (h body : List Octet) (key i : Nat) : Option (List Octet) :=
  let rec_ := (body.drop (32784 * i)).take 32784
  let n := rec_.length - 16
  let nonce := (h.drop 36).take 8 ++ (toOctets 4 i).reverse
  let input := (16 : W16) :: 64 :: packOctets (nonce ++ rec_.drop n) ++ packOctets (h.take 64 ++ rec_.take n)
  if Config.vaultVerifies 0x05 key input then some (vaultOctets 0x05 key input n) else none

/-- The staged image's header. -/
def State.stagedHdr (s : State) : List Octet := s.stagedOctets 0 256

/-- The staged body as plaintext (R415), none where a record does not open. -/
def State.stagedPlain (s : State) : Option (List Octet) :=
  let h := s.stagedHdr
  let body := s.stagedOctets (bodyAt h) (hdrBodyLen h)
  if !hdrEnc h then some body
  else match s.verifySlot 8 with
    | none => none
    | some k => (List.range (records h)).foldl (fun r i => match r, openRecord h body k.key i with
      | some os, some x => some (os ++ x)
      | _, _ => none) (some [])

/-- The first of Close's checks that fails (R418). -/
def State.closeFault (s : State) : Option Nat :=
  let h := s.stagedHdr
  if s.upd.received ≠ hdrBodyLen h then some 0x0204
  else match s.stagedPlain with
    | none => some 0x0203
    | some os => if digest384 os ≠ (h.drop 48).take 48 then some 0x0202 else none

/-- The staged image passes checks 8 and 9 and the close checks (R420): status of the failure, OK if it passes. -/
def State.stagedStatus (s : State) : Nat :=
  let h := s.stagedHdr
  if !headerShape h then St.BAD_DESCRIPTOR
  else if !s.signed_ h (s.stagedOctets 256 (96 + hdrLmsLen h)) then St.AUTH_FAIL
  else if s.closeFault.isSome then St.BAD_DESCRIPTOR
  else St.OK

/-! ## Staging (R417, R418) -/

/-- A request of the service to the vault, its input in `own` (log entry 14). -/
def svcRequest (op slot slot2 srcLen arg : Nat) (own : List Octet) : VltOp where
  op := op
  ring := 64
  place := op
  words := ([0, op * 256, slot2 * 256 + slot, 0, 0, srcLen, 0, 0, 0, 0, 0, 0, arg % 65536, arg / 65536, 0, 0] : List Nat).map
    (BitVec.ofNat 16)
  committed := false
  waiting := false
  leaf := 0
  nonce := 0
  statement := []
  own := own

/-- The vault is asked. -/
def State.askVault (s : State) (o : VltOp) : State := { s with vlt := { s.vlt with svcWait := s.vlt.svcWait ++ [o] } }

/-- Header and signatures that D010h.01 holds. -/
def State.writtenHeader (s : State) : List Octet := (s.sessionValue 0xD010 1).getD []

/-- OPEN_STAGING refused: answered, with its OUTCOME. -/
def State.openFails (s : State) (status reason : Nat) : State :=
  ((s.updateFails status reason).answerExec 0xD010 2 status).finishExec 0xD010 2 status

/-- EXEC D010h.02 takes effect (R417): checks 1 to 8, then DUAL_VERIFY. -/
def State.openStart (s : State) : State :=
  let v := s.writtenHeader
  let h := v.take 256
  match s.openFault h v.length with
  | some r => s.openFails St.BAD_DESCRIPTOR r
  | none => s.askVault (svcRequest 0x1C 6 7 256 (hdrLmsLen h) (v.take (bodyAt h)))

/-- The DUAL_VERIFY of an opening is over (R417): staging is open, in the store where a device answers. -/
def State.openEnd (s : State) (status : Nat) : State :=
  if (s.execOf 0xD010 2).isNone then s
  else if status ≠ St.OK then s.openFails St.AUTH_FAIL 0x0109
  else
    let v := s.writtenHeader
    let s := { s with upd := { s.upd with inStore := Config.storePresent, store := [], received := 0, stState := 1, reason := 0 } }
    let s := (s.putStaged 0 (v.take (bodyAt (v.take 256)))).updateEntry 1 0 St.OK 0
    ((s.execCommits 0xD010 2).answerExec 0xD010 2 St.OK).finishExec 0xD010 2 St.OK

/-- A body chunk that R418 takes: the written offset is the next one and the data length fits. -/
def State.chunkOk (s : State) (data : List Octet) : Bool :=
  let n := data.length - 4
  let total := hdrBodyLen s.stagedHdr
  s.upd.stState = 1 && 2 ≤ n && n ≤ 1020 && octs data 0 4 = s.upd.received && s.upd.received + n ≤ total
    && (n % 2 = 0 || s.upd.received + n = total)

/-- A body chunk is stored (R418). -/
def State.putChunk (s : State) (data : List Octet) : State :=
  let s := s.putStaged (bodyAt s.stagedHdr + s.upd.received) (data.drop 4)
  { s with upd := { s.upd with received := s.upd.received + (data.length - 4) } }

/-- EXEC D010h.05 takes effect (R418). -/
def State.closeStart (s : State) : State :=
  let fault := if s.upd.stState ≠ 1 then some 0x0204 else s.closeFault
  match fault with
  | some r => ((s.updateFails St.BAD_DESCRIPTOR r).answerExec 0xD010 5 St.BAD_DESCRIPTOR).finishExec 0xD010 5 St.BAD_DESCRIPTOR
  | none =>
    let s := ({ s with upd := { s.upd with stState := 2, reason := 0 } }).updateEntry 2 0 St.OK 0
    ((s.execCommits 0xD010 5).answerExec 0xD010 5 St.OK).finishExec 0xD010 5 St.OK

/-! ## Activation (R419, R420) -/

/-- The node is in kickstand. -/
def State.inKick (s : State) : Bool := s.flag A.SYS_BOOTCNT 7

/-- Reason for which an activation is not accepted (R419, R424). -/
def State.activateFault (s : State) (ta ts : Nat) (hard : Bool) : Option Nat :=
  let h := s.stagedHdr
  let p := if s.upd.inStore then 8 else 4
  if s.upd.stState ≠ 2 then some 0x0301
  else if !s.inKick && (ta < s.jnlTime + 32000000 || ts < ta + 640000 + p * (bodyAt h + hdrBodyLen h)) then some 0x0301
  else if hdr h 28 2 ≠ hdr s.runHdr 28 2 && !hard then some 0x0302
  else none

/-- WC7 is armed for TS minus two slots, its wake set PD0, PD8, PD9 and PD10 (R419). -/
def State.armSwitch (s : State) (ts : Nat) : State :=
  let s := (s.setWord (A.PWR_WSET 7) 0x0701).setWord (A.PWR_WSRC 7) (BitVec.ofNat 16
    (putBits (putBits (s.word (A.PWR_WSRC 7)).toNat 15 15 1) 2 0 7))
  s.armWake 7 (unsigned 48 (s.sleepAt (ts - 2 * s.slotLen)))

/-- WC7 is disarmed again. -/
def State.disarmSwitch (s : State) : State := s.setFlag A.CAD_WCSTAT 7 false

/-- EXEC D011h.01 takes effect (R419). -/
def State.activateStart (s : State) (data : List Octet) : State :=
  let ta := octs data 0 8
  let ts := octs data 8 8
  let hard := bit (oct data 16) 0
  match s.activateFault ta ts hard with
  | some r => ((s.updateFails St.BAD_DESCRIPTOR r).answerExec 0xD011 1 St.BAD_DESCRIPTOR).finishExec 0xD011 1 St.BAD_DESCRIPTOR
  | none =>
    let differs := hdr s.stagedHdr 28 2 ≠ hdr s.runHdr 28 2
    let s := { s with upd := { s.upd with
      stState := 3, ta := ta, ts := ts, hard := differs, reason := 0, copied := false, reloaded := 0 } }
    let s := (s.updateEntry 3 0 St.OK 0).answerExec 0xD011 1 St.OK
    if s.inKick then s else s.armSwitch ts

/-- The staged image's header is extended into MEAS0 once it is accepted (R353). -/
def State.measureHeader (s : State) (h : List Octet) : State := s.extend 0 h

/-- ACTIVATION_START (R420): at TA, or at once in kickstand, the staged image is verified again; COPY_START, or the
activation ends with reason 0303h. -/
def activationStartEffect (s : State) : State :=
  if s.upd.stState ≠ 3 || !s.serves || !s.on 14 || !(s.inKick || (s.on 10 && s.upd.ta ≤ s.now)) then s
  else
    let st := s.stagedStatus
    if st ≠ St.OK then
      (({ s with upd := { s.upd with stState := 2 } }).disarmSwitch.updateFails st 0x0303).finishExec 0xD011 1 st
    else
      let s := ({ s with upd := { s.upd with stState := 4, section_ := 0 } }).updateEntry 4 0 St.OK 0
      (s.execCommits 0xD011 1).measureHeader s.stagedHdr

/-- ACTIVATION_START. -/
def execActivationStart (s : State) : Host.Outcome State Fault Refusal := .next (activationStartEffect s)

/-- Section k of the staged image is copied into the running area as plaintext. -/
def State.copySection (s : State) (k : Nat) : State :=
  let h := s.stagedHdr
  let a := section_ h k
  match s.stagedPlain with
  | none => s
  | some os => s.putArea runningArea (bodyAt h + a.1) ((os.drop a.1).take a.2)

/-- The header and its signatures are copied last. -/
def State.copyHeader (s : State) : State := s.putArea runningArea 0 (s.stagedOctets 0 (bodyAt s.stagedHdr))

/-- A SOFT reset out of kickstand, with the boot-attempt count cleared (D000h.03, R413). -/
def State.leaveKick (s : State) : State :=
  ({ s.wr A.SYS_BOOTCNT 3 0 0 with upd := { s.upd with boots := 0 } }).softReset 8

/-- The whole image stands in the running area: COPY_DONE (R420). -/
def State.copyDone (s : State) : State :=
  ({ s.copyHeader with upd := { s.copyHeader.upd with stState := 5, copied := true, reloaded := 0 } }).updateEntry 6 0 St.OK 0

/-- SECTION_DONE (R420): the next section has been copied; COPY_DONE follows the header. In kickstand the action of
D000h.03 ends the copy. -/
def sectionDoneEffect (s : State) : State :=
  if s.upd.stState ≠ 4 || !s.serves then s
  else if s.upd.section_ < 17 then
    let k := s.upd.section_
    let s := (s.copySection k).updateEntry 5 k St.OK 0
    { s with upd := { s.upd with section_ := k + 1 } }
  else if s.inKick then s.copyDone.leaveKick else s.copyDone

/-- SECTION_DONE. -/
def execSectionDone (s : State) : Host.Outcome State Fault Refusal := .next (sectionDoneEffect s)

/-! ## Settings on a format change (R427, R428) -/

/-- Function to whose format a point belongs: 0 for the part's own. -/
def State.pointFunc (s : State) (index sub : Nat) : Nat :=
  match s.dict.points.find? fun p => p.index == index && p.sub == sub with
  | some p => p.func
  | none => 0

/-- Points that keep their values across a change of format. -/
def formatExempt (index : Nat) : Bool :=
  (0x0100 ≤ index && index < 0x0200) || index = 0x1100 || index = 0x1202 || index = 0xD000 || index = 0xD001 || index = 0xD012

/-- Functions of the image with their formats. -/
def State.imageFormats (s : State) : List (Nat × Nat) :=
  (0, hdr s.runHdr 10 2) :: (s.dict.points.map fun p => (p.func, p.format)).eraseDups

/-- One function's settings under its image's format: where the stored format differs, defaults and an entry. -/
def State.settleFormat (s : State) (f : Nat × Nat) : State :=
  let store (s : State) : State :=
    { s with dict := { s.dict with formats := s.dict.formats.filter (fun p => p.1 != f.1) ++ [f] } }
  match s.dict.formats.find? fun p => p.1 == f.1 with
  | none => store s
  | some old =>
    if old.2 = f.2 then s
    else
      let mine := s.dict.settings.filter fun p => s.pointFunc p.index p.sub == f.1 && !formatExempt p.index
        && (f.1 ≠ 0 || p.index < 0x6000 || 0x9000 ≤ p.index)
      let s := mine.foldl (fun s p => match s.point p.index p.sub with
        | .ok i => (s.resetSetting p.index p.sub i.dflt).applySetting (p.index, p.sub)
        | .error _ => s) s
      (store s).jnlService (jnlEvent 0x17 St.OK f.2 f.1 0 old.2 originService)

/-- Every function's (R428). -/
def State.settleFormats (s : State) : State := s.imageFormats.foldl (fun s f => s.settleFormat f) s

/-! ## The switch (R421 to R423) -/

/-- First ASN whose slot starts at or after a network time. -/
def State.slotAfter (s : State) (t : Nat) : Nat :=
  let e := s.rdw A.SEQ_EPOCH 4
  if t ≤ e then 0 else ceilDiv (t - e) s.slotLen

/-- SWITCH_RELEASE (R422, R423): during slot s − 1, or in the slot of COPY_DONE where that is later, the loader writes
RELEASE, with s the slot that begins next. -/
def switchReleaseEffect (s : State) : State :=
  let next := s.asnAt s.now + 1
  let want := s.slotAfter s.upd.ts
  if s.upd.stState ≠ 5 || !s.upd.copied || s.upd.switchAt.isSome || s.upd.switching || !s.serves || !s.on 10
      || s.rd A.SEQ_STAT 11 10 ≠ 2 || next < want then s
  else
    let s := s.seqCtrl 2
    { s with upd := { s.upd with switchAt := some next, late := decide (want < next) } }

/-- SWITCH_RELEASE. -/
def execSwitchRelease (s : State) : Host.Outcome State Fault Refusal := .next (switchReleaseEffect s)

/-- Every engine's memories come from the running image, and DONE is written (R406, R422). -/
def State.loadEngines (s : State) : State :=
  (List.finRange 8).foldl (fun s k =>
    if s.on k.val && s.engIdle k then
      let s := (s.loadEngine k).ldDone k
      { s with upd := { s.upd with reloaded := s.upd.reloaded ||| (1#8 <<< k.val) } }
    else s) s

/-- Laps start at s + 3: every ORIGIN, or with a new slot length the epoch (R422). -/
def State.rebase (s : State) (slot oldLen : Nat) : State :=
  let laps := (List.range 8).filter fun n => s.lapOn n
  if s.slotLen = oldLen then laps.foldl (fun s n => s.wrw (A.SEQ_LAP_ORIGIN n) 3 (slot + 3)) s
  else laps.foldl (fun s n => s.wrw (A.SEQ_LAP_ORIGIN n) 3 0)
    (s.wrw A.SEQ_EPOCH 4 (s.rdw A.SEQ_EPOCH 4 + (slot + 3) * oldLen))

/-- The switch gap (R422): reloads of a hard activation, settings and function table, the new sheet, COMMIT. -/
def State.switchGap (s : State) (slot : Nat) : State :=
  let len := s.slotLen
  let s := if s.upd.hard then s.loadEngines else s
  let s := { s with dict := { s.dict with points := s.pkgPointList } }.settleFormats
  let s := (s.loadSheet.rebase slot len).seqCtrl 1
  { s with upd := { s.upd with switching := true } }

/-- The commit of a switch is over (R422): SWITCHED and the end of the EXEC. A late switch shows s in VALUE. -/
def State.switchEnd (s : State) : State :=
  let slot := s.upd.switchAt.getD 0
  let s := { s with upd := { s.upd with switching := false, switchAt := none } }
  if s.rd A.SEQ_STAT 11 10 = 2 then
    let s := s.updateEntry 8 0 St.OK (if s.upd.late then slot % 65536 else 0)
    (s.finishExec 0xD011 1 St.OK).updateOver
  else s.finishExec 0xD011 1 St.BAD_DESCRIPTOR

end Sys2Proof.Machine
end

