-- ==== Sys2Proof/Machine/Service.lean ====
section
/-!
DEFINITION. The dictionary service (R366 to R378, R385): how it judges a command, what an accepted one does, and the
rows of the table that name its commands.
-/
namespace Sys2Proof.Machine

/-! ## Judging a command (R372) -/

/-- Whether the operation is journaled (R367). -/
def Incoming.journaled (c : Incoming) : Bool := c.op = 2 || c.op = 3 || c.op = 5 || c.op = 6

/-- Check 1 of R372: length, reserved fields, reserved OP. READ carries no data whatever its LEN. -/
def Incoming.formCode (c : Incoming) : Nat :=
  let want := (if c.op = 1 then 14 else 14 + c.len) + (if c.wire then 8 else 0)
  if c.octets.length < 14 || 1024 < c.len || c.octets.length ≠ want then Ab.MALFORMED
  else if oct c.octets 1 % 16 ≠ 0 || oct c.octets 9 ≠ 0 then Ab.MALFORMED
  else if (c.op = 4 || c.op = 5) && (c.index ≠ 0 || c.sub ≠ 0) then Ab.MALFORMED
  else if 4 ≤ c.op && c.op ≤ 6 && c.offset ≠ 0 then Ab.MALFORMED
  else if c.op = 0 || 6 < c.op then Ab.UNKNOWN_OP
  else 0

/-- Serial-number arithmetic of RFC 1982 on 32 bits: a is later than b. -/
def laterThan (a b : Nat) : Bool :=
  let d := (a + 2 ^ 32 - b % 2 ^ 32) % 2 ^ 32
  0 < d && d < 2 ^ 31

/-- The last REQID accepted from an origin (R375). -/
def State.lastReqid (s : State) (origin : BitVec 32) : Option Nat :=
  (s.dict.origins.find? fun p => p.1 == origin).map (·.2.toNat)

/-- The REQID is not later than its origin's last one. -/
def State.isStale (s : State) (c : Incoming) : Bool :=
  match s.lastReqid c.origin.code with
  | some l => !laterThan c.reqid l
  | none => false

/-- The entry of which a journaled command is a repeat (R374). A HOLD frame's own entry is the relay engine's, so that
it is a repeat only of a REQID that its origin has used (R377). -/
def State.repeatOf (s : State) (c : Incoming) : Option (List W16) :=
  if !c.journaled then none
  else match s.commandEntry c.origin.code.toNat c.reqid with
    | some e => if c.hold && jType e = 0x14 && !(s.isStale c) then none else some e
    | none => none

/-- The relay engine's entry of a HOLD frame is still to come. -/
def State.awaitsHold (s : State) (c : Incoming) : Bool := c.hold && s.msh.holdWait.isSome

/-- Check 4 of R372. -/
def State.identCode (s : State) (c : Incoming) : Nat :=
  if !c.journaled then 0
  else match s.repeatOf c with
    | some e => if jPoint e = (c.op, c.index, c.sub) then 0 else Ab.REQID_REUSED
    | none => if s.isStale c then Ab.REQID_STALE else 0

/-- The EXEC that a CANCEL names, as the journal knows it (R376): its entry. -/
def State.cancelled (s : State) (c : Incoming) : Option (List W16) :=
  match s.commandEntry c.origin.code.toNat (octs c.data 0 4) with
  | some e => if jType e = 1 && jOp e = 3 then some e else none
  | none => none

/-- Roles of the point for the command's access: 0 where the point has none (check 7). -/
def State.needRole (s : State) (c : Incoming) : Nat :=
  match c.op with
  | 4 => 1
  | 5 => 2
  | 6 => match s.cancelled c with
    | some e => match s.point (jIndex e) (jSub e) with
      | .ok p => p.write
      | .error _ => 0
    | none => 0
  | op => match s.point c.index c.sub with
    | .ok p => if op = 1 then p.read else p.write
    | .error _ => 0

/-- Checks 5, 6 and 8 of R372 for the point of a READ, WRITE or EXEC. -/
def State.pointCode (s : State) (c : Incoming) : Nat :=
  if 3 < c.op then (if c.role < s.needRole c then Ab.ROLE_DENIED else 0)
  else match s.point c.index c.sub with
    | .error e => e
    | .ok p =>
      if s.inKick && !p.kick then Ab.KICKSTAND_ABSENT
      else if c.role < s.needRole c then Ab.ROLE_DENIED
      else if c.op = 1 then (if p.read = 0 then Ab.WRONG_OP else 0)
      else if c.op = 2 then (if p.type = T.EXEC then Ab.WRONG_OP else if p.write = 0 then Ab.READ_ONLY else 0)
      else (if p.type ≠ T.EXEC then Ab.WRONG_OP else if p.write = 0 then Ab.READ_ONLY else 0)

/-- Octets that a READ answers. -/
def readSlice (p : PointInfo) (c : Incoming) (v : List Octet) : List Octet :=
  if p.type = T.OCTETS then (if c.len = 0 then v.drop c.offset else (v.drop c.offset).take c.len) else v

/-- Check 9 for a READ. -/
def State.readCode (s : State) (c : Incoming) (p : PointInfo) : Nat :=
  let octets := typeSize p.type
  if p.type = T.OCTETS then
    (if 1024 < (readSlice p c (s.pointValue c.index c.sub p).1).length then Ab.LENGTH_MISMATCH else 0)
  else if c.offset ≠ 0 || (c.len ≠ 0 && c.len ≠ (if p.type = T.EXEC then 1 else octets)) then Ab.LENGTH_MISMATCH
  else 0

/-- Check 9 for a WRITE. -/
def State.writeCode (s : State) (c : Incoming) (p : PointInfo) : Nat :=
  if c.index = 0xD010 ∧ c.sub = 3 then (if c.offset = 0 && s.chunkOk c.data then 0 else Ab.VALUE_RANGE)
  else if p.type = T.OCTETS then (if p.size < c.offset + c.len then Ab.LENGTH_MISMATCH else 0)
  else if c.offset ≠ 0 || c.len ≠ p.size then Ab.LENGTH_MISMATCH
  else if p.type = 1 && 1 < octs c.data 0 1 then Ab.VALUE_RESERVED
  else s.valueCode c.index c.sub (ofOctets c.data)

/-- Check 9 for an EXEC. -/
def State.execCode (s : State) (c : Incoming) (p : PointInfo) : Nat :=
  if c.offset ≠ 0 then Ab.LENGTH_MISMATCH
  else if p.target.isSome then (if p.size < c.len then Ab.LENGTH_MISMATCH else 0)
  else if c.len ≠ p.size then Ab.LENGTH_MISMATCH
  else if c.index = 0x2010 then (if 7 < oct c.data 0 || !s.retired (oct c.data 0) then Ab.VALUE_RANGE else 0)
  else if c.index = 0x9001 ∧ c.sub = 1 then (if octs c.data 0 2 = 0 then 0 else Ab.VALUE_RANGE)
  else if c.index = 0xD011 then (if 1 < oct c.data 16 then Ab.VALUE_RESERVED else 0)
  else 0

/-- Check 9 of R372. -/
def State.lengthCode (s : State) (c : Incoming) : Nat :=
  match c.op with
  | 4 => if c.len ≠ 5 then Ab.LENGTH_MISMATCH else if 1 ≤ oct c.data 4 && oct c.data 4 ≤ 16 then 0 else Ab.VALUE_RANGE
  | 5 => if c.len ≠ 4 && !c.hold then Ab.LENGTH_MISMATCH else 0
  | 6 => if c.len ≠ 4 then Ab.LENGTH_MISMATCH else if (s.cancelled c).isNone then Ab.NO_SUCH_REQUEST else 0
  | op => match s.point c.index c.sub with
    | .error _ => 0
    | .ok p => if op = 1 then s.readCode c p else if op = 2 then s.writeCode c p else s.execCode c p

/-- Check 10 of R372. -/
def State.stateCode (s : State) (c : Incoming) : Nat :=
  match s.point c.index c.sub with
  | .error _ => 0
  | .ok p =>
    let down := p.cls = Cl.live && !s.pointOn c.index c.sub p
    if c.op = 1 then (if p.type ≠ T.EXEC && down then Ab.DOMAIN_UNAVAILABLE else 0)
    else if c.op = 2 then
      (if c.stale then Ab.STALE_STAGE
      else if s.committed && rwlPoint c.index c.sub p then Ab.LOCKED_BY_SHEET
      else if down then Ab.DOMAIN_UNAVAILABLE else 0)
    else if c.op = 3 then
      (if c.stale then Ab.STALE_STAGE
      else if c.index = 0x9001 && !s.on 10 then Ab.DOMAIN_UNAVAILABLE
      else if (s.execOf c.index c.sub).isSome || (c.index = 0xD010 && c.sub = 2 && 3 ≤ s.upd.stState) then Ab.BUSY
      else if 4 ≤ s.dict.execs.length then Ab.EXEC_LIMIT else 0)
    else 0

/-- What the service makes of a command. -/
inductive Verdict where
  | wait
  | refuse (abort : Nat)
  | again (entry : List W16)
  | take
deriving DecidableEq, Repr

/-- The checks of R372 in their order. -/
def State.judge (s : State) (c : Incoming) : Verdict :=
  let early := firstBad [c.formCode, if s.tagOk c then 0 else Ab.BAD_TAG, if s.roleOk c then 0 else Ab.ROLE_DENIED]
  if early ≠ 0 then .refuse early
  else if s.awaitsHold c then .wait
  else if s.identCode c ≠ 0 then .refuse (s.identCode c)
  else match s.repeatOf c with
    | some e => .again e
    | none =>
      let late := firstBad [s.pointCode c, s.lengthCode c, s.stateCode c]
      if late ≠ 0 then .refuse late else .take

/-! ## Repeats and acceptance (R373 to R375) -/

/-- A repeat is answered from the journal (R374). -/
def State.answerRepeat (s : State) (c : Incoming) (e : List W16) : State :=
  let o := c.origin.code
  let runs := s.dict.execs.any fun x => x.cmd.origin.code == o && x.cmd.reqid.toNat == c.reqid
  let out := s.outcomeEntry o.toNat c.reqid (jSeq e)
  let status := match out with
    | some x => jStatus x
    | none => if runs then St.OK else jStatus e
  s.respond { origin := c.origin, op := c.op, status := status, reqid := BitVec.ofNat 32 c.reqid
              jseq := BitVec.ofNat 32 (jSeq e), abort := 0
              flags := if out.isNone && runs then 3 else 1, data := [], tag := s.tagSlot c }

/-- The origin table takes the command's REQID; the origin least recently used gives way (R375). -/
def State.noteOrigin (s : State) (c : Incoming) : State :=
  let o := c.origin.code
  let rest := s.dict.origins.filter fun p => p.1 != o
  { s with dict := { s.dict with origins := rest.drop (rest.length - 255) ++ [(o, BitVec.ofNat 32 c.reqid)] } }

/-- The journaled command as it waits for its entry. -/
def State.waitingCmd (s : State) (c : Incoming) (seq : Nat) : DictCmd where
  op := c.op
  origin := c.origin
  role := c.role
  reqid := BitVec.ofNat 32 c.reqid
  index := c.index
  sub := c.sub
  offset := c.offset
  data := c.data
  seq := BitVec.ofNat 32 seq
  tag := s.tagSlot c

/-- An accepted command: READ and JOURNAL_READ are answered; a journaled one waits for its COMMAND entry, but a HOLD
frame's is the relay engine's and is answered at once (R373, R377). -/
def State.accept (s : State) (c : Incoming) : State :=
  match c.op with
  | 1 => match s.point c.index c.sub with
    | .ok p =>
      let r := s.pointValue c.index c.sub p
      r.2.answer c (readSlice p c r.1)
    | .error _ => s
  | 4 =>
    let start := octs c.data 0 4
    let es := (List.range (oct c.data 4)).filterMap fun i => if start + i < s.jnlHead then s.jnlEntry (start + i) else none
    s.answer c ((es.map unpackWords).flatten)
  | _ =>
    let s := s.noteOrigin c
    if c.hold then
      let seq := match s.commandEntry c.origin.code.toNat c.reqid with
        | some e => jSeq e
        | none => 0
      s.answerCmd (s.waitingCmd c seq) St.OK 0
    else
      let s := { s with dict := { s.dict with waiting := [s.waitingCmd c 0] } }
      s.jnlService { source := 6, type := 1, status := St.OK, roleOp := BitVec.ofNat 16 (c.role * 4096 + c.op)
                     origin := c.origin.code, detail := BitVec.ofNat 32 c.reqid, index := BitVec.ofNat 16 c.index
                     sub := BitVec.ofNat 8 c.sub, dlen := BitVec.ofNat 8 (min 255 c.len)
                     value := BitVec.ofNat 16 (octs c.data 0 2) }

/-! ## What an accepted command does -/

/-- A value with octets replaced from an offset on, zeros between where it was shorter. -/
def splice (old : List Octet) (offset : Nat) (data : List Octet) : List Octet :=
  let base := old ++ List.replicate (offset - old.length) 0
  base.take offset ++ data ++ base.drop (offset + data.length)

/-- A write that a block refused (R379): the earlier setting stands, the OUTCOME carries the failure. -/
def State.writeRefused (s : State) (c : DictCmd) : State :=
  (s.outcome c.origin.code c.reqid c.index c.sub St.WRITE_REJECTED).answerCmd c St.BAD_DESCRIPTOR Ab.HARDWARE_REFUSED

/-- A committed WRITE (R361, R362, R373). -/
def State.commitWrite (s : State) (c : DictCmd) : State :=
  match s.point c.index c.sub with
  | .error _ => s
  | .ok p =>
    let whole (old : List Octet) : List Octet := if p.type = T.OCTETS then splice old c.offset c.data else c.data
    if c.index = 0xD010 ∧ c.sub = 3 then (s.putChunk c.data).answerCmd c St.OK 0
    else if p.cls = Cl.persistent then
      let was := s.dict.settings
      let v := whole ((s.setting c.index c.sub).getD p.dflt)
      let t := s.putSetting c.index c.sub v c.seq
      if s.pointOn c.index c.sub p then
        let r := t.applyPoint c.index c.sub p v
        if r.1 then r.2.answerCmd c St.OK 0 else ({ r.2 with dict := { r.2.dict with settings := was } }).writeRefused c
      else
        ({ t with dict := { t.dict with unapplied := t.dict.unapplied.erase (c.index, c.sub) ++ [(c.index, c.sub)] } }).answerCmd
          c St.OK 0
    else if p.cls = Cl.session then
      let v := whole ((s.sessionValue c.index c.sub).getD p.dflt)
      let t := s.putSession c.index c.sub v
      let r := if s.pointOn c.index c.sub p then t.applyPoint c.index c.sub p v else (true, t)
      if r.1 then r.2.answerCmd c St.OK 0
      else ({ r.2 with dict := { r.2.dict with session := s.dict.session } }).writeRefused c
    else
      let v := if p.type = T.OCTETS then s.pointValue c.index c.sub p else ([], s)
      let r := v.2.applyPoint c.index c.sub p (whole v.1)
      if r.1 then r.2.answerCmd c St.OK 0 else r.2.writeRefused c

/-- A committed HOLD from the wire is posted to ring 29 as KIND HOLD (R377, R241). -/
def State.commitHold (s : State) (c : DictCmd) : State :=
  let place := (s.ring 29).pi.toNat
  match s.qpost 29 1 with
  | none => (s.outcome c.origin.code c.reqid c.index c.sub St.BAD_DESCRIPTOR).answerCmd c St.BAD_DESCRIPTOR Ab.OPERATION_FAILED
  | some t =>
    let b := t.draw 16
    let buf := 0x100000 + 16 * b.1.toNat
    let ws := ([0, 3 * 4096 + s.responseTtl, 0xFFFF, 0, s.rd A.MSH_CTRL 7 0 * 256, 4, buf % 65536, buf / 65536]
      ++ List.replicate 8 0).map (BitVec.ofNat 16)
    ((b.2.putOctets buf 0 c.data).sramPuts (s.placeAddr 29 place) ws).answerCmd c St.OK 0

/-- Vault operation that an EXEC waits for. -/
def execVaultOp (index sub : Nat) : Nat :=
  if index = 0xB000 then 0x30 else if index = 0xB002 then 0x32 else if index = 0xD010 ∧ sub = 2 then 0x1C else 0

/-- An EXEC is past its commit point: an ATTEST is when its leaf is reserved (R353). -/
def State.isCommitted (s : State) (e : ExecRun) : Bool :=
  e.committed || (e.cmd.index == 0xB000 && s.vlt.ops.any fun o => o.ring == 64 && o.op == 0x30 && o.committed)

/-- What a CANCEL takes back of an EXEC that runs. -/
def State.undoExec (s : State) (e : ExecRun) : State :=
  let op := execVaultOp e.cmd.index e.cmd.sub
  let s := if op = 0 then s else { s with vlt := { s.vlt with
    svcWait := s.vlt.svcWait.filter fun o => o.op != op
    ops := s.vlt.ops.filter fun o => !(o.ring == 64 && o.op == op) } }
  if e.cmd.index = 0xD011 then { s with upd := { s.upd with stState := 2 } }.disarmSwitch else s

/-- A committed CANCEL (R376). -/
def State.commitCancel (s : State) (c : DictCmd) : State :=
  let named := octs c.data 0 4
  match s.dict.execs.find? fun e => e.cmd.origin == c.origin && e.cmd.reqid.toNat == named with
  | none => s.answerCmd c St.ABORT_TOO_LATE 0
  | some e =>
    if s.isCommitted e then s.answerCmd c St.ABORT_TOO_LATE 0
    else
      let s := if e.cmd.index = 0xD010 then s.answerExec e.cmd.index e.cmd.sub St.ABORTED else s
      ((s.undoExec e).finishExec e.cmd.index e.cmd.sub St.ABORTED).answerCmd c St.ABORTED 0

/-- The issuer octets of an attestation (R385). -/
def State.issuer (s : State) (c : DictCmd) : List Octet :=
  let own (index sub n d : Nat) : List Octet := fitOctets n ((s.setting index sub).getD (toOctets n d))
  fitOctets 32 c.data ++ toOctets 4 c.origin.code.toNat ++ toOctets 4 c.reqid.toNat ++ toOctets 4 c.seq.toNat
    ++ toOctets 4 s.siteId ++ own 0x0101 2 2 0 ++ own 0x0101 3 1 0 ++ [0] ++ own 0x0101 4 2 0xFFFE
    ++ toOctets 2 (hdr s.runHdr 10 2) ++ toOctets 4 s.runVersion ++ List.replicate 4 0

/-- COMMIT_SHEET (R364, R365, R378): the running package is loaded and COMMIT written; under a sheet that is not idle
the write is refused. -/
def State.commitSheet (s : State) : State :=
  if s.rd A.SEQ_STAT 11 10 ≠ 0 || !s.pkgOk then s.finishExec 0x9001 1 St.WRITE_REJECTED
  else (s.loadSheet.seqCtrl 1).execCommits 0x9001 1

/-- Reintegration of engine k from the service (R88, R90): E0 at a start, any other once its domain is on. -/
def State.reintStart (s : State) (k : Nat) : State :=
  if k = 0 then ({ s with upd := { s.upd with reint0 := true } }).softReset 9
  else if !s.on k then s.domCmd .service k 2
  else
    let t := s.testStart (engIx k)
    if t.selfTest = some (engIx k) then t else t.finishExec 0x2010 2 St.WRITE_REJECTED

/-- A reset from the dictionary: the reset ends the service, its responses and its EXECs. -/
def execResets (index sub : Nat) (data : List Octet) : Bool :=
  (index = 0xD000 && (sub = 3 || sub = 4)) || (index = 0x2010 && oct data 0 = 0)

/-- EXECs whose answer waits for their checks (R417 to R419). -/
def execAnswersLater (index : Nat) : Bool := index = 0xD010 || index = 0xD011

/-- A committed EXEC (R373): it runs, is answered, and its effect begins. A function's EXEC has no effect that the
spec states, and ends. -/
def State.commitExec (s : State) (c : DictCmd) : State :=
  let s := { s with dict := { s.dict with execs := s.dict.execs ++ [ExecRun.mk c false] } }
  let s := if execAnswersLater c.index || execResets c.index c.sub c.data then s else s.answerCmd c St.OK 0
  match c.index, c.sub with
  | 0x2010, _ => s.reintStart (oct c.data 0)
  | 0x9001, 1 => s.commitSheet
  | 0x9001, _ => ((s.seqCtrl 2).execCommits 0x9001 2).finishExec 0x9001 2 St.OK
  | 0xB000, _ => s.askVault (svcRequest 0x30 0 0 64 0 (s.issuer c))
  | 0xB002, _ =>
    let v := (s.sessionValue 0xB002 2).getD []
    s.askVault (svcRequest 0x32 0 0 24 (v.length - 120) v)
  | 0xD000, 3 => s.leaveKick
  | 0xD000, _ => s.systemReset
  | 0xD010, 2 => s.openStart
  | 0xD010, _ => s.closeStart
  | 0xD011, _ => s.activateStart c.data
  | i, j => s.finishExec i j St.OK

/-- A command's COMMAND entry is durable, which is its commit point (R373). -/
def State.commitCmd (s : State) (c : DictCmd) : State :=
  match c.op with
  | 2 => s.commitWrite c
  | 3 => s.commitExec c
  | 5 => s.commitHold c
  | _ => s.commitCancel c

/-! ## RESET frames (R399) -/

/-- A new random `WFL_NONCE`. -/
def State.newNonce (s : State) : State :=
  let r := s.draw 32
  r.2.wrw A.WFL_NONCE 2 r.1.toNat

/-- The RESET record at the head is judged: its nonce and tag, then a new nonce, then its action. -/
def State.judgeReset (s : State) : State :=
  let c := s.incoming
  let nonce := (c.octets.drop 1).take 4
  let kind := oct c.octets 0
  let slot := s.wireSlot 3
  let msg : List Octet := [BitVec.ofNat 8 (bits (s.headWord 10) 5 0), 5] ++ c.octets.take 5
  let tagged := s.siteId = 0 || (slot ≠ 0 && s.cmacSlot slot && s.cmac8 slot msg == (c.octets.drop 5).take 8)
  let pass := nonce == toOctets 4 (s.rdw A.WFL_NONCE 2) && tagged
  let s := s.takeHead.newNonce
  if !pass then s
  else if kind = 1 then s.softReset 4
  else if kind = 2 then s.addrCtl 0xA501
  else s

/-! ## The rows -/

/-- The row of the table that a command belongs to: its OP, or for an EXEC or a body chunk its point; 0 for one that
no row names. -/
def Incoming.row (c : Incoming) : Nat :=
  let p := c.index * 256 + c.sub
  if c.op = 3 then
    (if [0x201002, 0x900101, 0x900102, 0xB00001, 0xB00201, 0xD00003, 0xD00004, 0xD01002, 0xD01005, 0xD01101].contains p
      then p else 0)
  else if c.op = 2 ∧ p = 0xD01003 then p
  else if 1 ≤ c.op ∧ c.op ≤ 6 then c.op
  else 0

/-- The service takes the command at the head of ring 0 if it belongs to the row, or to none. RESET records in front of
it are judged first. A tag under a key slot waits for PD14. -/
def State.dictRow (s : State) (row : Nat) : State :=
  if !s.headReady then s
  else if s.headReset then s.judgeReset
  else
    let c := s.incoming
    if c.row ≠ 0 && c.row ≠ row then s
    else if (s.tagSlot c).isSome && !s.on 14 then (s.blockReach 14 0 0 Win.VLT).2
    else match s.judge c with
      | .wait => s
      | .refuse a => s.takeHead.refuse c a
      | .again e => s.takeHead.answerRepeat c e
      | .take => s.takeHead.accept c

/-- READ (R367). -/
def execRead (s : State) : Host.Outcome State Fault Refusal := .next (s.dictRow 1)
/-- WRITE (R373). -/
def execWrite (s : State) : Host.Outcome State Fault Refusal := .next (s.dictRow 2)
/-- JOURNAL_READ (R367). -/
def execJournalRead (s : State) : Host.Outcome State Fault Refusal := .next (s.dictRow 4)
/-- HOLD (R377). -/
def execHold (s : State) : Host.Outcome State Fault Refusal := .next (s.dictRow 5)
/-- CANCEL (R376). -/
def execCancel (s : State) : Host.Outcome State Fault Refusal := .next (s.dictRow 6)
/-- REINTEGRATE_ENGINE (R88, R90). -/
def execReintegrateEngine (s : State) : Host.Outcome State Fault Refusal := .next (s.dictRow 0x201002)
/-- COMMIT_SHEET (R364). -/
def execCommitSheet (s : State) : Host.Outcome State Fault Refusal := .next (s.dictRow 0x900101)
/-- RELEASE_SHEET (R364). -/
def execReleaseSheet (s : State) : Host.Outcome State Fault Refusal := .next (s.dictRow 0x900102)
/-- ATTEST_EXEC (R385). -/
def execAttestExec (s : State) : Host.Outcome State Fault Refusal := .next (s.dictRow 0xB00001)
/-- DEBUG_UNLOCK_EXEC (R364). -/
def execDebugUnlockExec (s : State) : Host.Outcome State Fault Refusal := .next (s.dictRow 0xB00201)
/-- LEAVE_KICKSTAND (R413). -/
def execLeaveKickstand (s : State) : Host.Outcome State Fault Refusal := .next (s.dictRow 0xD00003)
/-- SYSTEM_RESET (R405). -/
def execSystemReset (s : State) : Host.Outcome State Fault Refusal := .next (s.dictRow 0xD00004)
/-- OPEN_STAGING (R417). -/
def execOpenStaging (s : State) : Host.Outcome State Fault Refusal := .next (s.dictRow 0xD01002)
/-- BODY_CHUNK (R418). -/
def execBodyChunk (s : State) : Host.Outcome State Fault Refusal := .next (s.dictRow 0xD01003)
/-- CLOSE_STAGING (R418). -/
def execCloseStaging (s : State) : Host.Outcome State Fault Refusal := .next (s.dictRow 0xD01005)
/-- ACTIVATE (R419). -/
def execActivate (s : State) : Host.Outcome State Fault Refusal := .next (s.dictRow 0xD01101)

/-- RESET (R392, R399): the frame's body is taken and posted, and judged where it is at the head of ring 0. -/
def execReset (body : List Octet) (crc : BitVec 16) (s : State) : Host.Outcome State Fault Refusal :=
  let s := s.wflBody 5 body crc
  .next (if s.headReady && s.headReset then s.judgeReset else s)

/-! ## The vault for the service (R258, R364) -/

/-- EXECs whose request has left the vault end with its status. -/
def State.settleSvc (s : State) : State :=
  let done := s.vlt.svcDone
  done.foldl (fun s d =>
    if d.1 = 0x30 then s.finishExec 0xB000 1 d.2
    else if d.1 = 0x32 then s.finishExec 0xB002 1 d.2
    else if d.1 = 0x1C then s.openEnd d.2
    else s) { s with vlt := { s.vlt with svcDone := [] } }

/-- A vault row: a request of its OP starts, and what was refused at once is settled. -/
def State.vaultRow (s : State) (op : Nat) : State := (s.vaultStart op).settleSvc

/-- CCM_SEAL. -/
def execCcmSeal (s : State) : Host.Outcome State Fault Refusal := .next (s.vaultRow 0x01)
/-- CCM_DECRYPT. -/
def execCcmDecrypt (s : State) : Host.Outcome State Fault Refusal := .next (s.vaultRow 0x02)
/-- CCM_OPEN. -/
def execCcmOpen (s : State) : Host.Outcome State Fault Refusal := .next (s.vaultRow 0x03)
/-- GCM_SEAL. -/
def execGcmSeal (s : State) : Host.Outcome State Fault Refusal := .next (s.vaultRow 0x04)
/-- GCM_DECRYPT. -/
def execGcmDecrypt (s : State) : Host.Outcome State Fault Refusal := .next (s.vaultRow 0x05)
/-- GCM_OPEN. -/
def execGcmOpen (s : State) : Host.Outcome State Fault Refusal := .next (s.vaultRow 0x06)
/-- CMAC_GEN. -/
def execCmacGen (s : State) : Host.Outcome State Fault Refusal := .next (s.vaultRow 0x07)
/-- CMAC_VERIFY. -/
def execCmacVerify (s : State) : Host.Outcome State Fault Refusal := .next (s.vaultRow 0x08)
/-- SHA256. -/
def execSha256 (s : State) : Host.Outcome State Fault Refusal := .next (s.vaultRow 0x10)
/-- SHA384. -/
def execSha384 (s : State) : Host.Outcome State Fault Refusal := .next (s.vaultRow 0x11)
/-- ECDSA_SIGN. -/
def execEcdsaSign (s : State) : Host.Outcome State Fault Refusal := .next (s.vaultRow 0x18)
/-- ECDSA_VERIFY. -/
def execEcdsaVerify (s : State) : Host.Outcome State Fault Refusal := .next (s.vaultRow 0x19)
/-- LMS_VERIFY. -/
def execLmsVerify (s : State) : Host.Outcome State Fault Refusal := .next (s.vaultRow 0x1B)
/-- DUAL_VERIFY. -/
def execDualVerify (s : State) : Host.Outcome State Fault Refusal := .next (s.vaultRow 0x1C)
/-- KEY_INSTALL. -/
def execKeyInstall (s : State) : Host.Outcome State Fault Refusal := .next (s.vaultRow 0x20)
/-- KEY_EXPORT. -/
def execKeyExport (s : State) : Host.Outcome State Fault Refusal := .next (s.vaultRow 0x21)
/-- KEY_ERASE. -/
def execKeyErase (s : State) : Host.Outcome State Fault Refusal := .next (s.vaultRow 0x22)
/-- KEY_GENERATE. -/
def execKeyGenerate (s : State) : Host.Outcome State Fault Refusal := .next (s.vaultRow 0x23)
/-- PUBKEY_READ. -/
def execPubkeyRead (s : State) : Host.Outcome State Fault Refusal := .next (s.vaultRow 0x24)
/-- RANDOM. -/
def execRandom (s : State) : Host.Outcome State Fault Refusal := .next (s.vaultRow 0x28)
/-- ENROL. -/
def execEnrol (s : State) : Host.Outcome State Fault Refusal := .next (s.vaultRow 0x2F)
/-- ATTEST. -/
def execAttest (s : State) : Host.Outcome State Fault Refusal := .next (s.vaultRow 0x30)
/-- EXTEND. -/
def execExtend (s : State) : Host.Outcome State Fault Refusal := .next (s.vaultRow 0x31)
/-- DEBUG_UNLOCK. -/
def execDebugUnlock (s : State) : Host.Outcome State Fault Refusal := .next (s.vaultRow 0x32)

/-- VAULT_COMPLETION (R343). -/
def execVaultCompletion (unit : Fin 3) (s : State) : Host.Outcome State Fault Refusal :=
  .next (vaultCompletionEffect unit s).settleSvc

/-! ## Journal entries of the service (R373, R379, R382) -/

/-- JOURNAL_TIMEOUT (R379): a command whose entry is not durable in time is refused; its entry is still written. -/
def journalTimeoutEffect (s : State) : State :=
  match s.dict.waiting with
  | [] => s
  | c :: rest =>
    ({ s with dict := { s.dict with waiting := rest } }).answerCmd c St.BAD_DESCRIPTOR Ab.JOURNAL_UNAVAILABLE

/-- JOURNAL_TIMEOUT. -/
def execJournalTimeout (s : State) : Host.Outcome State Fault Refusal := .next (journalTimeoutEffect s)

/-- A durable entry commits the command that waits for it; the START entry lets the start write COMMIT (R406). -/
def State.entryStands (s : State) (e : List W16) : State :=
  if jType e = 3 && s.upd.booting == .commit && s.on 10 then s.seqCtrl 1
  else match s.dict.waiting with
    | [] => s
    | c :: rest =>
      if jType e = 1 && jOrigin e = c.origin.code.toNat && jDetail e = c.reqid.toNat then
        ({ s with dict := { s.dict with waiting := rest } }).commitCmd { c with seq := BitVec.ofNat 32 (jSeq e) }
      else s

/-- JOURNAL_ENTRY_DURABLE (R373, R382). -/
def execJournalEntryDurable (s : State) : Host.Outcome State Fault Refusal :=
  .next (match s.dict.writing, s.jnlDurable with
    | some (e, _), some (_, t) => t.entryStands e
    | _, _ => s)

end Sys2Proof.Machine
end

