-- ==== Sys2Proof/Machine/Start.lean ====
section
/-!
DEFINITION. The start of the part (R90, R384, R406 to R413, R426): boot attempts, the checks of the running image, the
normal start, kickstand, and what the service does when a domain, a self-test, a commit check or a slot lets it go on.
-/
namespace Sys2Proof.Machine

/-! ## Commands that a reset cut off (R384) -/

def State.cause (s : State) : Nat := s.rd A.SYS_RESETCAUSE 3 0

/-- The newest REINTEGRATE of E0 in the journal. -/
def State.reintEntry (s : State) : Option (List W16) :=
  s.jnlEntries.find? fun e => jType e = 1 && jOp e = 3 && jIndex e = 0x2010 && jSub e = 2 && jWord e 14 % 256 = 0

/-- A point is persistent: one of the part's own, or of the running package's function table. -/
def State.isPersistent (s : State) (index sub : Nat) : Bool :=
  (ownRows.any fun r => r.index == index && r.lo ≤ sub && sub ≤ r.hi && r.cls == Cl.persistent)
    || (s.pkgOk && s.pkgPointList.any fun p => p.index == index && p.sub == sub && p.cls == Cl.persistent)

/-- SEQ of a point's settings record, 0 if there is none. -/
def State.settingSeq (s : State) (index sub : Nat) : Nat :=
  match s.dict.settings.find? fun p => p.index == index && p.sub == sub with
  | some p => p.seq.toNat
  | none => 0

/-- A command's entry that has not ended: an EXEC without an OUTCOME, or a write of a P point that no record carries.
The EXEC that made a reset of cause 9h ends later in the start (R90). -/
def State.unsettled (s : State) (e : List W16) : Bool :=
  jType e = 1 && (s.outcomeEntry (jOrigin e) (jDetail e) (jSeq e)).isNone &&
    (if jOp e = 3 then !(s.cause = 9 && s.reintEntry == some e)
    else jOp e = 2 && s.isPersistent (jIndex e) (jSub e) && s.settingSeq (jIndex e) (jSub e) < jSeq e)

/-- The settlement of R384. An activation that had not reached its copy is taken back. -/
def State.settleJournal (s : State) : State :=
  let s := if s.upd.stState = 3 then { s with upd := { s.upd with stState := 2 } } else s
  (s.jnlEntries.reverse.filter s.unsettled).foldl (fun s e =>
    s.outcome (BitVec.ofNat 32 (jOrigin e)) (BitVec.ofNat 32 (jDetail e)) (jIndex e) (jSub e) St.ABORTED) s

/-- Each slot that its load found bad is journaled (R337). -/
def State.recordBadSlots (s : State) : State :=
  if s.puf = 2 then s
  else ((List.range 256).filter fun n => s.slotBad n).foldl
    (fun s n => s.jnlService (jnlEvent 0x16 St.SLOT_BAD 0 0 0 n originService)) s

/-! ## What both kinds of start do -/

/-- Retirements come back from the record, FIRST first (R86); at a start of cause 9h E0 is then put back (R90). -/
def State.retireStart (s : State) : State :=
  let s := match s.upd.first with
    | some k => s.retSet (2 ^ k.val)
    | none => s
  let s := s.retSet s.upd.retSet.toNat
  if s.cause ≠ 9 then s
  else
    let entry := s.reintEntry
    let s := s.reint 0xA5 0
    match entry with
    | some e => s.outcome (BitVec.ofNat 32 (jOrigin e)) (BitVec.ofNat 32 (jDetail e)) 0x2010 2
        (if s.retired 0 then St.WRITE_REJECTED else St.OK)
    | none => s

/-- The extended address that the start sequence loads: the manual does not say which, so it is free (log entry 4). -/
def State.loadExt (s : State) : State :=
  let r := s.draw 64
  r.2.wrw A.LNK_EXT 4 r.1.toNat

/-- A ring that the service needs and no setting has placed: where in the first four banks E0's code places it is free
(log entry 22). -/
def State.placeRing (s : State) (n : Nat) : State :=
  if s.flag (A.RING_CFG n) 15 then s
  else
    let b := s.draw 13
    let x := b.2.draw 15
    let idx := x.1.toNat / 0x2000 * 0x8000 + x.1.toNat % 0x2000 % 0x1FF0 * 4
    ((x.2.wrw (A.RING_BASE n) 2 (0x100000 + 16 * b.1.toNat)).wrw (A.RING_IDX n) 2 (0x100000 + idx)).setFlag (A.RING_CFG n) 15 true

/-- The START entry (R381, R408). -/
def State.startEntry (s : State) : State :=
  s.jnlService (jnlEvent 3 St.OK s.upd.boots s.cause s.inKick.toNat (s.word A.SYS_STARTREASON).toNat originLoader)

/-! ## Kickstand (R410 to R413) -/

/-- Chain, frequency and mode of the recovery cells (D001h). -/
def State.kickChain (s : State) : Chain := if ofOctets ((s.setting 0xD001 1).getD [1]) = 0 then .A else .B
def State.kickFreq (s : State) : Nat := ofOctets ((s.setting 0xD001 2).getD (toOctets 4 0x0253B400))
def State.kickMode (s : State) : Nat := ofOctets ((s.setting 0xD001 3).getD [0x80])

/-- Lane of the recovery cells. -/
def kickLane (c : Chain) : Nat := 8 * c.ix

/-- An entry of every placement at the start of a slot. -/
def kickRow (kind lap slot a b c : Nat) : List W16 :=
  [BitVec.ofNat 16 (kind * 4096 + lap * 512 + 0x1FF), BitVec.ofNat 16 slot, 0, 0, 0, BitVec.ofNat 16 a, BitVec.ofNat 16 b,
   BitVec.ofNat 16 c]

/-- The recovery sheet's entries (R411): beacon, control transmit, eight control receive cells, PD11 and the RF domain
in retention from slot 10 and on again for slot 0, and the mark of lap 1. -/
def kickTable (c : Chain) : List W16 :=
  let ch := c.ix * 4096
  let lanes := 2 ^ kickLane c
  let dom (slot st : Nat) : List W16 := kickRow 4 0 slot (st * 16 + 11) 0 0 ++ kickRow 4 0 slot (st * 16 + 12 + c.ix) 0 0
  kickRow 1 0 0 ch 0 0x3FF ++ kickRow 1 0 1 (0x8000 + ch) lanes 0x3FF
    ++ ((List.range 8).map fun i => kickRow 1 0 (2 + i) (0xA000 + ch) lanes 0x3FF).flatten
    ++ dom 10 1 ++ dom 99 2 ++ kickRow 8 1 0 0 0 0

/-- The recovery sheet goes into the sequencer: 10 ms slots, lap 0 of 100 slots, and lap 1 whose origin never comes. -/
def State.loadKickSheet (s : State) : State :=
  let s := s.wrw A.SEQ_SLOTLEN 2 320000
  let lap (s : State) (n cfg base count : Nat) : State :=
    ((s.setWord (A.SEQ_LAP_CFG n) (BitVec.ofNat 16 cfg)).setWord (A.SEQ_LAP_BASE n) (BitVec.ofNat 16 base)).setWord
      (A.SEQ_LAP_COUNT n) (BitVec.ofNat 16 count)
  let s := (List.range' 2 6).foldl (fun s n => lap s n 0 0 0) (lap (lap s 0 (0x8000 + 99) 0 14) 1 0x8000 14 1)
  let s := (s.wrw (A.SEQ_LAP_ORIGIN 0) 3 0).wrw (A.SEQ_LAP_ORIGIN 1) 3 (2 ^ 40 - 1)
  { s with seq := { s.seq with table := wordCells (kickTable s.kickChain) }, upd := { s.upd with rows := [] } }

/-- The slot can be used. -/
def State.slotUsable (s : State) (n : Nat) : Bool := (s.verifySlot n).isSome

/-- Key map entries with CTRL and a usable slot are installed (R411). They are known from stored settings that the
running package's function table directs there (log entry 23). -/
def State.kickKeys (s : State) : State :=
  let points := if s.pkgOk then s.pkgPointList else []
  (List.range 16).foldl (fun s j =>
    match points.find? fun p => p.target == A.LNK_KEYMAP j && p.cls == Cl.persistent with
    | some p => match s.setting p.index p.sub with
      | some v =>
        let x := ofOctets v
        if bit x 27 && s.slotUsable (bits x 7 0) then s.wrw (A.LNK_KEYMAP j) 2 x else s
      | none => s
    | none => s) s

/-- The chains that a start calibrates: both, in kickstand the recovery chain (R126, R411). -/
def State.startChains (s : State) : List Chain :=
  if s.upd.booting == .image then [.A, .B] else if s.upd.booting == .kick then [s.kickChain] else []

/-- Full calibrations that the start makes, one of each chain, once the reference is there (R126). -/
def State.startCals (s : State) : State :=
  if !s.flag A.CLK_STAT 15 then s
  else s.startChains.foldl (fun s c =>
    if s.on (12 + c.ix) && s.rfState c = 0 && !s.upd.calibrated.contains c then s.startCal c else s) s

/-- The recovery chain is calibrated, or there is no XO32M for it (R126, R407). -/
def State.kickTuned (s : State) : Bool :=
  s.upd.calibrated.contains s.kickChain || s.upd.noXo || (!s.flag A.CLK_STAT 15 && s.flag A.CLK_STAT 14)

/-- Kickstand goes on once its domains are on and its chain is calibrated: role and stage come back (R228), the recovery
sheet is prepared and the START entry asked for. -/
def State.kickReady (s : State) : State :=
  let c := s.kickChain
  if s.upd.booting != .kick || !([8, 9, 10, 11, 12 + c.ix, 15].all fun d => s.on d) || s.rd A.SEQ_STAT 11 10 ≠ 0
    || !s.kickTuned then s
  else
    let s := { s with dict := { s.dict with points := [] } }
    let s := s.retireStart.applyAll.restoreStage.loadExt.kickKeys
    let s := [0, 1, 2, 18 + kickLane c].foldl (fun s n => s.placeRing n) s
    let s := if c = .A then s.wr A.LNK_HOPLEN 7 0 1 else s.wr A.LNK_HOPLEN 15 8 1
    let s := { s with lnk := { s.lnk with hops := cellsPut zeroWord s.lnk.hops (128 * c.ix) 0 } }
    let s := s.wrw (A.RF_CHBASE c) 2 s.kickFreq
    let s := s.wr (A.RXE_LANE_CFG (kickLane c)) 7 0 s.kickMode
    let s := s.loadKickSheet.startEntry
    { s with upd := { s.upd with booting := .commit } }

/-- The start enters kickstand (R410, R411), with a reason or for its boot attempts alone. Domains that kickstand does
not need go off. -/
def State.enterKick (s : State) (reason : Option Nat) : State :=
  let s := match reason with
    | some r => s.setWord A.SYS_STARTREASON (BitVec.ofNat 16 r)
    | none => s
  let s := { s.setFlag A.SYS_BOOTCNT 7 true with upd := { s.upd with booting := .kick } }
  let c := s.kickChain
  let s := ((List.range' 1 7) ++ [12 + c.other.ix]).foldl (fun s d => s.queueTransition ⟨d, 0, 0, false, none⟩) s
  let s := [10, 11, 12 + c.ix].foldl (fun s d => if s.on d then s else s.queueTransition ⟨d, 2, 0, false, none⟩) s
  s.startCals.kickReady

/-- The recovery beacon (R412): MHR with a header termination IE, a TSCH Synchronization IE, and its payload. -/
def State.beaconFrame (s : State) : List Octet :=
  let reason := (s.word A.SYS_STARTREASON).toNat
  toOctets 2 (0x200 + 2 * 4096 + 3 * 16384) ++ [0] ++ toOctets 2 (s.word A.LNK_PANID).toNat ++ toOctets 8 (s.rdw A.LNK_EXT 4)
    ++ toOctets 2 (0x7E * 128) ++ toOctets 2 (0x8000 + 0x800 + 8) ++ toOctets 2 (0x1A00 + 6) ++ List.replicate 6 0
    ++ toOctets 2 0xF800
    ++ [0x4C, 0x4A, 0x4B, 0x53] ++ toOctets 2 0x9616 ++ [0x42, BitVec.ofNat 8 (s.rd A.SYS_BOOTCNT 3 0)]
    ++ toOctets 8 (if s.puf = 1 then s.rdw A.VLT_DEVID 4 else 0) ++ toOctets 2 reason ++ [BitVec.ofNat 8 s.cause, 0]
    ++ toOctets 4 (if 2 ≤ reason ∧ reason ≤ 5 then 0 else s.runVersion) ++ toOctets 4 s.siteId

/-- In kickstand the service keeps a beacon on ring 2 for the next lap. -/
def State.postBeacon (s : State) : State :=
  if !s.inKick || !s.serves || !s.on 8 || s.rd A.SEQ_STAT 11 10 ≠ 2 || (s.ring 2).used ≠ 0 then s
  else
    let place := (s.ring 2).pi.toNat
    match s.qpost 2 1 with
    | none => s
    | some t =>
      let b := t.draw 16
      let buf := 0x100000 + 16 * b.1.toNat
      let os := s.beaconFrame
      let ws := ([0, s.kickMode * 256 + 16 + 4, 0, os.length, 15, buf % 65536, buf / 65536, 0x3FF]
        ++ List.replicate 8 0).map (BitVec.ofNat 16)
      (b.2.putOctets buf 0 os).sramPuts (s.placeAddr 2 place) ws

/-! ## BOOT_START (R90, R406, R409) -/

/-- The reason that a start takes from the one before it (R409, R410). -/
def State.priorReason (s : State) (n : Nat) : State :=
  let r := (s.word A.SYS_STARTREASON).toNat
  if (1 ≤ r && r ≤ 8) || r = 0xB then s
  else if s.cause = 6 then s.setWord A.SYS_STARTREASON 0xA
  else if 0 < n then s.setWord A.SYS_STARTREASON 9
  else s

/-- E0 begins in its service bank at 2800h: the boot attempt is counted, staging that was open is empty again, and the
start is a normal one or kickstand. -/
def State.bootRun (s : State) : State :=
  let n := s.upd.boots
  let c := min 15 (n + 1)
  let thr := ofOctets ((s.setting 0xD000 1).getD [3])
  let s := { s with
    svc := { Bank.service with pc := 0x2800 }, svcRun := true
    upd := { s.upd with boots := c, booting := .image, stState := if s.upd.stState = 1 then 0 else s.upd.stState } }
  let s := ((s.wr A.SYS_BOOTCNT 3 0 c).wr A.SYS_BOOTCNT 11 8 thr).setFlag A.SYS_BOOTCNT 7 false
  let s := { s.priorReason n with romIn := true }
  let s := if s.on 9 then s.settleJournal else s
  let s := if s.on 14 then s.recordBadSlots else s
  let s := if s.on 15 then s.newNonce else s
  if thr ≤ n then s.enterKick none
  else
    let engines := (List.range' 1 7).filter fun d => !s.retired d && !s.upd.retSet.getLsbD d
    let s := (engines ++ [10, 11, 12, 13]).foldl (fun (s : State) d => s.queueTransition ⟨d, 2, 0, false, none⟩) s
    if s.flag A.CLK_STAT 15 then (s.gearSet 4).startCals else s

/-- BOOT_START (R90, R406): PD0 is ready after a reset. A start of cause 9h tests E0 first. -/
def bootStartEffect (s : State) : State :=
  if s.upd.booting != .power || !s.on 0 then s
  else if s.cause = 9 && s.upd.reint0 then
    let s := { s with upd := { s.upd with reint0 := false, booting := .selfTest } }
    let t := s.testStart 0
    if t.selfTest.isSome then t else t.bootRun
  else s.bootRun

/-- BOOT_START. -/
def execBootStart (s : State) : Host.Outcome State Fault Refusal := .next (bootStartEffect s)

/-- FREQUENCY_COUNT (R292, R293, R406): with XO32M qualified during a start, E0 asks for G4, not in kickstand, and
calibrates. -/
def execFrequencyCount (src : ClkSource) (count : W16) (s : State) : Host.Outcome State Fault Refusal :=
  let t := frequencyCountEffect src count s
  .next (if s.flag A.CLK_STAT 15 || !t.flag A.CLK_STAT 15 then t
    else (if t.upd.booting == .image then t.gearSet 4 else t).startCals)

/-- CALIBRATION_DONE (R118, R126): a start that waited for it goes on. -/
def execCalibrationDone (c : Chain) (temp : BitVec 8) (s : State) : Host.Outcome State Fault Refusal :=
  let t := calibrationDoneEffect c temp s
  .next (if s.rfState c = 1 && s.startChains.contains c then
      ({ t with upd := { t.upd with calibrated := c :: t.upd.calibrated } }).kickReady
    else t)

/-! ## The running image (R410, R417, R426) -/

/-- The newest UPDATE entry's step and section (R426). -/
def State.lastUpdate (s : State) : Option (Nat × Nat) :=
  (s.jnlEntries.find? fun e => jType e = 0x18).map fun e => (jIndex e, jSub e)

/-- Reason for which the running image is not accepted. -/
def State.imageFault (s : State) : Option Nat :=
  let h := s.runHdr
  if h.take 4 ≠ [0x4C, 0x4A, 0x49, 0x4D] then some 5
  else if (headFault h).isSome || !headerShape h then some 2
  else if !s.signed_ h (s.areaOctets runningArea 256 (96 + hdrLmsLen h)) then some 3
  else if digest384 (s.areaOctets runningArea (bodyAt h) (plainLen h)) ≠ (h.drop 48).take 48 then some 4
  else if !s.pkgOk then some 7
  else none

/-- An interrupted overwrite is taken up again: staging is verified, the remaining sections and the header copied; none
where staging no longer verifies. -/
def State.resumeCopy (s : State) : Option State :=
  match s.lastUpdate with
  | none => some s
  | some (step, sec) =>
    if step ≠ 4 && step ≠ 5 then some s
    else
      let s := s.updateEntry 10 0 St.OK 0
      if s.stagedStatus ≠ St.OK then none
      else
        let from_ := if step = 5 then sec + 1 else 0
        let s := (List.range' from_ (17 - from_)).foldl (fun s k => (s.copySection k).updateEntry 5 k St.OK 0) s
        some s.copyDone

/-- Every domain that a normal start uses is on, and its calibrations are made. -/
def State.startable (s : State) : Bool :=
  s.upd.booting == .image && s.flag A.CLK_STAT 15 && (List.range' 8 8).all (fun d => s.on d)
    && (List.range' 1 7).all (fun d => s.on d || s.retired d || s.upd.retSet.getLsbD d)
    && s.upd.calibrated.contains .A && s.upd.calibrated.contains .B

/-- The image that a start runs is the new one of an activation that reached COPY_DONE: the activation is over. -/
def State.startUpdateOver (s : State) : State :=
  if s.upd.stState ≠ 5 then s
  else
    let h := s.runHdr
    let s := { s with upd := { s.upd with stState := 0, copied := false, received := 0 } }
    if bit (hdr h 9 1) 1 then s.resetSetting 0xD012 1 (toOctets 4 (hdrVersion h)) else s

/-- The normal start (R406) from the accepted image to the START entry. -/
def State.normalStart (s : State) : State :=
  let s := (s.measureHeader s.runHdr).loadEngines.startUpdateOver
  let s := { s with svc := { s.svc with pc := 0 } }
  let s := s.retireStart
  let s := { s with dict := { s.dict with points := s.pkgPointList } }
  let s := s.settleFormats.applyAll.restoreStage
  let s := (s.loadExt.placeRing 0).loadSheet.startEntry
  { s with upd := { s.upd with booting := .commit } }

/-- START_IMAGE_CHECK_DONE (R410). -/
def startImageCheckDoneEffect (s : State) : State :=
  if !s.startable then s
  else if s.puf = 2 then s.enterKick (some 1)
  else match s.resumeCopy with
    | none => (s.updateEntry 10 0 St.OK 0).enterKick (some 0xB)
    | some s => match s.imageFault with
      | some r => s.enterKick (some r)
      | none => s.normalStart

/-- START_IMAGE_CHECK_DONE. -/
def execStartImageCheckDone (s : State) : Host.Outcome State Fault Refusal := .next (startImageCheckDoneEffect s)

/-- The start goes on without XO32M: `CLK_STAT.REASON` says that it did not qualify (log entry 110). -/
def State.withoutXo (s : State) : State := { s.clkReason 3 with upd := { s.upd with noXo := true } }

/-- START_XO_TIMEOUT (R407). -/
def startXoTimeoutEffect (s : State) : State :=
  if s.flag A.CLK_STAT 15 then s
  else if s.upd.booting == .image then s.withoutXo.enterKick (some 6)
  else if s.upd.booting == .kick then s.withoutXo.kickReady
  else s

/-- START_XO_TIMEOUT. -/
def execStartXoTimeout (s : State) : Host.Outcome State Fault Refusal := .next (startXoTimeoutEffect s)

/-! ## What lets the service go on -/

/-- The start is past E0's self-test and not over. -/
def State.starting (s : State) : Bool := s.upd.booting == .image || s.upd.booting == .kick

/-- Domain d is ready: what E0 does then (R88, R337, R384, R399, R411). -/
def State.onReady (s : State) (d : Nat) (fromOff : Bool) : State :=
  let s := if d = 9 && fromOff && s.starting then s.settleJournal else s
  let s := if d = 14 && fromOff && s.svcRun then s.recordBadSlots else s
  let s := if d = 15 && fromOff && s.starting then s.newNonce else s
  let s := match s.execOf 0x2010 2 with
    | some e => if oct e.cmd.data 0 = d && s.selfTest.isNone then s.reintStart d else s
    | none => s
  s.startCals.kickReady

/-- WAKE_STEP_READY (R274). -/
def execWakeStepReady (s : State) : Host.Outcome State Fault Refusal :=
  let t := wakeStepReadyEffect s
  .next (match s.pwr.current with
    | some (x, .wake _) => if t.pwr.current.isNone && t.on x.dom then t.onReady x.dom (s.pwr.was = 0) else t
    | _ => t)

/-- A tested engine is loaded from the running image and put back (R88, R89). -/
def State.reintFinish (s : State) (k : Fin 8) : State :=
  let s := (((s.loadEngine k).ldDone k).execCommits 0x2010 2).reint 0xA5 k
  s.finishExec 0x2010 2 (if s.retired k.val then St.WRITE_REJECTED else St.OK)

/-- SELF_TEST_DONE (R88, R90). -/
def selfTestDoneEffect (pass : Bool) (s : State) : State :=
  match s.selfTest with
  | none => s
  | some k =>
    let s := s.testDone pass
    if s.upd.booting == .selfTest then s.bootRun
    else match s.execOf 0x2010 2 with
      | some e =>
        if oct e.cmd.data 0 ≠ k.val then s
        else if pass then s.reintFinish k else s.finishExec 0x2010 2 St.WRITE_REJECTED
      | none => s

/-- SELF_TEST_DONE. -/
def execSelfTestDone (pass : Bool) (s : State) : Host.Outcome State Fault Refusal := .next (selfTestDoneEffect pass s)

/-- A sheet that the service committed runs: MEAS1 and the SHEET_COMMIT entry (R353, R381). -/
def State.sheetCommitted (s : State) : State :=
  (s.extend 1 s.sheetOctets).jnlService (jnlEvent 0x19 St.OK 0 0 0 0 originService)

/-- The end of a commit check for whoever wrote COMMIT: a switch, a start, COMMIT_SHEET, or another initiator. -/
def State.commitOver (s : State) (ok : Bool) : State :=
  if s.upd.switching then (if ok then s.extend 1 s.sheetOctets else s).switchEnd
  else if s.upd.booting == .commit then
    (if ok then { s.sheetCommitted with upd := { s.sheetCommitted.upd with booting := .done } }
    else if s.inKick then { s with upd := { s.upd with booting := .done } }
    else s.enterKick (some 8))
  else if (s.execOf 0x9001 1).isSome then
    (if ok then s.sheetCommitted.finishExec 0x9001 1 St.OK else s.finishExec 0x9001 1 St.BAD_DESCRIPTOR)
  else s

/-- COMMIT_CHECK_COMPLETE (R39). -/
def execCommitCheckComplete (s : State) : Host.Outcome State Fault Refusal :=
  let t := commitCheckCompleteEffect s
  .next (if s.on 10 && s.rd A.SEQ_STAT 11 10 = 1 then t.commitOver (t.rd A.SEQ_STAT 11 10 = 2) else t)

/-- SLOT_START (R33, R40, R411, R422): a slot boundary; one that stops the old sheet for a switch begins its gap. -/
def execSlotStart (s : State) : Host.Outcome State Fault Refusal :=
  let t := s.slotStarts
  .next (match t.upd.switchAt with
    | some slot => if s.rd A.SEQ_STAT 11 10 = 3 && t.rd A.SEQ_STAT 11 10 = 0 then t.switchGap slot else t
    | none => t.postBeacon)

end Sys2Proof.Machine
end

