-- ==== Sys2Proof/Machine/Aborts.lean ====
section
/-!
DEFINITION. Abort requests at the consuming block (R258 to R260) and the Pannier store's requests (R247, R256, R262).
-/
namespace Sys2Proof.Machine

/-! ## Abort requests -/

/-- Answer to an abort request of a ring and a place, and the state after it (R259, R260). -/
def State.abortAnswer (s : State) (n place : Nat) : Nat × State :=
  if !(s.ringEn n && isRequest n) then (St.BAD_DESCRIPTOR, s)
  else if s.isOut n place then
    if s.descCommitted n place then (St.ABORT_TOO_LATE, s) else (St.ABORTED, s.abortDesc n place)
  else if s.isDone n place then (St.ABORT_TOO_LATE, s)
  else (St.BAD_DESCRIPTOR, s)

/-- ABORT_REQUEST_ARRIVAL (R259, R260). -/
def abortRequestArrivalEffect (s : State) : State :=
  match s.abortReq with
  | none => s
  | some (n, place) =>
    let r := s.abortAnswer n place
    { ((r.2.wr A.RING_ABORTSTAT 7 0 r.1).setFlag A.RING_ABORTSTAT 15 false) with abortReq := none }

/-- ABORT_REQUEST_ARRIVAL. -/
def execAbortRequestArrival (s : State) : Host.Outcome State Fault Refusal := .next (abortRequestArrivalEffect s)

/-! ## The Pannier store -/

/-- STATUS of an end of a store operation (R257). -/
def storeStatus : StoreResult → Nat
  | .ok => St.OK
  | .badDescriptor => St.BAD_DESCRIPTOR
  | .authFail => St.AUTH_FAIL
  | .slotBad => St.SLOT_BAD
  | .slotDenied => St.SLOT_ATTR_DENIED
  | .absent => St.STORE_ABSENT
  | .timeout => St.STORE_TIMEOUT
  | .ecc => St.STORE_ECC
  | .programFail => St.STORE_PROGRAM_FAIL
  | .eraseFail => St.STORE_ERASE_FAIL
  | .range => St.STORE_RANGE
  | .writeProtected => St.STORE_PROTECTED

/-- PANNIER_STORE_REQUEST (R247, R256, R258): the store interface fetches the next request of one of rings 40 to 43.
One in a LOST bank, or whose words 14 and 15 are not 0, completes at once; any other starts the operation that its OP
names, which acts outside the part and so commits the request. -/
def pannierStoreRequestEffect (ring : Fin 4) (s : State) : State :=
  let n := 40 + ring.val
  if !s.on 15 then s
  else match s.nextDesc n with
    | none => s
    | some p =>
      if !(s.fetchDesc n p).1 then (s.fetchDesc n p).2
      else
        let s := s.fetched n p true
        if s.placeLost n p then (s.completeGeneric n p St.BANK_LOST 0).fireDone n
        else if !s.genericOk n p then (s.completeGeneric n p St.BAD_DESCRIPTOR 0).fireDone n
        else { (s.openGate 3) with pan := s.pan ++ [(n, p, (List.range 16).map fun k => s.placeWord n p k)] }

/-- PANNIER_STORE_REQUEST. -/
def execPannierStoreRequest (ring : Fin 4) (s : State) : Host.Outcome State Fault Refusal :=
  .next (pannierStoreRequestEffect ring s)

/-- PANNIER_STORE_COMPLETION (R253, R256, R257, R262): the oldest operation of a ring ends. How it ends and
its RESULT are the operands. PAN_DONE fires. -/
def pannierStoreCompletionEffect (ring : Fin 4) (status : StoreResult) (result : W16) (s : State) : State :=
  let n := 40 + ring.val
  match s.pan.find? fun o => o.1 == n with
  | none => s
  | some o =>
    let s := { s with pan := s.pan.erase o }
    (s.completeGeneric n o.2.1 (storeStatus status) result.toNat).fire 0x51 0

/-- PANNIER_STORE_COMPLETION. -/
def execPannierStoreCompletion (ring : Fin 4) (status : StoreResult) (result : W16) (s : State) :
    Host.Outcome State Fault Refusal :=
  .next (pannierStoreCompletionEffect ring status result s)

end Sys2Proof.Machine
end

