-- ==== Sys2Proof/Machine/Scan.lean ====
section
/-!
DEFINITION. Boundary scan (R355, R450): the five instructions of IEEE 1149.1 over the 70 balls of the chain. The
numbering of the balls is the model's: 0 to 47 P0.0 to P5.7; 48 COEX_REQ, 49 COEX_PRI, 50 COEX_GNT; 51 WCK, 52 WDI,
53 WDO, 54 WIRQ, 55 CHAIN_IN, 56 CHAIN_OUT; 57 and 58 PAN_CS0 and 1, 59 PAN_CK, 60 to 67 PAN_DQ0 to 7, 68 PAN_DQS,
69 PAN_RST (log entry 24). Boundary scan stays available while the debug lock is set, so no row looks at it.
-/
namespace Sys2Proof.Machine

/-- Supply of a ball's ring is present (R432, R433). -/
def State.ballSupplied (s : State) (i : Nat) : Bool :=
  if i < 48 then s.pinSupplied i else if i < 57 then s.vio1 else s.vio2

/-- Level that the part itself drives on a ball in normal operation (R295, R394, R395, R432), or none. -/
def State.ballDrives (s : State) (i : Nat) : Option Bool :=
  let safe := s.flag A.CLK_STAT 9
  if !s.ballSupplied i then none
  else if i < 48 then s.pinOwn i
  else if i = 48 then some (!safe && ((s.chain .A).coex.req || (s.chain .B).coex.req))
  else if i = 49 then some (!safe && ((s.chain .A).coex.pri || (s.chain .B).coex.pri))
  else if i = 54 then (if s.wirqLow then some false else none)
  else if i = 56 then some (s.wflAddr ≠ 0)
  else if i = 57 ∨ i = 58 then (if safe || s.pan.isEmpty then some true else none)
  else if i = 59 then (if safe || s.pan.isEmpty then some false else none)
  else if i = 69 then (if s.domState 15 = 0 then some false else none)
  else none

/-- Level that stands at a ball which the part does not drive: 0 on an absent ring, what State holds of the board, or
the operand. -/
def State.ballOutside (s : State) (outside : BitVec 70) (i : Nat) : Bool :=
  s.ballSupplied i &&
    (if i < 48 then s.gpioIn.getLsbD i
     else if i = 50 then s.coexGnt
     else if i = 55 then s.wfl.chainIn
     else outside.getLsbD i)

/-- Level of a ball in normal operation. -/
def State.ballLevel (s : State) (outside : BitVec 70) (i : Nat) : Bool := (s.ballDrives i).getD (s.ballOutside outside i)

/-- What the part drives on a ball under the boundary-scan instruction in force: EXTEST and CLAMP drive the boundary
register, HIGHZ drives nothing. -/
def State.ball (s : State) (i : Nat) : Option Bool :=
  match s.jtag.ir with
  | .extest => some (s.jtag.bsr.getLsbD i)
  | .clamp => some (s.jtag.bsr.getLsbD i)
  | .highz => none
  | _ => s.ballDrives i

/-- The levels of all 70 balls. -/
def State.ballLevels (s : State) (outside : BitVec 70) : BitVec 70 :=
  BitVec.ofNat 70 ((List.range 70).foldl (fun v i => if s.ballLevel outside i then v + 2 ^ i else v) 0)

/-- The instruction register takes an instruction. -/
def State.setIr (s : State) (ir : JtagIr) : State := { s with jtag := { s.jtag with ir := ir } }

/-- BYPASS: one bit between TDI and TDO; the part works normally. -/
def execBypass (s : State) : Host.Outcome State Fault Refusal := .next (s.setIr .bypass)

/-- SAMPLE/PRELOAD: the levels of the balls are captured and the boundary register takes the word shifted in; the
part works normally. -/
def samplePreloadEffect (outside data : BitVec 70) (s : State) : State :=
  { s with jtag := { ir := .samplePreload, bsr := data, sampled := s.ballLevels outside } }

/-- SAMPLE_PRELOAD. -/
def execSamplePreload (outside data : BitVec 70) (s : State) : Host.Outcome State Fault Refusal :=
  .next (samplePreloadEffect outside data s)

/-- EXTEST: the balls are driven from the boundary register. -/
def execExtest (s : State) : Host.Outcome State Fault Refusal := .next (s.setIr .extest)

/-- CLAMP: the balls are driven from the boundary register, with BYPASS between TDI and TDO. -/
def execClamp (s : State) : Host.Outcome State Fault Refusal := .next (s.setIr .clamp)

/-- HIGHZ: no ball of the chain is driven. -/
def execHighz (s : State) : Host.Outcome State Fault Refusal := .next (s.setIr .highz)

end Sys2Proof.Machine
end

