-- ==== Sys2Proof/Machine/Registers.lean ====
section
/-!
DEFINITION. The rows that are one access to one register (R11, R13, R18): each puts its operands into the fields of
the word and goes through the one path of Bus.lean, where the action of the write or read is. A disable writes EN 00b
and writes the other fields back as they read.
-/
namespace Sys2Proof.Machine

/-- A number as a register word. -/
def w16 (v : Nat) : W16 := BitVec.ofNat 16 v

/-- EN of a register is written 00b, with its other fields as they stand; a W1C bit is written 0. -/
def State.writeOff (s : State) (who : Initiator) (a : Nat) : State := s.initWrite who a (w16 (putBits (s.word a).toNat 15 14 0))

/-- REGISTER_WRITE (R13). -/
def execRegisterWrite (who : Initiator) (addr : Addr) (data : W16) (s : State) : Host.Outcome State Fault Refusal :=
  .next (s.initWrite who addr.toNat data)

/-! ## The sequencer, cables and engines -/

/-- SEQ_CTRL_COMMIT (R39). -/
def execSeqCtrlCommit (who : Initiator) (s : State) : Host.Outcome State Fault Refusal := .next (s.initWrite who A.SEQ_CTRL 1)

/-- SEQ_CTRL_RELEASE (R40). -/
def execSeqCtrlRelease (who : Initiator) (s : State) : Host.Outcome State Fault Refusal := .next (s.initWrite who A.SEQ_CTRL 2)

/-- SEQ_CTRL_POP (R53). -/
def execSeqCtrlPop (who : Initiator) (s : State) : Host.Outcome State Fault Refusal := .next (s.initWrite who A.SEQ_CTRL 8)

/-- SEQ_CTRL_CLRCNT (R53). -/
def execSeqCtrlClrcnt (who : Initiator) (s : State) : Host.Outcome State Fault Refusal := .next (s.initWrite who A.SEQ_CTRL 4)

/-- SEQ_TBLDATA_ACCESS (R39): a read, or a write of a word. -/
def execSeqTbldataAccess (who : Initiator) (w : Option W16) (s : State) : Host.Outcome State Fault Refusal :=
  .next (s.initAccess who A.SEQ_TBLDATA w)

/-- CBL_FIRE_WRITE (R263, R270). -/
def execCblFireWrite (who : Initiator) (producer : BitVec 7) (s : State) : Host.Outcome State Fault Refusal :=
  .next (s.initWrite who A.CBL_FIRE (producer.setWidth 16))

/-- CBL_LVDATA_ACCESS (R266). -/
def execCblLvdataAccess (who : Initiator) (w : Option W16) (s : State) : Host.Outcome State Fault Refusal :=
  .next (s.initAccess who A.CBL_LVDATA w)

/-- ENG_LDDATA_WRITE (R62). -/
def execEngLddataWrite (who : Initiator) (data : W16) (s : State) : Host.Outcome State Fault Refusal :=
  .next (s.initWrite who A.ENG_LDDATA data)

/-- ENG_LDCTL_DONE (R62): DONE with TARGET k; MEM as it stands. -/
def execEngLdctlDone (who : Initiator) (k : Fin 8) (s : State) : Host.Outcome State Fault Refusal :=
  .next (s.initWrite who A.ENG_LDCTL (w16 (0x8000 + s.rd A.ENG_LDCTL 4 4 * 16 + k.val)))

/-- ENG_TEST_START (R88). -/
def execEngTestStart (who : Initiator) (k : Fin 8) (s : State) : Host.Outcome State Fault Refusal :=
  .next (s.initWrite who A.ENG_TEST (w16 (8 + k.val)))

/-- ENG_REINT_WRITE (R89). -/
def execEngReintWrite (who : Initiator) (confirm : Octet) (k : Fin 8) (s : State) : Host.Outcome State Fault Refusal :=
  .next (s.initWrite who A.ENG_REINT (w16 (confirm.toNat * 256 + k.val)))

/-- ENG_RETSET_WRITE (R86). -/
def execEngRetsetWrite (who : Initiator) (set : BitVec 8) (s : State) : Host.Outcome State Fault Refusal :=
  .next (s.initWrite who A.ENG_RETSET (set.setWidth 16))

/-! ## The rings and the crossbar -/

/-- RING_GPDATA_ACCESS (R69). -/
def execRingGpdataAccess (who : Initiator) (w : Option W16) (s : State) : Host.Outcome State Fault Refusal :=
  .next (s.initAccess who A.RING_GPDATA w)

/-- RING_GPCUR_WRITE (R72). -/
def execRingGpcurWrite (who : Initiator) (pattern : BitVec 6) (s : State) : Host.Outcome State Fault Refusal :=
  .next (s.initWrite who A.RING_GPCUR (pattern.setWidth 16))

/-- RING_ABORT_WRITE (R259). -/
def execRingAbortWrite (who : Initiator) (ring : BitVec 6) (place : BitVec 10) (s : State) :
    Host.Outcome State Fault Refusal :=
  .next (s.initWrite who A.RING_ABORT (w16 (ring.toNat * 1024 + place.toNat)))

/-! ## Power and clocks -/

/-- PWR_DOMCMD_WRITE (R276). -/
def execPwrDomcmdWrite (who : Initiator) (d : Fin 16) (st : BitVec 2) (s : State) : Host.Outcome State Fault Refusal :=
  .next (s.initWrite who A.PWR_DOMCMD (w16 (st.toNat * 16 + d.val)))

/-- PWR_GEARSET_WRITE (R291). -/
def execPwrGearsetWrite (who : Initiator) (g : BitVec 3) (s : State) : Host.Outcome State Fault Refusal :=
  .next (s.initWrite who A.PWR_GEARSET (g.setWidth 16))

/-- CLK_GATE_WRITE (R287). -/
def execClkGateWrite (who : Initiator) (mask : BitVec 15) (s : State) : Host.Outcome State Fault Refusal :=
  .next (s.initWrite who A.CLK_GATE (mask.setWidth 16))

/-- CLK_CTRL_RECHECK (R293): RECHECK, with the other field as it stands. -/
def execClkCtrlRecheck (who : Initiator) (s : State) : Host.Outcome State Fault Refusal :=
  .next (s.initWrite who A.CLK_CTRL (w16 (s.rd A.CLK_CTRL 15 15 * 32768 + 1)))

/-! ## Cadence -/

/-- CAD_WC_WRITE (R302): word 2 of wake compare n. -/
def execCadWcWrite (who : Initiator) (n : Fin 8) (v : W16) (s : State) : Host.Outcome State Fault Refusal :=
  .next (s.initWrite who (A.CAD_WC n + 2) v)

/-- CAD_CC_TGT_WRITE (R302): word 3 of the target of channel n. -/
def execCadCcTgtWrite (who : Initiator) (n : Fin 8) (v : W16) (s : State) : Host.Outcome State Fault Refusal :=
  .next (s.initWrite who (A.CAD_CC_TGT n + 3) v)

/-- CAD_CC_PER_WRITE (R304): word 1 of PER of channel n. -/
def execCadCcPerWrite (who : Initiator) (n : Fin 8) (v : W16) (s : State) : Host.Outcome State Fault Refusal :=
  .next (s.initWrite who (A.CAD_CC_PER n + 1) v)

/-- CAD_CC_CFG_WRITE (R305). -/
def execCadCcCfgWrite (who : Initiator) (n : Fin 8) (v : W16) (s : State) : Host.Outcome State Fault Refusal :=
  .next (s.initWrite who (A.CAD_CC_CFG n) v)

/-- CAPTURE_LATCH_READ (R308). -/
def execCaptureLatchRead (who : Initiator) (n : Fin 8) (s : State) : Host.Outcome State Fault Refusal :=
  .next (s.initRead who (A.CAD_CC_RISE n))

/-- SNAP_LATCH_READ (R308). -/
def execSnapLatchRead (who : Initiator) (s : State) : Host.Outcome State Fault Refusal := .next (s.initRead who A.CAD_SNAP)

/-! ## Gauge and serial units -/

/-- GAU_DAC_LOADNOW (R322): LOADNOW, with ON as it stands. -/
def execGauDacLoadnow (who : Initiator) (n : Fin 2) (s : State) : Host.Outcome State Fault Refusal :=
  .next (s.initWrite who (A.GAU_DAC_CFG n) (w16 (0x8000 + s.rd (A.GAU_DAC_CFG n) 0 0)))

/-- GAUGE_DISABLE (R319). -/
def execGaugeDisable (who : Initiator) (s : State) : Host.Outcome State Fault Refusal := .next (s.writeOff who A.GAU_CTRL)

/-- SERIAL_DISABLE (R326): `began` says that the running transfer's first bit is on the wire. -/
def serialDisableEffect (who : Initiator) (u : Fin 6) (began : Bool) (s : State) : State :=
  let a := A.PER_S_CFG u
  let t := s.writeOff who a
  if !began && s.rd a 15 14 == 1 && t.rd a 15 14 == 2 then t.unitDisabled u false else t

/-- SERIAL_DISABLE. -/
def execSerialDisable (who : Initiator) (u : Fin 6) (began : Bool) (s : State) : Host.Outcome State Fault Refusal :=
  .next (serialDisableEffect who u began s)

/-! ## Radio, link and mesh -/

/-- RFX_CTRL_CALREQ (R127). -/
def execRfxCtrlCalreq (who : Initiator) (c : Chain) (s : State) : Host.Outcome State Fault Refusal :=
  .next (s.initWrite who (A.RF_CTRL c) 1)

/-- RFA_CTRL_SEARCH (R135). -/
def execRfaCtrlSearch (who : Initiator) (s : State) : Host.Outcome State Fault Refusal :=
  .next (s.initWrite who (A.RF_CTRL .A) 2)

/-- LANE_DISABLE (R191). -/
def execLaneDisable (who : Initiator) (k : Fin 10) (s : State) : Host.Outcome State Fault Refusal :=
  .next (s.writeOff who (A.RXE_LANE_CFG k))

/-- LINK_DISABLE (R200): bit 0 of the register is W1C and is written 0. -/
def execLinkDisable (who : Initiator) (s : State) : Host.Outcome State Fault Refusal := .next (s.initWrite who A.LNK_CTRL 0)

/-- LNK_HOPDATA_ACCESS (R192, R215). -/
def execLnkHopdataAccess (who : Initiator) (w : Option W16) (s : State) : Host.Outcome State Fault Refusal :=
  .next (s.initAccess who A.LNK_HOPDATA w)

/-- MSH_STAGECTL_WRITE (R227). -/
def execMshStagectlWrite (who : Initiator) (v : W16) (s : State) : Host.Outcome State Fault Refusal :=
  .next (s.initWrite who A.MSH_STAGECTL v)

/-- RELAY_DISABLE (R239). -/
def execRelayDisable (who : Initiator) (s : State) : Host.Outcome State Fault Refusal := .next (s.writeOff who A.MSH_CTRL)

/-- MSH_PATHDATA_ACCESS (R235, R246). -/
def execMshPathdataAccess (who : Initiator) (w : Option W16) (s : State) : Host.Outcome State Fault Refusal :=
  .next (s.initAccess who A.MSH_PATHDATA w)

/-- MSH_NBRDATA_ACCESS (R246). -/
def execMshNbrdataAccess (who : Initiator) (w : Option W16) (s : State) : Host.Outcome State Fault Refusal :=
  .next (s.initAccess who A.MSH_NBRDATA w)

/-! ## Vault and journal -/

/-- VLT_CTRL_RESEED (R354): RESEED, with EN as it stands; EN that reads 10b is written 00b, so that it stays. -/
def execVltCtrlReseed (who : Initiator) (s : State) : Host.Outcome State Fault Refusal :=
  .next (s.initWrite who A.VLT_CTRL (w16 ((if s.rd A.VLT_CTRL 15 14 = 1 then 1 else 0) * 16384 + 1)))

/-- VAULT_DISABLE (R357). -/
def execVaultDisable (who : Initiator) (s : State) : Host.Outcome State Fault Refusal :=
  .next (s.initWrite who A.VLT_CTRL 0).settleSvc

/-- JNL_CTRL_COMMIT (R382). -/
def execJnlCtrlCommit (who : Initiator) (s : State) : Host.Outcome State Fault Refusal := .next (s.initWrite who A.JNL_CTRL 1)

/-! ## Waifeti, MRAM and E0's image -/

/-- WFL_RSPCTL_WRITE (R398): SLOT and LEN. -/
def execWflRspctlWrite (who : Initiator) (slot : Fin 4) (len : BitVec 11) (s : State) : Host.Outcome State Fault Refusal :=
  .next (s.initWrite who A.WFL_RSPCTL (w16 (slot.val * 16384 + len.toNat)))

/-- WFL_RXFREE_WRITE (R398). -/
def execWflRxfreeWrite (who : Initiator) (slots : BitVec 4) (s : State) : Host.Outcome State Fault Refusal :=
  .next (s.initWrite who A.WFL_RXFREE (slots.setWidth 16))

/-- WFL_ADDRCTL_RELEASE (R399): RELEASE with a CONFIRM. -/
def execWflAddrctlRelease (who : Initiator) (confirm : Octet) (s : State) : Host.Outcome State Fault Refusal :=
  .next (s.initWrite who A.WFL_ADDRCTL (w16 (confirm.toNat * 256 + 1)))

/-- WAIFETI_DISABLE (R402). -/
def execWaifetiDisable (who : Initiator) (s : State) : Host.Outcome State Fault Refusal := .next (s.writeOff who A.WFL_CFG)

/-- SYS_MWDATA_WRITE (R404). -/
def execSysMwdataWrite (who : Initiator) (data : W16) (s : State) : Host.Outcome State Fault Refusal :=
  .next (s.initWrite who A.SYS_MWDATA data)

/-- SYS_E0LDDATA_WRITE (R406). -/
def execSysE0lddataWrite (who : Initiator) (data : W16) (s : State) : Host.Outcome State Fault Refusal :=
  .next (s.initWrite who A.SYS_E0LDDATA data)

end Sys2Proof.Machine
end

