-- ==== Sys2Proof/Machine/SpokeRows.lean ====
section
/-!
DEFINITION. One meaning per syllable of the instruction set (R102 to R108): the engine's cycle in which the bundle due is
that one syllable. `adv` is the number of fabric cycles since the last one commanded.
-/
namespace Sys2Proof.Machine

/-- NOP: no effect (R102). -/
def execNop (k : Fin 8) (adv : BitVec 4) (s : State) :
    Host.Outcome State Fault Refusal := .next (issueOne k adv (.a .nop) s)

/-- ADD: d := s + t (R102). -/
def execAdd (k : Fin 8) (adv : BitVec 4) (d x y : BitVec 5) (s : State) :
    Host.Outcome State Fault Refusal := .next (issueOne k adv (.a (.ar .add d x y)) s)

/-- ADC: d := s + t + C (R102). -/
def execAdc (k : Fin 8) (adv : BitVec 4) (d x y : BitVec 5) (s : State) :
    Host.Outcome State Fault Refusal := .next (issueOne k adv (.a (.ar .adc d x y)) s)

/-- SUB: d := s - t (R102). -/
def execSub (k : Fin 8) (adv : BitVec 4) (d x y : BitVec 5) (s : State) :
    Host.Outcome State Fault Refusal := .next (issueOne k adv (.a (.ar .sub d x y)) s)

/-- SBC: d := s - t - C (R102). -/
def execSbc (k : Fin 8) (adv : BitVec 4) (d x y : BitVec 5) (s : State) :
    Host.Outcome State Fault Refusal := .next (issueOne k adv (.a (.ar .sbc d x y)) s)

/-- ADDS: d := sat16(s + t) (R102). -/
def execAdds (k : Fin 8) (adv : BitVec 4) (d x y : BitVec 5) (s : State) :
    Host.Outcome State Fault Refusal := .next (issueOne k adv (.a (.ar .adds d x y)) s)

/-- SUBS: d := sat16(s - t) (R102). -/
def execSubs (k : Fin 8) (adv : BitVec 4) (d x y : BitVec 5) (s : State) :
    Host.Outcome State Fault Refusal := .next (issueOne k adv (.a (.ar .subs d x y)) s)

/-- AND: d := s and t (R102). -/
def execAnd (k : Fin 8) (adv : BitVec 4) (d x y : BitVec 5) (s : State) :
    Host.Outcome State Fault Refusal := .next (issueOne k adv (.a (.ar .and d x y)) s)

/-- OR: d := s or t (R102). -/
def execOr (k : Fin 8) (adv : BitVec 4) (d x y : BitVec 5) (s : State) :
    Host.Outcome State Fault Refusal := .next (issueOne k adv (.a (.ar .or d x y)) s)

/-- XOR: d := s xor t (R102). -/
def execXor (k : Fin 8) (adv : BitVec 4) (d x y : BitVec 5) (s : State) :
    Host.Outcome State Fault Refusal := .next (issueOne k adv (.a (.ar .xor d x y)) s)

/-- ANDN: d := s and not t (R102). -/
def execAndn (k : Fin 8) (adv : BitVec 4) (d x y : BitVec 5) (s : State) :
    Host.Outcome State Fault Refusal := .next (issueOne k adv (.a (.ar .andn d x y)) s)

/-- SHL: left shift by t[4:0] (R102). -/
def execShl (k : Fin 8) (adv : BitVec 4) (d x y : BitVec 5) (s : State) :
    Host.Outcome State Fault Refusal := .next (issueOne k adv (.a (.ar .shl d x y)) s)

/-- SHR: logical right shift by t[4:0] (R102). -/
def execShr (k : Fin 8) (adv : BitVec 4) (d x y : BitVec 5) (s : State) :
    Host.Outcome State Fault Refusal := .next (issueOne k adv (.a (.ar .shr d x y)) s)

/-- SAR: arithmetic right shift by t[4:0] (R102). -/
def execSar (k : Fin 8) (adv : BitVec 4) (d x y : BitVec 5) (s : State) :
    Host.Outcome State Fault Refusal := .next (issueOne k adv (.a (.ar .sar d x y)) s)

/-- ROL: rotate left by t[3:0] (R102). -/
def execRol (k : Fin 8) (adv : BitVec 4) (d x y : BitVec 5) (s : State) :
    Host.Outcome State Fault Refusal := .next (issueOne k adv (.a (.ar .rol d x y)) s)

/-- MIN: signed minimum (R102). -/
def execMin (k : Fin 8) (adv : BitVec 4) (d x y : BitVec 5) (s : State) :
    Host.Outcome State Fault Refusal := .next (issueOne k adv (.a (.ar .min d x y)) s)

/-- MAX: signed maximum (R102). -/
def execMax (k : Fin 8) (adv : BitVec 4) (d x y : BitVec 5) (s : State) :
    Host.Outcome State Fault Refusal := .next (issueOne k adv (.a (.ar .max d x y)) s)

/-- MINU: unsigned minimum (R102). -/
def execMinu (k : Fin 8) (adv : BitVec 4) (d x y : BitVec 5) (s : State) :
    Host.Outcome State Fault Refusal := .next (issueOne k adv (.a (.ar .minu d x y)) s)

/-- MAXU: unsigned maximum (R102). -/
def execMaxu (k : Fin 8) (adv : BitVec 4) (d x y : BitVec 5) (s : State) :
    Host.Outcome State Fault Refusal := .next (issueOne k adv (.a (.ar .maxu d x y)) s)

/-- ABS: magnitude, saturated (R102). -/
def execAbs (k : Fin 8) (adv : BitVec 4) (d x : BitVec 5) (s : State) :
    Host.Outcome State Fault Refusal := .next (issueOne k adv (.a (.ar .abs d x 0)) s)

/-- NEG: d := 0 - s (R102). -/
def execNeg (k : Fin 8) (adv : BitVec 4) (d x : BitVec 5) (s : State) :
    Host.Outcome State Fault Refusal := .next (issueOne k adv (.a (.ar .neg d x 0)) s)

/-- CMPEQ: d := 1 if s = t else 0 (R102). -/
def execCmpeq (k : Fin 8) (adv : BitVec 4) (d x y : BitVec 5) (s : State) :
    Host.Outcome State Fault Refusal := .next (issueOne k adv (.a (.ar .cmpeq d x y)) s)

/-- CMPNE: d := 1 if s differs from t else 0 (R102). -/
def execCmpne (k : Fin 8) (adv : BitVec 4) (d x y : BitVec 5) (s : State) :
    Host.Outcome State Fault Refusal := .next (issueOne k adv (.a (.ar .cmpne d x y)) s)

/-- CMPLT: d := 1 if s < t signed else 0 (R102). -/
def execCmplt (k : Fin 8) (adv : BitVec 4) (d x y : BitVec 5) (s : State) :
    Host.Outcome State Fault Refusal := .next (issueOne k adv (.a (.ar .cmplt d x y)) s)

/-- CMPLTU: d := 1 if s < t unsigned else 0 (R102). -/
def execCmpltu (k : Fin 8) (adv : BitVec 4) (d x y : BitVec 5) (s : State) :
    Host.Outcome State Fault Refusal := .next (issueOne k adv (.a (.ar .cmpltu d x y)) s)

/-- MOVZ: d := s if t = 0 (R102). -/
def execMovz (k : Fin 8) (adv : BitVec 4) (d x y : BitVec 5) (s : State) :
    Host.Outcome State Fault Refusal := .next (issueOne k adv (.a (.ar .movz d x y)) s)

/-- MOVNZ: d := s if t is not 0 (R102). -/
def execMovnz (k : Fin 8) (adv : BitVec 4) (d x y : BitVec 5) (s : State) :
    Host.Outcome State Fault Refusal := .next (issueOne k adv (.a (.ar .movnz d x y)) s)

/-- PACK: d := t[7:0], s[7:0] (R102). -/
def execPack (k : Fin 8) (adv : BitVec 4) (d x y : BitVec 5) (s : State) :
    Host.Outcome State Fault Refusal := .next (issueOne k adv (.a (.ar .pack d x y)) s)

/-- UNPKL: d := s[7:0] (R102). -/
def execUnpkl (k : Fin 8) (adv : BitVec 4) (d x : BitVec 5) (s : State) :
    Host.Outcome State Fault Refusal := .next (issueOne k adv (.a (.ar .unpkl d x 0)) s)

/-- UNPKH: d := s[15:8] (R102). -/
def execUnpkh (k : Fin 8) (adv : BitVec 4) (d x : BitVec 5) (s : State) :
    Host.Outcome State Fault Refusal := .next (issueOne k adv (.a (.ar .unpkh d x 0)) s)

/-- SWAPB: octets of s exchanged (R102). -/
def execSwapb (k : Fin 8) (adv : BitVec 4) (d x : BitVec 5) (s : State) :
    Host.Outcome State Fault Refusal := .next (issueOne k adv (.a (.ar .swapb d x 0)) s)

/-- SEXB: d := sext(s[7:0]) (R102). -/
def execSexb (k : Fin 8) (adv : BitVec 4) (d x : BitVec 5) (s : State) :
    Host.Outcome State Fault Refusal := .next (issueOne k adv (.a (.ar .sexb d x 0)) s)

/-- CLZ: leading zeros of s (R102). -/
def execClz (k : Fin 8) (adv : BitVec 4) (d x : BitVec 5) (s : State) :
    Host.Outcome State Fault Refusal := .next (issueOne k adv (.a (.ar .clz d x 0)) s)

/-- POPC: number of ones in s (R102). -/
def execPopc (k : Fin 8) (adv : BitVec 4) (d x : BitVec 5) (s : State) :
    Host.Outcome State Fault Refusal := .next (issueOne k adv (.a (.ar .popc d x 0)) s)

/-- ADDI: d := s + sext(IMM12) (R102). -/
def execAddi (k : Fin 8) (adv : BitVec 4) (d x : BitVec 5) (imm : BitVec 12) (s : State) :
    Host.Outcome State Fault Refusal := .next (issueOne k adv (.a (.ai .addi d x imm)) s)

/-- ANDI: d := s and zext(IMM12) (R102). -/
def execAndi (k : Fin 8) (adv : BitVec 4) (d x : BitVec 5) (imm : BitVec 12) (s : State) :
    Host.Outcome State Fault Refusal := .next (issueOne k adv (.a (.ai .andi d x imm)) s)

/-- ORI: d := s or zext(IMM12) (R102). -/
def execOri (k : Fin 8) (adv : BitVec 4) (d x : BitVec 5) (imm : BitVec 12) (s : State) :
    Host.Outcome State Fault Refusal := .next (issueOne k adv (.a (.ai .ori d x imm)) s)

/-- XORI: d := s xor zext(IMM12) (R102). -/
def execXori (k : Fin 8) (adv : BitVec 4) (d x : BitVec 5) (imm : BitVec 12) (s : State) :
    Host.Outcome State Fault Refusal := .next (issueOne k adv (.a (.ai .xori d x imm)) s)

/-- SHLI: left shift by IMM12[3:0] (R102). -/
def execShli (k : Fin 8) (adv : BitVec 4) (d x : BitVec 5) (imm : BitVec 12) (s : State) :
    Host.Outcome State Fault Refusal := .next (issueOne k adv (.a (.ai .shli d x imm)) s)

/-- SHRI: logical right shift by IMM12[3:0] (R102). -/
def execShri (k : Fin 8) (adv : BitVec 4) (d x : BitVec 5) (imm : BitVec 12) (s : State) :
    Host.Outcome State Fault Refusal := .next (issueOne k adv (.a (.ai .shri d x imm)) s)

/-- SARI: arithmetic right shift by IMM12[3:0] (R102). -/
def execSari (k : Fin 8) (adv : BitVec 4) (d x : BitVec 5) (imm : BitVec 12) (s : State) :
    Host.Outcome State Fault Refusal := .next (issueOne k adv (.a (.ai .sari d x imm)) s)

/-- CMPEQI: d := 1 if s = sext(IMM12) else 0 (R102). -/
def execCmpeqi (k : Fin 8) (adv : BitVec 4) (d x : BitVec 5) (imm : BitVec 12) (s : State) :
    Host.Outcome State Fault Refusal := .next (issueOne k adv (.a (.ai .cmpeqi d x imm)) s)

/-- CMPLTI: d := 1 if s < sext(IMM12) signed else 0 (R102). -/
def execCmplti (k : Fin 8) (adv : BitVec 4) (d x : BitVec 5) (imm : BitVec 12) (s : State) :
    Host.Outcome State Fault Refusal := .next (issueOne k adv (.a (.ai .cmplti d x imm)) s)

/-- MOVI: d := IMM16 (R102). -/
def execMovi (k : Fin 8) (adv : BitVec 4) (d : BitVec 5) (imm : W16) (s : State) :
    Host.Outcome State Fault Refusal := .next (issueOne k adv (.a (.movi d imm)) s)

/-- MOVC: d := c[CR] (R92, R102). -/
def execMovc (k : Fin 8) (adv : BitVec 4) (d : BitVec 5) (cr : BitVec 4) (s : State) :
    Host.Outcome State Fault Refusal := .next (issueOne k adv (.a (.movc d cr)) s)

/-- MOVTC: c[CR] := s (R92, R102). -/
def execMovtc (k : Fin 8) (adv : BitVec 4) (x : BitVec 5) (cr : BitVec 4) (s : State) :
    Host.Outcome State Fault Refusal := .next (issueOne k adv (.a (.movtc x cr)) s)

/-- MUL: low word of the product (R103). -/
def execMul (k : Fin 8) (adv : BitVec 4) (d x y : BitVec 5) (s : State) :
    Host.Outcome State Fault Refusal := .next (issueOne k adv (.m .mul d x y 0 0) s)

/-- MULH: high word of the signed product (R103). -/
def execMulh (k : Fin 8) (adv : BitVec 4) (d x y : BitVec 5) (s : State) :
    Host.Outcome State Fault Refusal := .next (issueOne k adv (.m .mulh d x y 0 0) s)

/-- MULHU: high word of the unsigned product (R103). -/
def execMulhu (k : Fin 8) (adv : BitVec 4) (d x y : BitVec 5) (s : State) :
    Host.Outcome State Fault Refusal := .next (issueOne k adv (.m .mulhu d x y 0 0) s)

/-- MULQ: rounded fractional product, saturated (R103). -/
def execMulq (k : Fin 8) (adv : BitVec 4) (d x y : BitVec 5) (s : State) :
    Host.Outcome State Fault Refusal := .next (issueOne k adv (.m .mulq d x y 0 0) s)

/-- MPY: acc := s x t (R103). -/
def execMpy (k : Fin 8) (adv : BitVec 4) (x y : BitVec 5) (ac : BitVec 2) (s : State) :
    Host.Outcome State Fault Refusal := .next (issueOne k adv (.m .mpy 0 x y ac 0) s)

/-- MAC: acc := acc + s x t (R103). -/
def execMac (k : Fin 8) (adv : BitVec 4) (x y : BitVec 5) (ac : BitVec 2) (s : State) :
    Host.Outcome State Fault Refusal := .next (issueOne k adv (.m .mac 0 x y ac 0) s)

/-- MSU: acc := acc - s x t (R103). -/
def execMsu (k : Fin 8) (adv : BitVec 4) (x y : BitVec 5) (ac : BitVec 2) (s : State) :
    Host.Outcome State Fault Refusal := .next (issueOne k adv (.m .msu 0 x y ac 0) s)

/-- MACU: acc := acc + s x t, unsigned (R103). -/
def execMacu (k : Fin 8) (adv : BitVec 4) (x y : BitVec 5) (ac : BitVec 2) (s : State) :
    Host.Outcome State Fault Refusal := .next (issueOne k adv (.m .macu 0 x y ac 0) s)

/-- MACQ: acc := acc + 2 x s x t (R103). -/
def execMacq (k : Fin 8) (adv : BitVec 4) (x y : BitVec 5) (ac : BitVec 2) (s : State) :
    Host.Outcome State Fault Refusal := .next (issueOne k adv (.m .macq 0 x y ac 0) s)

/-- ACLR: acc := 0 (R103). -/
def execAclr (k : Fin 8) (adv : BitVec 4) (ac : BitVec 2) (s : State) :
    Host.Outcome State Fault Refusal := .next (issueOne k adv (.m .aclr 0 0 0 ac 0) s)

/-- ASHL: acc shifted left by IMM5 (R103). -/
def execAshl (k : Fin 8) (adv : BitVec 4) (ac : BitVec 2) (imm : BitVec 5) (s : State) :
    Host.Outcome State Fault Refusal := .next (issueOne k adv (.m .ashl 0 0 0 ac imm) s)

/-- ASHR: acc shifted right by IMM5 (R103). -/
def execAshr (k : Fin 8) (adv : BitVec 4) (ac : BitVec 2) (imm : BitVec 5) (s : State) :
    Host.Outcome State Fault Refusal := .next (issueOne k adv (.m .ashr 0 0 0 ac imm) s)

/-- AADD: acc := acc + acc[IMM5[1:0]] (R103). -/
def execAadd (k : Fin 8) (adv : BitVec 4) (ac : BitVec 2) (imm : BitVec 5) (s : State) :
    Host.Outcome State Fault Refusal := .next (issueOne k adv (.m .aadd 0 0 0 ac imm) s)

/-- ALD: acc := sext40 of t, s (R103). -/
def execAld (k : Fin 8) (adv : BitVec 4) (x y : BitVec 5) (ac : BitVec 2) (s : State) :
    Host.Outcome State Fault Refusal := .next (issueOne k adv (.m .ald 0 x y ac 0) s)

/-- AEXT: acc rounded and shifted, saturated (R103). -/
def execAext (k : Fin 8) (adv : BitVec 4) (d : BitVec 5) (ac : BitVec 2) (imm : BitVec 5) (s : State) :
    Host.Outcome State Fault Refusal := .next (issueOne k adv (.m .aext d 0 0 ac imm) s)

/-- AEXTL: d := acc[15:0] (R103). -/
def execAextl (k : Fin 8) (adv : BitVec 4) (d : BitVec 5) (ac : BitVec 2) (s : State) :
    Host.Outcome State Fault Refusal := .next (issueOne k adv (.m .aextl d 0 0 ac 0) s)

/-- AEXTH: d := acc[31:16] (R103). -/
def execAexth (k : Fin 8) (adv : BitVec 4) (d : BitVec 5) (ac : BitVec 2) (s : State) :
    Host.Outcome State Fault Refusal := .next (issueOne k adv (.m .aexth d 0 0 ac 0) s)

/-- AEXTG: d := sext(acc[39:32]) (R103). -/
def execAextg (k : Fin 8) (adv : BitVec 4) (d : BitVec 5) (ac : BitVec 2) (s : State) :
    Host.Outcome State Fault Refusal := .next (issueOne k adv (.m .aextg d 0 0 ac 0) s)

/-- LA: a[A] := IMM24 (R104). -/
def execLa (k : Fin 8) (adv : BitVec 4) (a : BitVec 3) (imm : Addr) (s : State) :
    Host.Outcome State Fault Refusal := .next (issueOne k adv (.l (.la a imm)) s)

/-- LD: g[G] := word at EA (R104). -/
def execLd (k : Fin 8) (adv : BitVec 4) (g : BitVec 5) (a : BitVec 3) (mode : BitVec 2) (imm : BitVec 12) (s : State) :
    Host.Outcome State Fault Refusal := .next (issueOne k adv (.l (.ld g a mode imm)) s)

/-- ST: word at EA := g[G] (R104). -/
def execSt (k : Fin 8) (adv : BitVec 4) (g : BitVec 5) (a : BitVec 3) (mode : BitVec 2) (imm : BitVec 12) (s : State) :
    Host.Outcome State Fault Refusal := .next (issueOne k adv (.l (.st g a mode imm)) s)

/-- LDIM: g[G] := word s of the instruction memory (R104). -/
def execLdim (k : Fin 8) (adv : BitVec 4) (g x : BitVec 5) (s : State) :
    Host.Outcome State Fault Refusal := .next (issueOne k adv (.l (.ldim g x)) s)

/-- ADA: a[A] := a[B] + sext(IMM16) (R104). -/
def execAda (k : Fin 8) (adv : BitVec 4) (a b : BitVec 3) (imm : W16) (s : State) :
    Host.Outcome State Fault Refusal := .next (issueOne k adv (.l (.ada a b imm)) s)

/-- MOVGA: a[A] := t[7:0], s (R104). -/
def execMovga (k : Fin 8) (adv : BitVec 4) (a : BitVec 3) (x y : BitVec 5) (s : State) :
    Host.Outcome State Fault Refusal := .next (issueOne k adv (.l (.movga a x y)) s)

/-- MOVAG: g[G] := a half of a[A] (R104). -/
def execMovag (k : Fin 8) (adv : BitVec 4) (g : BitVec 5) (a : BitVec 3) (h : Bool) (s : State) :
    Host.Outcome State Fault Refusal := .next (issueOne k adv (.l (.movag g a h)) s)

/-- QAVL: g[G] := descriptors ready (R107, R250). -/
def execQavl (k : Fin 8) (adv : BitVec 4) (g : BitVec 5) (ring : BitVec 6) (s : State) :
    Host.Outcome State Fault Refusal := .next (issueOne k adv (.q (.qavl g ring)) s)

/-- QSPACE: g[G] := free places (R107, R250). -/
def execQspace (k : Fin 8) (adv : BitVec 4) (g : BitVec 5) (ring : BitVec 6) (s : State) :
    Host.Outcome State Fault Refusal := .next (issueOne k adv (.q (.qspace g ring)) s)

/-- QHEAD: a[G] := address of the head descriptor (R107, R250). -/
def execQhead (k : Fin 8) (adv : BitVec 4) (a : BitVec 3) (ring : BitVec 6) (s : State) :
    Host.Outcome State Fault Refusal := .next (issueOne k adv (.q (.qhead a ring)) s)

/-- QTAIL: a[G] := address of the next free place (R107, R250). -/
def execQtail (k : Fin 8) (adv : BitVec 4) (a : BitVec 3) (ring : BitVec 6) (s : State) :
    Host.Outcome State Fault Refusal := .next (issueOne k adv (.q (.qtail a ring)) s)

/-- QPOST: the producer index advances by N (R107, R250). -/
def execQpost (k : Fin 8) (adv : BitVec 4) (ring : BitVec 6) (n : BitVec 11) (s : State) :
    Host.Outcome State Fault Refusal := .next (issueOne k adv (.q (.qpost ring n)) s)

/-- QFETCH: the consumer index advances by N (R107, R250). -/
def execQfetch (k : Fin 8) (adv : BitVec 4) (ring : BitVec 6) (n : BitVec 11) (s : State) :
    Host.Outcome State Fault Refusal := .next (issueOne k adv (.q (.qfetch ring n)) s)

/-- QEVT: the engine's producer event N fires (R107). -/
def execQevt (k : Fin 8) (adv : BitVec 4) (n : BitVec 2) (s : State) :
    Host.Outcome State Fault Refusal := .next (issueOne k adv (.q (.qevt n)) s)

/-- BR: branch (R108). -/
def execBr (k : Fin 8) (adv : BitVec 4) (target : BitVec 14) (s : State) :
    Host.Outcome State Fault Refusal := .next (issueOne k adv (.b (.br target)) s)

/-- BZ: branch if g[G] = 0 (R108). -/
def execBz (k : Fin 8) (adv : BitVec 4) (g : BitVec 5) (target : BitVec 14) (s : State) :
    Host.Outcome State Fault Refusal := .next (issueOne k adv (.b (.bz g target)) s)

/-- BNZ: branch if g[G] is not 0 (R108). -/
def execBnz (k : Fin 8) (adv : BitVec 4) (g : BitVec 5) (target : BitVec 14) (s : State) :
    Host.Outcome State Fault Refusal := .next (issueOne k adv (.b (.bnz g target)) s)

/-- BLTZ: branch if g[G] is negative (R108). -/
def execBltz (k : Fin 8) (adv : BitVec 4) (g : BitVec 5) (target : BitVec 14) (s : State) :
    Host.Outcome State Fault Refusal := .next (issueOne k adv (.b (.bltz g target)) s)

/-- BGEZ: branch if g[G] is not negative (R108). -/
def execBgez (k : Fin 8) (adv : BitVec 4) (g : BitVec 5) (target : BitVec 14) (s : State) :
    Host.Outcome State Fault Refusal := .next (issueOne k adv (.b (.bgez g target)) s)

/-- BDEC: g[G] less 1; branch if not 0 (R108). -/
def execBdec (k : Fin 8) (adv : BitVec 4) (g : BitVec 5) (target : BitVec 14) (s : State) :
    Host.Outcome State Fault Refusal := .next (issueOne k adv (.b (.bdec g target)) s)

/-- CALL: g31 := the link; branch (R108). -/
def execCall (k : Fin 8) (adv : BitVec 4) (target : BitVec 14) (s : State) :
    Host.Outcome State Fault Refusal := .next (issueOne k adv (.b (.call target)) s)

/-- JR: branch to g[G][13:0] (R108). -/
def execJr (k : Fin 8) (adv : BitVec 4) (g : BitVec 5) (s : State) :
    Host.Outcome State Fault Refusal := .next (issueOne k adv (.b (.jr g)) s)

/-- TRAP: SOFT with a code (R108, R112). -/
def execTrap (k : Fin 8) (adv : BitVec 4) (code : Octet) (s : State) :
    Host.Outcome State Fault Refusal := .next (issueOne k adv (.b (.trap code)) s)

/-- RETT: return from trap (R115). -/
def execRett (k : Fin 8) (adv : BitVec 4) (s : State) :
    Host.Outcome State Fault Refusal := .next (issueOne k adv (.b .rett) s)

/-- TEND: end of the task (R110). -/
def execTend (k : Fin 8) (adv : BitVec 4) (s : State) :
    Host.Outcome State Fault Refusal := .next (issueOne k adv (.b .tend) s)

/-- BRK: debug break (R111). -/
def execBrk (k : Fin 8) (adv : BitVec 4) (s : State) :
    Host.Outcome State Fault Refusal := .next (issueOne k adv (.b .brk) s)

end Sys2Proof.Machine
end

