-- ==== Sys2Proof/Machine/Dispatch.lean ====
section
/-!
DEFINITION. The dispatch: one arm per command, each one call of its meaning.
-/
namespace Sys2Proof.Machine

/-- The command's effect on everything but the queue. -/
def exec (i : Instr) (s : State) : Host.Outcome State Fault Refusal :=
  match i with
  | .registerWrite who addr data => Sys2Proof.Machine.execRegisterWrite who addr data s
  | .debugResume k halting => Sys2Proof.Machine.execDebugResume k halting s
  | .samplePreload outside data => Sys2Proof.Machine.execSamplePreload outside data s
  | .demandWakeComplete d => Sys2Proof.Machine.execDemandWakeComplete d s
  | .seqCtrlCommit who => Sys2Proof.Machine.execSeqCtrlCommit who s
  | .seqCtrlRelease who => Sys2Proof.Machine.execSeqCtrlRelease who s
  | .seqCtrlPop who => Sys2Proof.Machine.execSeqCtrlPop who s
  | .seqCtrlClrcnt who => Sys2Proof.Machine.execSeqCtrlClrcnt who s
  | .seqTbldataAccess who w => Sys2Proof.Machine.execSeqTbldataAccess who w s
  | .entryFetch n => Sys2Proof.Machine.execEntryFetch n s
  | .budgetExpiry m => Sys2Proof.Machine.execBudgetExpiry m s
  | .reserveWindowEnd rwin => Sys2Proof.Machine.execReserveWindowEnd rwin s
  | .thirdRunStart rwin => Sys2Proof.Machine.execThirdRunStart rwin s
  | .dispatch k => Sys2Proof.Machine.execDispatch k s
  | .radioTransmitDedicated c => Sys2Proof.Machine.execRadioTransmitDedicated c s
  | .radioTransmitShared c => Sys2Proof.Machine.execRadioTransmitShared c s
  | .radioReceive c => Sys2Proof.Machine.execRadioReceive c s
  | .radioScan c => Sys2Proof.Machine.execRadioScan c s
  | .radioControlTransmit c => Sys2Proof.Machine.execRadioControlTransmit c s
  | .radioControlReceive c => Sys2Proof.Machine.execRadioControlReceive c s
  | .fcReservationDurable j => Sys2Proof.Machine.execFcReservationDurable j s
  | .calibrationGap c => Sys2Proof.Machine.execCalibrationGap c s
  | .engFlag k => Sys2Proof.Machine.execEngFlag k s
  | .e0Svc n => Sys2Proof.Machine.execE0Svc n s
  | .conversionStart c => Sys2Proof.Machine.execConversionStart c s
  | .gauDacLoad n => Sys2Proof.Machine.execGauDacLoad n s
  | .gauPwmRestart n => Sys2Proof.Machine.execGauPwmRestart n s
  | .gauIexToggle n => Sys2Proof.Machine.execGauIexToggle n s
  | .cadCap n => Sys2Proof.Machine.execCadCap n s
  | .gpioTask k => Sys2Proof.Machine.execGpioTask k s
  | .lnkAbort c => Sys2Proof.Machine.execLnkAbort c s
  | .cblFireWrite who producer => Sys2Proof.Machine.execCblFireWrite who producer s
  | .cblLvdataAccess who w => Sys2Proof.Machine.execCblLvdataAccess who w s
  | .bundleIssue k adv => Sys2Proof.Machine.execBundleIssue k adv s
  | .dataTrap k adv => Sys2Proof.Machine.execDataTrap k adv s
  | .engineEccWriteBack k spad a => Sys2Proof.Machine.execEngineEccWriteBack k spad a s
  | .nop k adv => Sys2Proof.Machine.execNop k adv s
  | .add k adv d x y => Sys2Proof.Machine.execAdd k adv d x y s
  | .adc k adv d x y => Sys2Proof.Machine.execAdc k adv d x y s
  | .sub k adv d x y => Sys2Proof.Machine.execSub k adv d x y s
  | .sbc k adv d x y => Sys2Proof.Machine.execSbc k adv d x y s
  | .adds k adv d x y => Sys2Proof.Machine.execAdds k adv d x y s
  | .subs k adv d x y => Sys2Proof.Machine.execSubs k adv d x y s
  | .and k adv d x y => Sys2Proof.Machine.execAnd k adv d x y s
  | .or k adv d x y => Sys2Proof.Machine.execOr k adv d x y s
  | .xor k adv d x y => Sys2Proof.Machine.execXor k adv d x y s
  | .andn k adv d x y => Sys2Proof.Machine.execAndn k adv d x y s
  | .shl k adv d x y => Sys2Proof.Machine.execShl k adv d x y s
  | .shr k adv d x y => Sys2Proof.Machine.execShr k adv d x y s
  | .sar k adv d x y => Sys2Proof.Machine.execSar k adv d x y s
  | .rol k adv d x y => Sys2Proof.Machine.execRol k adv d x y s
  | .min k adv d x y => Sys2Proof.Machine.execMin k adv d x y s
  | .max k adv d x y => Sys2Proof.Machine.execMax k adv d x y s
  | .minu k adv d x y => Sys2Proof.Machine.execMinu k adv d x y s
  | .maxu k adv d x y => Sys2Proof.Machine.execMaxu k adv d x y s
  | .abs k adv d x => Sys2Proof.Machine.execAbs k adv d x s
  | .neg k adv d x => Sys2Proof.Machine.execNeg k adv d x s
  | .cmpeq k adv d x y => Sys2Proof.Machine.execCmpeq k adv d x y s
  | .cmpne k adv d x y => Sys2Proof.Machine.execCmpne k adv d x y s
  | .cmplt k adv d x y => Sys2Proof.Machine.execCmplt k adv d x y s
  | .cmpltu k adv d x y => Sys2Proof.Machine.execCmpltu k adv d x y s
  | .movz k adv d x y => Sys2Proof.Machine.execMovz k adv d x y s
  | .movnz k adv d x y => Sys2Proof.Machine.execMovnz k adv d x y s
  | .pack k adv d x y => Sys2Proof.Machine.execPack k adv d x y s
  | .unpkl k adv d x => Sys2Proof.Machine.execUnpkl k adv d x s
  | .unpkh k adv d x => Sys2Proof.Machine.execUnpkh k adv d x s
  | .swapb k adv d x => Sys2Proof.Machine.execSwapb k adv d x s
  | .sexb k adv d x => Sys2Proof.Machine.execSexb k adv d x s
  | .clz k adv d x => Sys2Proof.Machine.execClz k adv d x s
  | .popc k adv d x => Sys2Proof.Machine.execPopc k adv d x s
  | .addi k adv d x imm => Sys2Proof.Machine.execAddi k adv d x imm s
  | .andi k adv d x imm => Sys2Proof.Machine.execAndi k adv d x imm s
  | .ori k adv d x imm => Sys2Proof.Machine.execOri k adv d x imm s
  | .xori k adv d x imm => Sys2Proof.Machine.execXori k adv d x imm s
  | .shli k adv d x imm => Sys2Proof.Machine.execShli k adv d x imm s
  | .shri k adv d x imm => Sys2Proof.Machine.execShri k adv d x imm s
  | .sari k adv d x imm => Sys2Proof.Machine.execSari k adv d x imm s
  | .cmpeqi k adv d x imm => Sys2Proof.Machine.execCmpeqi k adv d x imm s
  | .cmplti k adv d x imm => Sys2Proof.Machine.execCmplti k adv d x imm s
  | .movi k adv d imm => Sys2Proof.Machine.execMovi k adv d imm s
  | .movc k adv d cr => Sys2Proof.Machine.execMovc k adv d cr s
  | .movtc k adv x cr => Sys2Proof.Machine.execMovtc k adv x cr s
  | .mul k adv d x y => Sys2Proof.Machine.execMul k adv d x y s
  | .mulh k adv d x y => Sys2Proof.Machine.execMulh k adv d x y s
  | .mulhu k adv d x y => Sys2Proof.Machine.execMulhu k adv d x y s
  | .mulq k adv d x y => Sys2Proof.Machine.execMulq k adv d x y s
  | .mpy k adv x y ac => Sys2Proof.Machine.execMpy k adv x y ac s
  | .mac k adv x y ac => Sys2Proof.Machine.execMac k adv x y ac s
  | .msu k adv x y ac => Sys2Proof.Machine.execMsu k adv x y ac s
  | .macu k adv x y ac => Sys2Proof.Machine.execMacu k adv x y ac s
  | .macq k adv x y ac => Sys2Proof.Machine.execMacq k adv x y ac s
  | .aclr k adv ac => Sys2Proof.Machine.execAclr k adv ac s
  | .ashl k adv ac imm => Sys2Proof.Machine.execAshl k adv ac imm s
  | .ashr k adv ac imm => Sys2Proof.Machine.execAshr k adv ac imm s
  | .aadd k adv ac imm => Sys2Proof.Machine.execAadd k adv ac imm s
  | .ald k adv x y ac => Sys2Proof.Machine.execAld k adv x y ac s
  | .aext k adv d ac imm => Sys2Proof.Machine.execAext k adv d ac imm s
  | .aextl k adv d ac => Sys2Proof.Machine.execAextl k adv d ac s
  | .aexth k adv d ac => Sys2Proof.Machine.execAexth k adv d ac s
  | .aextg k adv d ac => Sys2Proof.Machine.execAextg k adv d ac s
  | .la k adv a imm => Sys2Proof.Machine.execLa k adv a imm s
  | .ld k adv g a mode imm => Sys2Proof.Machine.execLd k adv g a mode imm s
  | .st k adv g a mode imm => Sys2Proof.Machine.execSt k adv g a mode imm s
  | .ldim k adv g x => Sys2Proof.Machine.execLdim k adv g x s
  | .ada k adv a b imm => Sys2Proof.Machine.execAda k adv a b imm s
  | .movga k adv a x y => Sys2Proof.Machine.execMovga k adv a x y s
  | .movag k adv g a h => Sys2Proof.Machine.execMovag k adv g a h s
  | .qavl k adv g ring => Sys2Proof.Machine.execQavl k adv g ring s
  | .qspace k adv g ring => Sys2Proof.Machine.execQspace k adv g ring s
  | .qhead k adv a ring => Sys2Proof.Machine.execQhead k adv a ring s
  | .qtail k adv a ring => Sys2Proof.Machine.execQtail k adv a ring s
  | .qpost k adv ring n => Sys2Proof.Machine.execQpost k adv ring n s
  | .qfetch k adv ring n => Sys2Proof.Machine.execQfetch k adv ring n s
  | .qevt k adv n => Sys2Proof.Machine.execQevt k adv n s
  | .br k adv target => Sys2Proof.Machine.execBr k adv target s
  | .bz k adv g target => Sys2Proof.Machine.execBz k adv g target s
  | .bnz k adv g target => Sys2Proof.Machine.execBnz k adv g target s
  | .bltz k adv g target => Sys2Proof.Machine.execBltz k adv g target s
  | .bgez k adv g target => Sys2Proof.Machine.execBgez k adv g target s
  | .bdec k adv g target => Sys2Proof.Machine.execBdec k adv g target s
  | .call k adv target => Sys2Proof.Machine.execCall k adv target s
  | .jr k adv g => Sys2Proof.Machine.execJr k adv g s
  | .trap k adv code => Sys2Proof.Machine.execTrap k adv code s
  | .rett k adv => Sys2Proof.Machine.execRett k adv s
  | .tend k adv => Sys2Proof.Machine.execTend k adv s
  | .brk k adv => Sys2Proof.Machine.execBrk k adv s
  | .offSlotServed port adv => Sys2Proof.Machine.execOffSlotServed port adv s
  | .crossbarTimeout port => Sys2Proof.Machine.execCrossbarTimeout port s
  | .drainEntry k adv => Sys2Proof.Machine.execDrainEntry k adv s
  | .drainEntryTimeout k => Sys2Proof.Machine.execDrainEntryTimeout k s
  | .engLddataWrite who data => Sys2Proof.Machine.execEngLddataWrite who data s
  | .engLdctlDone who k => Sys2Proof.Machine.execEngLdctlDone who k s
  | .engTestStart who k => Sys2Proof.Machine.execEngTestStart who k s
  | .selfTestDone pass => Sys2Proof.Machine.execSelfTestDone pass s
  | .engReintWrite who confirm k => Sys2Proof.Machine.execEngReintWrite who confirm k s
  | .engRetsetWrite who set => Sys2Proof.Machine.execEngRetsetWrite who set s
  | .ringGpdataAccess who w => Sys2Proof.Machine.execRingGpdataAccess who w s
  | .ringGpcurWrite who pattern => Sys2Proof.Machine.execRingGpcurWrite who pattern s
  | .reservationGrant ring => Sys2Proof.Machine.execReservationGrant ring s
  | .ringAbortWrite who ring place => Sys2Proof.Machine.execRingAbortWrite who ring place s
  | .cancelOnPost ring => Sys2Proof.Machine.execCancelOnPost ring s
  | .prepareDone noReply => Sys2Proof.Machine.execPrepareDone noReply s
  | .wakeCompareMatch n => Sys2Proof.Machine.execWakeCompareMatch n s
  | .wakePin n level window => Sys2Proof.Machine.execWakePin n level window s
  | .pwrDomcmdWrite who d st => Sys2Proof.Machine.execPwrDomcmdWrite who d st s
  | .pwrGearsetWrite who g => Sys2Proof.Machine.execPwrGearsetWrite who g s
  | .sramEccWriteBack a => Sys2Proof.Machine.execSramEccWriteBack a s
  | .clkGateWrite who mask => Sys2Proof.Machine.execClkGateWrite who mask s
  | .gateClose n => Sys2Proof.Machine.execGateClose n s
  | .gateRefused n => Sys2Proof.Machine.execGateRefused n s
  | .clockSourceFailure src => Sys2Proof.Machine.execClockSourceFailure src s
  | .frequencyCount src count => Sys2Proof.Machine.execFrequencyCount src count s
  | .primaryRestart src => Sys2Proof.Machine.execPrimaryRestart src s
  | .clkCtrlRecheck who => Sys2Proof.Machine.execClkCtrlRecheck who s
  | .compareFire n => Sys2Proof.Machine.execCompareFire n s
  | .cadWcWrite who n v => Sys2Proof.Machine.execCadWcWrite who n v s
  | .cadCcTgtWrite who n v => Sys2Proof.Machine.execCadCcTgtWrite who n v s
  | .cadCcPerWrite who n v => Sys2Proof.Machine.execCadCcPerWrite who n v s
  | .cadCcCfgWrite who n v => Sys2Proof.Machine.execCadCcCfgWrite who n v s
  | .captureEdge n rising => Sys2Proof.Machine.execCaptureEdge n rising s
  | .captureLatchRead who n => Sys2Proof.Machine.execCaptureLatchRead who n s
  | .snapLatchRead who => Sys2Proof.Machine.execSnapLatchRead who s
  | .ppsInputEdge rising => Sys2Proof.Machine.execPpsInputEdge rising s
  | .conversionDone c raw sar refFault excFault openInput overRange => Sys2Proof.Machine.execConversionDone c raw sar refFault excFault openInput overRange s
  | .gauDacLoadnow who n => Sys2Proof.Machine.execGauDacLoadnow who n s
  | .dacSettled n => Sys2Proof.Machine.execDacSettled n s
  | .pwmPeriodStart n => Sys2Proof.Machine.execPwmPeriodStart n s
  | .gaugeDisable who => Sys2Proof.Machine.execGaugeDisable who s
  | .gpioEdge pin rising => Sys2Proof.Machine.execGpioEdge pin rising s
  | .transferStart u => Sys2Proof.Machine.execTransferStart u s
  | .transferEnd u got w => Sys2Proof.Machine.execTransferEnd u got w s
  | .uartRxOctet second octet bad => Sys2Proof.Machine.execUartRxOctet second octet bad s
  | .serialDisable who u began => Sys2Proof.Machine.execSerialDisable who u began s
  | .settleStart c temp vpa => Sys2Proof.Machine.execSettleStart c temp vpa s
  | .lockQualified c => Sys2Proof.Machine.execLockQualified c s
  | .lockLost c => Sys2Proof.Machine.execLockLost c s
  | .grantCheck c gnt => Sys2Proof.Machine.execGrantCheck c gnt s
  | .paEnable c => Sys2Proof.Machine.execPaEnable c s
  | .txFirstSymbol c => Sys2Proof.Machine.execTxFirstSymbol c s
  | .txEnd c => Sys2Proof.Machine.execTxEnd c s
  | .modeSwitchCarrierEnd c => Sys2Proof.Machine.execModeSwitchCarrierEnd c s
  | .turnaroundDone c => Sys2Proof.Machine.execTurnaroundDone c s
  | .receiveStart c gnt => Sys2Proof.Machine.execReceiveStart c gnt s
  | .listenEnd c => Sys2Proof.Machine.execListenEnd c s
  | .receiveEnd c => Sys2Proof.Machine.execReceiveEnd c s
  | .mismatchMeasure gamma => Sys2Proof.Machine.execMismatchMeasure gamma s
  | .calibrationDone c temp => Sys2Proof.Machine.execCalibrationDone c temp s
  | .searchDone gammas => Sys2Proof.Machine.execSearchDone gammas s
  | .rfxCtrlCalreq who c => Sys2Proof.Machine.execRfxCtrlCalreq who c s
  | .rfaCtrlSearch who => Sys2Proof.Machine.execRfaCtrlSearch who s
  | .coexRequest c => Sys2Proof.Machine.execCoexRequest c s
  | .coexGntDeassert c => Sys2Proof.Machine.execCoexGntDeassert c s
  | .coexRelease c => Sys2Proof.Machine.execCoexRelease c s
  | .detection k p => Sys2Proof.Machine.execDetection k p s
  | .syncEvent k e => Sys2Proof.Machine.execSyncEvent k e s
  | .syncLost k => Sys2Proof.Machine.execSyncLost k s
  | .headerCheck k h => Sys2Proof.Machine.execHeaderCheck k h s
  | .modeSwitchTimeout k => Sys2Proof.Machine.execModeSwitchTimeout k s
  | .candidate k seen got snr offset => Sys2Proof.Machine.execCandidate k seen got snr offset s
  | .frameEnd k psdu snr offset => Sys2Proof.Machine.execFrameEnd k psdu snr offset s
  | .rssinowUpdate k p e => Sys2Proof.Machine.execRssinowUpdate k p e s
  | .laneDisable who k => Sys2Proof.Machine.execLaneDisable who k s
  | .ackTransmit c gnt => Sys2Proof.Machine.execAckTransmit c gnt s
  | .ackWaitExpiry c => Sys2Proof.Machine.execAckWaitExpiry c s
  | .ccaEnd c p => Sys2Proof.Machine.execCcaEnd c p s
  | .linkDisable who => Sys2Proof.Machine.execLinkDisable who s
  | .lnkHopdataAccess who w => Sys2Proof.Machine.execLnkHopdataAccess who w s
  | .mshStagectlWrite who v => Sys2Proof.Machine.execMshStagectlWrite who v s
  | .seenScrub set => Sys2Proof.Machine.execSeenScrub set s
  | .relayDisable who => Sys2Proof.Machine.execRelayDisable who s
  | .mshPathdataAccess who w => Sys2Proof.Machine.execMshPathdataAccess who w s
  | .mshNbrdataAccess who w => Sys2Proof.Machine.execMshNbrdataAccess who w s
  | .vaultCompletion unit => Sys2Proof.Machine.execVaultCompletion unit s
  | .nonceReservationDurable slot => Sys2Proof.Machine.execNonceReservationDurable slot s
  | .vltCtrlReseed who => Sys2Proof.Machine.execVltCtrlReseed who s
  | .vaultDisable who => Sys2Proof.Machine.execVaultDisable who s
  | .jnlCtrlCommit who => Sys2Proof.Machine.execJnlCtrlCommit who s
  | .frameHeader addr type len fseq hchk => Sys2Proof.Machine.execFrameHeader addr type len fseq hchk s
  | .cmd body crc => Sys2Proof.Machine.execCmd body crc s
  | .fetch accept => Sys2Proof.Machine.execFetch accept s
  | .assign value crc => Sys2Proof.Machine.execAssign value crc s
  | .status accept => Sys2Proof.Machine.execStatus accept s
  | .reset body crc => Sys2Proof.Machine.execReset body crc s
  | .responseExpiry slot => Sys2Proof.Machine.execResponseExpiry slot s
  | .wflRspctlWrite who slot len => Sys2Proof.Machine.execWflRspctlWrite who slot len s
  | .wflRxfreeWrite who slots => Sys2Proof.Machine.execWflRxfreeWrite who slots s
  | .wflAddrctlRelease who confirm => Sys2Proof.Machine.execWflAddrctlRelease who confirm s
  | .waifetiDisable who => Sys2Proof.Machine.execWaifetiDisable who s
  | .sysMwdataWrite who data => Sys2Proof.Machine.execSysMwdataWrite who data s
  | .sysE0lddataWrite who data => Sys2Proof.Machine.execSysE0lddataWrite who data s
  | .pannierStoreRequest ring => Sys2Proof.Machine.execPannierStoreRequest ring s
  | .pannierStoreCompletion ring status result => Sys2Proof.Machine.execPannierStoreCompletion ring status result s
  | .chainInChange level => Sys2Proof.Machine.execChainInChange level s
  | .vioSupplyLoss second => Sys2Proof.Machine.execVioSupplyLoss second s
  | .vioSupplyReturn second => Sys2Proof.Machine.execVioSupplyReturn second s
  | .powerOnReset => Sys2Proof.Machine.execPowerOnReset s
  | .brownOut => Sys2Proof.Machine.execBrownOut s
  | .overTemperature => Sys2Proof.Machine.execOverTemperature s
  | .jtagSystemReset => Sys2Proof.Machine.execJtagSystemReset s
  | .bypass => Sys2Proof.Machine.execBypass s
  | .extest => Sys2Proof.Machine.execExtest s
  | .clamp => Sys2Proof.Machine.execClamp s
  | .highz => Sys2Proof.Machine.execHighz s
  | .commitCheckComplete => Sys2Proof.Machine.execCommitCheckComplete s
  | .slotStart => Sys2Proof.Machine.execSlotStart s
  | .entryFire => Sys2Proof.Machine.execEntryFire s
  | .grant => Sys2Proof.Machine.execGrant s
  | .domain => Sys2Proof.Machine.execDomain s
  | .gear => Sys2Proof.Machine.execGear s
  | .wakecmp => Sys2Proof.Machine.execWakecmp s
  | .startConfirmed => Sys2Proof.Machine.execStartConfirmed s
  | .cadPpsout => Sys2Proof.Machine.execCadPpsout s
  | .cadNtsnap => Sys2Proof.Machine.execCadNtsnap s
  | .perGpiosnap => Sys2Proof.Machine.execPerGpiosnap s
  | .wflIrq => Sys2Proof.Machine.execWflIrq s
  | .abortRequestArrival => Sys2Proof.Machine.execAbortRequestArrival s
  | .transitionStart => Sys2Proof.Machine.execTransitionStart s
  | .wakeStepReady => Sys2Proof.Machine.execWakeStepReady s
  | .entryComplete => Sys2Proof.Machine.execEntryComplete s
  | .gearStepEnd => Sys2Proof.Machine.execGearStepEnd s
  | .pllLockLost => Sys2Proof.Machine.execPllLockLost s
  | .bankRebuild => Sys2Proof.Machine.execBankRebuild s
  | .xoPrestart => Sys2Proof.Machine.execXoPrestart s
  | .ntRebuild => Sys2Proof.Machine.execNtRebuild s
  | .arm => Sys2Proof.Machine.execArm s
  | .disarm => Sys2Proof.Machine.execDisarm s
  | .ppsAuto => Sys2Proof.Machine.execPpsAuto s
  | .ppsPulseEnd => Sys2Proof.Machine.execPpsPulseEnd s
  | .convert => Sys2Proof.Machine.execConvert s
  | .dacset => Sys2Proof.Machine.execDacset s
  | .acceptDecision => Sys2Proof.Machine.execAcceptDecision s
  | .dwellSubwindowAdvance => Sys2Proof.Machine.execDwellSubwindowAdvance s
  | .timeStep => Sys2Proof.Machine.execTimeStep s
  | .trimFraction => Sys2Proof.Machine.execTrimFraction s
  | .stageStore => Sys2Proof.Machine.execStageStore s
  | .stageRestore => Sys2Proof.Machine.execStageRestore s
  | .holdoffEnd => Sys2Proof.Machine.execHoldoffEnd s
  | .relayPost => Sys2Proof.Machine.execRelayPost s
  | .holdApply => Sys2Proof.Machine.execHoldApply s
  | .holdCountdown => Sys2Proof.Machine.execHoldCountdown s
  | .originateFlood => Sys2Proof.Machine.execOriginateFlood s
  | .originatePath => Sys2Proof.Machine.execOriginatePath s
  | .originateHold => Sys2Proof.Machine.execOriginateHold s
  | .ccmSeal => Sys2Proof.Machine.execCcmSeal s
  | .ccmDecrypt => Sys2Proof.Machine.execCcmDecrypt s
  | .ccmOpen => Sys2Proof.Machine.execCcmOpen s
  | .gcmSeal => Sys2Proof.Machine.execGcmSeal s
  | .gcmDecrypt => Sys2Proof.Machine.execGcmDecrypt s
  | .gcmOpen => Sys2Proof.Machine.execGcmOpen s
  | .cmacGen => Sys2Proof.Machine.execCmacGen s
  | .cmacVerify => Sys2Proof.Machine.execCmacVerify s
  | .sha256 => Sys2Proof.Machine.execSha256 s
  | .sha384 => Sys2Proof.Machine.execSha384 s
  | .ecdsaSign => Sys2Proof.Machine.execEcdsaSign s
  | .ecdsaVerify => Sys2Proof.Machine.execEcdsaVerify s
  | .lmsVerify => Sys2Proof.Machine.execLmsVerify s
  | .dualVerify => Sys2Proof.Machine.execDualVerify s
  | .keyInstall => Sys2Proof.Machine.execKeyInstall s
  | .keyExport => Sys2Proof.Machine.execKeyExport s
  | .keyErase => Sys2Proof.Machine.execKeyErase s
  | .keyGenerate => Sys2Proof.Machine.execKeyGenerate s
  | .pubkeyRead => Sys2Proof.Machine.execPubkeyRead s
  | .random => Sys2Proof.Machine.execRandom s
  | .enrol => Sys2Proof.Machine.execEnrol s
  | .attest => Sys2Proof.Machine.execAttest s
  | .extend => Sys2Proof.Machine.execExtend s
  | .debugUnlock => Sys2Proof.Machine.execDebugUnlock s
  | .lmsReservationDurable => Sys2Proof.Machine.execLmsReservationDurable s
  | .reseedComplete => Sys2Proof.Machine.execReseedComplete s
  | .read => Sys2Proof.Machine.execRead s
  | .write => Sys2Proof.Machine.execWrite s
  | .journalRead => Sys2Proof.Machine.execJournalRead s
  | .hold => Sys2Proof.Machine.execHold s
  | .cancel => Sys2Proof.Machine.execCancel s
  | .reintegrateEngine => Sys2Proof.Machine.execReintegrateEngine s
  | .commitSheet => Sys2Proof.Machine.execCommitSheet s
  | .releaseSheet => Sys2Proof.Machine.execReleaseSheet s
  | .attestExec => Sys2Proof.Machine.execAttestExec s
  | .debugUnlockExec => Sys2Proof.Machine.execDebugUnlockExec s
  | .leaveKickstand => Sys2Proof.Machine.execLeaveKickstand s
  | .systemReset => Sys2Proof.Machine.execSystemReset s
  | .openStaging => Sys2Proof.Machine.execOpenStaging s
  | .bodyChunk => Sys2Proof.Machine.execBodyChunk s
  | .closeStaging => Sys2Proof.Machine.execCloseStaging s
  | .activate => Sys2Proof.Machine.execActivate s
  | .activationStart => Sys2Proof.Machine.execActivationStart s
  | .sectionDone => Sys2Proof.Machine.execSectionDone s
  | .switchRelease => Sys2Proof.Machine.execSwitchRelease s
  | .journalAccept => Sys2Proof.Machine.execJournalAccept s
  | .journalEntryDurable => Sys2Proof.Machine.execJournalEntryDurable s
  | .journalTimeout => Sys2Proof.Machine.execJournalTimeout s
  | .ping => Sys2Proof.Machine.execPing s
  | .frameAbandon => Sys2Proof.Machine.execFrameAbandon s
  | .idleResync => Sys2Proof.Machine.execIdleResync s
  | .bootStart => Sys2Proof.Machine.execBootStart s
  | .startImageCheckDone => Sys2Proof.Machine.execStartImageCheckDone s
  | .startXoTimeout => Sys2Proof.Machine.execStartXoTimeout s
  | .mramWordDurable => Sys2Proof.Machine.execMramWordDurable s
  | .pllRelock => Sys2Proof.Machine.execPllRelock s
  | .entropyHealthFailure => Sys2Proof.Machine.execEntropyHealthFailure s
  | .sleepCounterEdge => Sys2Proof.Machine.execSleepCounterEdge s

end Sys2Proof.Machine
end

