-- ==== Sys2Proof/Safety.lean ====
section
/-!
DEFINITION. What claims call a good state and a safe run, and the words they use: an access that is served at once,
the registers and memories that a command leaves as they were, a single run on an engine.
-/
namespace Sys2Proof.Machine

/-- Addresses strictly rising: the form of a list in which every entry counts, whatever its word. -/
def cellsRising : Cells → Bool
  | [] => true
  | (a, _) :: t => cellsAbove a t && cellsRising t

/-- The memories are in their one canonical form, so that equal memories are equal data: register words, words held
(R13), shared SRAM, MRAM and the grant patterns. -/
def State.memWf (s : State) : Bool :=
  Memory.wf regDefault s.regs && cellsRising s.held && Memory.wf zeroWord s.sram && Memory.wf zeroWord s.mram
    && Memory.wf onesWord s.patterns

/-- A run that never stops with a fault or a refusal. -/
def Safe (s : State) : Prop := ∀ n, ∃ t, Sys2Proof.core.run n s = .next t

/-- An access of `who` to a register in domain d is served at once (R18, R355): the domain is on (AON, number 16,
always is), and `who` is not the debug port while the debug lock is set. -/
def State.reaches (s : State) (who : Initiator) (d : Nat) : Prop := s.shutOut who = false ∧ s.on d = true

/-- Every register word outside the windows `ws` (R24) and the addresses `own` is as it was. -/
def State.regsKept (s t : State) (ws own : List Nat) : Prop :=
  ∀ a, (∀ w ∈ ws, windowOf a ≠ some w) → a ∉ own → t.word a = s.word a

/-- Every word of every memory reads as it did: shared SRAM, MRAM, grant patterns, and the engines' scratchpads and
instruction memories. -/
def State.memKept (s t : State) : Prop :=
  t.sram = s.sram ∧ t.mram = s.mram ∧ t.patterns = s.patterns ∧
    ∀ k : Fin 8, t.eng[k].spad = s.eng[k].spad ∧ t.eng[k].imem = s.eng[k].imem

/-- Producer p has fired with hop count `hop` (R262, R265 to R267, R270): its event, unless it has its 8 hops behind it,
is on every enabled cable from it that passes, on its way to a consumer that is not entry-bound, one hop on, and arrives
as its producer's and its consumer's clocks say, having entered now or, as the product of an action, a cycle later. -/
def State.fired (s t : State) (p hop : Nat) : Prop :=
  ∀ c, c < 0x280 → hop < 8 → (cableEnds c).1 = p → s.cableOn c = true → s.cablePasses c = true →
    entryBound (cableEnds c).2 = false →
      ∃ u ∈ [s.now, s.now + 1, s.now + 2], ⟨c, (cableEnds c).2, hop + 1, t.arrival u p (cableEnds c).2⟩ ∈ t.cbl.flight

/-- The service is neither starting nor switching, runs no EXEC and is not in kickstand, so that it takes no part in
what happens. -/
def State.quiet (s : State) : Prop :=
  s.upd.booting = .done ∧ s.upd.switchAt = none ∧ s.upd.switching = false ∧ s.dict.execs = [] ∧ s.inKick = false

/-! ## One cycle of an engine -/

/-- The cycle of engine k is a bundle of `who`, its task or on E0 the service (R66, R91, R97): the run is not one of a
pair, waits for no access and does not end, no trap entry or return holds its bundle back, and no faulting load's result
is due. -/
def State.single (s : State) (k : Fin 8) (who : Initiator) : Prop :=
  s.runner k = some who ∧ s.stalledWho who = false ∧ (s.bankOfWho who).ending = false ∧ (s.bankOfWho who).hold ≤ 1 ∧
    (landAll (s.bankOfWho who)).2 = [] ∧ ∀ u ∈ s.taskOfWho who, u.mate = none

/-- The registers as the bundle due reads them: the results due have landed (R97, R98). -/
def State.due (s : State) (who : Initiator) : Bank := { (landAll (s.bankOfWho who)).1 with hold := 0 }

/-- Some fabric cycles have passed and the runner's bundle of one syllable has issued without a trap: its registers are
those of b, the next bundle is at pc, followed where a branch was taken by the one at its target, one cycle more is
counted, and nothing else has changed. -/
def State.issuesTo (s t : State) (k : Fin 8) (who : Initiator) (b : Bank) (pc : BitVec 16) (target : Option (BitVec 16)) : Prop :=
  t = (({ s with phase := t.phase, xbarUsed := t.xbarUsed, drainUsed := t.drainUsed }).setEngine k
    { s.eng[k] with resumed := false }).setBankOf who { b with pc := pc, target := target, cyc := (s.bankOfWho who).cyc + 1 }

/-- The same where the bundle takes no branch: the bundle after it is next, or the target of the branch before (R108). -/
def State.issues (s t : State) (k : Fin 8) (who : Initiator) (b : Bank) : Prop :=
  s.issuesTo t k who b ((s.due who).target.getD ((s.due who).pc + 1)) none

/-- An access of engine k to a word of shared SRAM is served in its own grant slot, adv cycles from now (R69, R70): the
bank is on, the drain does not use the port, and no other access has had the bank in this cycle. -/
def State.inSlot (s : State) (adv : BitVec 4) (k : Fin 8) (a : Nat) : Prop :=
  inSram a = true ∧ s.on 8 = true ∧ s.bankState (bankOf a) = 2 ∧ (s.cycles adv).slotCode (bankOf a) = k.val ∧
    (s.cycles adv).drainUsed.contains k.val = false ∧ (s.cycles adv).xbarUsed.contains (bankOf a) = false

end Sys2Proof.Machine
end

