-- ==== Sys2Proof/Certificates/Slice0/Obligations.lean ====
section
/-!
DEFINITION. The statements for the provers, from the numbered rules of spec/, family by family.
-/
open Sys2Proof Sys2Proof.Machine

/-! ## The queue, the reset state and what every step keeps -/

/-- A step runs the command at the front of the queue; on an empty queue network time counts one cycle while it runs.
With command c at the front of the queue, a step is exec of c on the state with the rest of the queue; putting a
command in front and stepping runs it. With no command waiting, a step adds one 32 MHz cycle (eight fractions) to
network time if it runs and changes nothing else. The queue is the row's form of the model, and that the idle step is
one tick is the model's choice (log entry 1). [opcode_table.json, 00_scope.md, R299] -/
def Obligations.StepRunsFront : Prop :=
  (∀ (s : State) (c : Instr) (rest : List Instr), s.pending = c :: rest → step s = exec c { s with pending := rest }) ∧
  (∀ (s : State) (c : Instr), step (s.withFront c) = exec c s) ∧
  (∀ s : State, s.pending = [] → s.ntRun = true → ∃ t, step s = .next t ∧
    t.nt = s.nt + 8 ∧ t = { s with nt := t.nt }) ∧
  ∀ s : State, s.pending = [] → s.ntRun = false → step s = .next s

/-- In the reset state every register word reads its reset value, memory lists nothing and is in canonical form, every
domain is off and the start set is queued. In the reset state every domain PD0 to PD15 and every SRAM bank is off,
PWR_GEAR shows gear G0 with target G0, and the queue of the power controller is PD0, PD8 with banks 0 to 3, PD9, PD15,
PD14 in that order. Every register word of the reset state is the reset value of the register map, but for PWR_XSTAT,
whose QUEUED counts the five transitions of the start set; no memory lists a word, so shared SRAM and MRAM read 0 and
every grant pattern word reads FFFFh; no command waits; every memory is in canonical form. That memory without a reset
value reads 0 is the model's choice (log entry 26). [R10, R12, R20, R406, R69] -/
def Obligations.ResetRegisters : Prop :=
  (∀ d, d < 16 → State.reset.domState d = 0) ∧ (∀ b, b < 32 → State.reset.bankState b = 0) ∧
  State.reset.rd A.PWR_GEAR 2 0 = 0 ∧ State.reset.rd A.PWR_GEAR 6 4 = 0 ∧
  State.reset.pwr.queue.map (fun t => (t.dom, t.target, t.banks)) =
    [(0, 2, 0), (8, 2, 0xF), (9, 2, 0), (15, 2, 0), (14, 2, 0)] ∧
  (∀ a, a ≠ A.PWR_XSTAT → State.reset.word a = regDefault a) ∧ State.reset.rd A.PWR_XSTAT 4 0 = 5 ∧
  State.reset.rd A.SYS_RESETCAUSE 3 0 = 1 ∧ State.reset.pending = [] ∧
  (∀ a, State.reset.sramGet a = 0) ∧ (∀ a, State.reset.mramGet a = 0) ∧
  (∀ a, cellsGet onesWord State.reset.patterns a = 0xFFFF) ∧ State.reset.memWf = true

/-- Every step keeps the canonical form of every memory. For every state whose memories are in canonical form, if a
step answers a next state, that state's memories are in canonical form. It covers every command of the table and the
idle step. [R10, R20] -/
def Obligations.StepKeepsMemoryForm : Prop :=
  ∀ s t : State, s.memWf = true → step s = .next t → t.memWf = true

/-- Every step answers a next state and takes exactly the front command from the queue. In every state a step answers
a next state, never a fault or a refusal, and the queue after it is the queue before it without its front command. No
row of the table appends a command of its own. [opcode_table.json] -/
def Obligations.StepTotal : Prop := ∀ s : State, ∃ t, step s = .next t ∧ t.pending = s.pending.tail

/-! ## Resets -/

/-- Every reset turns the switched domains off, sets gear G0, queues the start set, records its cause and keeps MRAM;
a SOFT reset keeps the always-on registers. After POWER_ON_RESET, BROWN_OUT, OVER_TEMPERATURE and JTAG_SYSTEM_RESET,
in every state, all sixteen domains and all banks are off, PWR_GEAR shows G0 with target G0, and the start set is
queued with no transition in progress. POWER_ON_RESET leaves CAUSE 1, BROWN_OUT and OVER_TEMPERATURE 2,
JTAG_SYSTEM_RESET 5; MRAM is kept by all four and shared SRAM reads 0 after all four (the model's value for lost
memory, log entry 26); a power-on reset leaves the always-on registers at their reset values but for CAUSE, the queued
count and the new challenge; the SOFT reset keeps the sleep counter and the always-on registers CLK_FAILHIST and
PWR_WSETn. [R405, R406, R436, R12] -/
def Obligations.ResetCauses : Prop :=
  (∀ (s : State) (c : Instr), c ∈ [Instr.powerOnReset, .brownOut, .overTemperature, .jtagSystemReset] →
    ∃ t, exec c s = .next t ∧ (∀ d, d < 16 → t.domState d = 0) ∧ (∀ b, b < 32 → t.bankState b = 0) ∧
      t.rd A.PWR_GEAR 2 0 = 0 ∧ t.rd A.PWR_GEAR 6 4 = 0 ∧ t.pwr.current = none ∧
      t.pwr.queue.map (fun x => (x.dom, x.target, x.banks)) = [(0, 2, 0), (8, 2, 0xF), (9, 2, 0), (15, 2, 0), (14, 2, 0)]) ∧
  (∀ s : State, ∃ t, exec .powerOnReset s = .next t ∧ t.rd A.SYS_RESETCAUSE 3 0 = 1 ∧ t.mram = s.mram ∧ t.sram = [] ∧
    t.sleep = 0 ∧ State.reset.regsKept t [] ([A.PWR_XSTAT, A.SYS_RESETCAUSE] ++ (List.range 4).map (A.VLT_DBGCHAL + ·))) ∧
  (∀ (s : State) (c : Instr), c ∈ [Instr.brownOut, .overTemperature] →
    ∃ t, exec c s = .next t ∧ t.rd A.SYS_RESETCAUSE 3 0 = 2 ∧ t.mram = s.mram ∧ t.sram = [] ∧
    t.sleep = 0 ∧ State.reset.regsKept t [] ([A.PWR_XSTAT, A.SYS_RESETCAUSE] ++ (List.range 4).map (A.VLT_DBGCHAL + ·))) ∧
  ∀ s : State, ∃ t, exec .jtagSystemReset s = .next t ∧ t.rd A.SYS_RESETCAUSE 3 0 = 5 ∧ t.mram = s.mram ∧
    (∀ a, inSram a = true → cellsGet zeroWord t.sram a = 0) ∧ t.sleep = s.sleep ∧
    t.word A.CLK_FAILHIST = s.word A.CLK_FAILHIST ∧ ∀ n, n < 8 → t.word (A.PWR_WSET n) = s.word (A.PWR_WSET n)

/-! ## The sequencer -/

/-- The end of a commit check locks and runs the sheet, or refuses it with its first failing entry and check. With a
check in progress and the service taking no part: if no check fails, STATE reads running, CHK pass and no fetched
entry is left from an earlier sheet; if check c is the first that fails, at entry i, STATE reads idle, CHK refused,
INDEX i and CODE c; with no lap enabled the check that fails is 9, at index 0. A refused check changes no register
outside SEQ_STAT, SEQ_ERR and SEQ_ERRCODE, no memory and no other state. [R39, R265] -/
def Obligations.CommitCheck : Prop :=
  (∀ s : State, s.quiet → s.on 10 = true → s.rd A.SEQ_STAT 11 10 = 1 → s.commitFailure = none →
    ∃ t, exec .commitCheckComplete s = .next t ∧ t.rd A.SEQ_STAT 11 10 = 2 ∧ t.rd A.SEQ_STAT 3 2 = 1 ∧
      t.seq.fetched = [] ∧ t.seq.table = s.seq.table ∧ s.memKept t ∧ s.regsKept t [] [A.SEQ_STAT]) ∧
  (∀ (s : State) (c i : Nat), s.quiet → s.on 10 = true → s.rd A.SEQ_STAT 11 10 = 1 → s.commitFailure = some (c, i) →
    ∃ t, exec .commitCheckComplete s = .next t ∧ t.rd A.SEQ_STAT 11 10 = 0 ∧ t.rd A.SEQ_STAT 3 2 = 2 ∧
      t.rd A.SEQ_ERR 12 0 = i % 8192 ∧ t.rd A.SEQ_ERRCODE 3 0 = c ∧ t = { s with regs := t.regs } ∧
      s.regsKept t [] [A.SEQ_STAT, A.SEQ_ERR, A.SEQ_ERRCODE]) ∧
  ∀ s : State, s.quiet → s.on 10 = true → s.rd A.SEQ_STAT 11 10 = 1 → (∀ n, n < 8 → s.lapOn n = false) →
    ∃ t, exec .commitCheckComplete s = .next t ∧ t.rd A.SEQ_STAT 3 2 = 2 ∧ t.rd A.SEQ_ERR 12 0 = 0 ∧
      t.rd A.SEQ_ERRCODE 3 0 = 9

/-- A slot boundary sets the ASN, restarts the crossbar phase and stops a releasing sheet. While a sheet runs or is
releasing, network time runs and has reached the epoch, and the service takes no part, a slot start sets the ASN to
(network time minus epoch) div slot length, modulo 2^40, sets the crossbar phase to 0 where PD8 is on, leaves a
running sheet running and a releasing one idle with no fetched entry; it changes no register outside the cable window,
SEQ_ASN, SEQ_STAT and PWR_XSTAT, and no memory, and CAD_SLOT has fired. [R33, R40, R68] -/
def Obligations.SlotStart : Prop :=
  ∀ s : State, s.quiet → s.on 10 = true → s.ntRun = true → 2 ≤ s.rd A.SEQ_STAT 11 10 → s.rdw A.SEQ_EPOCH 4 ≤ s.now →
    ∃ t, exec .slotStart s = .next t ∧
      t.rdw A.SEQ_ASN 3 = (s.now - s.rdw A.SEQ_EPOCH 4) / max 1 (s.rdw A.SEQ_SLOTLEN 2 % 2 ^ 21) % 2 ^ 40 ∧
      (s.on 8 = true → t.phase = 0) ∧ (s.rd A.SEQ_STAT 11 10 = 2 → t.rd A.SEQ_STAT 11 10 = 2) ∧
      (s.rd A.SEQ_STAT 11 10 = 3 → t.rd A.SEQ_STAT 11 10 = 0 ∧ t.seq.fetched = []) ∧ s.memKept t ∧
      s.regsKept t [Win.CBL] [A.SEQ_ASN, A.SEQ_ASN + 1, A.SEQ_ASN + 2, A.SEQ_STAT, A.PWR_XSTAT] ∧ s.fired t 0x38 0

/-- A fetch takes the lap's next entry with its instant. With PD10 on, a sheet running or releasing, and lap n enabled
with entries, a fetch adds the entry at the lap's cursor to the fetched entries, with instant slot start plus OFFSET,
and moves the cursor to the next entry, or to the first of the next occurrence after the last; it changes no register
outside the cadence and cable windows and no memory. [R33, R41, R43] -/
def Obligations.EntryFetch : Prop :=
  ∀ (n : Fin 8) (s : State), s.on 10 = true → 2 ≤ s.rd A.SEQ_STAT 11 10 → s.lapOn n.val = true → s.lapCount n.val ≠ 0 →
    ∃ t, exec (.entryFetch n) s = .next t ∧
      (let i := s.seq.cursor[n].1
       let occ := s.seq.cursor[n].2
       let w := s.entry (s.lapBase n.val + i)
       let asn := s.lapOrigin n.val + occ * s.lapLen n.val + eSlot w
       t.seq.fetched = s.seq.fetched ++
         [⟨n.val, s.lapBase n.val + i, asn, s.rdw A.SEQ_EPOCH 4 + asn * s.slotLen + eOffset w, w⟩] ∧
       t.seq.cursor[n] = (if i + 1 < s.lapCount n.val then (i + 1, occ) else (0, occ + 1))) ∧
      s.memKept t ∧ s.regsKept t [Win.CAD, Win.CBL] []

/-- The consumer of an entry that goes through a cable of its own (R43, R45): none for the kinds that act at once. -/
def entryConsumer (w : List W16) : Option Nat :=
  match eKind w with
  | 1 => some (0x20 + bits (eArg w 0) 12 12)
  | 2 => some (bits (eArg w 1) 2 0)
  | 3 => some 0x22
  | 4 => some 0x23
  | 5 => some 0x24
  | 7 => some 0x25
  | 8 => match bits (eArg w 0) 3 0 with
    | 0 => some 0x26
    | 1 => some 0x27
    | 2 => some 0x28
    | _ => none
  | _ => none

/-- An entry fires on the tick of its instant through its own cable. With the one fetched entry due now, of the
current placement, no window open and a monitor free: the entry is no longer fetched; an entry of a kind that has a
consumer sends its action there when its cable is enabled and passes; a LEVER entry sets its lever; an entry with a
BUDGET of a monitored kind takes a deadline monitor whose deadline is its instant plus BUDGET µs, and no other does;
no memory changes, but where a MARK meets an image that an activation has copied (R421). An entry of another placement
is dropped and nothing else changes. With nothing due, nothing changes but the count of the tick. [R35, R41, R43, R45,
R52] -/
def Obligations.EntryFire : Prop :=
  (∀ (s : State) (f : Fetched), s.on 10 = true → s.ntRun = true → 2 ≤ s.rd A.SEQ_STAT 11 10 → s.seq.fetched = [f] →
    f.instant = s.now → bit (ePlace f.words) (s.rd A.SEQ_STAT 9 6) = true → s.seq.lastTick ≠ s.now →
    s.seq.windows = [] → s.seq.monitors.length < 32 →
    ∃ t, exec .entryFire s = .next t ∧ t.seq.fetched = [] ∧ (eKind f.words ≠ 8 ∨ s.upd.copied = false → s.memKept t) ∧
      (∀ c, entryConsumer f.words = some c →
        t.cbl.acts = s.cbl.acts ++ (if s.cableOn (if c < 8 then c else c - 0x18) && s.cablePasses (if c < 8 then c else c - 0x18)
          then [⟨c, f.lap, f.index, f.words, f.instant, f.asn, []⟩] else [])) ∧
      (eKind f.words = 9 → t.flag A.CBL_LEVERS (bits (eArg f.words 0) 3 0) = bit (eArg f.words 0) 4) ∧
      (eBudget f.words ≠ 0 ∧ eKind f.words ∈ [1, 2, 4, 5, 6] →
        ∃ m, t.seq.monitors = s.seq.monitors ++ [m] ∧ m.kind = eKind f.words ∧ m.instant = f.instant ∧
          m.deadline = f.instant + 32 * eBudget f.words) ∧
      (eBudget f.words = 0 ∨ eKind f.words ∉ [1, 2, 4, 5, 6] → t.seq.monitors = s.seq.monitors)) ∧
  (∀ (s : State) (f : Fetched), s.on 10 = true → s.ntRun = true → 2 ≤ s.rd A.SEQ_STAT 11 10 → s.seq.fetched = [f] →
    f.instant ≤ s.now → bit (ePlace f.words) (s.rd A.SEQ_STAT 9 6) = false → s.seq.lastTick = s.now →
    exec .entryFire s = .next { s with seq := { s.seq with fetched := [] } }) ∧
  ∀ s : State, s.on 10 = true → s.ntRun = true → 2 ≤ s.rd A.SEQ_STAT 11 10 → (∀ f ∈ s.seq.fetched, s.now < f.instant) →
    s.seq.lastTick = s.now → exec .entryFire s = .next s

/-- The end of a budget records OVERRUN, and the end of a reserve window closes it and restores the engine's domain.
When the deadline of a monitor without a record has come, for work other than a dispatch, the class 1 breach count
rises by one, saturating; a gear step that still runs keeps its monitor, marked. The end of a window without recorded
mismatches, third run or deferred entries removes it, and an active one whose engine's domain was not on before, and
is not in that state now or is still waking, queues the domain's return to that state; a window that is not over
stays. [R52, R53, R54] -/
def Obligations.BudgetAndWindowEnds : Prop :=
  (∀ (m : Fin 32) (x : Monitor) (s : State), s.seq.monitors[m.val]? = some x → x.deadline ≤ s.now → x.overrun = false →
    s.on 10 = true → x.kind ≠ 2 →
    ∃ t, exec (.budgetExpiry m) s = .next t ∧
      (t.word (A.SEQ_BRCNT 1)).toNat = min 0xFFFF ((s.word (A.SEQ_BRCNT 1)).toNat + 1) ∧
      (x.kind = 5 → s.flag A.PWR_GEAR 15 = true → t.seq.monitors = s.seq.monitors.set m.val { x with overrun := true }) ∧
      s.memKept t ∧ s.regsKept t [Win.CBL] [A.SEQ_BRCNT 1, A.SEQ_BRLOGSTAT, A.SEQ_MONFREE] ∧ s.fired t 0x0F 0) ∧
  (∀ (r : Octet) (w : Window) (s : State), s.seq.windows.find? (fun w => w.rwin == r.toNat) = some w → w.stop ≤ s.now →
    s.on 10 = true → w.active = false →
    ∃ t, exec (.reserveWindowEnd r) s = .next t ∧ t.seq.windows = s.seq.windows.filter (fun x => x.rwin != r.toNat) ∧
      t = { s with seq := { s.seq with windows := t.seq.windows } }) ∧
  (∀ (r : Octet) (w : Window) (s : State), s.seq.windows.find? (fun w => w.rwin == r.toNat) = some w → w.stop ≤ s.now →
    s.on 10 = true → w.active = true → w.run = none → s.seq.mismatches = [] → s.seq.deferred = [] →
    ∃ t, exec (.reserveWindowEnd r) s = .next t ∧ t.seq.windows = s.seq.windows.filter (fun x => x.rwin != r.toNat) ∧
      t.pwr.queue = (if w.domWas < 2 ∧ (s.domState w.engine.val ≠ w.domWas ∨ s.waking w.engine.val = true) then
        replaceTransition ⟨w.engine.val, w.domWas, 0, false, none⟩ s.pwr.queue else s.pwr.queue) ∧ s.memKept t ∧
      s.regsKept t [] [A.PWR_XSTAT]) ∧
  ∀ (r : Octet) (w : Window) (s : State), s.seq.windows.find? (fun w => w.rwin == r.toNat) = some w → s.now < w.stop →
    exec (.reserveWindowEnd r) s = .next s

/-- The entry actions DOMAIN, GRANT, GEAR, WAKECMP and START_CONFIRMED. With its action at PWR_DOMAIN and the domain
not that of a retired engine, the transition joins the end of the queue where none of the domain is pending, and takes
the place of the one that is; for the domain of a retired engine nothing is queued. A transition that joins changes
nothing else but the queued count; one for a retired engine's domain changes no memory. With its entry's action at the
consumer: GRANT puts the entry's pattern into RING_GPCUR while PD8 is on, and is counted missed while it is not; GEAR
sets the derailleur's target while XO32M is qualified and no PLL lock is lost, and only marks HELD while XO32M is not
qualified; WAKECMP arms its wake compare at sc(instant) plus floor(DELTA times 64 over 62500); the first
START_CONFIRMED after a start clears the boot-attempt count, sets CONFIRMED and asks for a journal entry, and a later
one does nothing else. Each takes its action off its cable; without an action each leaves the state as it was. [R38,
R44, R45, R46, R85, R263, R276, R291] -/
def Obligations.EntryActions : Prop :=
  (∀ (s : State) (a : EntryAct), s.cbl.acts.find? (fun a => a.cons == 0x23) = some a → s.heldOff (a.arg 0 % 16) = false →
    (∀ x ∈ s.pwr.queue, x.demand = true ∨ x.dom ≠ a.arg 0 % 16) →
    ∃ t, exec .domain s = .next t ∧
      t.pwr.queue = s.pwr.queue ++ [⟨a.arg 0 % 16, a.arg 0 / 16 % 4,
        if a.arg 0 % 16 = 8 then BitVec.ofNat 32 (a.arg 1 + 65536 * a.arg 2) else 0, false, some (a.lap, a.index)⟩] ∧
      t.cbl.acts = s.cbl.acts.erase a ∧ t = { s with regs := t.regs, cbl := t.cbl, pwr := { s.pwr with queue := t.pwr.queue } } ∧
      s.regsKept t [] [A.PWR_XSTAT]) ∧
  (∀ (s : State) (a : EntryAct) (l r : List Transition) (x : Transition),
    s.cbl.acts.find? (fun a => a.cons == 0x23) = some a → s.heldOff (a.arg 0 % 16) = false → s.pwr.queue = l ++ x :: r →
    x.demand = false → x.dom = a.arg 0 % 16 → (∀ y ∈ l, y.demand = true ∨ y.dom ≠ x.dom) →
    ∃ t, exec .domain s = .next t ∧
      t.pwr.queue = l ++ ⟨x.dom, a.arg 0 / 16 % 4,
        if x.dom = 8 then BitVec.ofNat 32 (a.arg 1 + 65536 * a.arg 2) else 0, false, some (a.lap, a.index)⟩ :: r) ∧
  (∀ (s : State) (a : EntryAct), s.cbl.acts.find? (fun a => a.cons == 0x23) = some a → s.heldOff (a.arg 0 % 16) = true →
    ∃ t, exec .domain s = .next t ∧ t.pwr.queue = s.pwr.queue ∧ t.cbl.acts = s.cbl.acts.erase a ∧ s.memKept t ∧
      s.regsKept t [] [A.SEQ_MONFREE]) ∧
  (∀ (s : State) (a : EntryAct), s.cbl.acts.find? (fun a => a.cons == 0x22) = some a → s.on 8 = true →
    ∃ t, exec .grant s = .next t ∧ t.rd A.RING_GPCUR 5 0 = a.arg 0 % 64 ∧ t.cbl.acts = s.cbl.acts.erase a ∧
      t = { s with regs := t.regs, cbl := t.cbl } ∧ s.regsKept t [] [A.RING_GPCUR]) ∧
  (∀ (s : State) (a : EntryAct), s.cbl.acts.find? (fun a => a.cons == 0x22) = some a → s.on 8 = false →
    ∃ t, exec .grant s = .next t ∧
      t.rd (A.CBL_CONS 0x22) 15 8 = min 0xFF (s.rd (A.CBL_CONS 0x22) 15 8 + 1) ∧ t.flag (A.CBL_CONS 0x22) 2 = true ∧
      s.regsKept t [] [A.CBL_CONS 0x22]) ∧
  (∀ (s : State) (a : EntryAct), s.cbl.acts.find? (fun a => a.cons == 0x24) = some a → s.flag A.CLK_STAT 15 = true →
    s.clk.pllWait = false →
    ∃ t, exec .gear s = .next t ∧ t.rd A.PWR_GEAR 6 4 = a.arg 0 % 8 ∧ t.cbl.acts = s.cbl.acts.erase a ∧ s.memKept t ∧
      s.regsKept t [Win.CBL] [A.PWR_GEAR, A.SEQ_BRCNT 1, A.SEQ_BRLOGSTAT, A.SEQ_MONFREE]) ∧
  (∀ (s : State) (a : EntryAct), s.cbl.acts.find? (fun a => a.cons == 0x24) = some a → s.flag A.CLK_STAT 15 = false →
    ∃ t, exec .gear s = .next t ∧ t.flag A.PWR_GEAR 14 = true ∧ t.rd A.PWR_GEAR 6 0 = s.rd A.PWR_GEAR 6 0 ∧
      t.cbl.acts = s.cbl.acts.erase a) ∧
  (∀ (s : State) (a : EntryAct), s.cbl.acts.find? (fun a => a.cons == 0x25) = some a →
    ∃ t, exec .wakecmp s = .next t ∧
      (let n := bits (a.arg 0) 2 0
       t.rdw (A.CAD_WC n) 3 = unsigned 48 (s.sleepAt a.instant + (((a.arg 1 + 65536 * a.arg 2) * 64 / 62500 : Nat) : Int)) ∧
       t.flag A.CAD_WCSTAT n = true ∧
       s.regsKept t [] [A.CAD_WC n, A.CAD_WC n + 1, A.CAD_WC n + 2, A.CAD_WCSTAT]) ∧
      t = { s with regs := t.regs, cbl := { s.cbl with acts := s.cbl.acts.erase a } }) ∧
  (∀ (s : State) (a : EntryAct), s.cbl.acts.find? (fun a => a.cons == 0x26) = some a → s.seq.confirmedOnce = false →
    ∃ t, exec .startConfirmed s = .next t ∧ t.rd A.SYS_BOOTCNT 3 0 = 0 ∧ t.upd.boots = 0 ∧ t.seq.confirmedOnce = true ∧
      (s.on 10 = true → t.flag A.SEQ_STAT 4 = true) ∧ (∃ r, t.dict.jnl = s.dict.jnl ++ [r] ∧ r.type = 0x12) ∧ s.memKept t) ∧
  (∀ (s : State) (a : EntryAct), s.cbl.acts.find? (fun a => a.cons == 0x26) = some a → s.seq.confirmedOnce = true →
    exec .startConfirmed s = .next { s with cbl := { s.cbl with acts := s.cbl.acts.erase a } }) ∧
  ∀ (s : State) (p : Instr × Nat), p ∈ [(Instr.grant, 0x22), (.gear, 0x24), (.wakecmp, 0x25), (.startConfirmed, 0x26)] →
    s.cbl.acts.find? (fun a => a.cons == p.2) = none → exec p.1 s = .next s

/-! ## Power -/

/-- The power controller takes up the head of its queue. With no transition in progress and a domain other than PD8 at
the head of the queue: one whose target is reached leaves the queue and nothing starts; one that comes up starts its
wake steps and reads as in transition, with XO32M started; one that leaves the on state starts PREPARE; one from
retention to off starts COMMIT. PWR_XSTAT shows the domain, the phase and the number still queued. With a transition
in progress nothing happens. [R50, R274, R276, R278] -/
def Obligations.TransitionStart : Prop :=
  (∀ (s : State) (x : Transition) (rest : List Transition), s.pwr.current = none → s.pwr.queue = x :: rest → x.dom ≠ 8 →
    s.domState x.dom = x.target → x.entry = none →
    ∃ t, exec .transitionStart s = .next t ∧ t.pwr.queue = rest ∧ t.pwr.current = none ∧
      t.rd A.PWR_XSTAT 4 0 = min 31 rest.length ∧ s.memKept t ∧ s.regsKept t [] [A.PWR_XSTAT]) ∧
  (∀ (s : State) (x : Transition) (rest : List Transition), s.pwr.current = none → s.pwr.queue = x :: rest → x.dom < 16 →
    x.dom ≠ 8 → s.domState x.dom < x.target →
    ∃ t, exec .transitionStart s = .next t ∧ t.pwr.queue = rest ∧ t.pwr.current = some (x, .wake 0) ∧ t.domState x.dom = 3 ∧
      t.clk.mRun = true ∧ t.flag A.PWR_XSTAT 15 = true ∧ t.rd A.PWR_XSTAT 14 12 = 2 ∧ t.rd A.PWR_XSTAT 11 8 = x.dom ∧
      t.rd A.PWR_XSTAT 4 0 = min 31 rest.length ∧ s.memKept t ∧ s.regsKept t [] [A.PWR_XSTAT, A.PWR_DSTAT (x.dom / 8)]) ∧
  (∀ (s : State) (x : Transition) (rest : List Transition), s.pwr.current = none → s.pwr.queue = x :: rest → x.dom < 16 →
    x.dom ≠ 8 → s.domState x.dom = 2 → x.target < 2 →
    ∃ t, exec .transitionStart s = .next t ∧ t.pwr.queue = rest ∧ t.pwr.current = some (x, .prepare) ∧ t.domState x.dom = 3 ∧
      t.rd A.PWR_XSTAT 14 12 = 3 ∧ t.rd A.PWR_XSTAT 11 8 = x.dom ∧ t.clk = s.clk ∧ s.memKept t ∧
      s.regsKept t [] [A.PWR_XSTAT, A.PWR_DSTAT (x.dom / 8)]) ∧
  (∀ (s : State) (x : Transition) (rest : List Transition), s.pwr.current = none → s.pwr.queue = x :: rest → x.dom < 16 →
    x.dom ≠ 8 → s.domState x.dom = 1 → x.target = 0 →
    ∃ t, exec .transitionStart s = .next t ∧ t.pwr.queue = rest ∧ t.pwr.current = some (x, .commit) ∧ t.domState x.dom = 3 ∧
      t.rd A.PWR_XSTAT 14 12 = 4 ∧ s.memKept t) ∧
  ∀ s : State, s.pwr.current ≠ none ∨ s.pwr.queue = [] → exec .transitionStart s = .next s

/-- A wake runs its four steps in order and ends with the domain on. In a wake of a domain other than PD8, PD9 and
PD14: each ready signal starts the next of the four steps, the clock step only once a source is qualified; after the
logic step of a transition to on, with the service taking no part, the domain reads on, no transition is in progress
and PWR_READY has fired; after that of a transition that goes on to retention, PREPARE starts. [R50, R274, R290] -/
def Obligations.WakeSteps : Prop :=
  (∀ (s : State) (x : Transition) (k : Nat), s.pwr.current = some (x, .wake k) → k < 3 → x.dom ∉ [8, 9, 14] →
    (k = 1 → s.flag A.CLK_STAT 15 = true ∨ s.flag A.CLK_STAT 14 = true) →
    ∃ t, exec .wakeStepReady s = .next t ∧ t.pwr.current = some (x, .wake (k + 1)) ∧
      t = { s with regs := t.regs, pwr := { s.pwr with current := t.pwr.current } } ∧ s.regsKept t [] [A.PWR_XSTAT]) ∧
  (∀ (s : State) (x : Transition), s.pwr.current = some (x, .wake 1) → s.flag A.CLK_STAT 15 = false →
    s.flag A.CLK_STAT 14 = false → exec .wakeStepReady s = .next s) ∧
  (∀ (s : State) (x : Transition), s.quiet → s.serves = false → s.pwr.current = some (x, .wake 3) → x.dom < 16 →
    x.dom ∉ [8, 9, 14] → s.pwr.thenRetain = false →
    ∃ t, exec .wakeStepReady s = .next t ∧ t.domState x.dom = 2 ∧ t.pwr.current = none ∧ t.flag A.PWR_XSTAT 15 = false ∧
      (s.on 10 = true → s.fired t 0x52 0)) ∧
  ∀ (s : State) (x : Transition), s.pwr.current = some (x, .wake 3) → s.pwr.thenRetain = true →
    ∃ t, exec .wakeStepReady s = .next t ∧ t.pwr.current = some (x, .prepare) ∧ t.rd A.PWR_XSTAT 14 12 = 3

/-- An entry is prepared, refused or completed. In PREPARE with no block refusing and none silent, the entry goes to
COMMIT, and network time stops where PD10 is entered; with a refusing block b, the lowest in window order, the domain
is on again, PWR_REFUSE shows b and the domain with reason REFUSE, PWR_REFCNT counts and the controller is idle. At
the end of COMMIT, with no wake latched and no access waiting for the domain, a domain other than PD8 reads its target
and the controller is idle; an engine that goes into retention keeps both memories and its control registers and loses
its other registers, and one that goes off loses both memories. [R61, R278, R279, R280, R281] -/
def Obligations.Entries : Prop :=
  (∀ (s : State) (x : Transition), s.pwr.current = some (x, .prepare) → s.refusers x.dom = [] →
    (x.dom = 9 → s.dict.writing = none) →
    ∃ t, exec (.prepareDone none) s = .next t ∧ t.pwr.current = some (x, .commit) ∧ t.rd A.PWR_XSTAT 14 12 = 4 ∧
      t.ntRun = (s.ntRun && x.dom ≠ 10) ∧ s.memKept t ∧ s.regsKept t [] [A.PWR_XSTAT]) ∧
  (∀ (s : State) (x : Transition) (b : Nat) (l : List Nat) (no : Option (BitVec 5)),
    s.pwr.current = some (x, .prepare) → s.refusers x.dom = b :: l → x.dom < 16 → x.dom ≠ 9 → b < 32 →
    ∃ t, exec (.prepareDone no) s = .next t ∧ t.pwr.current = none ∧ t.domState x.dom = 2 ∧
      (t.word A.PWR_REFUSE).toNat = b * 512 + x.dom ∧
      (t.word A.PWR_REFCNT).toNat = min 0xFFFF ((s.word A.PWR_REFCNT).toNat + 1) ∧ s.memKept t) ∧
  (∀ (s : State) (x : Transition), s.pwr.current = some (x, .commit) → x.dom < 16 → x.dom ≠ 8 → s.pwr.latched = none →
    (∀ w ∈ s.waits, w.dom ≠ some x.dom) → x.target < 2 →
    ∃ t, exec .entryComplete s = .next t ∧ t.domState x.dom = x.target ∧ t.pwr.current = none ∧
      t.flag A.PWR_XSTAT 15 = false ∧ t.sram = s.sram ∧ t.mram = s.mram) ∧
  ∀ (s : State) (x : Transition) (k : Fin 8), s.pwr.current = some (x, .commit) → x.dom = k.val → s.pwr.latched = none →
    (∀ w ∈ s.waits, w.dom ≠ some x.dom) →
    ∃ t, exec .entryComplete s = .next t ∧
      (x.target = 1 → t.eng[k].spad = s.eng[k].spad ∧ t.eng[k].imem = s.eng[k].imem ∧ t.eng[k].bank.c = s.eng[k].bank.c ∧
        t.eng[k].bank.g = Bank.init.g ∧ t.eng[k].bank.a = Bank.init.a ∧ t.eng[k].bank.acc = Bank.init.acc) ∧
      (x.target = 0 → t.eng[k].spad = [] ∧ t.eng[k].imem = [] ∧ t.rd (A.ENG_STAT k) 15 10 = 0)

/-- Wake pins, waiting accesses, write-backs, clock gates and the rebuild of LOST banks. A level source holds its
request exactly while its pin is active, and an active edge of an edge source queues a wake of every domain of its set
that is off or in retention and can come on; a write that waited for a domain other than PD8 and PD14 completes as if
made now, once the domain is on; octets that a block kept for shared SRAM are written once PD8 and their bank are on
and no radio operation is prepared; with nothing waiting for a domain that is not on, or is neither of the two,
nothing happens; a corrected word's error is gone after its write-back; an acknowledged quiesce request closes the
gate, and an unanswered one clears the request, marks it refused and fires PWR_EVT; E0's service clears every LOST
bank that is on with source zero and leaves its words zero. [R18, R60, R275, R276, R282, R285, R286, R287] -/
def Obligations.PowerEvents : Prop :=
  (∀ (n : Fin 4) (level w : Bool) (s : State), s.vio1 = true → s.flag (A.PWR_WSRC (9 + n)) 15 = true →
    s.flag (A.PWR_WSRC (9 + n)) 14 = false →
    ∃ t, exec (.wakePin n level w) s = .next t ∧ t.flag A.PWR_WPEND (9 + n) = (level != s.flag (A.PWR_WSRC (9 + n)) 13) ∧
      t.pwr.pins.getLsbD n = level ∧ s.memKept t) ∧
  (∀ (n : Fin 4) (level : Bool) (s : State) (d : Nat), s.vio1 = true → s.flag (A.PWR_WSRC (9 + n)) 15 = true →
    s.flag (A.PWR_WSRC (9 + n)) 14 = true → level = !s.flag (A.PWR_WSRC (9 + n)) 13 → s.pwr.pins.getLsbD n = !level →
    s.pwr.current = none → d ∈ s.wakeSet (9 + n) → s.domState d < 2 → s.heldOff d = false →
    ∃ t, exec (.wakePin n level false) s = .next t ∧ (∃ x ∈ t.pwr.queue, x.dom = d ∧ x.target = 2) ∧ s.memKept t ∧
      s.regsKept t [] [A.PWR_XSTAT]) ∧
  (∀ (d : Fin 16) (w : Access) (v : W16) (s : State), s.waits = [w] → w.dom = some d.val → w.kind = .write v →
    w.who = .debug → s.on d = true → regionOf w.addr = .register → (s.addrDom w.who w.addr).1 = d.val →
    s.vlt.dbglock = false → d.val ≠ 8 → d.val ≠ 14 →
    ∃ t, exec (.demandWakeComplete d) s = .next t ∧
      exec (.registerWrite .debug (BitVec.ofNat 24 w.addr) v) { s with waits := [] } = .next t) ∧
  (∀ (d : Fin 16) (s : State), (∀ w ∈ s.waits, w.dom ≠ some d.val) → s.on d = false ∨ d.val ≠ 8 ∧ d.val ≠ 14 →
    exec (.demandWakeComplete d) s = .next s) ∧
  (∀ (buf i : Nat) (os : List Octet) (s : State), s.waits = [] → s.on 8 = true → s.latePuts = [(buf, i, os)] → s.lateDone = [] →
    s.ramReady (buf + i / 2) ((i % 2 + os.length + 1) / 2) = true →
    (∀ c : Chain, (s.chain c).next = [] ∧ (s.chain c).waiting = none ∧ (s.chain c).op = none) →
    ∃ t, exec (.demandWakeComplete 8) s = .next t ∧ t.latePuts = [] ∧ t.sram = (s.putOctets buf i os).sram ∧ t.mram = s.mram) ∧
  (∀ (a : Addr) (s : State), ∃ t, exec (.sramEccWriteBack a) s = .next t ∧
    (∀ e, e ∈ t.ecc ↔ e ∈ s.ecc ∧ ¬(e.mem = 0 ∧ e.addr = a.toNat ∧ e.counted = true ∧ e.double = false)) ∧
    t = { s with ecc := t.ecc }) ∧
  (∀ (n : Fin 15) (s : State), ∃ t, exec (.gateClose n) s = .next t ∧
    t.flag A.CLK_GATESTAT n = (s.flag A.CLK_GATE n || s.flag A.CLK_GATESTAT n) ∧ t = { s with regs := t.regs } ∧
    s.regsKept t [] [A.CLK_GATESTAT]) ∧
  (∀ (n : Fin 15) (s : State), s.flag A.CLK_GATE n = true → s.flag A.CLK_GATESTAT n = false → s.on 10 = true →
    ∃ t, exec (.gateRefused n) s = .next t ∧ t.flag A.CLK_GATE n = false ∧ t.flag A.CLK_GATEREF n = true ∧
      (t.word (A.SEQ_BRCNT 7)).toNat = min 0xFFFF ((s.word (A.SEQ_BRCNT 7)).toNat + 1) ∧ s.fired t 0x53 0 ∧ s.memKept t ∧
      s.regsKept t [Win.CBL] [A.CLK_GATE, A.CLK_GATEREF, A.SEQ_BRCNT 7, A.SEQ_BRLOGSTAT]) ∧
  ∀ (s : State) (b : Nat), s.serves = true → b < 32 → s.on 8 = true → s.bankState b = 2 → s.bankLost b = true →
    s.rd (A.PWR_REBUILD b) 15 14 = 0 →
    ∃ t, exec .bankRebuild s = .next t ∧ t.bankLost b = false ∧
      ∀ a, inSram a = true → bankOf a = b → t.sramGet a = 0

/-- Gear steps, the loss of PLL lock and its relock; clock sources qualify, fail and start again. The end of a step up
shows the next gear, and BUSY stays only while the target is higher still; the end of a step down leaves BUSY only
while the target is lower, with the next lower gear shown at once; the PLL shows no lock once G0 is reached. A loss of
lock falls to G0 with target G0, clears LOCK, records reason 9 and fires CLK_EVT; a relock sets LOCK and lets GEAR
entries act again. The second good count in a row qualifies XO32M and XO32K, one good count the 16 MHz RC: the
qualified bit is set, CLK_EVT fires and the count shows; a first good count qualifies neither crystal. A failure of
XO32M in use clears its bit, holds the gear at G0, stops network time, counts and records reason 1; one of XO32K
records 4; one of the RC beside a good XO32M records 7; one of the 4 MHz RC, or of the 32 kHz RC without XO32K, resets
the part with cause 7. A restart starts an unqualified crystal, and XO32M starts ahead of a wake compare that is near.
[R289, R290, R292, R293, R294, R295, R296, R297, R298] -/
def Obligations.ClockSources : Prop :=
  (∀ s : State, s.flag A.PWR_GEAR 15 = true → s.pwr.stepUp = true → s.rd A.PWR_GEAR 2 0 < s.rd A.PWR_GEAR 6 4 →
    ∃ t, exec .gearStepEnd s = .next t ∧ t.rd A.PWR_GEAR 2 0 = s.rd A.PWR_GEAR 2 0 + 1 ∧
      t.flag A.PWR_GEAR 15 = decide (s.rd A.PWR_GEAR 2 0 + 1 < s.rd A.PWR_GEAR 6 4) ∧ t.flag A.CLK_STAT 10 = true ∧
      s.memKept t ∧ s.regsKept t [Win.CBL] [A.PWR_GEAR, A.CLK_STAT, A.SEQ_BRCNT 1, A.SEQ_BRLOGSTAT, A.SEQ_MONFREE]) ∧
  (∀ s : State, s.flag A.PWR_GEAR 15 = true → s.pwr.stepUp = false → s.rd A.PWR_GEAR 6 4 ≤ s.rd A.PWR_GEAR 2 0 →
    ∃ t, exec .gearStepEnd s = .next t ∧
      t.rd A.PWR_GEAR 2 0 = (if s.rd A.PWR_GEAR 6 4 < s.rd A.PWR_GEAR 2 0 then s.rd A.PWR_GEAR 2 0 - 1 else s.rd A.PWR_GEAR 2 0) ∧
      t.flag A.PWR_GEAR 15 = decide (s.rd A.PWR_GEAR 6 4 < s.rd A.PWR_GEAR 2 0) ∧
      (s.rd A.PWR_GEAR 2 0 = 0 → t.flag A.CLK_STAT 10 = false)) ∧
  (∀ s : State, s.flag A.CLK_STAT 10 = true →
    ∃ t, exec .pllLockLost s = .next t ∧ t.flag A.CLK_STAT 10 = false ∧ t.rd A.PWR_GEAR 6 0 = 0 ∧ t.flag A.PWR_GEAR 15 = false ∧
      t.clk.pllWait = true ∧ t.rd A.CLK_STAT 3 0 = 9 ∧ t.flag A.CLK_FAILHIST 9 = true ∧ (s.on 10 = true → s.fired t 0x54 0) ∧
      s.memKept t ∧ s.regsKept t [Win.CBL] [A.PWR_GEAR, A.CLK_STAT, A.CLK_FAILHIST]) ∧
  (∀ s : State, s.clk.pllWait = true →
    ∃ t, exec .pllRelock s = .next t ∧ t.flag A.CLK_STAT 10 = true ∧ t.clk.pllWait = false ∧
      t = { s with regs := t.regs, clk := { s.clk with pllWait := false } } ∧ s.regsKept t [] [A.CLK_STAT]) ∧
  (∀ (s : State) (c : Instr), c ∈ [Instr.gearStepEnd, .pllLockLost, .pllRelock] → s.flag A.PWR_GEAR 15 = false →
    s.flag A.CLK_STAT 10 = false → s.clk.pllWait = false → exec c s = .next s) ∧
  (∀ (s : State) (v : W16), s.quiet → s.clk.mRun = true → s.flag A.CLK_STAT 15 = false → s.clk.mGood = 1 → 2017 ≤ v.toNat →
    v.toNat ≤ 2079 →
    ∃ t, exec (.frequencyCount .xo32m v) s = .next t ∧ t.flag A.CLK_STAT 15 = true ∧ t.flag A.CLK_STAT 14 = false ∧
      t.word A.CLK_MCOUNT = v ∧ t.flag A.PWR_GEAR 14 = false ∧ t.flag (A.RF_STAT .A) 8 = false ∧ t.flag (A.RF_STAT .B) 8 = false ∧
      (s.on 10 = true → s.fired t 0x54 0) ∧ s.memKept t) ∧
  (∀ (s : State) (v : W16), s.quiet → s.clk.mRun = true → s.flag A.CLK_STAT 15 = false → s.clk.mGood = 0 →
    ∃ t, exec (.frequencyCount .xo32m v) s = .next t ∧ t.flag A.CLK_STAT 15 = false ∧ t.word A.CLK_MCOUNT = v ∧
      t.clk.mGood = (if 2017 ≤ v.toNat ∧ v.toNat ≤ 2079 then 1 else 0) ∧ s.regsKept t [] [A.CLK_MCOUNT]) ∧
  (∀ (s : State) (v : W16), s.quiet → s.clk.kRun = true → s.flag A.CLK_STAT 13 = false → s.clk.kGood = 1 → 61 ≤ v.toNat →
    v.toNat ≤ 67 →
    ∃ t, exec (.frequencyCount .xo32k v) s = .next t ∧ t.flag A.CLK_STAT 13 = true ∧ t.flag A.CLK_STAT 12 = false ∧
      t.word A.CLK_KCOUNT = v ∧ (s.on 10 = true → s.fired t 0x54 0)) ∧
  (∀ (s : State) (v : W16), s.quiet → s.clk.rcRun = true → 3516 ≤ v.toNat → v.toNat ≤ 4297 →
    ∃ t, exec (.frequencyCount .rc16m v) s = .next t ∧ t.flag A.CLK_STAT 11 = true ∧ t.word A.CLK_RCOUNT = v ∧
      (s.flag A.CLK_STAT 15 = false → t.flag A.CLK_STAT 14 = true)) ∧
  (∀ s : State, s.clk.mRun = true → s.flag A.CLK_STAT 15 = true →
    ∃ t, exec (.clockSourceFailure .xo32m) s = .next t ∧ t.flag A.CLK_STAT 15 = false ∧ t.rd A.PWR_GEAR 6 0 = 0 ∧
      t.flag A.PWR_GEAR 14 = true ∧ t.ntRun = false ∧ t.rd A.CLK_STAT 3 0 = 1 ∧ t.flag A.CLK_FAILHIST 1 = true ∧
      t.clk.mRun = false ∧ t.clk.rcRun = true) ∧
  (∀ s : State, s.clk.kRun = true → s.flag A.CLK_STAT 13 = true →
    ∃ t, exec (.clockSourceFailure .xo32k) s = .next t ∧ t.flag A.CLK_STAT 13 = false ∧ t.flag A.CLK_STAT 12 = true ∧
      t.rd A.CLK_STAT 3 0 = 4 ∧ t.flag A.CLK_FAILHIST 4 = true ∧ t.ntRun = s.ntRun ∧ t.sleep = s.sleep ∧
      (t.word A.CLK_FAILCNT).toNat = min 0xFFFF ((s.word A.CLK_FAILCNT).toNat + 1) ∧
      s.regsKept t [Win.CBL] [A.CLK_STAT, A.CLK_FAILCNT, A.CLK_FAILHIST]) ∧
  (∀ s : State, s.clk.rcRun = true → s.flag A.CLK_STAT 15 = true →
    ∃ t, exec (.clockSourceFailure .rc16m) s = .next t ∧ t.flag A.CLK_STAT 11 = false ∧ t.rd A.CLK_STAT 3 0 = 7 ∧
      t.flag A.CLK_STAT 15 = true ∧ s.regsKept t [Win.CBL] [A.CLK_STAT, A.CLK_FAILCNT, A.CLK_FAILHIST]) ∧
  (∀ s : State, ∃ t, exec (.clockSourceFailure .rc4m) s = .next t ∧ t.rd A.SYS_RESETCAUSE 3 0 = 7) ∧
  (∀ s : State, s.flag A.CLK_STAT 13 = false →
    ∃ t, exec (.clockSourceFailure .rc32k) s = .next t ∧ t.rd A.SYS_RESETCAUSE 3 0 = 7) ∧
  (∀ s : State, s.flag A.CLK_STAT 15 = false →
    ∃ t, exec (.primaryRestart .xo32m) s = .next t ∧ t.clk.mRun = true ∧ t.clk.mGood = 0 ∧ t = { s with clk := t.clk }) ∧
  (∀ s : State, s.flag A.CLK_STAT 13 = false →
    ∃ t, exec (.primaryRestart .xo32k) s = .next t ∧ t.clk.kRun = true ∧ t.clk.kGood = 0 ∧ t = { s with clk := t.clk }) ∧
  (∀ (s : State) (n : Nat), n < 8 → s.flag A.CAD_WCSTAT n = true → s.rdw (A.CAD_WC n) 3 ≤ s.sleep.toNat + s.rd A.CLK_XLEAD 9 0 →
    ∃ t, exec .xoPrestart s = .next t ∧ t.clk.mRun = true ∧ t = { s with clk := t.clk }) ∧
  ∀ s : State, (∀ n, n < 8 → s.flag A.CAD_WCSTAT n = false) → exec .xoPrestart s = .next s

/-! ## Engines, starts and updates -/

/-- A dispatch starts its task on the engine, or on both engines of a pair. With the entry's action at the consumer,
none of its choices passed over yet and degraded dispatch not in force: an unguarded task whose engine is not retired,
on and loaded starts there unbuffered; a guarded one whose two engines are not retired, on, loaded and have a free
commit buffer starts on both, each buffered with the other as its mate; every started engine begins at the entry
syllable with TASK in c8, ENTRY in c11 and all g, a and acc registers 0, and ENG_STAT shows the task. The action
leaves its cable. Where neither the engine nor its spare serves because both are retired, a class 11 record is
written. While no transition is in progress, an engine that is in retention or off and has no demand wake yet gets
one, and the action waits. [R56, R64, R65, R75, R82, R92] -/
def Obligations.Dispatch : Prop :=
  (∀ (k : Fin 8) (a : EntryAct) (s : State), s.cbl.acts.find? (fun a => a.cons == k.val) = some a → a.passed = [] →
    bit (a.arg 1) 3 = false → s.degraded = false → s.retired (a.arg 1 % 8) = false → s.on (a.arg 1 % 8) = true →
    s.loaded (engIx (a.arg 1 % 8)) = true →
    ∃ t, exec (.dispatch k) s = .next t ∧ t.cbl.acts = s.cbl.acts.erase a ∧
      (let e := engIx (a.arg 1 % 8)
       t.eng[e].task.map (fun u => (u.task.toNat, u.lap, u.index, u.buffered, u.mate, u.third)) =
         some (a.arg 0 % 256, a.lap, a.index, false, none, false) ∧
       t.eng[e].bank.pc.toNat = a.arg 2 % 2 ^ 14 ∧ (t.eng[e].bank.c[8]).toNat = a.arg 0 % 256 ∧
       (t.eng[e].bank.c[11]).toNat = a.arg 2 % 2 ^ 14 ∧ t.eng[e].bank.g = Vector.replicate 32 0 ∧
       t.eng[e].bank.a = Vector.replicate 8 0 ∧ t.eng[e].bank.acc = Vector.replicate 4 0 ∧
       t.rd (A.ENG_STAT e.val) 7 0 = a.arg 0 % 256)) ∧
  (∀ (k : Fin 8) (a : EntryAct) (s : State), s.cbl.acts.find? (fun a => a.cons == k.val) = some a → a.passed = [] →
    bit (a.arg 1) 3 = true → s.degraded = false →
    (let e := engIx (a.arg 1 % 8)
     let p := engIx (a.arg 1 / 16 % 8)
     e ≠ p → s.retired e.val = false → s.retired p.val = false → s.on e.val = true → s.on p.val = true →
     s.loaded e = true → s.loaded p = true →
     (s.freeBuf e).isSome = true → (s.freeBuf p).isSome = true →
     ∃ t, exec (.dispatch k) s = .next t ∧ t.cbl.acts = s.cbl.acts.erase a ∧
       t.eng[e].task.map (fun u => (u.task.toNat, u.buffered, u.mate, u.primary)) = some (a.arg 0 % 256, true, some p, true) ∧
       t.eng[p].task.map (fun u => (u.task.toNat, u.buffered, u.mate, u.primary)) = some (a.arg 0 % 256, true, some e, false) ∧
       t.eng[e].bank.pc.toNat = a.arg 2 % 2 ^ 14 ∧ t.eng[p].bank.pc.toNat = a.arg 2 % 2 ^ 14)) ∧
  (∀ (k : Fin 8) (a : EntryAct) (s : State), s.cbl.acts.find? (fun a => a.cons == k.val) = some a → a.passed = [] →
    bit (a.arg 1) 3 = false → s.degraded = false → s.retired (a.arg 1 % 8) = true → s.retired (a.arg 1 / 256 % 8) = true →
    s.on 10 = true →
    ∃ t, exec (.dispatch k) s = .next t ∧ t.cbl.acts = s.cbl.acts.erase a ∧ t.eng = s.eng ∧
      (t.word (A.SEQ_BRCNT 11)).toNat = min 0xFFFF ((s.word (A.SEQ_BRCNT 11)).toNat + 1)) ∧
  ∀ (k : Fin 8) (a : EntryAct) (s : State), s.cbl.acts.find? (fun a => a.cons == k.val) = some a → a.passed = [] →
    bit (a.arg 1) 3 = false → s.degraded = false → s.retired (a.arg 1 % 8) = false → s.domState (a.arg 1 % 8) < 2 →
    s.pwr.current = none → s.wakeAsked (a.arg 1 % 8) 0 = false →
    ∃ t, exec (.dispatch k) s = .next t ∧ t.cbl.acts = s.cbl.acts ∧ t.eng = s.eng ∧
      t.pwr.queue.any (fun x => x.demand && x.dom == a.arg 1 % 8 && x.target == 2) = true ∧
      (t.word A.PWR_DWCNT).toNat = min 0xFFFF ((s.word A.PWR_DWCNT).toNat + 1)

/-- Third runs, engine flags and the end of a self-test. With a window active and serving no third run, a mismatch
recorded for it, its engine on, idle, not retired and with a free buffer, fewer than two engines retired, the gear
reached, and the sequencer's cable to the engine enabled and passing, the third run starts buffered on the window's
engine, the mismatch leaves the queue and the window serves it. An event at ENGk_FLAG sets bit k of ENG_FLAGIN. With
the service taking no part, the end of a self-test shows its result in TESTPASS, clears LOADED and both memories, and
ends the test. [R54, R88, R263] -/
def Obligations.EngineEvents : Prop :=
  (∀ (r : Octet) (w : Window) (m : Mismatch) (s : State),
    s.seq.windows.find? (fun w => w.rwin == r.toNat && w.active && w.run.isNone) = some w →
    s.seq.mismatches.find? (fun m => m.rwin == w.rwin) = some m → s.on 10 = true → s.on w.engine.val = true →
    s.flag A.PWR_GEAR 15 = false → w.gear ≤ s.rd A.PWR_GEAR 2 0 → s.retired w.engine.val = false → s.retOrder.length < 2 →
    s.cableOn w.engine.val = true → s.cablePasses w.engine.val = true → s.eng[w.engine].task = none → s.selfTest = none →
    (s.freeBuf w.engine).isSome = true →
    ∃ t, exec (.thirdRunStart r) s = .next t ∧
      t.eng[w.engine].task.map (fun u => (u.task.toNat, u.buffered, u.third, u.mate)) = some (m.task % 256, true, true, none) ∧
      t.eng[w.engine].bank.pc.toNat = m.entry % 2 ^ 14 ∧ t.seq.mismatches = s.seq.mismatches.erase m ∧
      t.seq.windows = s.seq.windows.map (fun x => if x.rwin == w.rwin then { w with run := some m } else x) ∧ s.memKept t ∧
      s.regsKept t [] [A.ENG_STAT w.engine.val]) ∧
  (∀ (k : Fin 8) (s : State), s.on 10 = true →
    ∃ t, exec (.engFlag k) s = .next t ∧ t.flag A.ENG_FLAGIN k.val = true ∧ s.memKept t ∧
      s.regsKept t [] [A.ENG_FLAGIN, A.CBL_CONS (8 + k.val)] ∧ ∀ j, j < 8 → j ≠ k.val → t.flag A.ENG_FLAGIN j = s.flag A.ENG_FLAGIN j) ∧
  (∀ (pass : Bool) (k : Fin 8) (s : State), s.quiet → s.selfTest = some k →
    ∃ t, exec (.selfTestDone pass) s = .next t ∧ t.selfTest = none ∧ t.flag (A.ENG_STAT k.val) 9 = pass ∧
      t.flag (A.ENG_STAT k.val) 10 = false ∧ t.flag A.ENG_TEST 15 = false ∧ t.eng[k].imem = [] ∧ t.eng[k].spad = [] ∧
      t.sram = s.sram ∧ t.mram = s.mram ∧ s.regsKept t [] [A.ENG_STAT k.val, A.ENG_TEST]) ∧
  ∀ (pass : Bool) (s : State), s.selfTest = none → exec (.selfTestDone pass) s = .next s

/-- The start: boot attempts, kickstand, and the image's verdict. When PD0 is ready after a reset that is no
reintegration of E0, E0's service bank starts at 2800h and the boot attempt is counted, up to 15; below the threshold
KICK is clear and every one of PD10 to PD13 that is off is queued, and at or above it KICK is set. XO32M not qualified
in time enters kickstand with reason 6. At the end of the image check of a start that can go on and whose PUF is
accepted, and where no interrupted copy fails, a refused image enters kickstand with its reason, and an accepted one
starts the service image at 0 and goes on to the commit. [R88, R406, R407, R409, R410, R411] -/
def Obligations.Starts : Prop :=
  (∀ s : State, s.upd.booting = .power → s.on 0 = true → (s.cause = 9 → s.upd.reint0 = false) →
    ∃ t, exec .bootStart s = .next t ∧ t.svcRun = true ∧ t.svc.pc = 0x2800 ∧ t.upd.boots = min 15 (s.upd.boots + 1) ∧
      t.rd A.SYS_BOOTCNT 3 0 = min 15 (s.upd.boots + 1) ∧ t.mram = s.mram ∧
      (s.upd.boots < ofOctets ((s.setting 0xD000 1).getD [3]) → t.flag A.SYS_BOOTCNT 7 = false ∧ t.upd.booting = .image ∧
        ∀ d ∈ [10, 11, 12, 13], s.domState d < 2 → t.pwr.queue.any (fun x => x.dom == d && x.target == 2) = true) ∧
      (ofOctets ((s.setting 0xD000 1).getD [3]) ≤ s.upd.boots → t.flag A.SYS_BOOTCNT 7 = true)) ∧
  (∀ s : State, s.upd.booting = .image → s.flag A.CLK_STAT 15 = false →
    ∃ t, exec .startXoTimeout s = .next t ∧ (t.word A.SYS_STARTREASON).toNat = 6 ∧ t.flag A.SYS_BOOTCNT 7 = true) ∧
  (∀ s u : State, s.startable = true → s.puf ≠ 2 → s.resumeCopy = some u →
    ∃ t, exec .startImageCheckDone s = .next t ∧
      (∀ r, u.imageFault = some r → (t.word A.SYS_STARTREASON).toNat = r % 65536 ∧ t.flag A.SYS_BOOTCNT 7 = true) ∧
      (u.imageFault = none → t.upd.booting = .commit ∧ t.svc.pc = 0)) ∧
  (∀ s : State, s.startable = true → s.puf = 2 →
    ∃ t, exec .startImageCheckDone s = .next t ∧ (t.word A.SYS_STARTREASON).toNat = 1 ∧ t.flag A.SYS_BOOTCNT 7 = true) ∧
  ∀ (s : State) (c : Instr), c ∈ [Instr.bootStart, .startXoTimeout, .startImageCheckDone] → s.upd.booting = .done →
    exec c s = .next s

/-- An activation starts, copies section by section and releases the old sheet. At TA, or at once in kickstand, an
armed activation whose staged image still verifies goes on to copying at section 0, and one that does not goes back to
staged with reason 0303h. Each of the 17 sections copied advances the count; the header after the last is COPY_DONE
outside kickstand, and in kickstand a SOFT reset with cause 8 and the boot attempts cleared. In the slot before the
switch slot, or later, the loader releases the running sheet and notes the slot that begins next. [R413, R420, R422,
R423] -/
def Obligations.Activation : Prop :=
  (∀ s : State, s.upd.stState = 3 → s.serves = true → s.on 14 = true → (s.inKick = true ∨ (s.on 10 = true ∧ s.upd.ta ≤ s.now)) →
    ∃ t, exec .activationStart s = .next t ∧ t.upd.stState = (if s.stagedStatus = St.OK then 4 else 2) ∧
      (s.stagedStatus = St.OK → t.upd.section_ = 0) ∧ (s.stagedStatus ≠ St.OK → t.upd.reason = 0x0303)) ∧
  (∀ s : State, s.upd.stState = 4 → s.serves = true → s.upd.section_ < 17 →
    ∃ t, exec .sectionDone s = .next t ∧ t.upd.section_ = s.upd.section_ + 1 ∧ t.upd.stState = 4 ∧ t.sram = s.sram) ∧
  (∀ s : State, s.upd.stState = 4 → s.serves = true → 17 ≤ s.upd.section_ → s.inKick = false →
    ∃ t, exec .sectionDone s = .next t ∧ t.upd.stState = 5 ∧ t.upd.copied = true ∧ t.sram = s.sram) ∧
  (∀ s : State, s.upd.stState = 4 → s.serves = true → 17 ≤ s.upd.section_ → s.inKick = true →
    ∃ t, exec .sectionDone s = .next t ∧ t.rd A.SYS_RESETCAUSE 3 0 = 8 ∧ t.upd.boots = 0 ∧ t.rd A.SYS_BOOTCNT 3 0 = 0) ∧
  (∀ s : State, s.upd.stState = 5 → s.upd.copied = true → s.upd.switchAt = none → s.upd.switching = false → s.serves = true →
    s.on 10 = true → s.rd A.SEQ_STAT 11 10 = 2 → s.slotAfter s.upd.ts ≤ s.asnAt s.now + 1 →
    ∃ t, exec .switchRelease s = .next t ∧ t.rd A.SEQ_STAT 11 10 = 3 ∧ t.upd.switchAt = some (s.asnAt s.now + 1) ∧
      t = { s with regs := t.regs, upd := t.upd } ∧ s.regsKept t [] [A.SEQ_STAT]) ∧
  ∀ (s : State) (c : Instr), c ∈ [Instr.activationStart, .sectionDone, .switchRelease] → s.upd.stState < 3 →
    exec c s = .next s

/-! ## Cells and the end of a judgement -/

/-- A receive, scan or control receive cell always settles and listens at R193's instants. With PD11 on and the RADIO
action of the cell's OP at the chain, the action leaves its cable and one operation joins the chain's list in order of
its settle start: it listens from A + 4,300 us - g/2 to that instant + g (receive and control receive) or from A + 300
us to 200 us before the end of its slot (scan), settles 80 us (chain A) or 56 us (chain B) earlier, on hop entry (ASN
+ CHOFF) mod length, the ASN that of the slot that holds A + 4,300 us, and CHOFF alone for a scan; nothing else
changes. With PD11 not on the action is ignored, DOWN set and MISSED counted, and the chain keeps its operations.
[R47, R119, R192, R193, R194] -/
def Obligations.RadioListen : Prop :=
  (∀ (c : Chain) (x : EntryAct) (s : State), s.on 11 = true →
    s.cbl.acts.find? (fun a => a.cons == 0x20 + c.ix && bits (a.arg 0) 15 13 == 2) = some x →
    ∃ t, exec (.radioReceive c) s = .next t ∧
      (let o := s.cellOp c x
       t = { s with cbl := { s.cbl with acts := s.cbl.acts.erase x }, rf := t.rf } ∧
       t.chain c = { s.chain c with next := insertOp o (s.chain c).next } ∧ t.chain c.other = s.chain c.other ∧
       o.kind = .receive ∧ o.a = x.instant ∧ o.nbr = bits (x.arg 2) 9 0 ∧
       o.instant = x.instant + 4300 * 32 - s.window o.nbr / 2 ∧ o.stop = o.instant + s.window o.nbr ∧
       o.settle = o.instant - leadOf c ∧ o.lanes = BitVec.ofNat 10 (x.arg 1) ∧
       o.hop = (s.asnAt (x.instant + 4300 * 32) + bits (x.arg 0) 7 0) % s.hopLen c + 128 * c.ix)) ∧
  (∀ (c : Chain) (x : EntryAct) (s : State), s.on 11 = true →
    s.cbl.acts.find? (fun a => a.cons == 0x20 + c.ix && bits (a.arg 0) 15 13 == 3) = some x →
    ∃ t, exec (.radioScan c) s = .next t ∧
      (let o := s.cellOp c x
       t = { s with cbl := { s.cbl with acts := s.cbl.acts.erase x }, rf := t.rf } ∧
       t.chain c = { s.chain c with next := insertOp o (s.chain c).next } ∧ t.chain c.other = s.chain c.other ∧
       o.kind = .scan ∧ o.a = x.instant ∧ o.instant = x.instant + 300 * 32 ∧ o.settle = o.instant - leadOf c ∧
       o.stop = s.slotStart (s.asnAt o.instant + 1) - 200 * 32 ∧
       o.hop = bits (x.arg 0) 7 0 % s.hopLen c + 128 * c.ix)) ∧
  (∀ (c : Chain) (x : EntryAct) (s : State), s.on 11 = true →
    s.cbl.acts.find? (fun a => a.cons == 0x20 + c.ix && bits (a.arg 0) 15 13 == 5) = some x →
    ∃ t, exec (.radioControlReceive c) s = .next t ∧
      (let o := s.cellOp c x
       t = { s with cbl := { s.cbl with acts := s.cbl.acts.erase x }, rf := t.rf } ∧
       t.chain c = { s.chain c with next := insertOp o (s.chain c).next } ∧ t.chain c.other = s.chain c.other ∧
       o.kind = .rxControl ∧ o.instant = x.instant + 4300 * 32 - s.window o.nbr / 2 ∧
       o.stop = o.instant + s.window o.nbr)) ∧
  ∀ (c : Chain) (x : EntryAct) (s : State) (r : Instr × Nat),
    r ∈ [(Instr.radioTransmitDedicated c, 0), (Instr.radioTransmitShared c, 1), (Instr.radioReceive c, 2),
      (Instr.radioScan c, 3), (Instr.radioControlTransmit c, 4), (Instr.radioControlReceive c, 5)] →
    s.on 11 = false → s.cbl.acts.find? (fun a => a.cons == 0x20 + c.ix && bits (a.arg 0) 15 13 == r.2) = some x →
    ∃ t, exec r.1 s = .next t ∧ t.cbl.acts = s.cbl.acts.erase x ∧ t.flag (A.CBL_CONS (0x20 + c.ix)) 2 = true ∧
      t.rf = s.rf ∧ s.memKept t ∧ s.regsKept t [Win.CBL] []

/-- A transmit cell takes the descriptor that R197 selects, or is idle. With PD11 on and the cell's action present:
with no eligible descriptor, only the action leaves; with one that is sealed, and fetched before or well formed, whose
place and frame lie in banks that are on, not LOST and served by the link controller's port, an operation for it joins
the chain's list, due at A + 300 us (dedicated and control) or A + 1,400 us (shared, with CCA unless ALOHA), and no
memory changes. A shared cell whose class draws no backoff and whose count is over 0 counts it down by one and is
idle. [R47, R194, R197, R198, R202] -/
def Obligations.RadioTransmit : Prop :=
  (∀ (c : Chain) (x : EntryAct) (s : State) (r : Instr × Nat × Option (Nat × Nat)),
    r ∈ [(Instr.radioTransmitDedicated c, 0, s.pickData (s.cellOp c x)), (Instr.radioControlTransmit c, 4, s.pickControl)] →
    s.on 11 = true → s.cbl.acts.find? (fun a => a.cons == 0x20 + c.ix && bits (a.arg 0) 15 13 == r.2.1) = some x →
    r.2.2 = none → exec r.1 s = .next { s with cbl := { s.cbl with acts := s.cbl.acts.erase x } }) ∧
  (∀ (c : Chain) (x : EntryAct) (d : Nat × Nat) (s : State) (r : Instr × Nat × Option (Nat × Nat)),
    r ∈ [(Instr.radioTransmitDedicated c, 0, s.pickData (s.cellOp c x)), (Instr.radioControlTransmit c, 4, s.pickControl)] →
    s.on 11 = true → s.cbl.acts.find? (fun a => a.cons == 0x20 + c.ix && bits (a.arg 0) 15 13 == r.2.1) = some x →
    r.2.2 = some d → bit (s.descWord d 9) 7 = true → (s.wasFetched d = true ∨ s.badDescriptor c d = false) →
    (d.1 = 0 ∨ s.ramReady (s.placeAddr d.1 d.2) 16 = true) →
    s.ramReady (s.descBuf d) ((s.descLength d + s.descMic d + 1) / 2) = true → s.descLost d = false →
    ∃ t, exec r.1 s = .next t ∧ t.cbl.acts = s.cbl.acts.erase x ∧ s.memKept t ∧ s.regsKept t [Win.SEQ, Win.CBL] [] ∧
      t.chain c.other = s.chain c.other ∧
      ∃ o ∈ (t.chain c).next, t.chain c = { s.chain c with next := insertOp o (s.chain c).next } ∧ o.desc = some d ∧
        o.kind = (s.cellOp c x).kind ∧ o.a = x.instant ∧ o.instant = x.instant + 300 * 32 ∧
        o.settle = x.instant + 300 * 32 - leadOf c ∧ o.sealWait = false) ∧
  (∀ (c : Chain) (x : EntryAct) (d : Nat × Nat) (s : State), s.on 11 = true →
    s.cbl.acts.find? (fun a => a.cons == 0x20 + c.ix && bits (a.arg 0) 15 13 == 1) = some x →
    s.vlt.drawWait.contains (bits (x.arg 0) 11 8) = false → vget s.lnk.bc (bits (x.arg 0) 11 8) 0 = 0 →
    s.pickData (s.cellOp c x) = some d → bit (s.descWord d 9) 7 = true → (s.wasFetched d = true ∨ s.badDescriptor c d = false) →
    s.ramReady (s.placeAddr d.1 d.2) 16 = true →
    s.ramReady (s.descBuf d) ((s.descLength d + s.descMic d + 1) / 2) = true → s.descLost d = false →
    ∃ t, exec (.radioTransmitShared c) s = .next t ∧ t.cbl.acts = s.cbl.acts.erase x ∧ s.memKept t ∧
      s.regsKept t [Win.SEQ, Win.CBL] [] ∧
      ∃ o ∈ (t.chain c).next, t.chain c = { s.chain c with next := insertOp o (s.chain c).next } ∧ o.desc = some d ∧
        o.kind = .txShared ∧ o.instant = x.instant + 1400 * 32 ∧
        o.cca = decide (s.rd A.LNK_CCA 10 8 ≠ 5) ∧
        o.settle = (if o.cca then o.instant - 12 * 32 - s.rd A.LNK_CCADUR 5 0 * 512 else o.instant) - leadOf c) ∧
  ∀ (c : Chain) (x : EntryAct) (s : State), s.on 11 = true →
    s.cbl.acts.find? (fun a => a.cons == 0x20 + c.ix && bits (a.arg 0) 15 13 == 1) = some x → bits (x.arg 0) 11 8 < 16 →
    s.vlt.drawWait.contains (bits (x.arg 0) 11 8) = false → 0 < vget s.lnk.bc (bits (x.arg 0) 11 8) 0 →
    ∃ t, exec (.radioTransmitShared c) s = .next t ∧ t.cbl.acts = s.cbl.acts.erase x ∧ t.rf = s.rf ∧ s.memKept t ∧
      vget t.lnk.bc (bits (x.arg 0) 11 8) 0 + 1 = vget s.lnk.bc (bits (x.arg 0) 11 8) 0

/-- The judgement's end, the acknowledgement and the durable reservation. With no hold waiting: an unsecured data
frame without IEs from no known neighbour that asks for no acknowledgement, placed in an ordinary cell, its place's
and index block's banks on, is accepted: its completion is written at PI of its lane's ring, PI and POSTCNT advance,
and its judgement is over; a secured frame that fails to open, or whose payload IEs then run past it, is rejected with
the counter of its failing step one higher; while the link controller is not enabled the judgement ends with nothing
posted; a secured frame waits for PD14 where that is in retention or off, and PD14 gets a demand wake. An unsecured
acknowledgement whose chain receives, with the air free and coexistence off, is emitted at its instant and the chain
turns, ACKSENTCNT one higher; one whose chain does not receive is withheld, ACKFAILCNT one higher. With PD9 on and no
other word in progress at the MRAM port, a durable reservation stands in MRAM; with no sealing waiting nothing else
changes but that the port's next request, the first of the lowest client number, begins once no reservation is wanted.
[R188, R204, R205, R206, R208, R211, R404] -/
def Obligations.JudgeAckReserve : Prop :=
  (∀ (j : Judged) (i : Nat) (s : State), s.lnk.judging.head? = some j → s.msh.holdWait = none → s.rd A.LNK_CTRL 15 14 = 1 →
    (let h := parseMhr j.octets
     h.sec = false → h.payIes = false → h.ftype = 1 → h.ar = false → s.nbrValid j.nbr = false → j.frame.unplaced = false →
     j.frame.place = some i → j.frame.waitsPlace = false → (s.ring (18 + j.lane.val)).holder = some 8 →
     s.ringEn (18 + j.lane.val) = true → s.ringReady (18 + j.lane.val) (s.ring (18 + j.lane.val)).pi.toNat = true →
     (∀ b, s.servable 8 b = true) → (j.octets.drop h.hdrEnd = [] ∨ bits (oct j.octets h.hdrEnd) 3 0 ≠ 0) → j.kind ≠ .rxControl →
     s.lnk.missDue = [] →
     ∃ t, exec .acceptDecision s = .next t ∧ t.lnk.judging = s.lnk.judging.drop 1 ∧
       (t.ring (18 + j.lane.val)).pi = (s.ring (18 + j.lane.val)).pi + 1 ∧
       (t.word (A.RXE_LANE_POSTCNT j.lane.val)).toNat = min 0xFFFF ((s.word (A.RXE_LANE_POSTCNT j.lane.val)).toNat + 1) ∧
       t.sram = ((s.sramPuts (s.placeAddr (18 + j.lane.val) (s.ring (18 + j.lane.val)).pi.toNat)
         (s.acceptWords ⟨j, h, j.octets, h.hdrEnd, none, none, false⟩ false)).sramPut (s.idxAddr (18 + j.lane.val))
           ((s.ring (18 + j.lane.val)).pi + 1)).sram ∧ t.mram = s.mram)) ∧
  (∀ (j : Judged) (n : Nat) (s : State), s.lnk.judging.head? = some j → s.msh.holdWait = none → s.rd A.LNK_CTRL 15 14 = 1 →
    (parseMhr j.octets).sec = true → s.on 14 = true → j.frame.waitsPlace = false →
    s.openJudged j (parseMhr j.octets) = .error n → s.lnk.missDue = [] → s.msh.nbrLate = [] →
    ∃ t, exec .acceptDecision s = .next t ∧ t.lnk.judging = s.lnk.judging.drop 1 ∧
      (t.word n).toNat = min 0xFFFF ((s.word n).toNat + 1) ∧ (n = A.LNK_AUTHFAILCNT ∨ n = A.LNK_REPLAYCNT ∨ n = A.LNK_FILTCNT) ∧
      t.sram = s.sram ∧ t.mram = s.mram) ∧
  (∀ (j : Judged) (s : State), s.lnk.judging.head? = some j → s.msh.holdWait = none → s.rd A.LNK_CTRL 15 14 ≠ 1 →
    s.lnk.missDue = [] → s.msh.nbrLate = [] →
    ∃ t, exec .acceptDecision s = .next t ∧ t.lnk.judging = s.lnk.judging.drop 1 ∧ s.memKept t ∧ s.regsKept t [Win.RING] []) ∧
  (∀ (j : Judged) (s : State), s.lnk.judging.head? = some j → s.msh.holdWait = none → s.rd A.LNK_CTRL 15 14 = 1 →
    (parseMhr j.octets).sec = true → s.domState 14 < 2 → s.pwr.current = none → s.wakeAsked 14 0 = false →
    ∃ t, exec .acceptDecision s = .next t ∧ t.lnk.judging = s.lnk.judging ∧
      t.pwr.queue.any (fun x => x.demand && x.dom == 14 && x.target == 2) = true) ∧
  (∀ (c : Chain) (gnt : Bool) (a : AckOut) (o : RfOp) (s : State), vget s.lnk.ackOut c.ix none = some a →
    (s.chain c).op = some o → o.kind.sends = false → s.rfState c = 4 → s.airTaken c = false → s.coexMode c = 0 → a.sec = false →
    ∃ t, exec (.ackTransmit c gnt) s = .next t ∧ vget t.lnk.ackOut c.ix none = none ∧ t.rfState c = 6 ∧
      (t.chain c).op = some { o with kind := .ack, desc := none, emitted := false, granted := some s.now } ∧
      (t.word A.LNK_ACKSENTCNT).toNat = min 0xFFFF ((s.word A.LNK_ACKSENTCNT).toNat + 1) ∧
      ∃ e ∈ vget t.lnk.air c.ix none, e.instant = a.instant ∧ e.mode = a.mode ∧ e.ch = o.ch ∧ e.power = o.pwr ∧
        e.octets = withFcs (a.version = 2 && a.fcs4) (s.ackOctets a 0)) ∧
  (∀ (c : Chain) (gnt : Bool) (a : AckOut) (o : RfOp) (s : State), vget s.lnk.ackOut c.ix none = some a →
    (s.chain c).op = some o → o.kind.sends = false → s.rfState c ≠ 4 →
    ∃ t, exec (.ackTransmit c gnt) s = .next t ∧ vget t.lnk.ackOut c.ix none = none ∧
      (t.word A.LNK_ACKFAILCNT).toNat = min 0xFFFF ((s.word A.LNK_ACKFAILCNT).toNat + 1) ∧
      t = { s with regs := t.regs, lnk := t.lnk, coexGnt := gnt } ∧ s.regsKept t [] [A.LNK_ACKFAILCNT]) ∧
  ∀ (j : Fin 16) (p : Nat × Nat) (s : State), s.lnk.fcWait.find? (fun p => p.1 == j.val) = some p →
    s.on 9 = true → s.upd.mwBusy = none → (∀ c ∈ [Chain.A, Chain.B], (∀ o ∈ (s.chain c).next, o.sealWait = false) ∧
      (∀ o ∈ (s.chain c).waiting, o.sealWait = false) ∧ ∀ o ∈ (s.chain c).op, o.sealWait = false) →
    ∃ t, exec (.fcReservationDurable j) s = .next t ∧ t.fcReserve j.val = p.2 % 2 ^ 32 ∧
      (∀ a, a ≠ 0x3D0100 + 2 * j.val → a ≠ 0x3D0101 + 2 * j.val → t.mramGet a = s.mramGet a) ∧
      t = { s with mram := t.mram, upd := t.upd, lnk := { s.lnk with fcWait := s.lnk.fcWait.filter fun p => p.1 != j.val } } ∧
      ((∃ p ∈ s.lnk.fcWait, p.1 ≠ j.val) ∨ s.upd.mwq = [] → t.upd = s.upd) ∧
      ((∀ p ∈ s.lnk.fcWait, p.1 = j.val) →
        ∀ (l m : List MwReq) (x : MwReq), s.upd.mwq = l ++ x :: m → (∀ y ∈ l, x.port < y.port) → (∀ y ∈ m, x.port ≤ y.port) →
          t.upd = { s.upd with mwBusy := some x, mwq := l ++ m })

/-! ## Cadence -/

/-- An event at CAD_CAPn latches network time into RISE and FALL, clears WIDTH, completes a pair and fires CCn; one at
CAD_NTSNAP latches it into CAD_SNAP. With PD10 and PD15 on, whatever the channel's mode: after an event at CAD_CAPn,
RISE and FALL of channel n both read the network time of the command, WIDTH 0 and NEW set, OVW set if NEW was set
before, and CCn has fired one hop on; with POST clear no register outside the cable window and the channel's own
changes, and no memory; with POST set a record is posted on ring 46 where a place can be reserved at once and its
banks are on. After an event at CAD_NTSNAP, CAD_SNAP reads the network time, and nothing else of the cadence window
changes. [R309] -/
def Obligations.CaptureByCable : Prop :=
  (∀ (n : Fin 8) (s : State), s.on 10 = true → s.on 15 = true →
    ∃ t, exec (.cadCap n) s = .next t ∧ t.rdw (A.CAD_CC_RISE n) 4 = s.now % 2 ^ 64 ∧
      t.rdw (A.CAD_CC_FALL n) 4 = s.now % 2 ^ 64 ∧ t.rdw (A.CAD_CC_WIDTH n) 2 = 0 ∧
      t.flag (A.CAD_CC_STAT n) 15 = true ∧
      t.flag (A.CAD_CC_STAT n) 14 = (s.flag (A.CAD_CC_STAT n) 14 || s.flag (A.CAD_CC_STAT n) 15) ∧
      s.fired t (0x30 + n.val) (s.takeEvent (0x34 + n.val)).1 ∧
      (s.flag (A.CAD_CC_CFG n) 10 = false → s.memKept t ∧ t.rings = s.rings ∧
        s.regsKept t [Win.CBL] ((List.range 16).map (A.CAD_CC_RISE n.val + ·) ++ [A.CAD_CC_STAT n]))) ∧
  (∀ (n : Fin 8) (s : State), s.on 10 = true → s.on 15 = true → s.flag (A.CAD_CC_CFG n) 10 = true →
    s.canReserve 46 = true → s.ringReady 46 (s.ring 46).pi.toNat = true →
    ∃ t, exec (.cadCap n) s = .next t ∧ (t.ring 46).pi = (s.ring 46).pi + 1 ∧ t.cad.posted = s.cad.posted + 1) ∧
  ∀ s : State, s.on 10 = true → s.on 15 = true →
    ∃ t, exec .cadNtsnap s = .next t ∧ t.rdw A.CAD_SNAP 4 = s.now % 2 ^ 64 ∧ s.memKept t ∧ t.cad = s.cad ∧
      s.regsKept t [Win.CBL] [A.CAD_SNAP, A.CAD_SNAP + 1, A.CAD_SNAP + 2, A.CAD_SNAP + 3]

/-- The two counters, wake compares and compares. A sleep edge counts one, and while network time runs it keeps the
pair of both counters. Where network time does not run, PD10 is on or past the clock step of its wake and not in
COMMIT and the fabric has a qualified clock, the rebuild sets network time from the pair at 7,812.5 fractions a sleep
tick, a half rounded up, and counting resumes. A wake compare that is armed and whose target the sleep counter has
reached is disarmed, FIRED, and with its source enabled queues a wake of every domain of its set that is off or in
retention, not retired, not held off and not entering. A compare that is armed, whose target network time has reached
with PD10 and PD15 on, fires: in single mode it is disarmed, in periodic mode its next target is T + PER, or where the
target fired had passed when it was formed network time + PER with REBASED; before its target nothing happens. [R275,
R299, R300, R301, R303, R304, R306] -/
def Obligations.CadenceCompares : Prop :=
  (∀ s : State, ∃ t, exec .sleepCounterEdge s = .next t ∧
    t = { s with sleep := s.sleep + 1, pair := if s.ntRun then some (s.sleep + 1, s.nt) else s.pair }) ∧
  (∀ (a : BitVec 48) (n : BitVec 67) (s : State), s.ntRun = false → 2 ≤ s.domState 10 → s.clocked = true → s.ntMayRun = true →
    s.pair = some (a, n) →
    ∃ t, exec .ntRebuild s = .next t ∧ t.ntRun = true ∧ t.sleep = s.sleep + 1 ∧ t.pair = some (t.sleep, t.nt) ∧
      t.nt = n + BitVec.ofNat 67 (((s.sleep + 1 - a).toNat * 15625 + 1) / 2) ∧
      t = { s with nt := t.nt, ntRun := t.ntRun, sleep := t.sleep, pair := t.pair }) ∧
  (∀ (n : Fin 8) (s : State), s.flag A.CAD_WCSTAT n = true → s.rdw (A.CAD_WC n) 3 ≤ s.sleep.toNat → s.flag (A.PWR_WSRC n) 15 = false →
    ∃ t, exec (.wakeCompareMatch n) s = .next t ∧ t.flag A.CAD_WCSTAT n = false ∧ t.flag A.CAD_WCSTAT (8 + n) = true ∧
      t = { s with regs := t.regs } ∧ s.regsKept t [] [A.CAD_WCSTAT]) ∧
  (∀ (n : Fin 8) (d : Nat) (s : State), s.flag A.CAD_WCSTAT n = true → s.rdw (A.CAD_WC n) 3 ≤ s.sleep.toNat →
    s.flag (A.PWR_WSRC n) 15 = true → s.pwr.current = none → d ∈ s.wakeSet n → s.domState d < 2 → s.heldOff d = false →
    ∃ t, exec (.wakeCompareMatch n) s = .next t ∧ t.flag A.CAD_WCSTAT n = false ∧ t.flag A.CAD_WCSTAT (8 + n) = true ∧
      (∃ x ∈ t.pwr.queue, x.dom = d ∧ x.target = 2) ∧ s.memKept t) ∧
  (∀ (n : Fin 8) (s : State), s.flag A.CAD_WCSTAT n = false → exec (.wakeCompareMatch n) s = .next s) ∧
  (∀ (n : Fin 8) (s : State), s.flag (A.CAD_CC_STAT n) 12 = true → s.ccMode n = 1 → s.on 10 = true → s.on 15 = true →
    s.ntRun = true → s.ccTarget n ≤ s.now →
    ∃ t, exec (.compareFire n) s = .next t ∧ t.flag (A.CAD_CC_STAT n) 11 = true ∧ t.flag (A.CAD_CC_STAT n) 12 = false ∧
      s.fired t (0x30 + n.val) 0 ∧ t = { s with regs := t.regs, cbl := t.cbl } ∧ s.regsKept t [Win.CBL] [A.CAD_CC_STAT n]) ∧
  (∀ (n : Fin 8) (s : State), s.flag (A.CAD_CC_STAT n) 12 = true → s.ccMode n = 2 → s.on 10 = true → s.on 15 = true →
    s.ntRun = true → s.ccTarget n ≤ s.now →
    ∃ t, exec (.compareFire n) s = .next t ∧ t.flag (A.CAD_CC_STAT n) 11 = true ∧ t.flag (A.CAD_CC_STAT n) 12 = true ∧
      s.fired t (0x30 + n.val) 0 ∧
      (let base := if (s.cc n).rebase then s.now else s.ccTarget n
       t.ccTarget n = (base + s.ccPeriod n) % 2 ^ 64 ∧ (t.cc n).formed = s.ccPeriod n ∧
         (t.cc n).rebase = decide (base + s.ccPeriod n ≤ s.now)) ∧
      ((s.cc n).rebase = true → t.flag (A.CAD_CC_STAT n) 13 = true) ∧ s.memKept t ∧
      s.regsKept t [Win.CBL] ([0, 1, 2, 3].map (A.CAD_CC_TGT n.val + ·) ++ [A.CAD_CC_STAT n])) ∧
  ∀ (n : Fin 8) (s : State), s.now < s.ccTarget n → exec (.compareFire n) s = .next s

/-- Captured edges, ring 47 requests and PPS. With PD10 and PD15 on, network time running and the pin's function
selected: a rising edge (after INV) of a channel with EDGE 01b lands in RISE, a falling one with EDGE 10b in FALL,
each completing a pair; with EDGE 11b a rising edge is held and the falling edge that follows lands both with WIDTH
their difference mod 2^32; every one fires CCn. An ARM request of a channel in a compare mode writes PER and the
target, arms it and completes OK; a DISARM request disarms its channel and completes OK. An event at CAD_PPSOUT or,
with AUTO, a tick at a multiple of 32,000,000 units starts a pulse that was not high and fires CAD_PPS; an event while
it is high is missed; the pulse's end lowers it; P2.6 with FUNC 01b carries it, low or high as OPOL asks; an active
edge on the input fires PPS_IN. [R269, R302, R307, R308, R311, R312] -/
def Obligations.CadenceEdges : Prop :=
  (∀ (n : Fin 8) (rising : Bool) (s : State), s.ccMode n = 3 → s.on 15 = true → s.on 10 = true → s.ntRun = true →
    s.funcOn (capPin n) = true → s.vio1 = true →
    (let up := rising != s.flag (A.CAD_CC_CFG n) 9
     let e := s.rd (A.CAD_CC_CFG n) 12 11
     (e = 1 ∧ up = true ∨ e = 2 ∧ up = false →
       ∃ t, exec (.captureEdge n rising) s = .next t ∧
         t.rdw (if up then A.CAD_CC_RISE n else A.CAD_CC_FALL n) 4 = s.now % 2 ^ 64 ∧
         t.rdw (if up then A.CAD_CC_FALL n else A.CAD_CC_RISE n) 4 = s.rdw (if up then A.CAD_CC_FALL n else A.CAD_CC_RISE n) 4 ∧
         t.rdw (A.CAD_CC_WIDTH n) 2 = s.rdw (A.CAD_CC_WIDTH n) 2 ∧ t.flag (A.CAD_CC_STAT n) 15 = true ∧ s.fired t (0x30 + n.val) 0) ∧
     (e = 3 → up = true → n.val < 8 →
       ∃ t, exec (.captureEdge n rising) s = .next t ∧ (t.cc n).heldRise = some (s.now % 2 ^ 64) ∧ t.sram = s.sram ∧
         s.regsKept t [Win.CBL] [] ∧ s.fired t (0x30 + n.val) 0))) ∧
  (∀ (n : Fin 8) (rising : Bool) (r : Nat) (s : State), s.ccMode n = 3 → s.on 15 = true → s.on 10 = true → s.ntRun = true →
    s.funcOn (capPin n) = true → s.vio1 = true → s.rd (A.CAD_CC_CFG n) 12 11 = 3 → (rising != s.flag (A.CAD_CC_CFG n) 9) = false →
    (s.cc n).heldRise = some r → r < 2 ^ 64 →
    ∃ t, exec (.captureEdge n rising) s = .next t ∧ t.rdw (A.CAD_CC_RISE n) 4 = r ∧
      t.rdw (A.CAD_CC_FALL n) 4 = s.now % 2 ^ 64 ∧
      t.rdw (A.CAD_CC_WIDTH n) 2 = (((s.now % 2 ^ 64 : Nat) - (r : Int)) % 2 ^ 32).toNat ∧
      (t.cc n).heldRise = none ∧ t.flag (A.CAD_CC_STAT n) 15 = true ∧ s.fired t (0x30 + n.val) 0) ∧
  (∀ (p : Nat) (s : State), s.on 15 = true → s.nextDesc 47 = some p → s.isOut 47 p = true → s.placeLost 47 p = false → s.ringReady 47 p = true →
    (s.placeWord 47 p 1).toNat = 0x0100 → s.genericOk 47 p = true →
    (let ch := (s.placeWord 47 p 2).toNat
     ch < 8 → s.ccCompares ch = true → (s.ccMode ch = 2 → ofWords [s.placeWord 47 p 7, s.placeWord 47 p 8] ≠ 0) →
     ∃ t, exec .arm s = .next t ∧ t.ccTarget ch = ofWords ((List.range 4).map fun k => s.placeWord 47 p (3 + k)) ∧
       t.ccPeriod ch = ofWords [s.placeWord 47 p 7, s.placeWord 47 p 8] ∧ t.flag (A.CAD_CC_STAT ch) 12 = true ∧
       (t.ring 47).cqw = (s.ring 47).cqw + 1 ∧ t.isOut 47 p = false)) ∧
  (∀ (p : Nat) (s : State), s.on 15 = true → s.nextDesc 47 = some p → s.isOut 47 p = true → s.placeLost 47 p = false → s.ringReady 47 p = true →
    (s.placeWord 47 p 1).toNat = 0x0200 → s.genericOk 47 p = true → (s.placeWord 47 p 2).toNat < 8 →
    ∃ t, exec .disarm s = .next t ∧ t.flag (A.CAD_CC_STAT (s.placeWord 47 p 2).toNat) 12 = false ∧
      (t.ring 47).cqw = (s.ring 47).cqw + 1 ∧ t.isOut 47 p = false) ∧
  (∀ s : State, s.on 10 = true → s.on 15 = true → s.cad.ppsHigh = false →
    ∃ t, exec .cadPpsout s = .next t ∧ t.cad.ppsHigh = true ∧ t.flag (A.CBL_CONS 0x3C) 0 = true ∧ s.memKept t ∧
      s.regsKept t [Win.CBL] (if s.funcOn 22 then [A.PER_P_EVTFLAG 2] else []) ∧ s.fired t 0x39 (s.takeEvent 0x3C).1) ∧
  (∀ s : State, s.on 10 = true → s.on 15 = true → s.cad.ppsHigh = true →
    ∃ t, exec .cadPpsout s = .next t ∧ t.cad = s.cad ∧ s.regsKept t [Win.CBL] [] ∧
      t.rd (A.CBL_CONS 0x3C) 15 8 = min 255 (s.rd (A.CBL_CONS 0x3C) 15 8 + 1)) ∧
  (∀ s : State, s.flag A.CAD_PPSCFG 15 = true → s.on 10 = true → s.on 15 = true → s.ntRun = true →
    s.now % 32000000 = 0 → s.cad.ppsHigh = false →
    ∃ t, exec .ppsAuto s = .next t ∧ t.cad.ppsHigh = true ∧ t.flag (A.CBL_CONS 0x3C) 0 = true ∧ s.fired t 0x39 0 ∧
      s.regsKept t [Win.CBL] (if s.funcOn 22 then [A.PER_P_EVTFLAG 2] else [])) ∧
  (∀ s : State, ∃ t, exec .ppsPulseEnd s = .next t ∧ t.cad = { s.cad with ppsHigh := false } ∧
    t.flag (A.CBL_CONS 0x3C) 0 = false ∧ t = { s with regs := t.regs, cad := t.cad, cbl := t.cbl } ∧
    s.regsKept t [Win.CBL] (if s.funcOn 22 then [A.PER_P_EVTFLAG 2] else [])) ∧
  (∀ s : State, s.funcOn 22 = true → s.flag A.CLK_STAT 9 = false → s.vio1 = true → s.on 10 = true → s.on 15 = true →
    s.cad.ppsHigh = false →
    ∃ t, exec .cadPpsout s = .next t ∧ s.ballDrives 22 = some (s.flag A.CAD_PPSCFG 14) ∧
      t.ballDrives 22 = some (!s.flag A.CAD_PPSCFG 14) ∧
      ∃ u, exec .ppsPulseEnd t = .next u ∧ u.ballDrives 22 = some (s.flag A.CAD_PPSCFG 14)) ∧
  ∀ (rising : Bool) (s : State), s.on 15 = true → s.funcOn 23 = true → s.vio1 = true →
    ∃ t, exec (.ppsInputEdge rising) s = .next t ∧
      (rising = !s.flag A.CAD_PPSCFG 13 → s.fired t 0x5C 0 ∧ t = { s with regs := t.regs, cbl := t.cbl } ∧ s.regsKept t [Win.CBL] []) ∧
      (rising = s.flag A.CAD_PPSCFG 13 → t = s)

/-! ## RF chains -/

/-- A chain settles, locks, listens and returns to idle. At its settle start an operation of an idle chain whose
domain is on, whose frequency lies in the band, with XO32M qualified, CALVALID set and no dwell limit in its way,
becomes the chain's operation with its frequency, its power, clipped by VPA with PWRCLIP on a transmission, and the
modulator's registers as they stand, and the chain settles; CAL_DUE is set where the temperature has moved by more
than DRIFT, and a lane that a receive operation does not name is not admitted; a chain that settles is LOCKED once its
lock qualifies; a locked receive operation, not withheld by coexistence, goes to RX, and where the other chain does
not blank it its admitted and enabled lanes to SEARCH, a late one counted; at its listening end every lane not in a
frame goes to OFF and the operation is over; with the last lane done and no acknowledgement pending the chain is IDLE
with no operation and RFx_END fires. [R118, R119, R122, R125, R128, R131, R138, R145, R173, R174, R175, R176] -/
def Obligations.ChainListens : Prop :=
  (∀ (c : Chain) (temp : BitVec 8) (vpa : BitVec 12) (o : RfOp) (rest : List RfOp) (s : State),
    (s.chain c).next = o :: rest → (s.chain c).op = none → (s.chain c).waiting = none → s.on (12 + c.ix) = true →
    inBand c (s.freq c o.ch) = true → s.flag A.CLK_STAT 15 = true → s.rfState c ≠ 1 → s.rfState c ≠ 7 →
    s.flag (A.RF_STAT c) 11 = true →
    (o.kind.sends = true →
      (let u := match o.desc with | some d => airUnits (s.descAirtime d s.preamble) | none => 0
       s.advanceAllDwell.overDwell o.hop u = false ∧ s.advanceAllDwell.overDwell (256 + c.ix) u = false)) →
    ∃ t, exec (.settleStart c temp vpa) s = .next t ∧ t.rfState c = 2 ∧ (t.chain c).next = rest ∧
      (t.chain c).op = some { o with freq := s.freq c o.ch, pwr := (s.power c vpa.toNat).1, clipped := (s.power c vpa.toNat).2, held := s.modHold } ∧
      (o.kind.sends = true → (s.power c vpa.toNat).2 = true → t.flag (A.RF_STAT c) 5 = true) ∧
      (s.rd (A.RF_CALTEMP c) 7 0 < (temp.toInt - signed 8 (s.rd (A.RF_CALTEMP c) 15 8)).natAbs → t.flag (A.RF_STAT c) 10 = true) ∧
      (o.kind.sends = false → ∀ k ∈ lanesOf c, o.lanes.getLsbD k = false → t.flag (A.RXE_LANE_STAT k) 12 = false) ∧ s.memKept t) ∧
  (∀ (c : Chain) (s : State), s.rfState c = 2 →
    ∃ t, exec (.lockQualified c) s = .next t ∧ t.rfState c = 3 ∧ t.flag (A.RF_STAT c) 9 = true ∧ t = { s with regs := t.regs } ∧
      s.regsKept t [] [A.RF_STAT c]) ∧
  (∀ (c : Chain) (gnt : Bool) (o : RfOp) (s : State), (s.chain c).op = some o → o.kind.sends = false → s.rfState c = 3 →
    (s.coexMode c ≠ 2 ∨ s.gntAsserted c gnt = true) → s.blanked c = false → o.listened = false →
    ∃ t, exec (.receiveStart c gnt) s = .next t ∧ t.rfState c = 4 ∧ (t.chain c).op = some o ∧
      (∀ k ∈ lanesOf c, o.lanes.getLsbD k = true → s.flag (A.RXE_LANE_STAT k) 12 = true →
        s.rd (A.RXE_LANE_CFG k) 15 14 = 1 → t.phase' k = 1) ∧
      (t.word (A.RF_LATECNT c)).toNat =
        (if o.instant < s.now then min 0xFFFF ((s.word (A.RF_LATECNT c)).toNat + 1) else (s.word (A.RF_LATECNT c)).toNat) ∧
      s.memKept t) ∧
  (∀ (c : Chain) (o : RfOp) (s : State), (s.chain c).op = some o → o.kind.sends = false → o.listened = false → s.rfState c = 4 →
    ∃ t, exec (.listenEnd c) s = .next t ∧ (t.chain c).op = some { o with listened := true } ∧ t.rfState c = 4 ∧
      (∀ k ∈ lanesOf c, s.receiving k = false → t.phase' k = 0) ∧ t.mram = s.mram) ∧
  ∀ (c : Chain) (o : RfOp) (s : State), (s.chain c).op = some o → o.kind.sends = false → o.listened = true → s.lanesBusy c = false →
    vget s.lnk.ackOut c.ix none = none → s.on (12 + c.ix) = true → s.on 10 = true →
    ∃ t, exec (.receiveEnd c) s = .next t ∧ t.rfState c = 0 ∧ (t.chain c).op = none ∧ (∀ k ∈ lanesOf c, t.phase' k = 0) ∧
      s.fired t (0x43 + 2 * c.ix) 0 ∧ t.mram = s.mram ∧ (o.nbr = 0x3FF → s.memKept t)

/-- A transmission: grant check, PA enable, first symbol, carrier, end and turnaround. A pending transmission with the
air free and coexistence off or granted is granted; one that finds the air taken ends, its chain IDLE and GNTCNT one
higher. At PA_ENABLE a locked chain whose frame is sealed and whose first symbol is not past transmits and its
descriptor is past its commit point; without lock, or late, the chain is IDLE and LATECNT one higher. At the first
symbol the frame is on the air from C on, with the operation's channel and power and the descriptor's mode, its octets
those of the buffer where the place does not overlap it, and RFx_TX fires; a mode switch first sends its own PPDU with
parameter entry 0 and the New Mode, and puts the target frame on the air after its carrier, the modulator's gate open.
At the end of emission an acknowledgement ends the operation, an expected acknowledgement turns the chain, and
otherwise the chain is IDLE and a descriptor sent with full power is complete where its ring's banks are on. A turn
towards RX makes lane 0 or 8 listen where the other chain does not blank it; one towards TX emits. CCA writes the mean
power on the ED scale; carrier counts only where D reaches the detection window; a clear channel turns the chain to TX
and a busy one ends the attempt, CCABUSYCNT one higher. [R118, R121, R123, R138, R139, R151, R185, R199, R200, R201,
R288] -/
def Obligations.ChainTransmits : Prop :=
  (∀ (c : Chain) (gnt : Bool) (o : RfOp) (b : Bool) (s : State), s.txPending c = some (o, b) →
    (s.coexMode c = 0 ∨ s.gntAsserted c gnt = true) → s.sameUnit c = none → s.airTaken c = false →
    ∃ t, exec (.grantCheck c gnt) s = .next t ∧ t = { s with rf := t.rf, coexGnt := gnt } ∧ t.chain c.other = s.chain c.other ∧
      (if b then (t.chain c).waiting else (t.chain c).op) = some { o with granted := some s.now }) ∧
  (∀ (c : Chain) (gnt : Bool) (o : RfOp) (s : State), s.txPending c = some (o, false) → s.sameUnit c = none →
    s.airTaken c = true →
    ∃ t, exec (.grantCheck c gnt) s = .next t ∧ t.rfState c = 0 ∧ (t.chain c).op = none ∧
      (t.word (A.RF_GNTCNT c)).toNat = min 0xFFFF ((s.word (A.RF_GNTCNT c)).toNat + 1)) ∧
  (∀ (c : Chain) (o : RfOp) (d : Nat × Nat) (s : State), s.txPending c = some (o, false) → (s.rfState c = 3 ∨ s.rfState c = 6) →
    s.now ≤ o.instant → o.desc = some d → o.sealWait = false →
    (d.1 = 0 → s.msh.relays.any (fun r => r.onRing == some d) = true) → (d.1 ≠ 0 → s.isOut d.1 d.2 = true) →
    ∃ t, exec (.paEnable c) s = .next t ∧ t.rfState c = 5 ∧ (t.chain c).op = some o ∧ t.txCommitted d = true ∧ s.memKept t ∧
      s.regsKept t [] [A.RF_STAT c]) ∧
  (∀ (c : Chain) (o : RfOp) (s : State), s.txPending c = some (o, false) →
    (s.rfState c ≠ 3 ∧ s.rfState c ≠ 6 ∨ o.instant < s.now) → ¬ (s.rfState c = 5 ∧ o.emitted = true) →
    ∃ t, exec (.paEnable c) s = .next t ∧ t.rfState c = 0 ∧ (t.chain c).op = none ∧
      (t.word (A.RF_LATECNT c)).toNat = min 0xFFFF ((s.word (A.RF_LATECNT c)).toNat + 1)) ∧
  (∀ (c : Chain) (o : RfOp) (d : Nat × Nat) (s : State), s.txPending c = some (o, false) → s.rfState c = 5 → o.desc = some d →
    s.on (12 + c.ix) = true → s.on 10 = true →
    ∃ t, exec (.txFirstSymbol c) s = .next t ∧ (t.chain c).op = some { o with emitted := true } ∧
      s.fired t (0x42 + 2 * c.ix) 0 ∧ t.mram = s.mram ∧
      ∃ e ∈ vget t.lnk.air c.ix none, e.instant = o.instant ∧ e.lead = 0 ∧ e.ch = o.ch ∧ e.power = o.pwr ∧
        e.mode = BitVec.ofNat 8 (s.descMode d) ∧
        (s.descMsw d = true → e.octets = [] ∧ e.phr = some (.fskSwitch 0 (BitVec.ofNat 8 (s.descPsduMode d)))) ∧
        (d.1 ≠ 0 → s.descMsw d = false →
          (s.placeAddr d.1 d.2 + 16 ≤ s.descBuf d ∨ s.descBuf d + (s.descLength d + s.descMic d + 1) / 2 ≤ s.placeAddr d.1 d.2) →
          e.octets = s.descPsdu d)) ∧
  (∀ (c : Chain) (o : RfOp) (d : Nat × Nat) (s : State), (s.chain c).op = some o → o.desc = some d → s.rfState c = 5 →
    o.emitted = true → s.descMsw d = true →
    ∃ t, exec (.modeSwitchCarrierEnd c) s = .next t ∧ t = { s with lnk := t.lnk, regs := t.regs } ∧
      s.regsKept t [] [A.CLK_GATE, A.CLK_GATESTAT] ∧ t.flag A.CLK_GATE 14 = false ∧
      ∃ e ∈ vget t.lnk.air c.ix none, e.mode = BitVec.ofNat 8 (s.descPsduMode d) ∧ e.octets = s.descPsdu d ∧
        e.instant = o.instant ∧ e.lead = s.descLead d o.held.pre ∧ e.ch = o.ch ∧ e.power = o.pwr) ∧
  (∀ (c : Chain) (o : RfOp) (s : State), (s.chain c).op = some o → s.rfState c = 5 → o.emitted = true →
    s.on (12 + c.ix) = true → s.on 10 = true →
    ∃ t, exec (.txEnd c) s = .next t ∧
      (o.kind = .ack → t.rfState c = 0 ∧ (t.chain c).op = none ∧ s.fired t (0x43 + 2 * c.ix) 0) ∧
      (o.kind ≠ .ack → o.ackWanted = true → t.rfState c = 6 ∧ (t.chain c).op = some o ∧ vget t.lnk.air c.ix none = none) ∧
      (o.kind ≠ .ack → o.ackWanted = false → t.rfState c = 0 ∧ (t.chain c).op = none ∧ s.fired t (0x43 + 2 * c.ix) 0 ∧
        ∀ d ∈ o.desc, d.1 ≠ 0 → s.ringReady d.1 d.2 = true → (s.chain c).backed = 0 → t.isOut d.1 d.2 = false)) ∧
  (∀ (c : Chain) (o : RfOp) (s : State), (s.chain c).op = some o → s.rfState c = 6 →
    ∃ t, exec (.turnaroundDone c) s = .next t ∧ s.memKept t ∧
      (o.kind = .ack → t.rfState c = 5 ∧ (t.chain c).op = some { o with emitted := true }) ∧
      (o.kind ≠ .ack → o.emitted = true → o.desc ≠ none → s.blanked c = false →
        t.rfState c = 4 ∧ t.phase' (ackLane c) = 1 ∧ (t.chain c).op = some o)) ∧
  ∀ (c : Chain) (p : BitVec 12) (o : RfOp) (d : Nat × Nat) (s : State), (s.chain c).op = some o → s.rfState c = 4 → o.cca = true →
    o.kind.sends = true → o.emitted = false → o.desc = some d →
    ∃ t, exec (.ccaEnd c p) s = .next t ∧ t.rd (A.RXE_LANE_LEVEL (ackLane c)) 7 0 = edOf p.toInt ∧
      (if ccaBusy (s.rd A.LNK_CCA 10 8) (s.rd A.LNK_CCA 7 0 ≤ edOf p.toInt)
          (o.heard && detectWindow (s.descMode d) ≤ 24 * s.ccaDur) = true then
         t.rfState c = 0 ∧ (t.chain c).op = none ∧
         (o.kind ≠ .ack → (t.word A.LNK_CCABUSYCNT).toNat = min 0xFFFF ((s.word A.LNK_CCABUSYCNT).toNat + 1))
       else t.rfState c = 6 ∧ (t.chain c).op = some { o with cca := false, heard := false } ∧ t.phase' (ackLane c) = 0 ∧ s.memKept t)

/-- Lost lock, aborts and coexistence end an operation. Lock lost while locked, receiving, transmitting or turning
makes the chain IDLE with no operation; a transmission sets CUT and counts in LATECNT. An event at LNK_ABORTx
completes the chain's descriptor that is not past its commit point, its ring's banks being on, and takes its
operations away; past the commit point it changes nothing but the event. A request of the medium by the chain's first
operation that has not requested yet asserts COEX_REQ, and COEX_PRI where that operation is a control cell or PRI is
set, unless an earlier operation still runs; a grant withdrawn in RX, TX or the turn, or after the grant check, makes
the chain IDLE; with no operation left the wires are released. [R120, R137, R138, R200, R263, R270] -/
def Obligations.ChainLosses : Prop :=
  (∀ (c : Chain) (o : RfOp) (s : State), (s.chain c).op = some o → 3 ≤ s.rfState c → s.rfState c ≤ 6 →
    ∃ t, exec (.lockLost c) s = .next t ∧ t.rfState c = 0 ∧ (t.chain c).op = none ∧
      t.flag (A.RF_STAT c) 6 = (o.kind.sends || s.flag (A.RF_STAT c) 6) ∧
      (o.kind.sends = true → o.kind ≠ .ack →
        (t.word (A.RF_LATECNT c)).toNat = min 0xFFFF ((s.word (A.RF_LATECNT c)).toNat + 1))) ∧
  (∀ (c : Chain) (s : State), s.rfState c < 3 → exec (.lockLost c) s = .next s) ∧
  (∀ (c : Chain) (d : Nat × Nat) (s : State), s.on 10 = true → s.on 11 = true →
    ((s.chain c).op.toList ++ (s.chain c).waiting.toList ++ (s.chain c).next).findSome? (fun o => o.desc) = some d →
    s.txCommitted d = false →
    ∃ t, exec (.lnkAbort c) s = .next t ∧ (d.1 ≠ 0 → s.ringReady d.1 d.2 = true → t.isOut d.1 d.2 = false) ∧ (∀ o ∈ (t.chain c).next, o.desc ≠ some d) ∧
      (∀ o ∈ (t.chain c).op, o.desc ≠ some d)) ∧
  (∀ (c : Chain) (d : Nat × Nat) (s : State), s.on 10 = true → s.on 11 = true →
    ((s.chain c).op.toList ++ (s.chain c).waiting.toList ++ (s.chain c).next).findSome? (fun o => o.desc) = some d →
    s.txCommitted d = true →
    ∃ t, exec (.lnkAbort c) s = .next t ∧ t.rf = s.rf ∧ t.rings = s.rings ∧ s.memKept t ∧ s.regsKept t [Win.CBL] []) ∧
  (∀ (c : Chain) (o : RfOp) (ack : Bool) (s : State),
    (s.coexOps c).find? (fun p => !(s.chain c).coex.owners.contains (p.1.a, p.2)) = some (o, ack) →
    ∃ t, exec (.coexRequest c) s = .next t ∧ t = { s with rf := t.rf } ∧ t.chain c.other = s.chain c.other ∧
      t.chain c = { s.chain c with coex :=
        ⟨true, if s.coexRuns c then (s.chain c).coex.pri else o.kind.control || s.flag (A.RF_COEX c) 12,
          (s.chain c).coex.owners ++ [(o.a, ack)]⟩ }) ∧
  (∀ (c : Chain) (o : RfOp) (s : State), (s.chain c).op = some o → s.requests c o = true →
    (4 ≤ s.rfState c ∨ o.granted.isSome = true) → s.rfState c ≤ 6 →
    ∃ t, exec (.coexGntDeassert c) s = .next t ∧ t.rfState c = 0 ∧ (t.chain c).op = none ∧
      (o.kind.sends = true → o.kind ≠ .ack →
        (t.word (A.RF_GNTCNT c)).toNat = min 0xFFFF ((s.word (A.RF_GNTCNT c)).toNat + 1))) ∧
  ∀ (c : Chain) (s : State), (s.chain c).op = none → (s.chain c).waiting = none → (s.chain c).next = [] → s.rfState c ≠ 7 →
    ∃ t, exec (.coexRelease c) s = .next t ∧ t.chain c = { s.chain c with coex := ⟨false, false, []⟩ } ∧
      t = { s with rf := t.rf } ∧ t.chain c.other = s.chain c.other

/-- Calibration gaps, calibration, the tuner search and mismatch. A calibration gap of BUDGET us opens on a chain that
is on, and on an IDLE chain with CAL_DUE and XO32M qualified the calibration starts. Its end writes CALTEMP, sets
CALVALID and clears CAL_DUE; an operation that waited settles, and otherwise a chain without an open gap is IDLE. The
end of a calibration is one that no start waits for. The end of a search writes the profile's CS and CP, leaves the
banks as its last probe set them (the model's choice, log entry 108), clears SEARCH_DUE and ADVISE, and the chain is
IDLE. A mismatch measured in an emission shows in GAMMA; above ADV it sets ADVISE, and above BACK1 or BACK2 the power,
on the air too, falls by 6 or 12 dB. [R46, R118, R126, R127, R133, R135] -/
def Obligations.TunerAndCalibration : Prop :=
  (∀ (c : Chain) (x : EntryAct) (s : State), s.cbl.acts.find? (fun a => a.cons == 0x27 + c.ix) = some x → s.on (12 + c.ix) = true →
    s.rfState c = 0 → s.flag (A.RF_STAT c) 10 = true → s.flag A.CLK_STAT 15 = true →
    ∃ t, exec (.calibrationGap c) s = .next t ∧ t.rfState c = 1 ∧ t.cbl.acts = s.cbl.acts.erase x ∧
      (t.chain c).gap = some (x.instant + (x.words.getD 4 0).toNat * 32) ∧ s.memKept t ∧ s.regsKept t [] [A.RF_STAT c]) ∧
  (∀ (c : Chain) (x : EntryAct) (s : State), s.cbl.acts.find? (fun a => a.cons == 0x27 + c.ix) = some x → s.on (12 + c.ix) = true →
    s.rfState c ≠ 0 →
    ∃ t, exec (.calibrationGap c) s = .next t ∧ t.cbl.acts = s.cbl.acts.erase x ∧ t.regs = s.regs ∧
      (t.chain c).gap = some (x.instant + (x.words.getD 4 0).toNat * 32) ∧ s.memKept t) ∧
  (∀ (c : Chain) (temp : BitVec 8) (s : State), s.rfState c = 1 → s.on 10 = true → s.on (12 + c.ix) = true →
    s.startChains.contains c = false →
    ∃ t, exec (.calibrationDone c temp) s = .next t ∧ t.rd (A.RF_CALTEMP c) 15 8 = temp.toNat ∧
      t.flag (A.RF_STAT c) 11 = true ∧ t.flag (A.RF_STAT c) 10 = false ∧ s.fired t (0x43 + 2 * c.ix) 0 ∧ s.memKept t ∧
      (∀ o ∈ (s.chain c).waiting, s.flag A.CLK_STAT 15 = true → t.rfState c = 2 ∧ (t.chain c).op = some o ∧ (t.chain c).waiting = none) ∧
      ((s.chain c).waiting = none → (s.chain c).gap = none → t.rfState c = 0)) ∧
  (∀ (gammas : List Octet) (s : State), s.rfState .A = 7 → (s.chain .A).waiting = none → s.on 10 = true → s.on 12 = true →
    (let k := s.rd A.RFA_MMSTAT 3 2
     let b := runSearch (s.rd (A.RFA_TPROF k) 15 10) (s.rd (A.RFA_TPROF k + 1) 15 10) gammas
     ∃ t, exec (.searchDone gammas) s = .next t ∧ t.rfState .A = 0 ∧ t.rd (A.RFA_TPROF k) 15 10 = b.1 % 64 ∧
       t.rd (A.RFA_TPROF k + 1) 15 10 = b.2.1 % 64 ∧ t.rd A.RFA_TUNE 11 6 = b.2.2.1 % 64 ∧ t.rd A.RFA_TUNE 5 0 = b.2.2.2 % 64 ∧ t.flag (A.RF_STAT .A) 4 = false ∧ t.flag A.RFA_MMSTAT 5 = false ∧
       s.fired t 0x43 0 ∧ s.memKept t ∧
       s.regsKept t [Win.CBL] [A.RF_STAT .A, A.RFA_MMSTAT, A.RFA_TUNE, A.RFA_TPROF k, A.RFA_TPROF k + 1])) ∧
  ∀ (gamma : Octet) (o : RfOp) (s : State), (s.chain .A).op = some o → s.rfState .A = 5 → o.emitted = true →
    (let g := gamma.toNat
     let k := if g ≤ s.rd A.RFA_MMTHR 7 0 ∨ g ≤ s.rd A.RFA_MMTHR 15 8 then 0 else if g ≤ s.rd A.RFA_MMTHR2 7 0 then 1 else 2
     ∃ t, exec (.mismatchMeasure gamma) s = .next t ∧ t.rd A.RFA_MMSTAT 15 8 = g ∧ t.rd A.RFA_MMSTAT 7 6 = k ∧
       (s.rd A.RFA_MMTHR 7 0 < g → t.flag A.RFA_MMSTAT 5 = true ∧ t.rd A.RFA_MMSTAT 3 2 = s.rd A.RFA_TUNE 13 12) ∧
       (t.chain .A).op = some { o with pwr := o.pwr - 12 * k } ∧
       (k ≠ 0 → ∀ e ∈ vget s.lnk.air 0 none, ∃ e' ∈ vget t.lnk.air 0 none, e'.power = ((o.pwr - 12 * k : Nat) : Int)) ∧ s.memKept t ∧ s.regsKept t [] [A.RFA_MMSTAT, A.RF_STAT .A])

/-! ## Gauge, pins and the Waifeti Link -/

/-- Conversions and DAC loads, from an event or a ring 45 request to their record and completion. With PD10 and PD15
on and the gauge enabled, an event at a free converter starts its conversion with the hop count, cable and settings of
that moment, BUSY set; one at a busy converter is missed. A CONVERT request of a free converter, fetched from a bank
that is on, starts the conversion for it, and a DACSET request loads its code. When a conversion ends the converter is
free; where a place of ring 44 can be reserved at once and its banks are on its record is posted, the posts count one
more and GAU_SDn or GAU_SAR fires with the conversion's hop count, and the request behind it, its ring's banks being
on, completes; with ring 44 invalid GAU_DROPCNT counts. An event at GAU_DAC_LOADn drives the staged code, and a
settled DAC fires GAU_DAC, is no longer busy, and completes the requests that waited for it where their ring's banks
are on. [R269, R313, R314, R317, R318, R319, R320, R321, R322] -/
def Obligations.GaugeConversions : Prop :=
  (∀ (c : Conv) (s : State), s.on 10 = true → s.on 15 = true → s.conv c = none → s.rd A.GAU_CTRL 15 14 = 1 →
    ∃ t, exec (.conversionStart c) s = .next t ∧ t.flag A.GAU_CTRL c.ix = true ∧ t.flag (A.CBL_CONS (0x29 + c.ix)) 0 = true ∧
      s.memKept t ∧ s.regsKept t [Win.CBL] [A.GAU_CTRL, A.CLK_GATE, A.CLK_GATESTAT] ∧
      t.conv c = some ⟨s.now, (s.takeEvent (0x29 + c.ix)).2.1, (s.takeEvent (0x29 + c.ix)).2.2.1, (s.takeEvent (0x29 + c.ix)).1,
        s.convCfg c, none⟩) ∧
  (∀ (c : Conv) (s : State), s.on 10 = true → s.on 15 = true → (s.conv c).isSome = true →
    ∃ t, exec (.conversionStart c) s = .next t ∧ t.gau = s.gau ∧ s.memKept t ∧ s.regsKept t [Win.CBL] [] ∧
      t.rd (A.CBL_CONS (0x29 + c.ix)) 15 8 = min 255 (s.rd (A.CBL_CONS (0x29 + c.ix)) 15 8 + 1)) ∧
  (∀ (c : Conv) (raw : BitVec 24) (sar : List W16) (rf xf oi ov : Bool) (v : Conversion) (s : State), s.conv c = some v →
    s.on 10 = true → s.on 15 = true → s.canReserve 44 = true → s.ringReady 44 (s.ring 44).pi.toNat = true →
    ∃ t, exec (.conversionDone c raw sar rf xf oi ov) s = .next t ∧ t.conv c = none ∧ t.gau.posted = s.gau.posted + 1 ∧
      (t.ring 44).pi = (s.ring 44).pi + 1 ∧ s.fired t (0x3A + c.ix) v.hop ∧ t.mram = s.mram ∧
      ∀ q ∈ v.request, s.ringReady 45 q = true → t.isOut 45 q = false) ∧
  (∀ (c : Conv) (raw : BitVec 24) (sar : List W16) (rf xf oi ov : Bool) (v : Conversion) (s : State), s.conv c = some v →
    s.ringEn 44 = false →
    ∃ t, exec (.conversionDone c raw sar rf xf oi ov) s = .next t ∧ t.conv c = none ∧ t.gau.posted = s.gau.posted ∧
      (t.word A.GAU_DROPCNT).toNat = min 0xFFFF ((s.word A.GAU_DROPCNT).toNat + 1)) ∧
  (∀ (p : Nat) (c : Conv) (s : State), s.on 15 = true → s.rd A.GAU_CTRL 15 14 = 1 → s.nextDesc 45 = some p → s.placeLost 45 p = false →
    (s.fetchDesc 45 p).1 = true → s.ring45Ok p = true → bits (s.placeWord 45 p 1).toNat 15 8 = 1 → (s.placeWord 45 p 2).toNat = c.ix → s.conv c = none →
    ∃ t, exec .convert s = .next t ∧ t.conv c = some ⟨s.now, 0x3FF, false, 0, s.convCfg c, some p⟩ ∧
      t.flag A.GAU_CTRL c.ix = true ∧ t.nextDesc 45 ≠ some p ∧ s.memKept t) ∧
  (∀ (p : Nat) (n : Fin 2) (s : State), s.on 15 = true → s.rd A.GAU_CTRL 15 14 = 1 → s.nextDesc 45 = some p →
    s.placeLost 45 p = false →
    (s.fetchDesc 45 p).1 = true → s.ring45Ok p = true → bits (s.placeWord 45 p 1).toNat 15 8 = 2 →
    (s.placeWord 45 p 2).toNat = n.val →
    ∃ t, exec .dacset s = .next t ∧ t.word (A.GAU_DAC_CODE n) = s.placeWord 45 p 3 ∧ t.gau.dacOut[n] = s.placeWord 45 p 3 ∧
      (∃ ps ∈ t.gau.dacBusy[n], p ∈ ps.1) ∧ t.nextDesc 45 ≠ some p ∧ s.memKept t) ∧
  (∀ (n : Fin 2) (s : State), s.on 10 = true → s.on 15 = true →
    ∃ t, exec (.gauDacLoad n) s = .next t ∧ t.gau.dacOut[n] = s.word (A.GAU_DAC_CODE n) ∧ (t.gau.dacBusy[n]).isSome = true ∧
      s.memKept t ∧ s.regsKept t [Win.CBL] [A.CLK_GATE, A.CLK_GATESTAT]) ∧
  ∀ (n : Fin 2) (ps : List Nat) (hop : Nat) (s : State), s.gau.dacBusy[n] = some (ps, hop) → s.on 10 = true → s.on 15 = true →
    ∃ t, exec (.dacSettled n) s = .next t ∧ t.gau.dacBusy[n] = none ∧ s.fired t 0x5E hop ∧
      (∀ p ∈ ps, s.ringReady 45 p = true → t.isOut 45 p = false) ∧ t.mram = s.mram

/-- PWM, excitation, pins, their supplies and boundary scan. With PD15 on an enabled PWM output starts its period with
the settings now written and fires GAU_PWMn, and an event at GAU_PWM_RESTARTn does the same at once; an event at
GAU_IEX_TOGGLEn inverts EN and nothing else outside the cable window. An edge at a supplied pin that the unit does not
drive, and that EVT selects, sets EVTFLAG and fires PER_GPIOA (P0 to P2) or PER_GPIOB if the flag was clear. A GPIO
task sets, clears or inverts its pin's OUT bit, and no other register outside the cable window changes but the port's
EVTFLAG, which takes the edge where the pin drives it (the model's choice, log entry 111). PER_GPIOSNAP takes all six
ports into SNAP. A supply that is lost or returns changes nothing but its presence, and an absent ring's pins read 0.
A boundary-scan instruction changes only the scan logic: EXTEST and CLAMP drive every ball of the chain from the
boundary register, HIGHZ drives none, BYPASS and SAMPLE_PRELOAD leave the part driving its balls, and SAMPLE_PRELOAD
captures every ball's level and loads the register (the effects are those of IEEE 1149.1, log entry 24). [R261, R288,
R315, R323, R324, R325, R355, R433, R450] -/
def Obligations.PinsAndPwm : Prop :=
  (∀ (n : Fin 4) (s : State), s.on 10 = true → s.on 15 = true → s.flag (A.GAU_PWM_CFG n) 15 = true →
    ∃ t, exec (.pwmPeriodStart n) s = .next t ∧ s.fired t (0x3E + n.val) 0 ∧ s.regsKept t [Win.CBL] [] ∧ s.memKept t ∧
      t.gau.pwm[n] = ((s.word (A.GAU_PWM_PERIOD n)).toNat, s.rdw (A.GAU_PWM_DUTY n) 2)) ∧
  (∀ (n : Fin 4) (s : State), s.on 10 = true → s.on 15 = true → s.flag (A.GAU_PWM_CFG n) 15 = true →
    ∃ t, exec (.gauPwmRestart n) s = .next t ∧ s.fired t (0x3E + n.val) (s.takeEvent (0x2E + n.val)).1 ∧ s.memKept t ∧
      s.regsKept t [Win.CBL] [A.CLK_GATE, A.CLK_GATESTAT] ∧
      t.gau.pwm[n] = ((s.word (A.GAU_PWM_PERIOD n)).toNat, s.rdw (A.GAU_PWM_DUTY n) 2)) ∧
  (∀ (n : Fin 2) (s : State), s.on 10 = true → s.on 15 = true →
    ∃ t, exec (.gauIexToggle n) s = .next t ∧ t.flag (A.GAU_IEX n) 15 = !s.flag (A.GAU_IEX n) 15 ∧
      t.rd (A.GAU_IEX n) 14 0 = s.rd (A.GAU_IEX n) 14 0 ∧ s.memKept t ∧ s.regsKept t [Win.CBL] [A.GAU_IEX n]) ∧
  (∀ (pin : Fin 48) (rising : Bool) (s : State), s.on 10 = true → s.on 15 = true → s.pinSupplied pin = true →
    s.pinDriven pin = false →
    (let sel := s.rd (A.PER_P_EVT (pin.val / 8)) (2 * (pin.val % 8) + 1) (2 * (pin.val % 8))
     (if rising = true then sel % 2 = 1 else 2 ≤ sel) → s.flag (A.PER_P_EVTFLAG (pin.val / 8)) (pin.val % 8) = false →
     ∃ t, exec (.gpioEdge pin rising) s = .next t ∧ t.gpioIn.getLsbD pin = rising ∧
       t.flag (A.PER_P_EVTFLAG (pin.val / 8)) (pin.val % 8) = true ∧ s.fired t (if pin.val < 24 then 0x57 else 0x58) 0 ∧
       s.memKept t ∧ s.regsKept t [Win.CBL] [A.PER_P_EVTFLAG (pin.val / 8)])) ∧
  (∀ (pin q : Fin 48) (rising : Bool) (s : State), q ≠ pin →
    ∃ t, exec (.gpioEdge pin rising) s = .next t ∧ t.gpioIn.getLsbD pin = rising ∧ t.gpioIn.getLsbD q = s.gpioIn.getLsbD q) ∧
  (∀ (k : Fin 8) (s : State), s.on 10 = true → s.on 15 = true →
    (let pin := s.rd (A.PER_TASK k) 5 0
     let was := s.flag (A.PER_P_OUT (pin / 8)) (pin % 8)
     pin < 48 →
     ∃ t, exec (.gpioTask k) s = .next t ∧ s.memKept t ∧
       s.regsKept t [Win.CBL] [A.PER_P_OUT (pin / 8), A.PER_P_EVTFLAG (pin / 8)] ∧
       (∀ j, j < 8 → j ≠ pin % 8 → t.flag (A.PER_P_OUT (pin / 8)) j = s.flag (A.PER_P_OUT (pin / 8)) j) ∧
       t.flag (A.PER_P_OUT (pin / 8)) (pin % 8) =
         (match s.rd (A.PER_TASK k) 9 8 with | 1 => true | 2 => false | 3 => !was | _ => was))) ∧
  (∀ s : State, s.on 10 = true → s.on 15 = true →
    ∃ t, exec .perGpiosnap s = .next t ∧ (∀ p : Fin 6, t.word (A.PER_P_SNAP p) = s.portIn p) ∧ s.memKept t ∧
      s.regsKept t [Win.CBL] ((List.range 6).map fun p => A.PER_P_SNAP p)) ∧
  (∀ (second : Bool) (s : State),
    exec (.vioSupplyLoss second) s = .next (if second then { s with vio2 := false } else { s with vio1 := false }) ∧
    exec (.vioSupplyReturn second) s = .next (if second then { s with vio2 := true } else { s with vio1 := true }) ∧
    ∀ pin : Fin 48, s.pinSupplied pin = false → s.pinLevel pin = false) ∧
  (∀ s : State,
    (∃ t, exec .extest s = .next t ∧ (∀ i, i < 70 → t.ball i = some (s.jtag.bsr.getLsbD i)) ∧ t = { s with jtag := { s.jtag with ir := t.jtag.ir } }) ∧
    (∃ t, exec .clamp s = .next t ∧ (∀ i, i < 70 → t.ball i = some (s.jtag.bsr.getLsbD i)) ∧ t = { s with jtag := { s.jtag with ir := t.jtag.ir } }) ∧
    (∃ t, exec .highz s = .next t ∧ (∀ i, i < 70 → t.ball i = none) ∧ t = { s with jtag := { s.jtag with ir := t.jtag.ir } }) ∧
    ∃ t, exec .bypass s = .next t ∧ (∀ i, i < 70 → t.ball i = s.ballDrives i) ∧ t = { s with jtag := { s.jtag with ir := t.jtag.ir } }) ∧
  ∀ (outside data : BitVec 70) (s : State),
    ∃ t, exec (.samplePreload outside data) s = .next t ∧ t.jtag.bsr = data ∧ t = { s with jtag := t.jtag } ∧
      ∀ i, i < 70 → t.ball i = s.ballDrives i ∧ t.jtag.sampled.getLsbD i = (s.ballDrives i).getD (s.ballOutside outside i)

/-- Headers of the Waifeti Link: what is acknowledged, what is refused, what it wakes. With VIO present and no frame
in progress: a header that fails its check or lies outside R390's ranges gets no ACK, and counts where PD15 is on; an
ASSIGN is acknowledged exactly by a unit without an address whose CHAIN_IN is raised; any other header for another
address, or for a unit without one, gets no ACK; one for this unit counts a wake, and is acknowledged where the unit
takes it, a CMD or RESET then holding the lowest free receive slot and, where it can be reserved at once, the place at
PI of ring 0, and otherwise NAKCNT counts. A CHAIN_IN change, and an event at WFL_IRQ, change nothing but the level
and CABLEIRQ. [R389, R390, R394, R395, R396, R397, R398, R400] -/
def Obligations.WaifetiHeaders : Prop :=
  (∀ (addr : BitVec 6) (type : BitVec 4) (len : BitVec 11) (fseq : BitVec 3) (hchk : Octet) (s : State),
    s.vio1 = true → s.wfl.header = none →
    (headerCheck addr.toNat type.toNat len.toNat fseq.toNat ≠ hchk.toNat ∨ headerOk addr.toNat type.toNat len.toNat = false) →
    ∃ t, exec (.frameHeader addr type len fseq hchk) s = .next t ∧ t.wfl = { s.wfl with reply := ⟨false, none, []⟩ } ∧
      s.memKept t ∧ s.regsKept t [] [A.WFL_ADDR, A.WFL_HDRERRCNT] ∧
      (s.on 15 = true → (t.word A.WFL_HDRERRCNT).toNat = min 0xFFFF ((s.word A.WFL_HDRERRCNT).toNat + 1))) ∧
  (∀ (fseq : BitVec 3) (hchk : Octet) (s : State), s.vio1 = true → s.wfl.header = none →
    headerCheck 0 3 1 fseq.toNat = hchk.toNat →
    ∃ t, exec (.frameHeader 0 3 1 fseq hchk) s = .next t ∧ t.flag A.WFL_ADDR 14 = s.wfl.chainIn ∧ s.memKept t ∧
      t.wfl.reply = ⟨decide (s.wflAddr = 0) && s.wfl.chainIn, none, []⟩ ∧
      t.wfl.header = (if s.wflAddr = 0 ∧ s.wfl.chainIn = true then some (0, 3, 1, fseq.toNat) else none)) ∧
  (∀ (addr : BitVec 6) (type : BitVec 4) (len : BitVec 11) (fseq : BitVec 3) (hchk : Octet) (s : State),
    s.vio1 = true → s.wfl.header = none → headerCheck addr.toNat type.toNat len.toNat fseq.toNat = hchk.toNat →
    headerOk addr.toNat type.toNat len.toNat = true → type ≠ 3 →
    (s.wflAddr = 0 ∨ addr.toNat ≠ 63 ∧ addr.toNat ≠ s.wflAddr) →
    ∃ t, exec (.frameHeader addr type len fseq hchk) s = .next t ∧ t.wfl = { s.wfl with reply := ⟨false, none, []⟩ } ∧
      s.memKept t ∧ s.regsKept t [] [A.WFL_ADDR]) ∧
  (∀ (addr : BitVec 6) (type : BitVec 4) (len : BitVec 11) (fseq : BitVec 3) (hchk : Octet) (s : State),
    s.vio1 = true → s.wfl.header = none → headerCheck addr.toNat type.toNat len.toNat fseq.toNat = hchk.toNat →
    headerOk addr.toNat type.toNat len.toNat = true → type ≠ 3 → s.wflAddr ≠ 0 → (addr.toNat = 63 ∨ addr.toNat = s.wflAddr) →
    s.wflTakes type.toNat = true →
    ∃ t, exec (.frameHeader addr type len fseq hchk) s = .next t ∧ t.wfl.reply = ⟨decide (addr.toNat ≠ 63), none, []⟩ ∧
      t.wfl.header = some (addr.toNat, type.toNat, len.toNat, fseq.toNat) ∧ s.memKept t ∧
      (t.word A.WFL_WAKECNT).toNat = min 0xFFFF ((s.word A.WFL_WAKECNT).toNat + 1) ∧
      (type = 1 ∨ type = 5 → t.wfl.slot = s.wflFreeSlot ∧ (s.canReserve 0 = true → (t.ring 0).holder = some 10) ∧
        t.flag A.WFL_STAT (s.wflFreeSlot.getD 0) = true)) ∧
  (∀ (addr : BitVec 6) (type : BitVec 4) (len : BitVec 11) (fseq : BitVec 3) (hchk : Octet) (s : State),
    s.vio1 = true → s.wfl.header = none → headerCheck addr.toNat type.toNat len.toNat fseq.toNat = hchk.toNat →
    headerOk addr.toNat type.toNat len.toNat = true → type ≠ 3 → s.wflAddr ≠ 0 → (addr.toNat = 63 ∨ addr.toNat = s.wflAddr) →
    s.on 15 = true → s.rd A.WFL_CFG 15 14 = 0 →
    ∃ t, exec (.frameHeader addr type len fseq hchk) s = .next t ∧ t.wfl.reply = ⟨false, none, []⟩ ∧ t.wfl.header = none ∧
      (t.word A.WFL_NAKCNT).toNat = min 0xFFFF ((s.word A.WFL_NAKCNT).toNat + 1) ∧ s.memKept t) ∧
  (∀ (level : Bool) (s : State), exec (.chainInChange level) s = .next { s with wfl := { s.wfl with chainIn := level } }) ∧
  ∀ s : State, s.on 10 = true → s.on 15 = true →
    ∃ t, exec .wflIrq s = .next t ∧ t.flag A.WFL_STAT 14 = true ∧ t.wfl = s.wfl ∧ s.memKept t ∧ s.regsKept t [Win.CBL] [A.WFL_STAT]

/-- Bodies of the Waifeti Link, and frames that end without one. Past the ACK of a CMD: a body whose CRC fails ends
with END_BAD and CRCERRCNT one higher; one that repeats the last accepted CMD ends with END_OK, REPEATCNT one higher,
and posts nothing; any other is kept as the last CMD, posted to its reserved place of ring 0, its banks being on, with
WFL_FRAME fired, and ends with END_OK; to the broadcast address no END is driven. Past the ACK of an ASSIGN a value 1
to 62 with a good CRC becomes the unit's address and raises CHAIN_OUT, and any other ends with END_BAD and leaves the
address. A STATUS sends its eight octets, and one the host accepts clears CABLEIRQ. A PING ends after its ACK. A frame
abandoned, or cut by a resynchronisation from any phase except BODY back, ends with its slot freed, and an abandoned
one counts. [R388, R390, R392, R393, R394, R398, R401] -/
def Obligations.WaifetiBodies : Prop :=
  (∀ (body : List Octet) (crc : BitVec 16) (addr fseq : Nat) (s : State), s.wfl.header = some (addr, 1, body.length, fseq) →
    s.vio1 = true → fcs16 body ≠ crc.toNat →
    ∃ t, exec (.cmd body crc) s = .next t ∧ t.wfl.header = none ∧ t.wfl.slot = none ∧
      t.wfl.reply = ⟨decide (addr ≠ 63), some false, []⟩ ∧ (∀ i ∈ s.wfl.slot, t.flag A.WFL_STAT (i % 4) = false ∨ 4 ≤ i) ∧
      (t.word A.WFL_CRCERRCNT).toNat = min 0xFFFF ((s.word A.WFL_CRCERRCNT).toNat + 1) ∧ t.wfl.lastCmd = s.wfl.lastCmd ∧
      s.memKept t ∧ (t.ring 0).pi = (s.ring 0).pi) ∧
  (∀ (body : List Octet) (crc : BitVec 16) (addr fseq : Nat) (s : State), s.wfl.header = some (addr, 1, body.length, fseq) →
    s.vio1 = true → fcs16 body = crc.toNat → s.wfl.lastCmd = some (fseq, crc) →
    ∃ t, exec (.cmd body crc) s = .next t ∧ t.wfl.header = none ∧ t.wfl.reply = ⟨decide (addr ≠ 63), some true, []⟩ ∧
      (t.word A.WFL_REPEATCNT).toNat = min 0xFFFF ((s.word A.WFL_REPEATCNT).toNat + 1) ∧ s.memKept t ∧
      (t.ring 0).pi = (s.ring 0).pi) ∧
  (∀ (body : List Octet) (crc : BitVec 16) (addr fseq i : Nat) (s : State), s.wfl.header = some (addr, 1, body.length, fseq) →
    s.vio1 = true → fcs16 body = crc.toNat → s.wfl.lastCmd ≠ some (fseq, crc) → s.wfl.slot = some i → s.on 10 = true → s.on 15 = true →
    s.ringEn 0 = true → (s.ring 0).holder = some 10 → s.ringReady 0 (s.ring 0).pi.toNat = true →
    ∃ t, exec (.cmd body crc) s = .next t ∧ t.wfl.header = none ∧ t.wfl.slot = none ∧ t.wfl.lastCmd = some (fseq, crc) ∧
      t.wfl.reply = ⟨decide (addr ≠ 63), some true, []⟩ ∧ t.wfl.posted = s.wfl.posted + 1 ∧
      (t.ring 0).pi = (s.ring 0).pi + 1 ∧ (t.ring 0).holder = none ∧ s.fired t 0x5A 0 ∧ t.mram = s.mram) ∧
  (∀ (value : Octet) (crc : BitVec 16) (a l q : Nat) (s : State), s.wfl.header = some (a, 3, l, q) → s.vio1 = true →
    ∃ t, exec (.assign value crc) s = .next t ∧ t.wfl.header = none ∧ s.memKept t ∧
      (if fcs16 [value] = crc.toNat ∧ value.toNat ≠ 0 ∧ value.toNat < 63 then
         t.wflAddr = value.toNat ∧ t.flag A.WFL_ADDR 15 = true ∧ t.wfl.reply = ⟨true, some true, []⟩
       else t.wflAddr = s.wflAddr ∧ t.flag A.WFL_ADDR 15 = s.flag A.WFL_ADDR 15 ∧ t.wfl.reply = ⟨true, some false, []⟩)) ∧
  (∀ (accept : Bool) (a l q : Nat) (s : State), s.wfl.header = some (a, 4, l, q) → s.vio1 = true →
    ∃ t, exec (.status accept) s = .next t ∧ t.wfl.header = none ∧ s.memKept t ∧
      t.wfl.reply = ⟨true, none, toOctets 2 8 ++ s.wflStatusOctets⟩ ∧
      t.flag A.WFL_STAT 14 = (s.flag A.WFL_STAT 14 && !accept)) ∧
  (∀ (a l q : Nat) (s : State), s.wfl.header = some (a, 6, l, q) →
    ∃ t, exec .ping s = .next t ∧ t.wfl = { s.wfl with header := none } ∧ s.memKept t ∧ s.regsKept t [] [A.WFL_STAT]) ∧
  (∀ s : State, s.wfl.header.isSome = true → s.on 15 = true →
    ∃ t, exec .frameAbandon s = .next t ∧ t.wfl.header = none ∧ t.wfl.slot = none ∧ t.wfl.reply = ⟨false, none, []⟩ ∧
      (t.word A.WFL_ABANDONCNT).toNat = min 0xFFFF ((s.word A.WFL_ABANDONCNT).toNat + 1) ∧ s.memKept t) ∧
  (∀ (a y l q : Nat) (s : State), s.wfl.header = some (a, y, l, q) → s.vio1 = true → y ≠ 2 → y ≠ 4 →
    ∃ t, exec .idleResync s = .next t ∧ t.wfl.header = none ∧ t.wfl.slot = none ∧ t.wfl.reply = ⟨false, none, []⟩ ∧ s.memKept t) ∧
  ∀ (a y l q : Nat) (s : State), s.wfl.header = some (a, y, l, q) → (y = 2 ∨ y = 4) → exec .idleResync s = .next s

/-! ## The engines' units -/

/-- Flags N and Z of a result, with mask, for the next cycle (R92, R102). -/
def nzFlags (v sticky : W16) : Flight :=
  ⟨1, .flags 0x000C (BitVec.ofNat 16 (4 * v.msb.toNat + 8 * (decide (v = 0)).toNat)) sticky⟩

/-- Flags C, V, N and Z of a result for the next cycle. -/
def cvnzFlags (v : W16) (c o : Bool) : Flight :=
  ⟨1, .flags 0x000F (BitVec.ofNat 16 (c.toNat + 2 * o.toNat + 4 * v.msb.toNat + 8 * (decide (v = 0)).toNat)) 0⟩

/-- Sums and differences: the result and C, V, N and Z, visible to the next bundle. For every engine, run, register
and operand value, an ADD, ADC, SUB, SBC or NEG that issues leaves exactly its result for d and its four flags in
flight, to land at the start of the next cycle: C the carry out of bit 15 or the borrow, V a signed result out of
range; ADDI likewise with the sign-extended immediate; ADDS, SUBS and ABS saturate, with N, Z, and SAT raised where
they saturate. Every other register, memory and engine is as it was. [R92, R97, R98, R102] -/
def Obligations.SumsAndDifferences : Prop :=
  (∀ (k : Fin 8) (adv : BitVec 4) (d x y : BitVec 5) (who : Initiator) (s : State), s.single k who →
    (let b := s.due who
     let X := b.g[x.toNat]
     let Y := b.g[y.toNat]
     let c := (b.c[0].getLsbD 0).toNat
     ∀ r ∈ [(Instr.add k adv d x y, X + Y, decide (65536 ≤ X.toNat + Y.toNat), out16 (X.toInt + Y.toInt)),
         (Instr.adc k adv d x y, X + Y + BitVec.ofNat 16 c, decide (65536 ≤ X.toNat + Y.toNat + c), out16 (X.toInt + Y.toInt + c)),
         (Instr.sub k adv d x y, X - Y, decide (X.toNat < Y.toNat), out16 (X.toInt - Y.toInt)),
         (Instr.sbc k adv d x y, X - Y - BitVec.ofNat 16 c, decide (X.toNat < Y.toNat + c), out16 (X.toInt - Y.toInt - c)),
         (Instr.neg k adv d x, 0 - X, decide (X ≠ 0), decide (X = 0x8000))],
       ∃ t, exec r.1 s = .next t ∧
         s.issues t k who { b with flight := b.flight ++ [⟨1, .g d r.2.1⟩, cvnzFlags r.2.1 r.2.2.1 r.2.2.2] })) ∧
  (∀ (k : Fin 8) (adv : BitVec 4) (d x : BitVec 5) (imm : BitVec 12) (who : Initiator) (s : State), s.single k who →
    (let b := s.due who
     let X := b.g[x.toNat]
     let I : W16 := imm.signExtend 16
     ∃ t, exec (.addi k adv d x imm) s = .next t ∧
       s.issues t k who { b with flight := b.flight ++ [⟨1, .g d (X + I)⟩,
         cvnzFlags (X + I) (decide (65536 ≤ X.toNat + I.toNat)) (out16 (X.toInt + I.toInt))] })) ∧
  ∀ (k : Fin 8) (adv : BitVec 4) (d x y : BitVec 5) (who : Initiator) (s : State), s.single k who →
    (let b := s.due who
     let X := (b.g[x.toNat]).toInt
     let Y := (b.g[y.toNat]).toInt
     ∀ r ∈ [(Instr.adds k adv d x y, X + Y), (Instr.subs k adv d x y, X - Y), (Instr.abs k adv d x, (X.natAbs : Int))],
       (let v := BitVec.ofInt 16 (max (-32768) (min 32767 r.2))
        ∃ t, exec r.1 s = .next t ∧
          s.issues t k who { b with flight := b.flight ++ [⟨1, .g d v⟩, nzFlags v (if out16 r.2 = true then 0x0010 else 0)] }))

/-- Logic, shifts, selections and moves of the A unit. AND, OR, XOR, ANDN, the shifts and ROL, with a register or an
immediate, leave their result for d and N and Z of it in flight for the next cycle; a shift by 16 or more gives 0, or
the sign for SAR. The minima, maxima, compares, octet operations, CLZ, POPC, MOVI and MOVC leave their result alone.
MOVZ and MOVNZ leave s where t is, or is not, 0, and nothing otherwise. MOVTC leaves the control register's new word
in flight; NOP leaves nothing. A shift amount of 16 or more in SHLI, SHRI or SARI, and a control register 14 or 15,
are reserved and not meant here; MOVTC to c12 or c13 in a buffered run traps. Nothing else changes. [R92, R97, R102]
-/
def Obligations.LogicShiftsMoves : Prop :=
  (∀ (k : Fin 8) (adv : BitVec 4) (d x y : BitVec 5) (who : Initiator) (s : State), s.single k who →
    (let b := s.due who
     let X := b.g[x.toNat]
     let Y := b.g[y.toNat]
     ∀ r ∈ [(Instr.and k adv d x y, X &&& Y), (Instr.or k adv d x y, X ||| Y), (Instr.xor k adv d x y, X ^^^ Y),
         (Instr.andn k adv d x y, X &&& ~~~Y),
         (Instr.shl k adv d x y, if 16 ≤ Y.toNat % 32 then 0 else X <<< (Y.toNat % 32)),
         (Instr.shr k adv d x y, if 16 ≤ Y.toNat % 32 then 0 else X >>> (Y.toNat % 32)),
         (Instr.sar k adv d x y, if 16 ≤ Y.toNat % 32 then (if X.msb = true then 0xFFFF else 0) else X.sshiftRight (Y.toNat % 32)),
         (Instr.rol k adv d x y, X.rotateLeft (Y.toNat % 16))],
       ∃ t, exec r.1 s = .next t ∧ s.issues t k who { b with flight := b.flight ++ [⟨1, .g d r.2⟩, nzFlags r.2 0] })) ∧
  (∀ (k : Fin 8) (adv : BitVec 4) (d x : BitVec 5) (imm : BitVec 12) (who : Initiator) (s : State), s.single k who →
    (let b := s.due who
     let X := b.g[x.toNat]
     let Z : W16 := imm.setWidth 16
     ∀ r ∈ [(Instr.andi k adv d x imm, true, X &&& Z), (Instr.ori k adv d x imm, true, X ||| Z), (Instr.xori k adv d x imm, true, X ^^^ Z),
         (Instr.shli k adv d x imm, decide (imm.toNat < 16), X <<< imm.toNat), (Instr.shri k adv d x imm, decide (imm.toNat < 16), X >>> imm.toNat),
         (Instr.sari k adv d x imm, decide (imm.toNat < 16), X.sshiftRight imm.toNat)],
       r.2.1 = true →
       ∃ t, exec r.1 s = .next t ∧ s.issues t k who { b with flight := b.flight ++ [⟨1, .g d r.2.2⟩, nzFlags r.2.2 0] })) ∧
  (∀ (k : Fin 8) (adv : BitVec 4) (d x y : BitVec 5) (imm : BitVec 12) (w : W16) (who : Initiator) (s : State), s.single k who →
    (let b := s.due who
     let X := b.g[x.toNat]
     let Y := b.g[y.toNat]
     let I : W16 := imm.signExtend 16
     ∀ r ∈ [(Instr.min k adv d x y, if X.toInt < Y.toInt then X else Y), (Instr.max k adv d x y, if X.toInt < Y.toInt then Y else X),
         (Instr.minu k adv d x y, if X.toNat < Y.toNat then X else Y), (Instr.maxu k adv d x y, if X.toNat < Y.toNat then Y else X),
         (Instr.cmpeq k adv d x y, if X = Y then 1 else 0), (Instr.cmpne k adv d x y, if X = Y then 0 else 1),
         (Instr.cmplt k adv d x y, if X.toInt < Y.toInt then 1 else 0), (Instr.cmpltu k adv d x y, if X.toNat < Y.toNat then 1 else 0),
         (Instr.cmpeqi k adv d x imm, if X = I then 1 else 0), (Instr.cmplti k adv d x imm, if X.toInt < I.toInt then 1 else 0),
         (Instr.pack k adv d x y, BitVec.ofNat 16 (256 * (Y.toNat % 256) + X.toNat % 256)),
         (Instr.unpkl k adv d x, BitVec.ofNat 16 (X.toNat % 256)), (Instr.unpkh k adv d x, BitVec.ofNat 16 (X.toNat / 256)),
         (Instr.swapb k adv d x, BitVec.ofNat 16 (256 * (X.toNat % 256) + X.toNat / 256)),
         (Instr.sexb k adv d x, (X.setWidth 8).signExtend 16),
         (Instr.clz k adv d x, if X = 0 then 16 else BitVec.ofNat 16 (15 - X.toNat.log2)),
         (Instr.popc k adv d x, BitVec.ofNat 16 ((List.range 16).map fun i => X.toNat / 2 ^ i % 2).sum),
         (Instr.movi k adv d w, w)],
       ∃ t, exec r.1 s = .next t ∧ s.issues t k who { b with flight := b.flight ++ [⟨1, .g d r.2⟩] })) ∧
  (∀ (k : Fin 8) (adv : BitVec 4) (d x y : BitVec 5) (who : Initiator) (s : State), s.single k who →
    (let b := s.due who
     let X := b.g[x.toNat]
     ∀ r ∈ [(Instr.movz k adv d x y, decide (b.g[y.toNat] = 0)), (Instr.movnz k adv d x y, decide (b.g[y.toNat] ≠ 0)), (Instr.nop k adv, false)],
       ∃ t, exec r.1 s = .next t ∧ s.issues t k who { b with flight := b.flight ++ if r.2 = true then [⟨1, .g d X⟩] else [] })) ∧
  ∀ (k : Fin 8) (adv : BitVec 4) (d x : BitVec 5) (cr : BitVec 4) (who : Initiator) (s : State), s.single k who → cr.toNat < 14 →
    (let b := s.due who
     (∃ t, exec (.movc k adv d cr) s = .next t ∧ s.issues t k who { b with flight := b.flight ++ [⟨1, .g d
       (if cr = 9 then BitVec.ofNat 16 b.cyc.toNat else if cr = 10 then BitVec.ofNat 16 (b.cyc.toNat / 65536) else b.c[cr.toNat])⟩] }) ∧
     (s.buffered who = false ∨ cr.toNat < 12 →
       ∃ t, exec (.movtc k adv x cr) s = .next t ∧ s.issues t k who { b with flight := b.flight ++ [⟨1, .c cr b.g[x.toNat]⟩] }))

/-- The M unit: products and accumulators. For every operand value: MUL, MULH, MULHU and the accumulator extractions
leave their word for d in flight for the second cycle from now; MULQ and AEXT saturate and raise SAT; MPY, MAC, MSU,
MACQ, ASHL and AADD leave their accumulator modulo 2^40 for the next M syllable and raise AOV on a true result outside
the signed range, MACU on a carry out of bit 39; ACLR, ASHR and ALD raise nothing. IMM5 of 0 in ASHL and ASHR, and of
4 or more in AADD, is reserved and not meant here. Nothing else changes. [R92, R97, R98, R103] -/
def Obligations.MultiplyAccumulate : Prop :=
  (∀ (k : Fin 8) (adv : BitVec 4) (d x y : BitVec 5) (ac : BitVec 2) (who : Initiator) (s : State), s.single k who →
    (let b := s.due who
     let X := b.g[x.toNat]
     let Y := b.g[y.toNat]
     let A := b.acc[ac.toNat]
     ∀ r ∈ [(Instr.mul k adv d x y, BitVec.ofInt 16 (X.toInt * Y.toInt)), (Instr.mulh k adv d x y, BitVec.ofInt 16 ((X.toInt * Y.toInt) / 65536)),
         (Instr.mulhu k adv d x y, BitVec.ofNat 16 (X.toNat * Y.toNat / 65536)), (Instr.aextl k adv d ac, BitVec.ofNat 16 A.toNat),
         (Instr.aexth k adv d ac, BitVec.ofNat 16 (A.toNat / 65536)), (Instr.aextg k adv d ac, BitVec.ofInt 16 (A.toInt / 2 ^ 32))],
       ∃ t, exec r.1 s = .next t ∧ s.issues t k who { b with flight := b.flight ++ [⟨2, .g d r.2⟩] })) ∧
  (∀ (k : Fin 8) (adv : BitVec 4) (d x y : BitVec 5) (ac : BitVec 2) (imm : BitVec 5) (who : Initiator) (s : State), s.single k who →
    (let b := s.due who
     let A := (b.acc[ac.toNat]).toInt
     let round : Int := if imm = 0 ∨ b.c[1].getLsbD 7 = true then 0 else 2 ^ (imm.toNat - 1)
     ∀ r ∈ [(Instr.mulq k adv d x y, ((b.g[x.toNat]).toInt * (b.g[y.toNat]).toInt + 0x4000) / 2 ^ 15),
         (Instr.aext k adv d ac imm, (A + round) / 2 ^ imm.toNat)],
       (let fs : List Flight := if out16 r.2 = true then [⟨2, .flags 0 0 0x0010⟩] else []
        ∃ t, exec r.1 s = .next t ∧
          s.issues t k who { b with flight := b.flight ++ ⟨2, .g d (BitVec.ofInt 16 (max (-32768) (min 32767 r.2)))⟩ :: fs }))) ∧
  (∀ (k : Fin 8) (adv : BitVec 4) (x y : BitVec 5) (ac : BitVec 2) (imm : BitVec 5) (who : Initiator) (s : State), s.single k who →
    (let b := s.due who
     let X := (b.g[x.toNat]).toInt
     let Y := (b.g[y.toNat]).toInt
     let A := (b.acc[ac.toNat]).toInt
     ∀ r ∈ [(Instr.mpy k adv x y ac, true, X * Y), (Instr.mac k adv x y ac, true, A + X * Y), (Instr.msu k adv x y ac, true, A - X * Y),
         (Instr.macq k adv x y ac, true, A + 2 * (X * Y)), (Instr.ashl k adv ac imm, decide (imm ≠ 0), A * 2 ^ imm.toNat),
         (Instr.aadd k adv ac imm, decide (imm.toNat < 4), A + (b.acc.toList.getD imm.toNat 0).toInt)],
       r.2.1 = true →
       (let fs : List Flight := if r.2.2 < -2 ^ 39 ∨ 2 ^ 39 ≤ r.2.2 then [⟨2, .flags 0 0 0x0020⟩] else []
        ∃ t, exec r.1 s = .next t ∧
          s.issues t k who { b with acc := b.acc.set ac.toNat (BitVec.ofInt 40 r.2.2), flight := b.flight ++ fs }))) ∧
  ∀ (k : Fin 8) (adv : BitVec 4) (x y : BitVec 5) (ac : BitVec 2) (imm : BitVec 5) (who : Initiator) (s : State), s.single k who →
    (let b := s.due who
     let A := b.acc[ac.toNat]
     let P := (b.g[x.toNat]).toNat * (b.g[y.toNat]).toNat
     ∀ r ∈ [(Instr.macu k adv x y ac, true, A + BitVec.ofNat 40 P, decide (2 ^ 40 ≤ A.toNat + P)), (Instr.aclr k adv ac, true, 0, false),
         (Instr.ashr k adv ac imm, decide (imm ≠ 0), A.sshiftRight imm.toNat, false),
         (Instr.ald k adv x y ac, true, BitVec.ofInt 40 ((b.g[y.toNat]).toInt * 65536 + (b.g[x.toNat]).toNat), false)],
       r.2.1 = true →
       (let fs : List Flight := if r.2.2.2 = true then [⟨2, .flags 0 0 0x0020⟩] else []
        ∃ t, exec r.1 s = .next t ∧
          s.issues t k who { b with acc := b.acc.set ac.toNat r.2.2.1, flight := b.flight ++ fs }))

/-- Results in flight once a load of latency 4 has joined them: it lands ahead of those that are as far away (R98). -/
def loadIn (fs : List Flight) (l : Landing) : List Flight :=
  (fs.filter fun f => decide (f.left < 4)) ++ ⟨4, l⟩ :: fs.filter fun f => decide (4 ≤ f.left)

/-- The L unit: addresses, loads and stores. LA, ADA, MOVGA and MOVAG leave their result in flight for the next cycle.
LDIM leaves the word that s names, below 6000h, for the second cycle, where no bit error stands in its syllable. The
effective address is a[A] plus the sign-extended IMM12 (MODE 00b), a[A] with a[A] plus IMM12 to follow (01b), or a[A]
plus g[IMM12[4:0]] (10b). LD of a scratchpad word leaves it for the second cycle, and LD of a shared SRAM word that is
served in slot, not LOST and without bit error leaves it for the fourth, ahead of what else lands then, in a run that
is not buffered. ST writes a scratchpad word at once, or an SRAM word in slot, and changes no other word; in a
buffered run with room an SRAM store joins the end of the run's buffer. [R20, R21, R60, R75, R97, R101, R104, R106] -/
def Obligations.LoadsAndStores : Prop :=
  (∀ (k : Fin 8) (adv : BitVec 4) (a a' : BitVec 3) (x y g : BitVec 5) (imm : Addr) (w : W16) (h : Bool) (who : Initiator) (s : State),
    s.single k who →
    (let b := s.due who
     ∀ r ∈ [(Instr.la k adv a imm, Landing.a a imm), (Instr.ada k adv a a' w, Landing.a a (b.a[a'.toNat] + w.signExtend 24)),
         (Instr.movga k adv a x y, Landing.a a (BitVec.ofNat 24 (65536 * ((b.g[y.toNat]).toNat % 256) + (b.g[x.toNat]).toNat))),
         (Instr.movag k adv g a h, Landing.g g (BitVec.ofNat 16 (if h then (b.a[a.toNat]).toNat / 65536 else (b.a[a.toNat]).toNat)))],
       ∃ t, exec r.1 s = .next t ∧ s.issues t k who { b with flight := b.flight ++ [⟨1, r.2⟩] })) ∧
  (∀ (k : Fin 8) (adv : BitVec 4) (g x : BitVec 5) (who : Initiator) (s : State), s.single k who →
    (let b := s.due who
     let i := (b.g[x.toNat]).toNat
     i < 0x6000 → (∀ e ∈ s.ecc, e.mem ≠ k.val + 1 ∨ e.addr ≠ i / 2) →
     ∃ t, exec (.ldim k adv g x) s = .next t ∧ s.issues t k who { b with flight := b.flight ++ [⟨2, .g g (s.imemWord k i)⟩] })) ∧
  (∀ (k : Fin 8) (adv : BitVec 4) (g : BitVec 5) (a : BitVec 3) (mode : BitVec 2) (imm : BitVec 12) (who : Initiator) (s : State),
    s.single k who → mode ≠ 3 → (mode = 2 → imm.toNat < 32) →
    (let b := s.due who
     let A := b.a[a.toNat]
     let ea := (if mode = 0 then A + imm.signExtend 24 else if mode = 1 then A else A + (b.g[imm.toNat % 32]).setWidth 24).toNat
     let up : List Flight := if mode = 1 then [⟨1, .a a (A + imm.signExtend 24)⟩] else []
     (ea < 0x8000 → (∀ e ∈ s.ecc, e.mem ≠ k.val + 9 ∨ e.addr ≠ ea) →
       ∃ t, exec (.ld k adv g a mode imm) s = .next t ∧
         s.issues t k who { b with flight := b.flight ++ up ++ [⟨2, .g g (cellsGet zeroWord s.eng[k].spad ea)⟩] }) ∧
     (s.inSlot adv k ea → s.buffered who = false → s.bankLost (bankOf ea) = false → (∀ e ∈ s.ecc, e.mem ≠ 0 ∨ e.addr ≠ ea) →
       ∃ t, exec (.ld k adv g a mode imm) s = .next t ∧
         s.issues t k who { b with flight := loadIn (b.flight ++ up) (.g g (cellsGet zeroWord s.sram ea)) }))) ∧
  ∀ (k : Fin 8) (adv : BitVec 4) (g : BitVec 5) (a : BitVec 3) (mode : BitVec 2) (imm : BitVec 12) (who : Initiator) (s : State),
    s.single k who → mode ≠ 3 → (mode = 2 → imm.toNat < 32) →
    (let b := s.due who
     let A := b.a[a.toNat]
     let ea := (if mode = 0 then A + imm.signExtend 24 else if mode = 1 then A else A + (b.g[imm.toNat % 32]).setWidth 24).toNat
     let up : List Flight := if mode = 1 then [⟨1, .a a (A + imm.signExtend 24)⟩] else []
     (ea < 0x8000 → s.ecc = [] →
       ∃ t, exec (.st k adv g a mode imm) s = .next t ∧ cellsGet zeroWord t.eng[k].spad ea = b.g[g.toNat] ∧
         (∀ e, e ≠ ea → cellsGet zeroWord t.eng[k].spad e = cellsGet zeroWord s.eng[k].spad e) ∧
         (s.setEngine k { s.eng[k] with spad := t.eng[k].spad }).issues t k who { b with flight := b.flight ++ up }) ∧
     (s.inSlot adv k ea → s.buffered who = false → s.ecc = [] →
       ∃ t, exec (.st k adv g a mode imm) s = .next t ∧ cellsGet zeroWord t.sram ea = b.g[g.toNat] ∧
         (∀ e, e ≠ ea → cellsGet zeroWord t.sram e = cellsGet zeroWord s.sram e) ∧
         ({ s with sram := t.sram }).issues t k who { b with flight := b.flight ++ up }) ∧
     (inSram ea = true → ∀ u ∈ s.taskOfWho who, u.buffered = true → (s.cbuf k u.buf).ents.length < 512 →
       ∃ t, exec (.st k adv g a mode imm) s = .next t ∧ t.sram = s.sram ∧ t.bankOfWho who =
           { b with flight := b.flight ++ up, pc := b.target.getD (b.pc + 1), target := none, cyc := (s.bankOfWho who).cyc + 1 } ∧
         (t.cbuf k u.buf).ents = (s.cbuf k u.buf).ents ++ [.store (BitVec.ofNat 24 ea) b.g[g.toNat]]))

/-- The B unit: branches, calls, traps, the return, the end of a task and BRK. For a bundle that is no delay bundle:
BR, BZ, BNZ, BLTZ, BGEZ, BDEC and JR make the target follow the delay bundle exactly where their condition holds, with
TARGET below 3000h; BDEC leaves g less 1 in flight, and CALL with a complete delay bundle leaves the address after it
for g31. TRAP outside a trap handler saves the bundle's address in TPC, writes TCAUSE and clears TNPC and the address
registers, sets INTRAP, goes to the vector of cause 5 and holds three cycles. RETT goes to TPC, followed by TNPC where
DS is set, after two cycles, with INTRAP to clear in the next. TEND ends an unbuffered task, whose engine keeps its
memories, and leaves the service idle. BRK halts the engine before its bundle issues where halting is enabled, the
lock open, the run unbuffered and the bundle not just resumed, and otherwise does nothing. [R48, R108, R109, R110,
R111, R112, R113, R114, R115] -/
def Obligations.BranchesAndTraps : Prop :=
  (∀ (k : Fin 8) (adv : BitVec 4) (g : BitVec 5) (T : BitVec 14) (who : Initiator) (s : State), s.single k who →
    (s.due who).target = none → T.toNat < 0x3000 →
    (let b := s.due who
     let G := b.g[g.toNat]
     ∀ r ∈ [(Instr.br k adv T, true), (Instr.bz k adv g T, decide (G = 0)), (Instr.bnz k adv g T, decide (G ≠ 0)),
         (Instr.bltz k adv g T, G.msb), (Instr.bgez k adv g T, !G.msb)],
       ∃ t, exec r.1 s = .next t ∧ s.issuesTo t k who b (b.pc + 1) (if r.2 = true then some (T.setWidth 16) else none))) ∧
  (∀ (k : Fin 8) (adv : BitVec 4) (g : BitVec 5) (T : BitVec 14) (who : Initiator) (s : State), s.single k who →
    (s.due who).target = none → T.toNat < 0x3000 →
    (let b := s.due who
     let G := b.g[g.toNat]
     (∃ t, exec (.bdec k adv g T) s = .next t ∧ s.issuesTo t k who { b with flight := b.flight ++ [⟨1, .g g (G - 1)⟩] } (b.pc + 1)
       (if G = 1 then none else some (T.setWidth 16))) ∧
     (∃ t, exec (.jr k adv g) s = .next t ∧ s.issuesTo t k who b (b.pc + 1) (some (BitVec.ofNat 16 (G.toNat % 0x4000)))) ∧
     (let f := fetchBundle (s.syllable k) (b.pc + 1).toNat
      f.beyond = false → (s.syllable k ((b.pc + 1).toNat + f.size - 1)).1.msb = true →
      ∃ t, exec (.call k adv T) s = .next t ∧ s.issuesTo t k who
        { b with flight := b.flight ++ [⟨1, .g 31 (b.pc + 1 + BitVec.ofNat 16 f.size)⟩] } (b.pc + 1) (some (T.setWidth 16))))) ∧
  (∀ (k : Fin 8) (adv : BitVec 4) (code : Octet) (who : Initiator) (s : State), s.single k who → (s.due who).target = none →
    (s.due who).c[1].getLsbD 6 = false →
    (let b := s.due who
     ∃ t, exec (.trap k adv code) s = .next t ∧ (t.bankOfWho who).pc = b.c[2] + 40 ∧ (t.bankOfWho who).hold = 3 ∧
       (t.bankOfWho who).c[1] = b.c[1] ||| 0x0040 ∧ (t.bankOfWho who).c[3] = b.pc ∧ (t.bankOfWho who).c[4] = 0 ∧
       (t.bankOfWho who).c[5] = BitVec.ofNat 16 (16 * code.toNat + 5) ∧ (t.bankOfWho who).c[6] = 0 ∧ (t.bankOfWho who).c[7] = 0 ∧
       (∀ i : Fin 16, i.val ∉ [1, 3, 4, 5, 6, 7] → (t.bankOfWho who).c[i] = b.c[i]) ∧ (t.bankOfWho who).g = b.g ∧ (t.bankOfWho who).a = b.a ∧
       (t.bankOfWho who).acc = b.acc ∧ (t.bankOfWho who).flight = b.flight ∧ t.regs = s.regs ∧ t.sram = s.sram)) ∧
  (∀ (k : Fin 8) (adv : BitVec 4) (who : Initiator) (s : State), s.single k who → (s.due who).target = none →
    (let b := s.due who
     ∃ t, exec (.rett k adv) s = .next t ∧ s.issuesTo t k who { b with hold := 2, flight := b.flight ++ [⟨1, .endTrap⟩] } b.c[3]
       (if b.c[5].getLsbD 15 = true then some b.c[4] else none))) ∧
  (∀ (k : Fin 8) (adv : BitVec 4) (u : Task) (s : State), s.single k (.engine k) → s.eng[k].task = some u → u.buffered = false →
    (s.due (.engine k)).target = none →
    ∃ t, exec (.tend k adv) s = .next t ∧ t.eng[k].task = none ∧ t.eng[k].bank.flight = [] ∧
      t.eng[k].bank.g = (s.due (.engine k)).g ∧ t.eng[k].spad = s.eng[k].spad ∧ t.eng[k].imem = s.eng[k].imem ∧ t.sram = s.sram ∧
      t.seq.monitors.all (fun m => !(m.kind == 2 && m.lap == u.lap && m.index == u.index)) = true) ∧
  (∀ (adv : BitVec 4) (s : State), s.single 0 .service → (s.due .service).target = none →
    ∃ t, exec (.tend 0 adv) s = .next t ∧ t.svcRun = false ∧ t.svc.flight = [] ∧ t.svc.g = (s.due .service).g ∧ s.memKept t ∧
      t.regs = s.regs) ∧
  ∀ (k : Fin 8) (adv : BitVec 4) (who : Initiator) (s : State), s.single k who → (s.due who).target = none →
    (if s.dbgHalt = true ∧ s.vlt.dbglock = false ∧ s.buffered who = false ∧ s.eng[k].resumed = false then
       ∃ t, exec (.brk k adv) s = .next t ∧ t.eng[k].halted = true ∧ t.bankOfWho who = s.due who ∧ t.runner k = none ∧ t.regs = s.regs
     else ∃ t, exec (.brk k adv) s = .next t ∧ s.issues t k who (s.due who))

/-- The Q unit: counts, places, posts, fetches and events. On a valid ring whose index words are served in slot: QAVL
leaves the records ready of a request ring or the places posted of another, QSPACE the free places of a ring engines
may post to, QHEAD the place of the oldest unread record or else of CI, and QTAIL the place of PI, each for the fourth
cycle. In a run that is not buffered, QPOST of N places that are free advances PI by N, each posted place of a request
ring outstanding, and QFETCH of N records or places that are there takes them; in a buffered run with room both join
the end of the buffer. QEVT fires the engine's event N, outside a buffered run. [R75, R107, R249, R250, R253, R262] -/
def Obligations.RingOperations : Prop :=
  (∀ (k : Fin 8) (adv : BitVec 4) (g : BitVec 5) (a : BitVec 3) (n : BitVec 6) (who : Initiator) (s : State), s.single k who →
    s.ringEn n.toNat = true → s.inSlot adv k (s.idxAddr n.toNat) → s.inSlot adv k (s.idxAddr n.toNat + 1) →
    s.inSlot adv k (s.idxAddr n.toNat + 3) →
    (let b := s.due who
     let r := s.ring n.toNat
     ∀ x ∈ [(Instr.qavl k adv g n, true, Landing.g g (if isRequest n.toNat then r.cqw - r.cqr else r.pi - r.ci)),
         (Instr.qspace k adv g n, ringClass n.toNat ≠ 0, Landing.g g (BitVec.ofNat 16 (s.ringSize n.toNat - (r.pi - r.ci).toNat))),
         (Instr.qhead k adv a n, true, Landing.a a (BitVec.ofNat 24
           (s.placeAddr n.toNat (if isRequest n.toNat then r.recs.headD r.ci.toNat else r.ci.toNat)))),
         (Instr.qtail k adv a n, ringClass n.toNat ≠ 0, Landing.a a (BitVec.ofNat 24 (s.placeAddr n.toNat r.pi.toNat)))],
       x.2.1 = true → ∃ t, exec x.1 s = .next t ∧ s.issues t k who { b with flight := b.flight ++ [⟨4, x.2.2⟩] })) ∧
  (∀ (k : Fin 8) (adv : BitVec 4) (n : BitVec 6) (c : BitVec 11) (who : Initiator) (s : State), s.single k who → s.buffered who = false →
    s.ringEn n.toNat = true → s.inSlot adv k (s.idxAddr n.toNat) → 1 ≤ c.toNat → c.toNat ≤ 1024 → ringClass n.toNat ≠ 0 →
    c.toNat ≤ s.ringSpace n.toNat → (isRequest n.toNat = true → s.outstanding + c.toNat ≤ 512) →
    ∃ t, exec (.qpost k adv n c) s = .next t ∧ (t.ring n.toNat).pi = (s.ring n.toNat).pi + BitVec.ofNat 16 c.toNat ∧
      (t.ring n.toNat).out.length = (s.ring n.toNat).out.length + (if isRequest n.toNat then c.toNat else 0) ∧
      (t.ring n.toNat).ci = (s.ring n.toNat).ci ∧ (∀ m : Fin 64, m.val ≠ n.toNat → t.ring m.val = s.ring m.val) ∧
      (t.bankOfWho who).pc = (s.due who).target.getD ((s.due who).pc + 1) ∧ (t.bankOfWho who).g = (s.due who).g ∧
      (t.bankOfWho who).flight = (s.due who).flight ∧ t.mram = s.mram ∧ s.regsKept t [Win.CBL] [A.RING_OUTST, A.RING_STAT n.toNat]) ∧
  (∀ (k : Fin 8) (adv : BitVec 4) (n : BitVec 6) (c : BitVec 11) (who : Initiator) (s : State), s.single k who → s.buffered who = false →
    s.ringEn n.toNat = true → s.inSlot adv k (s.idxAddr n.toNat + (if isRequest n.toNat then 3 else 1)) → 1 ≤ c.toNat → c.toNat ≤ 1024 →
    c.toNat ≤ (if isRequest n.toNat then (s.ring n.toNat).ready else (s.ring n.toNat).used) →
    ∃ t, exec (.qfetch k adv n c) s = .next t ∧
      (if isRequest n.toNat then (t.ring n.toNat).cqr = (s.ring n.toNat).cqr + BitVec.ofNat 16 c.toNat ∧
         (t.ring n.toNat).recs = (s.ring n.toNat).recs.drop c.toNat
       else (t.ring n.toNat).ci = (s.ring n.toNat).ci + BitVec.ofNat 16 c.toNat) ∧
      (t.ring n.toNat).pi = (s.ring n.toNat).pi ∧ (∀ m : Fin 64, m.val ≠ n.toNat → t.ring m.val = s.ring m.val) ∧
      (t.bankOfWho who).pc = (s.due who).target.getD ((s.due who).pc + 1) ∧ (t.bankOfWho who).g = (s.due who).g ∧
      (t.bankOfWho who).flight = (s.due who).flight ∧ t.mram = s.mram) ∧
  (∀ (k : Fin 8) (adv : BitVec 4) (n : BitVec 6) (c : BitVec 11) (u : Task) (s : State), s.single k (.engine k) → s.eng[k].task = some u →
    u.buffered = true → (s.cbuf k u.buf).ents.length < 512 → 1 ≤ c.toNat → c.toNat ≤ 1024 →
    (∃ t, exec (.qpost k adv n c) s = .next t ∧ (t.cbuf k u.buf).ents = (s.cbuf k u.buf).ents ++ [.post n c.toNat] ∧ t.rings = s.rings ∧
      t.sram = s.sram) ∧
    ∃ t, exec (.qfetch k adv n c) s = .next t ∧ (t.cbuf k u.buf).ents = (s.cbuf k u.buf).ents ++ [.fetch n c.toNat] ∧ t.rings = s.rings ∧
      t.sram = s.sram) ∧
  ∀ (k : Fin 8) (adv : BitVec 4) (n : BitVec 2) (who : Initiator) (s : State), s.single k who → s.buffered who = false → s.on 10 = true →
    ∃ t, exec (.qevt k adv n) s = .next t ∧ s.fired t (0x10 + 4 * k.val + n.toNat) 0 ∧ t.sram = s.sram ∧ t.rings = s.rings ∧
      s.regsKept t [Win.CBL] [] ∧ (t.bankOfWho who).pc = (s.due who).target.getD ((s.due who).pc + 1) ∧
      (t.bankOfWho who).g = (s.due who).g

/-- An engine's cycle: the one result that lands, a bundle of one syllable, UNDEF, a data trap, ECC write-back, the
service's events and the debug port. At the start of a runner's cycle the one result in flight lands when it is due in
its g or a register, and written and sticky flags in c0, or comes one cycle nearer. A fetched bundle that is one
syllable runs that syllable's cycle, which for ADD, AND, LD, ST, QPOST, BR and TRAP is that of their rows; an ADD so
fetched leaves the sum and its flags in flight and the next bundle due. Outside a trap handler and a delay bundle, a
bundle whose syllable i is reserved or out of order raises UNDEF with code i, MULTI set where the bundle has a second
trap, and a faulting load whose result is the only one due raises its data trap where the bundle due has no trap of
its own: TPC names the bundle not issued, TCAUSE is as R113 has it, INTRAP is set, the vector is next and three cycles
are held. An ECC write-back removes the corrected error and no other. With PD10 and PD0 on, an event at E0_SVCn sets
its bit and wakes the service. The debug port, with the lock open, sets whether BRK halts and resumes a halted engine,
and with the lock closed gets an error response. [R60, R66, R95, R97, R98, R102, R111, R112, R113, R114, R263] -/
def Obligations.EngineCycles : Prop :=
  (∀ (k : Fin 8) (adv : BitVec 4) (d : BitVec 5) (a : BitVec 3) (v m z : W16) (x : Addr) (n : Nat) (who : Initiator) (s : State),
    s.single k who →
    (let b := s.bankOfWho who
     ∃ t, exec (.nop k adv) s = .next t ∧
       (b.flight = [⟨1, .g d v⟩] → (t.bankOfWho who).g = b.g.set d.toNat v ∧ (t.bankOfWho who).flight = []) ∧
       (b.flight = [⟨1, .a a x⟩] → (t.bankOfWho who).a = b.a.set a.toNat x ∧ (t.bankOfWho who).flight = []) ∧
       (b.flight = [⟨1, .flags m v z⟩] → (t.bankOfWho who).c = b.c.set 0 ((b.c[0] &&& ~~~m) ||| v ||| z)) ∧
       (b.flight = [⟨n + 2, .g d v⟩] → (t.bankOfWho who).g = b.g ∧ (t.bankOfWho who).flight = [⟨n + 1, .g d v⟩]))) ∧
  (∀ (k : Fin 8) (adv : BitVec 4) (x : Syll) (who : Initiator) (s : State), s.single k who → s.ecc = [] →
    fetchBundle (s.syllable k) (s.bankOfWho who).pc.toNat = fetchOne x →
    exec (.bundleIssue k adv) s = .next (issueOne k adv x s)) ∧
  (∀ (k : Fin 8) (adv : BitVec 4) (d x y : BitVec 5) (a : BitVec 3) (m : BitVec 2) (i : BitVec 12) (n : BitVec 6) (c : BitVec 11)
    (T : BitVec 14) (code : Octet) (s : State),
    ∀ r ∈ [(Instr.add k adv d x y, Syll.a (.ar .add d x y)), (Instr.and k adv d x y, Syll.a (.ar .and d x y)),
        (Instr.ld k adv d a m i, Syll.l (.ld d a m i)), (Instr.st k adv d a m i, Syll.l (.st d a m i)),
        (Instr.qpost k adv n c, Syll.q (.qpost n c)), (Instr.br k adv T, Syll.b (.br T)), (Instr.trap k adv code, Syll.b (.trap code))],
      exec r.1 s = .next (issueOne k adv r.2 s)) ∧
  (∀ (k : Fin 8) (adv : BitVec 4) (d x y : BitVec 5) (who : Initiator) (s : State), s.single k who → s.ecc = [] →
    fetchBundle (s.syllable k) (s.bankOfWho who).pc.toNat = fetchOne (.a (.ar .add d x y)) →
    (let b := s.due who
     let X := b.g[x.toNat]
     let Y := b.g[y.toNat]
     ∃ t, exec (.bundleIssue k adv) s = .next t ∧ s.issues t k who { b with flight := b.flight ++
       [⟨1, .g d (X + Y)⟩, cvnzFlags (X + Y) (decide (65536 ≤ X.toNat + Y.toNat)) (out16 (X.toInt + Y.toInt))] })) ∧
  (∀ (k : Fin 8) (adv : BitVec 4) (i : Nat) (who : Initiator) (s : State), s.single k who → s.ecc = [] →
    (s.due who).target = none → (s.due who).c[1].getLsbD 6 = false →
    (let f := fetchBundle (s.syllable k) (s.due who).pc.toNat
     f.undef = some i → f.memerr = false → f.beyond = false → i < 256 →
     ∃ t, exec (.bundleIssue k adv) s = .next t ∧ (t.bankOfWho who).pc = (s.due who).c[2] ∧ (t.bankOfWho who).hold = 3 ∧
       (t.bankOfWho who).c[3] = (s.due who).pc ∧ (t.bankOfWho who).c[5] =
         BitVec.ofNat 16 (16 * i + (if (s.bundleTraps who (s.due who) f).length = 1 then 0 else 0x2000)) ∧
       (t.bankOfWho who).g = (s.due who).g ∧ (t.bankOfWho who).c[1] = (s.due who).c[1] ||| 0x0040)) ∧
  (∀ (k : Fin 8) (adv : BitVec 4) (cause : BitVec 4) (code : BitVec 8) (x : Addr) (who : Initiator) (s : State),
    s.runner k = some who → s.stalledWho who = false → (s.bankOfWho who).flight = [⟨1, .trap cause code x⟩] →
    (s.bankOfWho who).ending = false → (s.bankOfWho who).hold ≤ 1 → (s.bankOfWho who).c[1].getLsbD 6 = false → s.ecc = [] →
    (∀ u ∈ s.taskOfWho who, u.mate = none) → (s.bankOfWho who).target = none →
    s.bundleTraps who { s.bankOfWho who with flight := [] } (fetchBundle (s.syllable k) (s.bankOfWho who).pc.toNat) = [] →
    ∃ t, exec (.dataTrap k adv) s = .next t ∧ (t.bankOfWho who).pc = (s.bankOfWho who).c[2] + BitVec.ofNat 16 (8 * cause.toNat) ∧
      (t.bankOfWho who).hold = 3 ∧ (t.bankOfWho who).c[3] = (s.bankOfWho who).pc ∧ (t.bankOfWho who).g = (s.bankOfWho who).g ∧
      (t.bankOfWho who).c[5] = BitVec.ofNat 16 (0x4000 + 16 * code.toNat + cause.toNat) ∧
      (t.bankOfWho who).c[1] = (s.bankOfWho who).c[1] ||| 0x0040) ∧
  (∀ (k : Fin 8) (spad : Bool) (a : BitVec 15) (s : State), ∃ t, exec (.engineEccWriteBack k spad a) s = .next t ∧
    t = { s with ecc := t.ecc } ∧
    ∀ e, e ∈ t.ecc ↔ e ∈ s.ecc ∧ ¬(e.mem = k.val + 1 + (if spad then 8 else 0) ∧ e.addr = a.toNat ∧ e.counted = true ∧ e.double = false)) ∧
  (∀ (n : Fin 16) (s : State), s.on 10 = true → s.on 0 = true →
    ∃ t, exec (.e0Svc n) s = .next t ∧ t.svcRun = true ∧ t.flag A.ENG_SVCIN n.val = true ∧ s.memKept t ∧
      (∀ j, j < 16 → j ≠ n.val → t.flag A.ENG_SVCIN j = s.flag A.ENG_SVCIN j) ∧ s.regsKept t [Win.CBL] [A.ENG_SVCIN]) ∧
  (∀ (k : Fin 8) (halting : Bool) (s : State), s.vlt.dbglock = false →
    ∃ t, exec (.debugResume k halting) s = .next t ∧ t = { s with dbgHalt := halting, eng := t.eng } ∧ t.eng[k].halted = false ∧
      (∀ j, j ≠ k → t.eng[j] = s.eng[j]) ∧
      (if s.eng[k].halted = true then t.eng[k] = { s.eng[k] with halted := false, resumed := true } else t.eng = s.eng)) ∧
  ∀ (k : Fin 8) (halting : Bool) (s : State), s.vlt.dbglock = true →
    exec (.debugResume k halting) s = .next { s with errors := s.errors + 1 }

/-- Accesses that waited for the crossbar, and the drain of a commit buffer. An engine's access that waits for a slot,
alone of its kind, and whose port may use the bank in this cycle is served: an unbuffered load's word, where no bit
error stands, is in flight for the fourth cycle, and a store is in its SRAM word; the access waits no longer. One
without an own phase for its bank ends after its time: a load raises BUSERR code 3 with its result, a store is
discarded. The first entry of a draining buffer whose port may use its bank is performed, in the buffer's order; one
that never may is discarded with two class 4 records. [R53, R70, R71, R78, R79] -/
def Obligations.CrossbarAndDrain : Prop :=
  (∀ (port adv : BitVec 4) (g : BitVec 5) (k : Fin 8) (w : Access) (s : State), s.slotWait port.toNat = some w → w.kind = .load g →
    w.who = .engine k → (∀ u ∈ s.eng[k].task, u.buffered = false ∧ u.mate = none) → s.sameAccess w = [w] → inSram w.addr = true →
    (s.cycles adv).mayUse port.toNat w.bank = true → s.bankLost (bankOf w.addr) = false → s.ecc = [] →
    s.eng[k].bank.ending = false →
    ∃ t, exec (.offSlotServed port adv) s = .next t ∧ t.waits = s.waits.erase w ∧
      t.eng[k].bank = { s.eng[k].bank with flight := loadIn s.eng[k].bank.flight (.g g (cellsGet zeroWord s.sram w.addr)) } ∧
      t.sram = s.sram ∧ t.regs = s.regs) ∧
  (∀ (port adv : BitVec 4) (v : W16) (k : Fin 8) (w : Access) (s : State), s.slotWait port.toNat = some w → w.kind = .store v →
    w.who = .engine k → s.sameAccess w = [w] → inSram w.addr = true → (s.cycles adv).mayUse port.toNat w.bank = true →
    s.eng[k].bank.ending = false →
    ∃ t, exec (.offSlotServed port adv) s = .next t ∧ t.waits = s.waits.erase w ∧ cellsGet zeroWord t.sram w.addr = v ∧
      (∀ e, e ≠ w.addr → cellsGet zeroWord t.sram e = cellsGet zeroWord s.sram e) ∧ t.regs = s.regs) ∧
  (∀ (port : BitVec 4) (k : Fin 8) (w : Access) (s : State), s.slotWait port.toNat = some w → w.who = .engine k → s.sameAccess w = [w] →
    s.ownPhase port.toNat w.bank = false → s.eng[k].bank.ending = false →
    ∃ t, exec (.crossbarTimeout port) s = .next t ∧ t.waits = s.waits.erase w ∧ t.sram = s.sram ∧ t.regs = s.regs ∧
      (∀ g, w.kind = .load g → t.eng[k].bank.flight = loadIn s.eng[k].bank.flight (.trap 2 3 (BitVec.ofNat 24 w.addr))) ∧
      (∀ v, w.kind = .store v → t.eng = s.eng)) ∧
  (∀ (k : Fin 8) (adv : BitVec 4) (i : Fin 2) (x : Addr) (v : W16) (e : BufEntry) (rest : List BufEntry) (s : State),
    s.drainBuf k = some i → (s.cbuf k i).ents = .store x v :: e :: rest → inSram x.toNat = true →
    s.on 8 = true → (s.cycles adv).drainMayUse k (bankOf x.toNat) = true →
    ∃ t, exec (.drainEntry k adv) s = .next t ∧ (t.cbuf k i).ents = e :: rest ∧ (t.cbuf k i).st = .draining ∧
      cellsGet zeroWord t.sram x.toNat = v ∧
      (∀ a, a ≠ x.toNat → cellsGet zeroWord t.sram a = cellsGet zeroWord s.sram a) ∧ t.mram = s.mram) ∧
  ∀ (k : Fin 8) (i : Fin 2) (x : Addr) (v : W16) (e : BufEntry) (rest : List BufEntry) (s : State), s.drainBuf k = some i →
    (s.cbuf k i).ents = .store x v :: e :: rest → inSram x.toNat = true → s.ownPhase k.val (bankOf x.toNat) = false → s.on 10 = true →
    ∃ t, exec (.drainEntryTimeout k) s = .next t ∧ (t.cbuf k i).ents = e :: rest ∧ t.sram = s.sram ∧
      (t.word (A.SEQ_BRCNT 4)).toNat = min 0xFFFF ((s.word (A.SEQ_BRCNT 4)).toNat + 2)

/-! ## Rings, the Pannier store and the serial units -/

/-- Reservations, aborts, descriptors of a disabled function, and the Pannier store's requests. On a valid ring with
room and nobody holding its reservation, the record of the producer that has waited longest is posted at PI, its banks
being on and none lost or shut to its port, and leaves the queue; a lane that has waited longest takes the reservation
for its frame; while the reservation is held nothing happens. The banks of its places and index words being on, of a
disabled function's ring every descriptor not yet fetched is completed and none else, and an abort request for a
descriptor before its commit point on a request ring outside 1 to 17 and 32 to 39 completes it ABORTED; one past it,
or completed and not yet freed, gets ABORT_TOO_LATE, and one that names no descriptor of a request ring
BAD_DESCRIPTOR, with the ring as it was. The store fetches the next request of its ring, in a bank that is on and not
lost and with words 14 and 15 clear, and keeps it until its completion, which completes it with the status given and
fires PAN_DONE. [R252, R253, R256, R257, R258, R259, R260, R261, R262] -/
def Obligations.RingsAndStore : Prop :=
  (∀ (ring : BitVec 6) (port : Nat) (ws : List W16) (rest : List RingWait) (s : State),
    (s.ring ring.toNat).waiting = .record port ws :: rest → s.ringRoom ring.toNat = true → (s.ring ring.toNat).holder = none →
    s.ringReady ring.toNat (s.ring ring.toNat).pi.toNat = true →
    s.regionErr port (s.placeAddr ring.toNat (s.ring ring.toNat).pi.toNat) ws.length = false →
    ∃ t, exec (.reservationGrant ring) s = .next t ∧ (t.ring ring.toNat).waiting = rest ∧ (t.ring ring.toNat).holder = none ∧
      (t.ring ring.toNat).pi = (s.ring ring.toNat).pi + 1 ∧ t.flag (A.RING_STAT ring.toNat) 12 = false ∧
      t.sram = ((s.sramPuts (s.placeAddr ring.toNat (s.ring ring.toNat).pi.toNat) ws).sramPut (s.idxAddr ring.toNat)
        ((s.ring ring.toNat).pi + 1)).sram ∧ t.mram = s.mram) ∧
  (∀ (ring : BitVec 6) (k : Fin 10) (f : LaneFrame) (rest : List RingWait) (s : State),
    (s.ring ring.toNat).waiting = .lane k :: rest → s.ringRoom ring.toNat = true → (s.ring ring.toNat).holder = none →
    s.lane[k].frame = some f → f.waitsPlace = true → s.lnk.judging = [] →
    ∃ t, exec (.reservationGrant ring) s = .next t ∧ (t.ring ring.toNat).waiting = rest ∧
      (t.ring ring.toNat).holder = some 8 ∧ (t.ring ring.toNat).pi = (s.ring ring.toNat).pi ∧ s.memKept t ∧
      t.lane[k].frame = some { f with place := some ((s.ring ring.toNat).pi.toNat % s.ringSize ring.toNat), waitsPlace := false }) ∧
  (∀ (ring : BitVec 6) (s : State), (s.ring ring.toNat).holder ≠ none → exec (.reservationGrant ring) s = .next s) ∧
  (∀ (ring : BitVec 6) (s : State), s.consumerEn ring.toNat ≠ 1 →
    (∀ d ∈ (s.ring ring.toNat).out, s.ringReady ring.toNat d.1 = true) →
    ∃ t, exec (.cancelOnPost ring) s = .next t ∧ (t.ring ring.toNat).out = (s.ring ring.toNat).out.filter (fun d =>
        !((s.ring ring.toNat).out.any fun e => !e.2.1 && e.1 == d.1)) ∧ (∀ m : Fin 64, m.val ≠ ring.toNat → t.ring m.val = s.ring m.val) ∧
      t.mram = s.mram) ∧
  (∀ (n place : Nat) (s : State), s.abortReq = some (n, place) → n < 64 → s.ringEn n = true → isRequest n = true →
    ∃ t, exec .abortRequestArrival s = .next t ∧ t.abortReq = none ∧ t.flag A.RING_ABORTSTAT 15 = false ∧
      (s.isOut n place = true → s.descCommitted n place = false → 17 < n → (n < 32 ∨ 39 < n) →
        s.ringReady n place = true →
        t.rd A.RING_ABORTSTAT 7 0 = 0x01 ∧ t.isOut n place = false ∧ (t.ring n).recs = (s.ring n).recs ++ [place]) ∧
      (s.descCommitted n place = true ∨ s.isOut n place = false ∧ s.isDone n place = true →
        t.rd A.RING_ABORTSTAT 7 0 = 0x02 ∧ t.rings = s.rings ∧ s.memKept t ∧ s.regsKept t [] [A.RING_ABORTSTAT]) ∧
      (s.isOut n place = false → s.isDone n place = false →
        t.rd A.RING_ABORTSTAT 7 0 = 0x04 ∧ t.rings = s.rings ∧ s.memKept t ∧ s.regsKept t [] [A.RING_ABORTSTAT])) ∧
  (∀ (ring : Fin 4) (p : Nat) (s : State), s.on 15 = true → s.nextDesc (40 + ring.val) = some p →
    s.placeLost (40 + ring.val) p = false → s.genericOk (40 + ring.val) p = true →
    (s.fetchDesc (40 + ring.val) p).1 = true →
    ∃ t, exec (.pannierStoreRequest ring) s = .next t ∧ t.descCommitted (40 + ring.val) p = true ∧ s.memKept t ∧
      t.pan = s.pan ++ [(40 + ring.val, p, (List.range 16).map fun k => s.placeWord (40 + ring.val) p k)] ∧
      s.regsKept t [Win.SEQ, Win.CBL] [A.CLK_GATE, A.CLK_GATESTAT]) ∧
  ∀ (ring : Fin 4) (status : StoreResult) (result : W16) (o : Nat × Nat × List W16) (s : State), s.on 10 = true → s.on 15 = true →
    s.pan.find? (fun o => o.1 == 40 + ring.val) = some o → s.isOut (40 + ring.val) o.2.1 = true →
    s.ringReady (40 + ring.val) o.2.1 = true →
    ∃ t, exec (.pannierStoreCompletion ring status result) s = .next t ∧ t.pan = s.pan.erase o ∧
      t.isOut (40 + ring.val) o.2.1 = false ∧ (t.ring (40 + ring.val)).cqw = (s.ring (40 + ring.val)).cqw + 1 ∧
      (t.ring (40 + ring.val)).recs = (s.ring (40 + ring.val)).recs ++ [o.2.1] ∧ s.fired t 0x51 0 ∧ t.mram = s.mram

/-- Serial transfers and received octets. With PD10 and PD15 on, an event at an enabled unit that is not busy starts
its transfer, BUSY set; one at a busy unit is missed. At a transfer's end the entries sent leave the transmit FIFO and
those received join the receive FIFO, up to 16; the unit is no longer busy, CODE and DONE show how it ended, the
unit's bit of PER_SERSRC is set and PER_SER fires. An octet without error that an enabled UART receives with room
joins its FIFO; one in error, or that finds it full, is discarded and noted; the octet after it shows UART_ERROR.
[R269, R326, R327, R328, R329] -/
def Obligations.SerialUnits : Prop :=
  (∀ (u : Fin 6) (s : State), s.on 10 = true → s.on 15 = true → s.unitBusy u = false → s.rd (A.PER_S_CFG u) 15 14 = 1 →
    ∃ t, exec (.transferStart u) s = .next t ∧ t.unitBusy u = true ∧ t.flag (A.CBL_CONS (0x3F + u.val)) 0 = true ∧ s.memKept t ∧
      (t.unit u).tx = (s.unit u).tx ∧ (t.unit u).rx = (s.unit u).rx ∧
      s.regsKept t [Win.CBL] [A.PER_S_STAT u, A.CLK_GATE, A.CLK_GATESTAT]) ∧
  (∀ (u : Fin 6) (s : State), s.on 10 = true → s.on 15 = true → s.unitBusy u = true →
    ∃ t, exec (.transferStart u) s = .next t ∧ t.ser = s.ser ∧ s.memKept t ∧ s.regsKept t [Win.CBL] [] ∧
      t.rd (A.CBL_CONS (0x3F + u.val)) 15 8 = min 255 (s.rd (A.CBL_CONS (0x3F + u.val)) 15 8 + 1)) ∧
  (∀ (u : Fin 6) (got : List W16) (w : WireResult) (s : State), s.unitBusy u = true → s.on 10 = true → s.on 15 = true →
    (let n := s.transferCounts u
     ∃ t, exec (.transferEnd u got w) s = .next t ∧ t.unitBusy u = false ∧ t.flag (A.PER_S_STAT u) 14 = true ∧
       t.rd (A.PER_S_STAT u) 7 0 = transferCode u w ∧ t.flag A.PER_SERSRC u.val = true ∧ s.memKept t ∧
       (t.unit u).tx = (s.unit u).tx.drop n.1 ∧ (t.unit u).rx = ((s.unit u).rx ++ got.take n.2).take 16 ∧
       s.fired t 0x59 (s.unit u).hop ∧ s.regsKept t [Win.CBL] [A.PER_S_STAT u, A.PER_S_CFG u, A.PER_SERSRC] ∧
       ∀ v : Fin 6, v ≠ u → t.unit v = s.unit v)) ∧
  ∀ (second bad : Bool) (octet : Octet) (s : State),
    (let u := if second then 5 else 4
     s.on 15 = true → s.rd (A.PER_S_CFG u) 15 14 = 1 →
     ∃ t, exec (.uartRxOctet second octet bad) s = .next t ∧ s.memKept t ∧ s.regsKept t [Win.CBL] [A.PER_S_STAT u] ∧
       (if bad = true ∨ 16 ≤ (s.unit u).rx.length then (t.unit u).rx = (s.unit u).rx ∧ (t.unit u).rxErr = true
        else (t.unit u).rx = (s.unit u).rx ++ [octet.setWidth 16] ∧ (t.unit u).rxErr = false) ∧
       ((s.unit u).rxErr = true → t.rd (A.PER_S_STAT u) 7 0 = 0x77))

/-! ## Register accesses -/

/-- Registers whose write does more than store its fields, or whose fields differ from unit to unit. -/
def actingBases : List Nat :=
  [A.SEQ_CTRL, A.PWR_GEARSET, A.PWR_DOMCMD, A.PWR_WSRC 0, A.PWR_WSET 0, A.CLK_CTRL, A.CLK_GATE, A.RING_ABORT, A.CBL_FIRE,
   A.CAD_CC_CFG 0, A.RF_CTRL .A, A.RF_CTRL .B, A.RXE_LANE_CFG 0, A.LNK_CTRL, A.MSH_CTRL, A.MSH_STAGECTL, A.VLT_CTRL, A.GAU_CTRL,
   A.GAU_LIMCFG, A.GAU_DAC_CFG 0, A.PER_S_CFG 0, A.PER_S_CTRL 0, A.PER_S_TXDATA 0, A.PER_S_AUX 0, A.WFL_CFG, A.WFL_ADDRCTL,
   A.WFL_RXFREE, A.WFL_RSPCTL, A.SYS_MWDATA, A.SYS_E0LDDATA, A.ENG_RETSET, A.ENG_REINT, A.ENG_TEST, A.ENG_LDCTL, A.ENG_LDDATA,
   A.JNL_CTRL, A.SEQ_TBLDATA, A.CBL_LEVERS, A.RF_COEX .A, A.RF_COEX .B, A.PER_P_DIR 0, A.PER_P_OUT 0, A.PER_P_FUNC 0,
   A.CAD_PPSCFG, A.RING_GPDATA, A.CBL_LVDATA, A.LNK_HOPDATA, A.MSH_PATHDATA, A.MSH_NBRDATA]

/-- Of those, registers that store their fields like any other, and whose write then moves state that no register holds, or
makes an edge of a pin. -/
def sideBases : List Nat :=
  [A.RF_COEX .A, A.RF_COEX .B, A.GAU_LIMCFG, A.PER_P_DIR 0, A.PER_P_OUT 0, A.PER_P_FUNC 0, A.CAD_PPSCFG]

/-- What field f of a register of one word reads after a write of v. -/
def fieldAfter (s : State) (r : Reg) (k a : Nat) (v : W16) (f : Field) : Nat :=
  let x := bits v.toNat f.hi f.lo
  let y := s.rd a f.hi f.lo
  match f.acc with
  | .ro => y
  | .wo => y
  | .w1c => y &&& (2 ^ (f.hi + 1 - f.lo) - 1 - x)
  | .rw => if s.encOk r k f v.toNat then x else y
  | .rwl => if s.encOk r k f v.toNat ∧ s.committed = false then x else y

/-- A register write stores each field by its access code, refuses reserved encodings and locked fields, and changes
nothing else. A write that reaches a register of one word whose write has no action of its own: each RW field takes
the value written unless it is a reserved encoding, an RWL field too unless the sheet is committed, a W1C field keeps
the bits written 0, RO and WO fields stay; where a field refused its value and the window's flag register's domain is
on, WRITE_REJECTED of the window is set; no other register and nothing else of the state changes. A write of RFx_COEX,
GAU_LIMCFG, CAD_PPSCFG or a port's DIR, OUT or FUNC stores its fields the same way, and changes of other registers
only EVTFLAG of the ports and, where one is set, the cable window. A write to a word of a window that no register map
defines is answered with an error and sets WRITE_REJECTED; outside every window it is answered with an error alone;
and a write by the debug port while the debug lock is set is answered with an error and changes nothing. [R11, R13,
R18, R19, R25, R355] -/
def Obligations.RegisterWriteStores : Prop :=
  (∀ (who : Initiator) (addr : Addr) (v : W16) (s : State) (r : Reg) (k : Nat), findReg addr.toNat = some (r, k, 0) → r.words = 1 →
    r.base ∉ actingBases → addr.toNat ≠ A.JNL_STAGE 15 → s.reaches who r.dom →
    ∃ t, exec (.registerWrite who addr v) s = .next t ∧ t = { s with regs := t.regs } ∧
      (∀ f ∈ r.fields, t.rd addr.toNat f.hi f.lo = fieldAfter s r k addr.toNat v f) ∧
      (∀ w, windowOf addr.toNat = some w → s.regsKept t [] [addr.toNat, A.FLAGS w]) ∧
      (∀ w, windowOf addr.toNat = some w → s.on (windowDom w) = true →
        (∃ f ∈ r.fields, (f.acc = .rwl ∧ s.committed = true) ∨ (f.acc = .rw ∨ f.acc = .rwl ∨ f.acc = .wo) ∧
          s.encOk r k f v.toNat = false) → t.flag (A.FLAGS w) 0 = true)) ∧
  (∀ (who : Initiator) (addr : Addr) (v : W16) (s : State) (r : Reg) (k : Nat), findReg addr.toNat = some (r, k, 0) →
    r.words = 1 → r.base ∈ sideBases → s.reaches who r.dom →
    ∃ t, exec (.registerWrite who addr v) s = .next t ∧ s.memKept t ∧ t.rings = s.rings ∧ t.eng = s.eng ∧ t.pwr = s.pwr ∧
      (∀ f ∈ r.fields, t.rd addr.toNat f.hi f.lo = fieldAfter s r k addr.toNat v f) ∧
      ∀ w, windowOf addr.toNat = some w →
        s.regsKept t [Win.CBL] ([addr.toNat, A.FLAGS w] ++ (List.range 6).map fun p => A.PER_P_EVTFLAG p)) ∧
  (∀ (who : Initiator) (addr : Addr) (v : W16) (s : State) (w : Nat), regionOf addr.toNat = .hole w → s.shutOut who = false →
    ∃ t, exec (.registerWrite who addr v) s = .next t ∧ t = { s with regs := t.regs, errors := s.errors + 1 } ∧
      s.regsKept t [] [A.FLAGS w] ∧ (s.on (windowDom w) = true → t.flag (A.FLAGS w) 0 = true)) ∧
  (∀ (who : Initiator) (addr : Addr) (v : W16) (s : State), regionOf addr.toNat = .unmapped → s.shutOut who = false →
    exec (.registerWrite who addr v) s = .next { s with errors := s.errors + 1 }) ∧
  ∀ (addr : Addr) (v : W16) (s : State), s.vlt.dbglock = true →
    exec (.registerWrite .debug addr v) s = .next { s with errors := s.errors + 1 }

/-- The data registers behind address registers. A write that reaches SEQ_TBLDATA, CBL_LVDATA or LNK_HOPDATA with the
sheet not committed stores the word (reserved bits 0) in the place its address register selects and no other, and
moves the address on by one place; while the sheet is committed nothing is stored, WRITE_REJECTED is set and the
address moves on. A read shows the word and moves the address on. RING_GPDATA does the same nibble by nibble, a
reserved port code leaving its nibble. MSH_PATHDATA stores VALID, and CLASS and NBR unless they are 0 and 3FFh;
MSH_NBRDATA stores a word of the neighbour table, in words 6, 14 and 15 its defined bits only, whether the sheet is
committed or not; 0000h is refused for SHORT, and a write that comes while a frame is judged is kept until the
judgement is over. [R3, R10, R39, R69, R72, R192, R215, R235, R245, R246, R266] -/
def Obligations.DataRegisters : Prop :=
  (∀ (who : Initiator) (v : W16) (s : State), s.reaches who 10 →
    ∃ t, exec (.seqTbldataAccess who (some v)) s = .next t ∧
      (∀ a, cellsGet zeroWord t.seq.table a =
        if a = (s.word A.SEQ_TBLADDR).toNat ∧ s.committed = false then v else cellsGet zeroWord s.seq.table a) ∧
      t.word A.SEQ_TBLADDR = s.word A.SEQ_TBLADDR + 1 ∧ (s.committed = true → t.flag (A.FLAGS 0) 0 = true) ∧
      t = { s with regs := t.regs, seq := { s.seq with table := t.seq.table } } ∧
      s.regsKept t [] ([A.SEQ_TBLADDR] ++ if s.committed then [A.FLAGS 0] else [])) ∧
  (∀ (who : Initiator) (s : State), s.reaches who 10 →
    ∃ t, exec (.seqTbldataAccess who none) s = .next t ∧
      t.lastRead = cellsGet zeroWord s.seq.table (s.word A.SEQ_TBLADDR).toNat ∧
      t.word A.SEQ_TBLADDR = s.word A.SEQ_TBLADDR + 1 ∧ t = { s with regs := t.regs, lastRead := t.lastRead } ∧
      s.regsKept t [] [A.SEQ_TBLADDR]) ∧
  (∀ (who : Initiator) (v : W16) (s : State), s.reaches who 10 →
    ∃ t, exec (.cblLvdataAccess who (some v)) s = .next t ∧
      (∀ c, cellsGet zeroWord t.cbl.gate c =
        if c = s.rd A.CBL_LVADDR 9 0 ∧ s.committed = false then v &&& 0x1F else cellsGet zeroWord s.cbl.gate c) ∧
      t.rd A.CBL_LVADDR 9 0 = (s.rd A.CBL_LVADDR 9 0 + 1) % 640 ∧ (s.committed = true → t.flag (A.FLAGS 4) 0 = true) ∧
      t = { s with regs := t.regs, cbl := { s.cbl with gate := t.cbl.gate } } ∧
      s.regsKept t [] ([A.CBL_LVADDR] ++ if s.committed then [A.FLAGS 4] else [])) ∧
  (∀ (who : Initiator) (s : State), s.reaches who 10 →
    ∃ t, exec (.cblLvdataAccess who none) s = .next t ∧ t.lastRead = cellsGet zeroWord s.cbl.gate (s.rd A.CBL_LVADDR 9 0) ∧
      t.rd A.CBL_LVADDR 9 0 = (s.rd A.CBL_LVADDR 9 0 + 1) % 640 ∧ t = { s with regs := t.regs, lastRead := t.lastRead } ∧
      s.regsKept t [] [A.CBL_LVADDR]) ∧
  (∀ (who : Initiator) (v : W16) (s : State), s.reaches who 11 →
    ∃ t, exec (.lnkHopdataAccess who (some v)) s = .next t ∧
      (∀ i, cellsGet zeroWord t.lnk.hops i =
        if i = s.rd A.LNK_HOPADDR 7 0 ∧ s.committed = false then v &&& 0xC3FF else cellsGet zeroWord s.lnk.hops i) ∧
      t.rd A.LNK_HOPADDR 6 0 = (s.rd A.LNK_HOPADDR 6 0 + 1) % 128 ∧ t.rd A.LNK_HOPADDR 7 7 = s.rd A.LNK_HOPADDR 7 7 ∧
      (s.committed = true → t.flag (A.FLAGS 10) 0 = true) ∧
      t = { s with regs := t.regs, lnk := { s.lnk with hops := t.lnk.hops } } ∧
      s.regsKept t [] ([A.LNK_HOPADDR] ++ if s.committed then [A.FLAGS 10] else [])) ∧
  (∀ (who : Initiator) (s : State), s.reaches who 11 →
    ∃ t, exec (.lnkHopdataAccess who none) s = .next t ∧ t.lastRead = cellsGet zeroWord s.lnk.hops (s.rd A.LNK_HOPADDR 7 0) ∧
      t.rd A.LNK_HOPADDR 6 0 = (s.rd A.LNK_HOPADDR 6 0 + 1) % 128 ∧ t.rd A.LNK_HOPADDR 7 7 = s.rd A.LNK_HOPADDR 7 7 ∧
      t = { s with regs := t.regs, lastRead := t.lastRead } ∧ s.regsKept t [] [A.LNK_HOPADDR]) ∧
  (∀ (who : Initiator) (v : W16) (s : State), s.reaches who 8 →
    (let i := s.rd A.RING_GPADDR 12 0
     ∃ t, exec (.ringGpdataAccess who (some v)) s = .next t ∧
       (∀ m, m < 4 → (let c := bits v.toNat (4 * m + 3) (4 * m)
         bits (cellsGet onesWord t.patterns i).toNat (4 * m + 3) (4 * m) =
           if s.committed = false ∧ (c < 12 ∨ c = 15) then c else bits (cellsGet onesWord s.patterns i).toNat (4 * m + 3) (4 * m))) ∧
       (∀ a, a ≠ i → cellsGet onesWord t.patterns a = cellsGet onesWord s.patterns a) ∧
       t.rd A.RING_GPADDR 12 0 = (i + 1) % 8192 ∧ (s.committed = true → t.flag (A.FLAGS 3) 0 = true) ∧ t.sram = s.sram ∧
       t.mram = s.mram ∧ t.rings = s.rings ∧ s.regsKept t [] [A.RING_GPADDR, A.FLAGS 3])) ∧
  (∀ (who : Initiator) (s : State), s.reaches who 8 →
    ∃ t, exec (.ringGpdataAccess who none) s = .next t ∧ t.lastRead = cellsGet onesWord s.patterns (s.rd A.RING_GPADDR 12 0) ∧
      t.rd A.RING_GPADDR 12 0 = (s.rd A.RING_GPADDR 12 0 + 1) % 8192 ∧ s.memKept t ∧ t.rings = s.rings ∧
      s.regsKept t [] [A.RING_GPADDR, A.PWR_ECCCNT]) ∧
  (∀ (who : Initiator) (v : W16) (s : State), s.reaches who 11 →
    (let p := s.rd A.MSH_PATHADDR 7 0
     ∃ t, exec (.mshPathdataAccess who (some v)) s = .next t ∧ bits (t.pathWord p) 15 15 = bits v.toNat 15 15 ∧
       bits (t.pathWord p) 13 10 = (if bits v.toNat 13 10 = 0 then bits (s.pathWord p) 13 10 else bits v.toNat 13 10) ∧
       bits (t.pathWord p) 9 0 = (if bits v.toNat 9 0 = 0x3FF then bits (s.pathWord p) 9 0 else bits v.toNat 9 0) ∧
       (∀ q, q ≠ p → t.pathWord q = s.pathWord q) ∧ t.rd A.MSH_PATHADDR 7 0 = (p + 1) % 256 ∧
       (bits v.toNat 13 10 = 0 ∨ bits v.toNat 9 0 = 0x3FF → t.flag (A.FLAGS 11) 0 = true) ∧
       t = { s with regs := t.regs, msh := { s.msh with path := t.msh.path } } ∧ s.regsKept t [] [A.MSH_PATHADDR, A.FLAGS 11])) ∧
  (∀ (who : Initiator) (s : State), s.reaches who 11 →
    ∃ t, exec (.mshPathdataAccess who none) s = .next t ∧ t.lastRead.toNat = s.pathWord (s.rd A.MSH_PATHADDR 7 0) ∧
      t.rd A.MSH_PATHADDR 7 0 = (s.rd A.MSH_PATHADDR 7 0 + 1) % 256 ∧ t = { s with regs := t.regs, lastRead := t.lastRead } ∧
      s.regsKept t [] [A.MSH_PATHADDR]) ∧
  (∀ (who : Initiator) (v : W16) (s : State), s.reaches who 11 →
    (let n := s.rd A.MSH_NBRADDR 13 0 / 16
     let w := s.rd A.MSH_NBRADDR 13 0 % 16
     s.lnk.judging = [] → ¬ (w = 0 ∧ v = 0) →
     ∃ t, exec (.mshNbrdataAccess who (some v)) s = .next t ∧
       (w ≠ 5 → w ≠ 6 → w < 14 → t.nbr n w = v.toNat) ∧ (w = 6 → t.nbr n w = bits v.toNat 15 12 * 4096) ∧
       (w = 14 → t.nbr n w = bits v.toNat 15 8 * 256) ∧ (w = 15 → t.nbr n w = 0) ∧
       (w = 5 → bits (t.nbr n 5) 15 15 = (if n = 0x3FF then 0 else bits v.toNat 15 15) ∧ bits (t.nbr n 5) 14 12 = bits v.toNat 14 12 ∧
         bits (t.nbr n 5) 8 8 = 0 ∧ bits (t.nbr n 5) 7 0 = bits v.toNat 7 0 ∧
         bits (t.nbr n 5) 11 9 = (if bits v.toNat 11 9 < 5 then bits v.toNat 11 9 else bits (s.nbr n 5) 11 9)) ∧
       (∀ m j, m < 1024 → j < 16 → (m, j) ≠ (n, w) → t.nbr m j = s.nbr m j) ∧
       t.rd A.MSH_NBRADDR 13 0 = (s.rd A.MSH_NBRADDR 13 0 + 1) % 16384 ∧ t.mram = s.mram ∧
       (s.rd A.MSH_TSTAT 15 13 = 0 ∨ s.rd A.MSH_TSTAT 15 13 = 2 → s.memKept t ∧ t.rings = s.rings ∧
         s.regsKept t [] [A.MSH_NBRADDR, A.FLAGS 11]))) ∧
  (∀ (who : Initiator) (v : W16) (s : State), s.reaches who 11 →
    (let i := s.rd A.MSH_NBRADDR 13 0
     (i % 16 = 0 → v = 0 →
       ∃ t, exec (.mshNbrdataAccess who (some v)) s = .next t ∧ t.flag (A.FLAGS 11) 0 = true ∧ t.rd A.MSH_NBRADDR 13 0 = (i + 1) % 16384 ∧
         t = { s with regs := t.regs } ∧ s.regsKept t [] [A.MSH_NBRADDR, A.FLAGS 11]) ∧
     (s.lnk.judging ≠ [] → ¬ (i % 16 = 0 ∧ v = 0) →
       ∃ t, exec (.mshNbrdataAccess who (some v)) s = .next t ∧ t.rd A.MSH_NBRADDR 13 0 = (i + 1) % 16384 ∧
         t = { s with regs := t.regs, msh := { s.msh with nbrLate := s.msh.nbrLate ++ [(i, v)] } } ∧
         s.regsKept t [] [A.MSH_NBRADDR, A.FLAGS 11]))) ∧
  ∀ (who : Initiator) (s : State), s.reaches who 11 →
    ∃ t, exec (.mshNbrdataAccess who none) s = .next t ∧
      t.lastRead.toNat = s.nbr (s.rd A.MSH_NBRADDR 13 0 / 16) (s.rd A.MSH_NBRADDR 13 0 % 16) ∧
      t.rd A.MSH_NBRADDR 13 0 = (s.rd A.MSH_NBRADDR 13 0 + 1) % 16384 ∧ t = { s with regs := t.regs, lastRead := t.lastRead } ∧
      s.regsKept t [] [A.MSH_NBRADDR]

/-! ## Register writes that act -/

/-- Writes to SEQ_CTRL, CBL_FIRE, RING_GPCUR and RING_ABORT. With PD10 on, COMMIT starts the check while the sequencer
is idle and is ignored otherwise, RELEASE makes a running sheet releasing and is ignored otherwise, POP discards the
head of the breach log and CLRCNT clears every breach counter. CBL_FIRE fires the producer named with hop 0, and a
number above 95 sets WRITE_REJECTED and fires nothing. With PD8 on, RING_GPCUR takes the pattern unless the sheet is
committed; RING_ABORT starts a request for the ring and place, and while one is in progress only sets WRITE_REJECTED.
Nothing else changes. [R39, R40, R53, R69, R72, R259, R262, R263, R265, R270] -/
def Obligations.SequencerAndRingWrites : Prop :=
  (∀ (who : Initiator) (s : State), s.reaches who 10 →
    ∃ t, exec (.seqCtrlCommit who) s = .next t ∧
      t.rd A.SEQ_STAT 11 10 = (if s.rd A.SEQ_STAT 11 10 = 0 then 1 else s.rd A.SEQ_STAT 11 10) ∧
      t = { s with regs := t.regs } ∧ s.regsKept t [] (if s.rd A.SEQ_STAT 11 10 = 0 then [A.SEQ_STAT] else [])) ∧
  (∀ (who : Initiator) (s : State), s.reaches who 10 →
    ∃ t, exec (.seqCtrlRelease who) s = .next t ∧
      t.rd A.SEQ_STAT 11 10 = (if s.rd A.SEQ_STAT 11 10 = 2 then 3 else s.rd A.SEQ_STAT 11 10) ∧
      t = { s with regs := t.regs } ∧ s.regsKept t [] (if s.rd A.SEQ_STAT 11 10 = 2 then [A.SEQ_STAT] else [])) ∧
  (∀ (who : Initiator) (s : State), s.reaches who 10 → 1 ≤ s.seq.log.length → s.seq.log.length ≤ 16 →
    ∃ t, exec (.seqCtrlPop who) s = .next t ∧ t.seq.log = s.seq.log.tail ∧
      t.rd A.SEQ_BRLOGSTAT 4 0 = s.seq.log.length - 1 ∧ t.flag A.SEQ_BRLOGSTAT 8 = s.flag A.SEQ_BRLOGSTAT 8 ∧
      t = { s with regs := t.regs, seq := t.seq } ∧ t.seq = { s.seq with log := t.seq.log } ∧ s.regsKept t [] [A.SEQ_BRLOGSTAT]) ∧
  (∀ (who : Initiator) (s : State), s.reaches who 10 →
    ∃ t, exec (.seqCtrlClrcnt who) s = .next t ∧ (∀ k : Fin 16, t.word (A.SEQ_BRCNT k.val) = 0) ∧ t = { s with regs := t.regs } ∧
      s.regsKept t [] ((List.range 16).map A.SEQ_BRCNT)) ∧
  (∀ (who : Initiator) (p : BitVec 7) (s : State), s.reaches who 10 → p.toNat < 96 →
    ∃ t, exec (.cblFireWrite who p) s = .next t ∧ s.fired t p.toNat 0 ∧
      (∀ e ∈ s.cbl.flight, e ∈ t.cbl.flight) ∧ t = { s with regs := t.regs, cbl := { s.cbl with flight := t.cbl.flight } } ∧
      s.regsKept t [Win.CBL] []) ∧
  (∀ (who : Initiator) (p : BitVec 7) (s : State), s.reaches who 10 → 96 ≤ p.toNat →
    ∃ t, exec (.cblFireWrite who p) s = .next t ∧ t.flag (A.FLAGS 4) 0 = true ∧ t = { s with regs := t.regs } ∧
      s.regsKept t [] [A.FLAGS 4]) ∧
  (∀ (who : Initiator) (p : BitVec 6) (s : State), s.reaches who 8 →
    ∃ t, exec (.ringGpcurWrite who p) s = .next t ∧
      t.rd A.RING_GPCUR 5 0 = (if s.committed then s.rd A.RING_GPCUR 5 0 else p.toNat) ∧
      (s.committed = true → t.flag (A.FLAGS 3) 0 = true) ∧ t = { s with regs := t.regs } ∧
      s.regsKept t [] [if s.committed then A.FLAGS 3 else A.RING_GPCUR]) ∧
  (∀ (who : Initiator) (r : BitVec 6) (p : BitVec 10) (s : State), s.reaches who 8 → s.flag A.RING_ABORTSTAT 15 = false →
    ∃ t, exec (.ringAbortWrite who r p) s = .next t ∧ t.flag A.RING_ABORTSTAT 15 = true ∧
      t = { s with regs := t.regs, abortReq := some (r.toNat, p.toNat) } ∧ s.regsKept t [] [A.RING_ABORTSTAT]) ∧
  ∀ (who : Initiator) (r : BitVec 6) (p : BitVec 10) (s : State), s.reaches who 8 → s.flag A.RING_ABORTSTAT 15 = true →
    ∃ t, exec (.ringAbortWrite who r p) s = .next t ∧ t.flag (A.FLAGS 3) 0 = true ∧ t = { s with regs := t.regs } ∧
      s.regsKept t [] [A.FLAGS 3]

/-- Writes to engine control, power and clocks. ENG_LDDATA stores the word at ENG_LDADDR of the memory ENG_LDCTL
selects and moves the address on, when that engine is on and idle and the address lies in the memory, and else sets
WRITE_REJECTED; DONE sets LOADED of engine 1 to 7. A self-test starts only when none runs, the engine is on and idle
with no buffer to drain, and it is retired or the sequencer is idle; TESTPASS is then cleared. ENG_REINT acts only
with A5h on a retired engine whose TESTPASS and LOADED read 1 and have been set since it was retired: its retirement
ends, and degraded operation at the next slot boundary (with another engine still retired, that is the model's choice,
log entry 98). ENG_RETSET adds retirements in increasing order while the sequencer is idle; an engine that the record
already holds as retired keeps its marks (the model's choice, log entry 97). PWR_DOMCMD queues the domain's
transition, in the place of one already pending, except for a retired engine's domain held off and, while the sheet is
committed, for PD8, PD10 or PD11 to off. PWR_GEARSET sets the target gear only while the sequencer is idle, and with
XO32M not qualified the gear is held instead. CLK_GATE gates units of domains that are on and opens the others' gates
as written; RECHECK starts the RC oscillator. Each refused write sets WRITE_REJECTED of its window and changes nothing
else. [R60, R62, R85, R86, R88, R89, R273, R276, R287, R290, R291, R293] -/
def Obligations.EngineAndPowerWrites : Prop :=
  (∀ (who : Initiator) (v : W16) (s : State), s.shutOut who = false →
    (let k := engIx (s.rd A.ENG_LDCTL 2 0)
     let spad := s.flag A.ENG_LDCTL 4
     let a := s.rd A.ENG_LDADDR 14 0
     (s.on k.val = true → s.engIdle k = true → a < memWords spad →
       ∃ t, exec (.engLddataWrite who v) s = .next t ∧ t.rd A.ENG_LDADDR 14 0 = (a + 1) % 0x8000 ∧
         (∀ x, cellsGet zeroWord (if spad then t.eng[k].spad else t.eng[k].imem) x =
           if x = a then v else cellsGet zeroWord (if spad then s.eng[k].spad else s.eng[k].imem) x) ∧
         t.eng[k] = { s.eng[k] with spad := t.eng[k].spad, imem := t.eng[k].imem } ∧
         (if spad then t.eng[k].imem = s.eng[k].imem else t.eng[k].spad = s.eng[k].spad) ∧
         (∀ j : Fin 8, j ≠ k → t.eng[j] = s.eng[j]) ∧ t = { s with regs := t.regs, eng := t.eng, ecc := t.ecc } ∧
         s.regsKept t [] [A.ENG_LDADDR]) ∧
     (s.on k.val = false ∨ s.engIdle k = false ∨ memWords spad ≤ a →
       ∃ t, exec (.engLddataWrite who v) s = .next t ∧ t.flag (A.FLAGS 18) 0 = true ∧ t = { s with regs := t.regs } ∧
         s.regsKept t [] [A.FLAGS 18]))) ∧
  (∀ (who : Initiator) (k : Fin 8) (s : State), s.shutOut who = false → k.val ≠ 0 →
    ∃ t, exec (.engLdctlDone who k) s = .next t ∧ t.rd A.ENG_LDCTL 2 0 = k.val ∧ t.rd A.ENG_LDCTL 4 4 = s.rd A.ENG_LDCTL 4 4 ∧
      t.flag (A.ENG_STAT k.val) 10 = true ∧ t.eng[k] = { s.eng[k] with loadSince := true } ∧
      (∀ j : Fin 8, j ≠ k → t.eng[j] = s.eng[j]) ∧ s.memKept t ∧ s.regsKept t [] [A.ENG_LDCTL, A.ENG_STAT k.val]) ∧
  (∀ (who : Initiator) (k : Fin 8) (s : State), s.shutOut who = false →
    (let may := s.selfTest = none ∧ s.on k.val = true ∧ s.engIdle k = true ∧ s.drains k = false ∧ (s.retired k.val = true ∨ s.rd A.SEQ_STAT 11 10 = 0)
     ∃ t, exec (.engTestStart who k) s = .next t ∧ t.rd A.ENG_TEST 2 0 = k.val ∧ s.memKept t ∧
       (may → t.eng = s.eng.set k { s.eng[k] with passSince := false } ∧ t.selfTest = some k ∧ t.flag A.ENG_TEST 15 = true ∧ t.flag (A.ENG_STAT k.val) 9 = false ∧
         s.regsKept t [] [A.ENG_TEST, A.ENG_STAT k.val]) ∧
       (¬ may → t.eng = s.eng ∧ t.selfTest = s.selfTest ∧ t.flag (A.FLAGS 18) 0 = true ∧ s.regsKept t [] [A.ENG_TEST, A.FLAGS 18]))) ∧
  (∀ (who : Initiator) (c : Octet) (k : Fin 8) (s : State), s.shutOut who = false → c = 0xA5 → s.retired k.val = true →
    s.provenSince k = true →
    ∃ t, exec (.engReintWrite who c k) s = .next t ∧ (∀ j : Fin 8, t.retired j.val = (s.retired j.val && j != k)) ∧
      t.retOrder = s.retOrder.filter (fun x => x != k) ∧ (t.engine k).passSince = false ∧ (t.engine k).loadSince = false ∧
      t.seq.degradedNext = some false ∧ (t.retOrder = [] → t.seq.placeNext = some 0) ∧ k ∉ t.seq.offNext ∧ s.memKept t ∧
      t.upd.retSet.getLsbD k.val = false ∧ ∃ e ∈ t.dict.jnl, e.type = 0x11) ∧
  (∀ (who : Initiator) (c : Octet) (k : Fin 8) (s : State), s.shutOut who = false →
    (c ≠ 0xA5 ∨ s.retired k.val = false ∨ s.provenSince k = false) →
    ∃ t, exec (.engReintWrite who c k) s = .next t ∧ t.flag (A.FLAGS 18) 0 = true ∧ t = { s with regs := t.regs } ∧
      s.regsKept t [] [A.FLAGS 18]) ∧
  (∀ (who : Initiator) (set : BitVec 8) (s : State), s.shutOut who = false → s.rd A.SEQ_STAT 11 10 = 0 →
    ∃ t, exec (.engRetsetWrite who set) s = .next t ∧ (∀ k : Fin 8, t.retired k.val = (s.retired k.val || set.getLsbD k.val)) ∧
      t.retOrder = s.retOrder ++ (List.finRange 8).filter (fun k => set.getLsbD k.val && !s.retired k.val) ∧
      t = { s with regs := t.regs, retOrder := t.retOrder, eng := t.eng } ∧ s.regsKept t [] [A.ENG_RETIRED] ∧
      ∀ k : Fin 8, t.eng[k] = { s.eng[k] with passSince := t.eng[k].passSince, loadSince := t.eng[k].loadSince } ∧
        (set.getLsbD k.val = false ∨ s.retired k.val = true ∨ s.upd.retSet.getLsbD k.val = true → t.eng[k] = s.eng[k])) ∧
  (∀ (who : Initiator) (set : BitVec 8) (s : State), s.shutOut who = false → s.rd A.SEQ_STAT 11 10 ≠ 0 →
    ∃ t, exec (.engRetsetWrite who set) s = .next t ∧ t.flag (A.FLAGS 18) 0 = true ∧ t = { s with regs := t.regs } ∧
      s.regsKept t [] [A.FLAGS 18]) ∧
  (∀ (who : Initiator) (d : Fin 16) (st : BitVec 2) (s : State), s.shutOut who = false →
    (let held := s.heldOff d.val = true ∧ who ≠ .service
     let locked := s.committed = true ∧ st = 0 ∧ (d.val = 8 ∨ d.val = 10 ∨ d.val = 11)
     (st ≠ 3 → ¬ held → ¬ locked →
       ∃ t, exec (.pwrDomcmdWrite who d st) s = .next t ∧
         t.pwr.queue = replaceTransition ⟨d.val, st.toNat, if d.val = 8 then BitVec.ofNat 32 (s.rdw A.PWR_DOMBANKS 2) else 0, false, none⟩ s.pwr.queue ∧
         t.rd A.PWR_XSTAT 4 0 = min 31 t.pwr.queue.length ∧ t = { s with regs := t.regs, pwr := { s.pwr with queue := t.pwr.queue } } ∧
         s.regsKept t [] [A.PWR_XSTAT]) ∧
     (st = 3 ∨ held ∨ locked →
       ∃ t, exec (.pwrDomcmdWrite who d st) s = .next t ∧ t.flag (A.FLAGS 1) 0 = true ∧ t = { s with regs := t.regs } ∧
         s.regsKept t [] [A.FLAGS 1]))) ∧
  (∀ (who : Initiator) (g : BitVec 3) (s : State), s.shutOut who = false → s.rd A.SEQ_STAT 11 10 = 0 → g.toNat ≤ 4 →
    s.flag A.CLK_STAT 15 = true → s.clk.pllWait = false →
    ∃ t, exec (.pwrGearsetWrite who g) s = .next t ∧ t.rd A.PWR_GEAR 6 4 = g.toNat ∧ s.memKept t ∧ t.rings = s.rings ∧
      (s.flag A.PWR_GEAR 15 = false → s.rd A.PWR_GEAR 2 0 ≠ g.toNat → t.flag A.PWR_GEAR 15 = true)) ∧
  (∀ (who : Initiator) (g : BitVec 3) (s : State), s.shutOut who = false →
    s.rd A.SEQ_STAT 11 10 ≠ 0 ∨ 4 < g.toNat →
    ∃ t, exec (.pwrGearsetWrite who g) s = .next t ∧ t.flag (A.FLAGS 1) 0 = true ∧ t = { s with regs := t.regs } ∧
      s.regsKept t [] [A.FLAGS 1]) ∧
  (∀ (who : Initiator) (g : BitVec 3) (s : State), s.shutOut who = false → s.rd A.SEQ_STAT 11 10 = 0 → g.toNat ≤ 4 →
    s.flag A.CLK_STAT 15 = false →
    ∃ t, exec (.pwrGearsetWrite who g) s = .next t ∧ t.flag A.PWR_GEAR 14 = true ∧ t.rd A.PWR_GEAR 6 4 = s.rd A.PWR_GEAR 6 4 ∧
      s.memKept t) ∧
  (∀ (who : Initiator) (m : BitVec 15) (s : State), s.shutOut who = false →
    ∃ t, exec (.clkGateWrite who m) s = .next t ∧
      (∀ n : Fin 15, t.flag A.CLK_GATE n.val =
          (m.getLsbD n.val && (s.on (gateDom n.val) || s.flag A.CLK_GATE n.val)) ∧
        t.flag A.CLK_GATESTAT n.val = (m.getLsbD n.val && s.flag A.CLK_GATESTAT n.val)) ∧
      t = { s with regs := t.regs } ∧ s.regsKept t [] [A.CLK_GATE, A.CLK_GATESTAT]) ∧
  ∀ (who : Initiator) (s : State), s.shutOut who = false →
    ∃ t, exec (.clkCtrlRecheck who) s = .next t ∧ t.clk.rcRun = true ∧ t.flag A.CLK_CTRL 15 = s.flag A.CLK_CTRL 15 ∧
      t = { s with regs := t.regs, clk := t.clk } ∧ (s.flag A.CLK_CTRL 15 = false → t.clk = { s.clk with rcRun := true }) ∧
      s.regsKept t [] []

/-! ## Writes of Cadence -/

/-- A target or period of several words takes effect when its highest word is written, and a target's arms the
compare. A write to a word below the highest of a wake compare's target, a channel's target or a channel's period is
held, and no register changes. The write of the highest word puts the held words (a word not written as it stands) and
the highest word into the register together. For a wake compare it arms it; for a channel's target it arms the channel
in a compare mode and leaves any other unarmed; a period is refused only where 0 is written in periodic mode. [R302]
-/
def Obligations.TargetsTakeEffectAtTheHighestWord : Prop :=
  (∀ (who : Initiator) (n : Fin 8) (w : Fin 2) (addr : Addr) (v : W16) (s : State), addr.toNat = A.CAD_WC n + w.val → s.shutOut who = false →
    ∃ t, exec (.registerWrite who addr v) s = .next t ∧ t = { s with regs := t.regs, held := t.held } ∧ s.regsKept t [] [] ∧
      ∀ x, cellsGet zeroWord t.held x = if x = addr.toNat then v else cellsGet zeroWord s.held x) ∧
  (∀ (who : Initiator) (n : Fin 8) (w : Fin 3) (addr : Addr) (v : W16) (s : State), addr.toNat = A.CAD_CC_TGT n + w.val → s.reaches who 15 →
    ∃ t, exec (.registerWrite who addr v) s = .next t ∧ t = { s with regs := t.regs, held := t.held } ∧ s.regsKept t [] [] ∧
      ∀ x, cellsGet zeroWord t.held x = if x = addr.toNat then v else cellsGet zeroWord s.held x) ∧
  (∀ (who : Initiator) (n : Fin 8) (addr : Addr) (v : W16) (s : State), addr.toNat = A.CAD_CC_PER n → s.reaches who 15 →
    ∃ t, exec (.registerWrite who addr v) s = .next t ∧ t = { s with regs := t.regs, held := t.held } ∧ s.regsKept t [] [] ∧
      ∀ x, cellsGet zeroWord t.held x = if x = addr.toNat then v else cellsGet zeroWord s.held x) ∧
  (∀ (who : Initiator) (n : Fin 8) (v : W16) (s : State), s.shutOut who = false →
    (let low (i : Nat) := cellsGet (fun x => s.word x) s.held (A.CAD_WC n + i)
     ∃ t, exec (.cadWcWrite who n v) s = .next t ∧ t.rdw (A.CAD_WC n) 3 = ofWords [low 0, low 1, v] ∧
       t.flag A.CAD_WCSTAT n = true ∧ (∀ m : Fin 16, m.val ≠ n.val → t.flag A.CAD_WCSTAT m = s.flag A.CAD_WCSTAT m) ∧
       (∀ i, i < 3 → cellsGet zeroWord t.held (A.CAD_WC n + i) = 0) ∧ t = { s with regs := t.regs, held := t.held } ∧
       s.regsKept t [] ([0, 1, 2].map (A.CAD_WC n + ·) ++ [A.CAD_WCSTAT]))) ∧
  (∀ (who : Initiator) (n : Fin 8) (v : W16) (s : State), s.reaches who 15 →
    (let low (i : Nat) := cellsGet (fun x => s.word x) s.held (A.CAD_CC_TGT n + i)
     ∃ t, exec (.cadCcTgtWrite who n v) s = .next t ∧ t.ccTarget n = ofWords [low 0, low 1, low 2, v] ∧
       t.flag (A.CAD_CC_STAT n) 12 = s.ccCompares n ∧ (t.cc n).rebase = false ∧ (t.cc n).formed = s.ccPeriod n ∧
       (∀ i, i < 4 → cellsGet zeroWord t.held (A.CAD_CC_TGT n + i) = 0) ∧
       t = { s with regs := t.regs, held := t.held, cad := t.cad } ∧ (∀ m : Fin 8, m ≠ n → t.cc m = s.cc m) ∧
       s.regsKept t [] ([0, 1, 2, 3].map (A.CAD_CC_TGT n + ·) ++ [A.CAD_CC_STAT n]))) ∧
  ∀ (who : Initiator) (n : Fin 8) (v : W16) (s : State), s.reaches who 15 →
    (let low := cellsGet (fun x => s.word x) s.held (A.CAD_CC_PER n)
     ∃ t, exec (.cadCcPerWrite who n v) s = .next t ∧ (∀ i, i < 2 → cellsGet zeroWord t.held (A.CAD_CC_PER n + i) = 0) ∧
       s.memKept t ∧
       (s.ccMode n = 2 → ofWords [low, v] = 0 → t.ccPeriod n = s.ccPeriod n ∧ t.flag (A.FLAGS 5) 0 = true ∧ t.cad = s.cad ∧
         s.regsKept t [] [A.FLAGS 5]) ∧
       (s.ccMode n ≠ 2 ∨ ofWords [low, v] ≠ 0 → t.ccPeriod n = ofWords [low, v]) ∧
       (s.ccMode n ≠ 2 ∨ s.flag (A.CAD_CC_STAT n) 12 = false → t.cad = s.cad ∧
         s.regsKept t [] [A.CAD_CC_PER n, A.CAD_CC_PER n + 1, A.FLAGS 5]) ∧
       (s.ccMode n = 2 → s.flag (A.CAD_CC_STAT n) 12 = true → ofWords [low, v] ≠ 0 →
         (let anchor := (s.ccTarget n + 2 ^ 64 - (s.cc n).formed) % 2 ^ 64
          t.ccTarget n = (anchor + ofWords [low, v]) % 2 ^ 64 ∧ (t.cc n).formed = ofWords [low, v] ∧
            (t.cc n).rebase = decide (anchor + ofWords [low, v] ≤ s.now))))

/-- Channel modes, latching reads, DAC loads, gauge and unit disables, calibration and search requests. A write of a
channel's CFG to off or capture disarms it, a change between the compare modes keeps it armed, and periodic with PER 0
leaves MODE as it was and sets WRITE_REJECTED. Reading RISE word 0 latches the pair and clears NEW; reading CAD_SNAP
word 0 latches the snapshot. LOADNOW loads the staged code into the output and starts settling, ON as it stands.
Disabling the gauge leaves EN 10b while a conversion or a committed request of ring 45 runs and 00b otherwise, each
request of ring 45 not committed completed; disabling a serial unit leaves EN 10b while a transfer that has begun
runs, ends one that has not begun with CANCELLED_BY_DISABLE, and else reads 00b. CALREQ sets CAL_DUE, and SEARCH sets
SEARCH_DUE except in bypass, where it sets WRITE_REJECTED. [R127, R135, R261, R304, R305, R308, R319, R322, R326] -/
def Obligations.CadenceGaugeAndRfWrites : Prop :=
  (∀ (who : Initiator) (n : Fin 8) (v : W16) (s : State), s.reaches who 15 →
    (let m := bits v.toNat 15 13
     let ok := m ≤ 3 ∧ (m = 2 → s.ccPeriod n ≠ 0)
     ∃ t, exec (.cadCcCfgWrite who n v) s = .next t ∧ t.ccMode n = (if ok then m else s.ccMode n) ∧
       t.flag (A.CAD_CC_CFG n) 10 = bit v.toNat 10 ∧ t.flag (A.CAD_CC_CFG n) 9 = bit v.toNat 9 ∧
       t.rd (A.CAD_CC_CFG n) 12 11 = (if bits v.toNat 12 11 = 0 then s.rd (A.CAD_CC_CFG n) 12 11 else bits v.toNat 12 11) ∧
       (¬ ok ∨ bits v.toNat 12 11 = 0 → t.flag (A.FLAGS 5) 0 = true) ∧
       t.flag (A.CAD_CC_STAT n) 12 = (s.flag (A.CAD_CC_STAT n) 12 && t.ccCompares n) ∧ t = { s with regs := t.regs } ∧
       s.regsKept t [] [A.CAD_CC_CFG n, A.CAD_CC_STAT n, A.FLAGS 5])) ∧
  (∀ (who : Initiator) (n : Fin 8) (s : State), s.reaches who 15 →
    ∃ t, exec (.captureLatchRead who n) s = .next t ∧ t.lastRead = s.word (A.CAD_CC_RISE n) ∧
      (t.cc n).shadow = some (s.rdw (A.CAD_CC_RISE n) 4, s.rdw (A.CAD_CC_FALL n) 4, s.rdw (A.CAD_CC_WIDTH n) 2) ∧
      t.flag (A.CAD_CC_STAT n) 15 = false ∧ t.flag (A.CAD_CC_STAT n) 14 = s.flag (A.CAD_CC_STAT n) 14 ∧
      (∀ m : Fin 8, m ≠ n → t.cc m = s.cc m) ∧ t = { s with regs := t.regs, cad := t.cad, lastRead := t.lastRead } ∧
      s.regsKept t [] [A.CAD_CC_STAT n]) ∧
  (∀ (who : Initiator) (s : State), s.reaches who 10 →
    exec (.snapLatchRead who) s = .next { s with
      cad := { s.cad with snapShadow := some (s.rdw A.CAD_SNAP 4) }, lastRead := s.word A.CAD_SNAP }) ∧
  (∀ (who : Initiator) (n : Fin 2) (s : State), s.reaches who 15 →
    ∃ t, exec (.gauDacLoadnow who n) s = .next t ∧ vget t.gau.dacOut n.val 0 = s.word (A.GAU_DAC_CODE n) ∧
      (vget t.gau.dacBusy n.val none).isSome = true ∧ t.flag (A.GAU_DAC_CFG n) 0 = s.flag (A.GAU_DAC_CFG n) 0 ∧
      (∀ m : Fin 2, m ≠ n → vget t.gau.dacOut m.val 0 = vget s.gau.dacOut m.val 0) ∧ t = { s with regs := t.regs, gau := t.gau } ∧
      t.gau.conv = s.gau.conv ∧ s.regsKept t [] [A.GAU_DAC_CFG n, A.CLK_GATE, A.CLK_GATESTAT]) ∧
  (∀ (who : Initiator) (s : State), s.reaches who 15 → s.rd A.GAU_CTRL 15 14 = 1 →
    ∃ t, exec (.gaugeDisable who) s = .next t ∧ t.rd A.GAU_CTRL 15 14 = (if s.gaugeBusy then 2 else 0) ∧ t.gau.conv = s.gau.conv ∧
      (∀ d ∈ (t.ring 45).out, d.2.2 = true ∨ ∃ e ∈ (s.ring 45).out, e.2.2 = true ∧ e.1 = d.1) ∧ t.mram = s.mram ∧
      ∀ m : Fin 64, m.val ≠ 45 → t.ring m.val = s.ring m.val) ∧
  (∀ (who : Initiator) (u : Fin 6) (began : Bool) (s : State), s.reaches who 15 → s.rd (A.PER_S_CFG u) 15 14 = 1 →
    (s.unitBusy u = false → ∃ t, exec (.serialDisable who u began) s = .next t ∧ t.rd (A.PER_S_CFG u) 15 14 = 0 ∧ t.ser = s.ser ∧
      s.memKept t ∧ s.regsKept t [] [A.PER_S_CFG u, A.FLAGS 14]) ∧
    (s.unitBusy u = true → began = true → ∃ t, exec (.serialDisable who u began) s = .next t ∧ t.rd (A.PER_S_CFG u) 15 14 = 2 ∧
      t.ser = s.ser ∧ t.unitBusy u = true ∧ s.regsKept t [] [A.PER_S_CFG u, A.FLAGS 14]) ∧
    (s.unitBusy u = true → began = false → ∃ t, exec (.serialDisable who u began) s = .next t ∧ t.rd (A.PER_S_CFG u) 15 14 = 0 ∧
      t.unitBusy u = false ∧ t.rd (A.PER_S_STAT u) 7 0 = 0x03 ∧ t.flag (A.PER_S_STAT u) 14 = true ∧ t.flag A.PER_SERSRC u.val = true)) ∧
  (∀ (who : Initiator) (c : Chain) (s : State), s.reaches who (if c = .A then 12 else 13) →
    ∃ t, exec (.rfxCtrlCalreq who c) s = .next t ∧ t.flag (A.RF_STAT c) 10 = true ∧ t = { s with regs := t.regs } ∧
      s.regsKept t [] [A.RF_STAT c] ∧ t.rd (A.RF_STAT c) 9 0 = s.rd (A.RF_STAT c) 9 0 ∧ t.rd (A.RF_STAT c) 15 11 = s.rd (A.RF_STAT c) 15 11) ∧
  ∀ (who : Initiator) (s : State), s.reaches who 12 →
    ∃ t, exec (.rfaCtrlSearch who) s = .next t ∧ t = { s with regs := t.regs } ∧
      (s.flag A.RFA_TUNE 15 = false → t.flag (A.RF_STAT .A) 4 = true ∧ s.regsKept t [] [A.RF_STAT .A]) ∧
      (s.flag A.RFA_TUNE 15 = true → t.flag (A.FLAGS 6) 0 = true ∧ s.regsKept t [] [A.FLAGS 6])

/-! ## Disables and writes of the radio, vault, journal and wire blocks -/

/-- Disables of lane, link, relay, vault and Waifeti, and the writes of the mesh stage, reseed, journal, wire, MRAM
and E0 image. By an initiator that the debug lock does not shut out, the register's domain being on: disabling an
enabled lane leaves EN 10b while its frame is past the commit point and else reads 00b, a lane that serves no
transmission going idle; disabling the enabled link controller, relay engine and vault leaves no descriptor
outstanding that is not past its commit point or complete but for a sleeping bank, and EN reads 10b while one remains
(a committed relay, a hold of ring 29 and a completion that waits for a bank among them) and 00b otherwise; disabling
Waifeti leaves 10b while a frame or response is pending. MSH_STAGECTL with A5h makes the node lead only at a higher
stage, member or standby at the greater stage, and else is refused; after the service's write the stage is due to be
stored. RESEED asks for a reseed; JNL_CTRL.COMMIT queues the staged entry unless one is pending; WFL_RSPCTL queues a
response of 26 to 1,050 octets in a slot not pending; WFL_RXFREE frees the slots named but the one in use; WFL_ADDRCTL
with A5h returns the address to 0; SYS_MWDATA by E0 hands one word to the MRAM write port, or sets PROT for a
protected address; SYS_E0LDDATA by the service with no task on E0 stores a word of E0's image. Each refused write sets
WRITE_REJECTED of its window and nothing else. [R191, R200, R227, R239, R261, R354, R357, R382, R398, R399, R404,
R406] -/
def Obligations.DisablesAndBlockWrites : Prop :=
  (∀ (who : Initiator) (k : Fin 10) (s : State), s.reaches who 11 → s.rd (A.RXE_LANE_CFG k) 15 14 = 1 →
    (let past := s.laneServesTx k = false ∧ ∃ f ∈ (s.laneOf k).frame, f.sub = 4
     ∃ t, exec (.laneDisable who k) s = .next t ∧ (∀ j : Fin 10, j ≠ k → t.laneOf j = s.laneOf j) ∧ t.mram = s.mram ∧
       (past → t.rd (A.RXE_LANE_CFG k) 15 14 = 2 ∧ (t.laneOf k).frame = (s.laneOf k).frame ∧ t.rings = s.rings ∧
         s.regsKept t [] [A.RXE_LANE_CFG k, A.FLAGS 8]) ∧
       (¬ past → t.rd (A.RXE_LANE_CFG k) 15 14 = 0 ∧
         (s.laneServesTx k = false → (t.laneOf k).frame = none ∧ (t.laneOf k).target = none ∧
           t.rd (A.RXE_LANE_STAT k) 15 13 = 0)))) ∧
  (∀ (who : Initiator) (s : State), s.reaches who 11 → s.rd A.LNK_CTRL 15 14 = 1 → A.LNK_CTRL ∉ s.again →
    ∃ t, exec (.linkDisable who) s = .next t ∧ (∀ i : Fin 17, ∀ d ∈ (t.ring (i.val + 1)).out, d.2.2 = true) ∧ t.mram = s.mram ∧
      t.rd A.LNK_CTRL 15 14 = if (List.range 17).any (fun i => !(t.ring (i + 1)).out.isEmpty) ||
        t.msh.relays.any (fun r => r.cls == 0 && r.committed) || t.lateOf A.LNK_CTRL then 2 else 0) ∧
  (∀ (who : Initiator) (s : State), s.reaches who 11 → s.rd A.MSH_CTRL 15 14 = 1 → A.MSH_CTRL ∉ s.again →
    ∃ t, exec (.relayDisable who) s = .next t ∧ (∀ r ∈ t.msh.relays, r.committed = true ∨ r.onRing ≠ none) ∧
      (∀ d ∈ (t.ring 29).out, d.2.2 = true) ∧ t.mram = s.mram ∧
      t.rd A.MSH_CTRL 15 14 = if t.msh.relays.any (fun r => r.committed) || t.msh.holdWait.any (fun h => h.place.isSome) ||
        !(t.ring 29).out.isEmpty || t.lateOf A.MSH_CTRL then 2 else 0) ∧
  (∀ (who : Initiator) (v : W16) (s : State), s.reaches who 11 →
    (let role := bits v.toNat 1 0
     let set := s.rdw A.MSH_STAGESET 2
     let ok := bits v.toNat 15 8 = 0xA5 ∧ role ≠ 3 ∧ (role = 1 → s.stage < set)
     (ok → role = 1 → ∃ t, exec (.mshStagectlWrite who v) s = .next t ∧ t.stage = set ∧ t.rd A.MSH_CTRL 13 12 = 1 ∧
       t.rd A.MSH_TSTAT 15 13 = 3 ∧ t = { s with regs := t.regs, msh := { s.msh with step := [], storeDue := who == .service || s.msh.storeDue } } ∧
       s.regsKept t [] [A.MSH_STAGE, A.MSH_STAGE + 1, A.MSH_CTRL, A.MSH_TSTAT]) ∧
     (ok → role ≠ 1 → ∃ t, exec (.mshStagectlWrite who v) s = .next t ∧ t.stage = max set s.stage ∧
       t.rd A.MSH_CTRL 13 12 = role ∧ t.rd A.MSH_CTRL 15 14 = s.rd A.MSH_CTRL 15 14 ∧
       t.msh.storeDue = (who == .service || s.msh.storeDue) ∧ t.mram = s.mram) ∧
     (¬ ok → ∃ t, exec (.mshStagectlWrite who v) s = .next t ∧ t.flag (A.FLAGS 11) 0 = true ∧
       t = { s with regs := t.regs, msh := { s.msh with storeDue := who == .service || s.msh.storeDue } } ∧
       s.regsKept t [] [A.FLAGS 11]))) ∧
  (∀ (who : Initiator) (s : State), s.reaches who 14 →
    ∃ t, exec (.vltCtrlReseed who) s = .next t ∧ t.rd A.VLT_CTRL 15 14 = s.rd A.VLT_CTRL 15 14 ∧ s.regsKept t [] [] ∧
      t = { s with regs := t.regs, vlt := { s.vlt with reseeding := true }, again := t.again }) ∧
  (∀ (who : Initiator) (s : State), s.reaches who 14 → s.rd A.VLT_CTRL 15 14 = 1 → A.VLT_CTRL ∉ s.again →
    s.vlt.svcDone = [] → s.vlt.svcWait = [] → (∀ o ∈ s.vlt.ops, o.ring ≠ 64) →
    ∃ t, exec (.vaultDisable who) s = .next t ∧ (∀ o ∈ t.vlt.ops, o.committed = true) ∧
      (∀ o ∈ s.vlt.ops, o.committed = true → (∀ x ∈ s.vlt.ops, x.committed = false → (x.ring, x.place) ≠ (o.ring, o.place)) →
        o ∈ t.vlt.ops) ∧
      (∀ i : Fin 8, ∀ d ∈ (t.ring (32 + i.val)).out, d.2.2 = true) ∧ t.mram = s.mram ∧
      t.rd A.VLT_CTRL 15 14 = if t.vlt.ops.isEmpty && !t.lateOf A.VLT_CTRL then 0 else 2) ∧
  (∀ (who : Initiator) (s : State), s.reaches who 15 → s.rd A.WFL_CFG 15 14 = 1 → A.WFL_CFG ∉ s.again →
    ∃ t, exec (.waifetiDisable who) s = .next t ∧ t = { s with regs := t.regs, again := t.again } ∧
      t.rd A.WFL_CFG 15 14 = (if s.wfl.header.isSome || !s.wfl.pend.isEmpty then 2 else 0) ∧
      s.regsKept t [] [A.WFL_CFG, A.FLAGS 16]) ∧
  (∀ (who : Initiator) (slot : Fin 4) (len : BitVec 11) (s : State), s.reaches who 15 →
    (let ok := 26 ≤ len.toNat ∧ len.toNat ≤ 1050 ∧ ∀ r ∈ s.wfl.pend, r.slot ≠ slot.val
     ∃ t, exec (.wflRspctlWrite who slot len) s = .next t ∧
       (ok → t.wfl.pend = s.wfl.pend ++ [⟨slot.val, len.toNat⟩] ∧ t = { s with regs := t.regs, wfl := { s.wfl with pend := t.wfl.pend } } ∧
         s.regsKept t [] []) ∧
       (¬ ok → t.flag (A.FLAGS 16) 0 = true ∧ t = { s with regs := t.regs } ∧ s.regsKept t [] [A.FLAGS 16]))) ∧
  (∀ (who : Initiator) (m : BitVec 4) (s : State), s.reaches who 15 →
    ∃ t, exec (.wflRxfreeWrite who m) s = .next t ∧
      (∀ i : Fin 4, t.flag A.WFL_STAT i.val = (s.flag A.WFL_STAT i.val && !(m.getLsbD i.val && s.wfl.slot != some i.val))) ∧
      t = { s with regs := t.regs } ∧ s.regsKept t [] [A.WFL_STAT]) ∧
  (∀ (who : Initiator) (c : Octet) (s : State), s.shutOut who = false →
    ∃ t, exec (.wflAddrctlRelease who c) s = .next t ∧ t = { s with regs := t.regs } ∧
      (c = 0xA5 → t.rd A.WFL_ADDR 5 0 = 0 ∧ t.flag A.WFL_ADDR 15 = false ∧ s.regsKept t [] [A.WFL_ADDR]) ∧
      (c ≠ 0xA5 → t.flag (A.FLAGS 16) 0 = true ∧ s.regsKept t [] [A.FLAGS 16])) ∧
  (∀ (who : Initiator) (s : State), s.reaches who 9 →
    ∃ t, exec (.jnlCtrlCommit who) s = .next t ∧
      (s.jnlPend = false → (∃ r, t.dict.jnl = s.dict.jnl ++ [r] ∧ r.source = 6 ∧
          r.type = bits (s.word (A.JNL_STAGE 6)).toNat 15 8 ∧ r.status = bits (s.word (A.JNL_STAGE 6)).toNat 7 0 ∧
          r.roleOp = s.word (A.JNL_STAGE 7) ∧ r.index = s.word (A.JNL_STAGE 12) ∧ r.value = s.word (A.JNL_STAGE 14)) ∧
        t = { s with regs := t.regs, dict := { s.dict with jnl := t.dict.jnl } } ∧ s.regsKept t [] []) ∧
      (s.jnlPend = true → t.flag (A.FLAGS 19) 0 = true ∧ t = { s with regs := t.regs } ∧ s.regsKept t [] [A.FLAGS 19])) ∧
  (∀ (who : Initiator) (v : W16) (s : State), s.shutOut who = false →
    (let a := s.rdw A.SYS_MWADDR 2 % 2 ^ 24
     let may := (who = .engine 0 ∨ who = .service) ∧ s.flag A.SYS_MWSTAT 15 = false
     ∃ t, exec (.sysMwdataWrite who v) s = .next t ∧ s.memKept t ∧
       (may → t.rdw A.SYS_MWADDR 2 % 2 ^ 24 = (if a = 0x3FFFFF then 0x200000 else a + 1) % 2 ^ 24) ∧
       (may → mwProtected a = false → t.flag A.SYS_MWSTAT 15 = true ∧
         (t.upd.mwBusy = some (MwReq.mk 2 a v) ∨ MwReq.mk 2 a v ∈ t.upd.mwq)) ∧
       (may → mwProtected a = true → t.flag A.SYS_MWSTAT 14 = true ∧ t.flag (A.FLAGS 17) 0 = true ∧ t.upd = s.upd ∧
         s.regsKept t [] [A.SYS_MWSTAT, A.SYS_MWADDR, A.SYS_MWADDR + 1, A.FLAGS 17]) ∧
       (¬ may → t.flag (A.FLAGS 17) 0 = true ∧ t = { s with regs := t.regs } ∧ s.regsKept t [] [A.FLAGS 17]))) ∧
  ∀ (who : Initiator) (v : W16) (s : State), s.shutOut who = false →
    (let a := s.rd A.SYS_E0LDADDR 14 0
     let may := who = .service ∧ (s.engine 0).task = none
     ∃ t, exec (.sysE0lddataWrite who v) s = .next t ∧ (∀ k : Fin 8, k ≠ 0 → t.eng[k] = s.eng[k]) ∧
       (may → (∀ x, cellsGet zeroWord t.eng[0].imem x = if x = a then v else cellsGet zeroWord s.eng[0].imem x) ∧
         t.eng[0] = { s.eng[0] with imem := t.eng[0].imem } ∧ t.rd A.SYS_E0LDADDR 14 0 = (if a = 0x4FFF then 0 else a + 1) % 2 ^ 15 ∧
         t = { s with regs := t.regs, eng := t.eng, ecc := t.ecc } ∧ s.regsKept t [] [A.SYS_E0LDADDR]) ∧
       (¬ may → t.flag (A.FLAGS 17) 0 = true ∧ t = { s with regs := t.regs } ∧ s.regsKept t [] [A.FLAGS 17]))

/-! ## The receive engine -/

/-- Lane k receives for operation o, which goes on listening and transmits nothing; the lane stays enabled. -/
def laneListens (s : State) (k : Fin 10) (o : RfOp) : Prop :=
  s.laneOp k = some o ∧ o.kind.sends = false ∧ o.listened = false ∧ s.rd (A.RXE_LANE_CFG k) 15 14 = 1

/-- A counter of 16 bits one on, saturating. -/
def counted (s t : State) (a : Nat) : Prop := (t.word a).toNat = min 0xFFFF ((s.word a).toNat + 1)

/-- A lane's frame at its detection with power p, the lane in mode m or in its mode-switch target's. -/
def freshFrame (s : State) (k : Fin 10) (p : Int) : LaneFrame :=
  { sub := 2, power := p, mode := (s.laneOf k).searchMode, coded := false, time := 0, length := 0, fcs4 := false, place := none,
    unplaced := false, waitsPlace := false, modeSwitch := (s.laneOf k).target.isSome, whiten := false, seed := 0, interleaved := false }

/-- Phase after a step of a frame: MODESW stays MODESW. -/
def phaseTo (s : State) (k : Fin 10) (p : Nat) : Nat := if s.phase' k = 5 then 5 else p

/-- What a header check leaves on a listening lane whose frame f is in HEADER without a place. -/
def headerLeaves (s t : State) (k : Fin 10) (f : LaneFrame) : HeaderResult → Prop
  | .fail => (t.laneOf k).frame = none ∧ t.phase' k = phaseTo s k 1 ∧ (t.laneOf k).past = .failed ∧
      counted s t (A.RXE_LANE_FALSECNT k) ∧ t = { s with regs := t.regs, lane := t.lane } ∧
      s.regsKept t [] [A.RXE_LANE_FALSECNT k, A.RXE_LANE_STAT k]
  | .pass mode len fcs4 info =>
    let g : LaneFrame := { f with sub := 4, mode := BitVec.ofNat 8 mode, length := len, fcs4 := fcs4, whiten := info.whiten
                                  seed := info.seed, interleaved := info.interleaved }
    let n := 18 + k.val
    let ring := s.ring n
    if 2 * (s.laneOf k).slotw < len then
      (t.laneOf k).frame = none ∧ t.phase' k = 1 ∧ counted s t (A.RXE_LANE_DROPCNT k) ∧ t = { s with regs := t.regs, lane := t.lane } ∧
        s.regsKept t [] [A.RXE_LANE_DROPCNT k, A.RXE_LANE_STAT k]
    else if s.canReserve n then
      (t.laneOf k).frame = some { g with place := some (ring.pi.toNat % s.ringSize n) } ∧
        t.phase' k = phaseTo s k 4 ∧ t.ring n = { ring with holder := some 8 } ∧ t.flag (A.RING_STAT n) 12 = true ∧
        t = { s with regs := t.regs, lane := t.lane, rings := t.rings } ∧ s.regsKept t [] [A.RING_STAT n, A.RXE_LANE_STAT k]
    else if s.ringRoom n then
      (t.laneOf k).frame = some { g with waitsPlace := true } ∧ t.phase' k = phaseTo s k 4 ∧
        t.ring n = { ring with waiting := ring.waiting ++ [.lane k] } ∧
        t = { s with regs := t.regs, lane := t.lane, rings := t.rings } ∧ s.regsKept t [] [A.RXE_LANE_STAT k]
    else (t.laneOf k).frame = some { g with unplaced := true } ∧ t.phase' k = phaseTo s k 4 ∧
      counted s t (A.RXE_LANE_DROPCNT k) ∧ t = { s with regs := t.regs, lane := t.lane } ∧
      s.regsKept t [] [A.RXE_LANE_DROPCNT k, A.RXE_LANE_STAT k]
  | .switch target =>
    if modeOn .A target = true ∧ laneBand target ≤ (s.laneOf k).width then
      (t.laneOf k).frame = none ∧ (t.laneOf k).target = some (BitVec.ofNat 8 target) ∧ t.phase' k = 5 ∧
        t = { s with regs := t.regs, lane := t.lane } ∧ s.regsKept t [] [A.RXE_LANE_STAT k]
    else (t.laneOf k).frame = none ∧ counted s t (A.RXE_LANE_MSREFCNT k) ∧ t = { s with regs := t.regs, lane := t.lane } ∧
      s.regsKept t [] [A.RXE_LANE_MSREFCNT k, A.RXE_LANE_STAT k]

/-- Power p, stronger than the lane's frame f, takes the lane from it (R182): in SYNC and HEADER it need only be stronger; in
PAYLOAD it must exceed f by more than BKTHR, capture being enabled and the lane not disabling. -/
def takesOver (s : State) (k : Fin 10) (f : LaneFrame) (p : Int) : Prop :=
  (f.sub = 2 ∨ f.sub = 3) ∧ f.power < p ∨
    f.sub = 4 ∧ s.laneCap k 12 12 = 1 ∧ s.rd (A.RXE_LANE_CFG k) 15 14 ≠ 2 ∧ f.power + 2 * s.laneCap k 11 8 < p

/-- The frame is past SYNC and power p exceeds it by more than BKTHR. -/
def breaksAway (s : State) (k : Fin 10) (f : LaneFrame) (p : Int) : Prop :=
  f.sub ≠ 2 ∧ f.power + 2 * s.laneCap k 11 8 < p

/-- A lane from SEARCH through SYNC and HEADER to PAYLOAD: detections, sync events, header checks, candidates and
levels. A detection on a lane in SEARCH or MODESW without a frame starts one with its power, in SYNC, and counts;
elsewhere it changes nothing. A sync event of the SFD sought moves a frame in SYNC to HEADER, takes its time and, PD10
and PD11 being on, fires RXE_SYNC; without a frame in SYNC it and a lost sync change nothing. On an enabled lane that
listens for a receive operation and holds no ring place: a lost sync or a failed header check takes the lane back to
SEARCH (MODESW stays) and counts a false detection; a passed header check takes the frame's mode, length, FCS and PSDU
parameters, and the frame reserves a place of the lane's ring where one can be reserved, waits where the ring has
room, else goes on unplaced and counts a drop, while a frame longer than its slot is dropped; a mode switch that the
lane can follow moves it to MODESW, any other counts as refused; MODESW without a header in time returns to SEARCH.
The strongest candidate outside one symbol of the frame's preamble restarts the lane on it in SYNC and HEADER when it
is stronger, and in PAYLOAD when it exceeds the frame by more than BKTHR with capture enabled and the lane not
disabling: OVERCNT counts where it exceeds a frame past SYNC by more than BKTHR, RESTARTCNT otherwise. In the cycle of
a failed header check it starts a frame and counts RESTARTCNT, in that of a frame's end it only starts one. Every
other candidate changes nothing. RSSINOW and ED are written while the lane is not off. No other lane changes. [R152,
R177, R178, R180, R181, R182, R183, R184, R185, R187, R189, R252] -/
def Obligations.LaneReception : Prop :=
  (∀ (k : Fin 10) (p : BitVec 12) (s : State), s.phase' k = 1 ∨ s.phase' k = 5 → (s.laneOf k).frame = none →
    ∃ t, exec (.detection k p) s = .next t ∧ (t.laneOf k).frame = some (freshFrame s k p.toInt) ∧
      t.phase' k = phaseTo s k 2 ∧ counted s t (A.RXE_LANE_DETCNT k) ∧
      (s.laneServesTx k = false → t.rf = s.rf) ∧ (∀ j : Fin 10, j ≠ k → t.laneOf j = s.laneOf j) ∧
      t = { s with regs := t.regs, lane := t.lane, rf := t.rf } ∧ s.regsKept t [] [A.RXE_LANE_DETCNT k, A.RXE_LANE_STAT k]) ∧
  (∀ (k : Fin 10) (p : BitVec 12) (s : State), (s.laneOf k).frame ≠ none ∨ s.phase' k ≠ 1 ∧ s.phase' k ≠ 5 →
    exec (.detection k p) s = .next s) ∧
  (∀ (k : Fin 10) (e : SyncAt) (f : LaneFrame) (s : State), (s.laneOf k).frame = some f → f.sub = 2 →
    (s.seeksSfd k f.mode.toNat e.group e.coded = true →
      ∃ t, exec (.syncEvent k e) s = .next t ∧
        (t.laneOf k).frame = some { f with sub := 3, time := e.time.toNat, coded := e.coded && f.mode.toNat / 64 == 0 } ∧
        t.phase' k = phaseTo s k 3 ∧ (s.on 10 = true → s.on 11 = true → s.fired t 0x46 0) ∧
        (∀ j : Fin 10, j ≠ k → t.laneOf j = s.laneOf j) ∧ t = { s with regs := t.regs, lane := t.lane, cbl := t.cbl } ∧
        s.regsKept t [Win.CBL] [A.RXE_LANE_STAT k]) ∧
    (s.seeksSfd k f.mode.toNat e.group e.coded = false → exec (.syncEvent k e) s = .next s)) ∧
  (∀ (k : Fin 10) (e : SyncAt) (s : State), (∀ f ∈ (s.laneOf k).frame, f.sub ≠ 2) →
    exec (.syncEvent k e) s = .next s ∧ exec (.syncLost k) s = .next s) ∧
  (∀ (k : Fin 10) (o : RfOp) (f : LaneFrame) (s : State), laneListens s k o → (s.laneOf k).frame = some f → f.sub = 2 →
    f.place = none → f.waitsPlace = false →
    ∃ t, exec (.syncLost k) s = .next t ∧ (t.laneOf k).frame = none ∧
      t.phase' k = phaseTo s k 1 ∧ (t.laneOf k).target = (if s.phase' k = 5 then (s.laneOf k).target else none) ∧
      counted s t (A.RXE_LANE_FALSECNT k) ∧ (∀ j : Fin 10, j ≠ k → t.laneOf j = s.laneOf j) ∧
      t = { s with regs := t.regs, lane := t.lane } ∧ s.regsKept t [] [A.RXE_LANE_FALSECNT k, A.RXE_LANE_STAT k]) ∧
  (∀ (k : Fin 10) (h : PhyHeader) (o : RfOp) (f : LaneFrame) (s : State), laneListens s k o → (s.laneOf k).frame = some f → f.sub = 3 →
    f.place = none → f.waitsPlace = false →
    ∃ t, exec (.headerCheck k h) s = .next t ∧ (∀ j : Fin 10, j ≠ k → t.laneOf j = s.laneOf j) ∧
      headerLeaves s t k f (checkHeader f.mode.toNat (s.laneCap k 7 4) f.coded h)) ∧
  (∀ (k : Fin 10) (h : PhyHeader) (s : State), (∀ f ∈ (s.laneOf k).frame, f.sub ≠ 3) → exec (.headerCheck k h) s = .next s) ∧
  (∀ (k : Fin 10) (o : RfOp) (s : State), laneListens s k o → s.phase' k = 5 →
    (∀ f ∈ (s.laneOf k).frame, f.sub ≠ 4 ∧ f.place = none ∧ f.waitsPlace = false) →
    ∃ t, exec (.modeSwitchTimeout k) s = .next t ∧ (t.laneOf k).frame = none ∧ (t.laneOf k).target = none ∧ t.phase' k = 1 ∧
      (∀ j : Fin 10, j ≠ k → t.laneOf j = s.laneOf j) ∧ t = { s with regs := t.regs, lane := t.lane } ∧
      s.regsKept t [] [A.RXE_LANE_STAT k]) ∧
  (∀ (k : Fin 10) (s : State), s.phase' k ≠ 5 ∨ (∃ f ∈ (s.laneOf k).frame, f.sub = 4) →
    exec (.modeSwitchTimeout k) s = .next s) ∧
  (∀ (k : Fin 10) (seen : List (BitVec 12 × Nat)) (got : List Octet) (snr : BitVec 12) (fo : BitVec 24) (f : LaneFrame) (p : Int)
    (s : State), (s.laneOf k).frame = some f → strongest f.mode.toNat seen = some p →
    (takesOver s k f p → ∃ t, exec (.candidate k seen got snr fo) s = .next t ∧ (t.laneOf k).frame = some (freshFrame s k p) ∧
      t.phase' k = phaseTo s k 2 ∧ counted s t (A.RXE_LANE_DETCNT k) ∧ (∀ j : Fin 10, j ≠ k → t.laneOf j = s.laneOf j) ∧
      (breaksAway s k f p → counted s t (A.RXE_LANE_OVERCNT k)) ∧
      (¬ breaksAway s k f p → counted s t (A.RXE_LANE_RESTARTCNT k) ∧ t.word (A.RXE_LANE_OVERCNT k) = s.word (A.RXE_LANE_OVERCNT k))) ∧
    ((f.sub = 2 ∨ f.sub = 3 ∨ f.sub = 4) → ¬ takesOver s k f p → exec (.candidate k seen got snr fo) s = .next s)) ∧
  (∀ (k : Fin 10) (seen : List (BitVec 12 × Nat)) (got : List Octet) (snr : BitVec 12) (fo : BitVec 24) (p : Int) (s : State),
    (s.laneOf k).frame = none → strongest (s.laneOf k).searchMode.toNat seen = some p →
    (s.phase' k = 1 ∨ s.phase' k = 5 → (s.laneOf k).past ≠ .none →
      ∃ t, exec (.candidate k seen got snr fo) s = .next t ∧ (t.laneOf k).frame = some (freshFrame s k p) ∧ t.phase' k = phaseTo s k 2 ∧
        counted s t (A.RXE_LANE_DETCNT k) ∧
        ((s.laneOf k).past = .failed → counted s t (A.RXE_LANE_RESTARTCNT k)) ∧
        ((s.laneOf k).past = .ended → t.word (A.RXE_LANE_RESTARTCNT k) = s.word (A.RXE_LANE_RESTARTCNT k)) ∧
        (∀ j : Fin 10, j ≠ k → t.laneOf j = s.laneOf j) ∧ t = { s with regs := t.regs, lane := t.lane } ∧
        s.regsKept t [] [A.RXE_LANE_DETCNT k, A.RXE_LANE_RESTARTCNT k, A.RXE_LANE_STAT k]) ∧
    (s.phase' k ≠ 1 ∧ s.phase' k ≠ 5 ∨ (s.laneOf k).past = .none → exec (.candidate k seen got snr fo) s = .next s)) ∧
  (∀ (k : Fin 10) (seen : List (BitVec 12 × Nat)) (got : List Octet) (snr : BitVec 12) (fo : BitVec 24) (s : State),
    strongest ((s.laneOf k).frame.elim (s.laneOf k).searchMode LaneFrame.mode).toNat seen = none →
    exec (.candidate k seen got snr fo) s = .next s) ∧
  ∀ (k : Fin 10) (p e : BitVec 12) (s : State),
    ∃ t, exec (.rssinowUpdate k p e) s = .next t ∧ t = { s with regs := t.regs } ∧ s.regsKept t [] [A.RXE_LANE_LEVEL k] ∧
      t.word (A.RXE_LANE_LEVEL k) = (if s.phase' k = 0 then s.word (A.RXE_LANE_LEVEL k)
        else BitVec.ofInt 8 (rssiNow p.toInt) ++ BitVec.ofNat 8 (edOf e.toInt))

/-- The end of a frame and of the wait for an acknowledgement. A frame in PAYLOAD that ends on an enabled lane
listening for a receive operation takes the lane back to SEARCH, and its PSDU is what its decoder released, cut to its
length. With the link controller not enabled nothing is judged; else a frame whose FCS fails counts in LNK_FCSERRCNT,
one that fails filter steps 2 to 8 counts in LNK_FILTCNT, and any other joins the frames being judged with its octets
without FCS, its neighbour, its key and its levels. Without a frame in PAYLOAD a frame end changes nothing. When a
frame ends on a chain that awaits an acknowledgement, the chain returns to IDLE and its attempt ends; where the
acknowledgement must be opened and PD14 is off or in retention, the chain goes on and the frame waits for PD14. When
the wait expires, a frame in reception or one that waits for PD14 lets the chain go on, its wait over; without one the
chain returns to IDLE and NO_ACK counts. On a chain that awaits no acknowledgement the expiry changes nothing. [R30,
R176, R184, R188, R200, R203, R208, R209, R224] -/
def Obligations.FrameEndAndAckWait : Prop :=
  (∀ (k : Fin 10) (x : RxPsdu) (snr : BitVec 12) (fo : BitVec 24) (o : RfOp) (f : LaneFrame) (s : State), laneListens s k o →
    (s.laneOf k).frame = some f → f.sub = 4 →
    ∃ t, exec (.frameEnd k x snr fo) s = .next t ∧ (t.laneOf k).frame = none ∧ t.phase' k = 1 ∧ (t.laneOf k).target = none ∧
      (t.laneOf k).past = .ended ∧ (∀ j : Fin 10, j ≠ k → t.laneOf j = s.laneOf j) ∧ t.mram = s.mram ∧
      (let psdu := fitOctets f.length (rxOctets f x)
       let body := psdu.take (psdu.length - if f.fcs4 then 4 else 2)
       let h := parseMhr body
       let nbr := s.findNbr h.src
       if s.rd A.LNK_CTRL 15 14 ≠ 1 then t.lnk = s.lnk
       else if fcsOk f.fcs4 psdu = false then t.lnk = s.lnk ∧ counted s t A.LNK_FCSERRCNT
       else if s.filterHeader h body = false ∨ s.filterSecurity h nbr = none then
         t.lnk = s.lnk ∧ counted s t A.LNK_FILTCNT
       else ∃ j, t.lnk.judging = s.lnk.judging ++ [j] ∧ j.lane = k ∧ j.octets = body ∧ j.nbr = nbr ∧
         some j.key = s.filterSecurity h nbr ∧ j.frame = f ∧ j.lqi = lqiOf snr.toInt ∧ j.rssi = rssiOf f.power ∧
         j.fofs = fofsOf fo.toInt ∧ j.a = o.a ∧ j.kind = o.kind ∧ j.cellNbr = o.nbr ∧ j.ch = o.ch)) ∧
  (∀ (k : Fin 10) (x : RxPsdu) (snr : BitVec 12) (fo : BitVec 24) (s : State), (∀ f ∈ (s.laneOf k).frame, f.sub ≠ 4) →
    exec (.frameEnd k x snr fo) s = .next s) ∧
  (∀ (k : Fin 10) (x : RxPsdu) (snr : BitVec 12) (fo : BitVec 24) (o : RfOp) (d : Nat × Nat) (f : LaneFrame) (s : State),
    s.laneOp k = some o → o.kind.sends = true → o.emitted = true → o.desc = some d → (s.laneOf k).frame = some f → f.sub = 4 →
    (let opens := (s.sentHeader d).sec = true ∧ (s.sentHeader d).version = 2
     ∃ t, exec (.frameEnd k x snr fo) s = .next t ∧ (t.laneOf k).frame = none ∧ t.mram = s.mram ∧
       (¬ opens ∨ s.on 14 = true → (t.chain (laneChain k)).op = none ∧ t.rfState (laneChain k) = 0) ∧
       (opens → s.domState 14 < 2 → t.chain (laneChain k) = s.chain (laneChain k) ∧
         t.lnk.ackLate = s.lnk.ackLate ++
           [(laneChain k, o.a, f, fitOctets f.length (rxOctets f x), lqiOf snr.toInt)]))) ∧
  (∀ (c : Chain) (o : RfOp) (s : State), (s.chain c).op = some o → o.kind.sends = true → o.emitted = true → s.rfState c = 4 →
    (let held := (s.laneOf (ackLane c)).frame ≠ none ∨ ∃ p ∈ s.lnk.ackLate, p.1 = c ∧ p.2.1 = o.a
     ∃ t, exec (.ackWaitExpiry c) s = .next t ∧
       (held → t = { s with rf := t.rf } ∧ (t.chain c).op = some { o with listened := true } ∧
         t.chain c.other = s.chain c.other) ∧
       (¬ held → (t.chain c).op = none ∧ t.rfState c = 0 ∧ counted s t A.LNK_NOACKCNT))) ∧
  ∀ (c : Chain) (s : State), s.rfState c ≠ 4 ∨ (∀ o ∈ (s.chain c).op, o.kind.sends = false ∨ o.emitted = false) →
    exec (.ackWaitExpiry c) s = .next s

/-! ## Mesh -/

/-- Descriptor p of ring n completes with a status (R253): it is no longer outstanding, and its record, which names ring and
status, stands at CQW, where that word lies in shared SRAM and its bank is not lost. -/
def completedWith (s t : State) (n p status : Nat) : Prop :=
  let a := s.idxAddr n + 5 + 4 * ((s.ring n).cqw.toNat % s.ringSize n)
  t.isOut n p = false ∧ (t.ring n).cqw = (s.ring n).cqw + 1 ∧ (t.ring n).recs = (s.ring n).recs ++ [p] ∧
    (inSram a = true → s.bankLost (bankOf a) = false → t.sramGet a = BitVec.ofNat 16 (n % 64 * 256 + status % 256))

/-- Time steps, trim fractions, stage store and restore, the seen cache's scrub, the hold-off, hold countdown and
sub-windows. TIME_STEP takes the corrections whose receive operation has ended: network time moves by their sum, and
the others stay pending; of a single one MSH_LASTCORR shows the negated step, the trim takes its change within its
bounds, and MSH_TIME fires with PD10 and PD11 on; with none to take nothing happens. A trim fraction moves network
time by one in the trim's direction while it runs with PD10 on, else nothing happens. With PD11 on and the service
free, a stage and role that are due are stored in points 1202h.01 and .02, no restore being due, and nothing else of
the settings changes; a due restore makes the node lead only where the stored stage is higher and else takes the
greater stage, a stored role 3 or a lead at no higher stage being refused; with nothing due, or the service not free,
nothing happens. With PD11 on, a scrub clears the set's entries that are not live and counts the DUAL ones that heard
no second copy, the end of the hold-off clears its flag, and sub-windows of every dwell account follow network time;
with PD11 not on none of these changes anything. Each hold counts down by one and stays at 0. [R213, R215, R218, R219,
R226, R227, R228, R233, R240, R242] -/
def Obligations.MeshTimeStageAndCache : Prop :=
  (∀ s : State,
    (let due := s.msh.step.filter fun e => !s.stepHeld e
     ∃ t, exec .timeStep s = .next t ∧ t.msh = { s.msh with step := s.msh.step.filter fun e => s.stepHeld e } ∧
       t.nt = BitVec.ofInt 67 ((s.nt.toNat : Int) + (due.map fun e => e.2.2.1).sum) ∧ s.memKept t ∧ t.rings = s.rings ∧
       (due = [] → t = s) ∧
       ∀ e, due = [e] → t.rdw A.MSH_LASTCORR 2 = unsigned 32 (-e.2.2.1) ∧
         t.rdw A.MSH_TRIM 2 = (if e.2.2.2 = 0 then s.rdw A.MSH_TRIM 2
           else unsigned 24 (clampInt (-100000) 100000 (signed 24 (s.rdw A.MSH_TRIM 2) + e.2.2.2))) ∧
         (s.on 10 = true → s.on 11 = true → { s with nt := t.nt }.fired t 0x4B 0))) ∧
  (∀ s : State, (let trim := signed 24 (s.rdw A.MSH_TRIM 2)
    exec .trimFraction s = .next (if s.ntRun = true ∧ s.on 10 = true ∧ trim ≠ 0 then
      { s with nt := BitVec.ofInt 67 ((s.nt.toNat : Int) + if 0 < trim then 1 else -1) } else s))) ∧
  (∀ s : State, s.on 11 = true → s.serves = true → s.msh.storeDue = true → s.msh.restoreDue = false →
    ∃ t, exec .stageStore s = .next t ∧ t.setting 0x1202 1 = some (toOctets 4 s.stage) ∧
      t.setting 0x1202 2 = some (toOctets 1 (s.rd A.MSH_CTRL 13 12)) ∧
      (∀ i j, (i, j) ≠ (0x1202, 1) → (i, j) ≠ (0x1202, 2) → t.setting i j = s.setting i j) ∧
      t = { s with dict := { s.dict with settings := t.dict.settings }, msh := { s.msh with storeDue := false } }) ∧
  (∀ s : State, s.on 11 = false ∨ s.serves = false ∨ s.msh.storeDue = false ∨ s.msh.restoreDue = true →
    exec .stageStore s = .next s) ∧
  (∀ s : State, s.on 11 = true → s.serves = true → s.msh.restoreDue = true →
    (let stored := ofOctets ((s.setting 0x1202 1).getD []) % 2 ^ 32
     let role := ofOctets ((s.setting 0x1202 2).getD []) % 4
     ∃ t, exec .stageRestore s = .next t ∧ t.rdw A.MSH_STAGESET 2 = stored ∧ t.mram = s.mram ∧ t.msh.restoreDue = false ∧
       t.msh.storeDue = true ∧
       (role = 1 ∧ s.stage < stored → t.stage = stored ∧ t.rd A.MSH_CTRL 13 12 = 1 ∧ t.rd A.MSH_TSTAT 15 13 = 3) ∧
       (role = 0 ∨ role = 2 → t.stage = max stored s.stage ∧ t.rd A.MSH_CTRL 13 12 = role) ∧
       (role = 3 ∨ role = 1 ∧ stored ≤ s.stage → t.stage = s.stage ∧ t.rd A.MSH_CTRL 13 12 = s.rd A.MSH_CTRL 13 12 ∧
         t.flag (A.FLAGS 11) 0 = true))) ∧
  (∀ s : State, s.on 11 = false ∨ s.serves = false ∨ s.msh.restoreDue = false → exec .stageRestore s = .next s) ∧
  (∀ (set : BitVec 12) (s : State), s.on 11 = true →
    (let dead := s.msh.seen.filter fun e => e.set == set.toNat && !s.seenLive e
     ∃ t, exec (.seenScrub set) s = .next t ∧ t.msh.seen = s.msh.seen.filter (fun e => !(e.set == set.toNat && !s.seenLive e)) ∧
       (t.word A.MSH_SINGLECNT).toNat =
         min 0xFFFF ((s.word A.MSH_SINGLECNT).toNat + (dead.filter fun e => e.dual && e.heard == 0).length) ∧
       t = { s with regs := t.regs, msh := { s.msh with seen := t.msh.seen } } ∧ s.regsKept t [] [A.MSH_SINGLECNT])) ∧
  (∀ s : State, s.on 11 = true → ∃ t, exec .holdoffEnd s = .next t ∧ t.flag A.MSH_TSTAT 11 = false ∧ t.rd A.MSH_TSTAT 15 12 = s.rd A.MSH_TSTAT 15 12 ∧
    t.rd A.MSH_TSTAT 10 0 = s.rd A.MSH_TSTAT 10 0 ∧ t = { s with regs := t.regs } ∧ s.regsKept t [] [A.MSH_TSTAT]) ∧
  (∀ s : State, ∃ t, exec .holdCountdown s = .next t ∧
    (∀ c : Fin 16, 1 ≤ c.val → (t.word (A.MSH_HOLD c.val)).toNat = (s.word (A.MSH_HOLD c.val)).toNat - 1) ∧ t.msh = { s.msh with events := t.msh.events } ∧ t.mram = s.mram ∧
    ((∀ c : Fin 16, 1 ≤ c.val → s.word (A.MSH_HOLD c.val) ≠ 1) → t = { s with regs := t.regs } ∧
      s.regsKept t [] ((List.range 16).map A.MSH_HOLD))) ∧
  (∀ s : State, s.on 11 = true →
    ∃ t, exec .dwellSubwindowAdvance s = .next t ∧ t = { s with lnk := { s.lnk with subwin := t.lnk.subwin, dwell := t.lnk.dwell } } ∧
      (∀ p : Fin 3, vget t.lnk.subwin p.val 0 = max (vget s.lnk.subwin p.val 0) (s.now / s.dwellSub (p.val + 1))) ∧
      ∀ acc i, acc < 258 → i < 9 →
        (let p := s.dwellProfile acc
         dwellGet t.lnk.dwell (acc * 9 + i) =
           if p ≠ 0 ∧ i ∈ dwellCleared (vget s.lnk.subwin (p - 1) 0) (s.now / s.dwellSub p) then 0
           else dwellGet s.lnk.dwell (acc * 9 + i))) ∧
  ∀ (set : BitVec 12) (s : State), s.on 11 = false →
    exec (.seenScrub set) s = .next s ∧ exec .holdoffEnd s = .next s ∧ exec .dwellSubwindowAdvance s = .next s

/-- Relay posting, holds and originations. The oldest relay that waits is posted: one of class 0 into the relay
engine's own queue, any other on its class's ring when that is valid, has room and its banks are on, and MSH_RELAYCNT
counts; one that the ring refuses leaves and counts in MSH_QFULLCNT; one whose place lies in a sleeping bank goes on
waiting. With the relay function enabled, the next flood or path descriptor of ring 29, whose reads and places are
served at once, completes with its status: one whose status is OK takes the next SEQ, enters the seen cache and every
relay that it queues carries that SEQ; one with another status takes none; one whose read gets an error response
completes BANK_LOST. A hold descriptor without a reserved value is journaled first, its descriptor committed; a
reserved one completes BAD_DESCRIPTOR. Once its entry is durable every class a hold names takes the hold time, and no
other class changes. While the entry or an earlier hold waits, and where nothing is there to do, nothing happens.
[R234, R235, R238, R239, R240, R241, R242, R253, R254, R256, R377] -/
def Obligations.RelaysHoldsAndOriginations : Prop :=
  (∀ (r : Relay) (s : State), s.msh.relays.find? (fun r => r.onRing.isNone) = some r →
    (let n := 2 + bits (s.rclass r.cls) 27 24
     let p := (s.ring n).pi.toNat
     ∃ t, exec .relayPost s = .next t ∧ t.mram = s.mram ∧
      (let posted (d : Nat × Nat) := t.msh = { s.msh with relays := s.msh.relays.map fun x => if x == r then { x with onRing := some d } else x } ∧
         counted s t A.MSH_RELAYCNT
       (r.cls = 0 → posted (0, r.slot) ∧ t = { s with regs := t.regs, msh := t.msh } ∧ s.regsKept t [] [A.MSH_RELAYCNT]) ∧
       (r.cls ≠ 0 → s.ringEn n = true → 1 ≤ s.ringSpace n → s.outstanding < 512 → s.ringReady n p = true →
         posted (n, p % s.ringSize n) ∧ (t.ring n).pi = (s.ring n).pi + 1 ∧
         (t.ring n).out = (s.ring n).out ++ [(p % s.ringSize n, false, false)]) ∧
       (r.cls ≠ 0 → s.ringEn n = true → s.ringReady n p = false → t.msh = s.msh ∧ t.rings = s.rings ∧ s.memKept t) ∧
       (r.cls ≠ 0 → s.ringEn n = false ∨ s.ringReady n p = true ∧ (s.ringSpace n = 0 ∨ 512 ≤ s.outstanding) →
         t.msh = { s.msh with relays := s.msh.relays.erase r } ∧ counted s t A.MSH_QFULLCNT ∧
         t = { s with regs := t.regs, msh := t.msh } ∧ s.regsKept t [] [A.MSH_QFULLCNT])))) ∧
  (∀ s : State, (∀ r ∈ s.msh.relays, r.onRing ≠ none) → exec .relayPost s = .next s) ∧
  (∀ (c : Instr) (p : Nat) (s : State), s.rd A.MSH_CTRL 15 14 = 1 → s.nextDesc 29 = some p → s.isOut 29 p = true →
    s.ringReady 29 p = true →
    (let o := s.origination p
     (o.kind ≠ 2 ∧ o.kind ≠ 3 ∧ c = .originateFlood ∨ o.kind = 2 ∧ c = .originatePath) →
     ∃ t, exec c s = .next t ∧ t.mram = s.mram ∧
       (s.originLost p = true → completedWith s t 29 p St.BANK_LOST ∧ t.msh = s.msh ∧ t.word A.MSH_SEQ = s.word A.MSH_SEQ) ∧
       (s.originLost p = false → (s.fetchOrigin p).1 = true → completedWith s t 29 p (s.originStatus o) ∧
         (s.originStatus o = St.OK → t.word A.MSH_SEQ = s.word A.MSH_SEQ + 1 ∧
           (∃ e ∈ t.msh.seen, e.origin = s.word A.LNK_SHORT ∧ e.seq = s.word A.MSH_SEQ) ∧
           (∀ r ∈ s.msh.relays, r ∈ t.msh.relays) ∧
           ∀ r ∈ t.msh.relays, r ∈ s.msh.relays ∨ r.seq = s.word A.MSH_SEQ ∧ r.onRing = none) ∧
         (s.originStatus o ≠ St.OK → t.word A.MSH_SEQ = s.word A.MSH_SEQ ∧ t.msh = s.msh)) ∧
       (s.originLost p = false → (s.fetchOrigin p).1 = false → t.rings = s.rings ∧ t.msh = s.msh ∧ s.memKept t))) ∧
  (∀ s : State, s.rd A.MSH_CTRL 15 14 ≠ 1 ∨ s.nextDesc 29 = none →
    exec .originateFlood s = .next s ∧ exec .originatePath s = .next s ∧ exec .originateHold s = .next s) ∧
  (∀ (p : Nat) (s : State), s.msh.holdWait = none → s.rd A.MSH_CTRL 15 14 = 1 → s.nextDesc 29 = some p → s.isOut 29 p = true →
    s.originLost p = false → (s.fetchOrigin p).1 = true →
    (let o := s.origination p
     o.kind = 3 →
     ∃ t, exec .originateHold s = .next t ∧ t.mram = s.mram ∧ t.word A.MSH_SEQ = s.word A.MSH_SEQ ∧
       (o.bad = false →
         (let mask := BitVec.ofNat 16 (octs o.body 0 2)
          let dur := BitVec.ofNat 16 (octs o.body 2 2)
          t.msh = { s.msh with holdWait := some ⟨mask, dur, [], some p⟩ } ∧
            (∃ e, t.dict.jnl = s.dict.jnl ++ [e] ∧ e.source = 2 ∧ e.type = 0x14 ∧ e.index = mask ∧ e.value = dur) ∧
            t.descCommitted 29 p = true ∧ s.memKept t)) ∧
       (o.bad = true → s.ringReady 29 p = true → completedWith s t 29 p St.BAD_DESCRIPTOR ∧ t.msh = s.msh ∧ t.dict = s.dict))) ∧
  (∀ s : State, s.msh.holdWait ≠ none → exec .originateHold s = .next s) ∧
  (∀ (h : HoldWait) (s : State), s.msh.holdWait = some h → (∀ w ∈ s.dict.writing, w.2.source ≠ 2) → (∀ r ∈ s.dict.jnl, r.source ≠ 2) →
    ∃ t, exec .holdApply s = .next t ∧ t.msh.holdWait = none ∧ t.mram = s.mram ∧
      ∀ c : Fin 16, 1 ≤ c.val → t.word (A.MSH_HOLD c.val) = if h.mask.getLsbD c.val then h.dur else s.word (A.MSH_HOLD c.val)) ∧
  ∀ s : State, s.msh.holdWait = none ∨ (∃ r ∈ s.dict.jnl, r.source = 2) ∨ (∃ w ∈ s.dict.writing, w.2.source = 2) →
    exec .holdApply s = .next s

/-! ## Vault -/

/-- The rows that start a vault operation, with their OP codes (R341). -/
def vaultRows : List (Instr × Nat) :=
  [(.ccmSeal, 0x01), (.ccmDecrypt, 0x02), (.ccmOpen, 0x03), (.gcmSeal, 0x04), (.gcmDecrypt, 0x05), (.gcmOpen, 0x06), (.cmacGen, 0x07),
   (.cmacVerify, 0x08), (.sha256, 0x10), (.sha384, 0x11), (.ecdsaSign, 0x18), (.ecdsaVerify, 0x19), (.lmsVerify, 0x1B),
   (.dualVerify, 0x1C), (.keyInstall, 0x20), (.keyExport, 0x21), (.keyErase, 0x22), (.keyGenerate, 0x23), (.pubkeyRead, 0x24),
   (.random, 0x28), (.enrol, 0x2F), (.attest, 0x30), (.extend, 0x31), (.debugUnlock, 0x32)]

/-- Request o is the next of its unit, which is free, and nothing that R338 or R354 names holds it back; every request
waiting has a listed OP, and none of the service's is to be settled. -/
def nextRequest (s : State) (o : VltOp) : Prop :=
  (∃ u, u < 3 ∧ o.unit = u ∧ (∀ x ∈ s.vlt.ops, x.unit ≠ u) ∧ s.vaultPending.find? (fun x => x.unit == u) = some o) ∧
  (∀ n ∈ o.targets, ∀ x ∈ s.vlt.ops, n ∉ x.holds) ∧ (needsRandom o.op = true → s.rngBlocked = false) ∧
  (∀ x ∈ s.vaultPending, (vaultUnit x.op x.param).isSome = true) ∧ s.vlt.svcDone = []

/-- The vault can read request o now: its place and its input lie in banks that are on, and its place is not lost. -/
def readable (s : State) (o : VltOp) : Prop :=
  s.placeLost o.ring o.place = false ∧ s.ringReady o.ring o.place = true ∧ s.ramReady o.src (wordsOf (s.vaultRegions o).1) = true

/-- Nothing that a program can read of the vault and the rings changes while a bank wakes. -/
def waitsFor (s t : State) : Prop := t.vlt = s.vlt ∧ t.rings = s.rings ∧ s.memKept t

/-- Every vault operation starts when it is the next of its free unit, or completes at once with the status its checks
give. With PD14 and the vault on, no listed rule holding the next request of a free unit back and no request with an
unlisted OP waiting, the row of its OP takes it. A request of a ring whose place gets an error response completes
BANK_LOST; one whose place or input lies in a sleeping bank waits, nothing changed. Of one that can be read: where its
form, content or slots refuse it, its descriptor completes with that status and no operation runs; else the operation
runs, its descriptor fetched: a seal or export takes the slot's next invocation counter and is committed, waits where
the counter has reached its reservation, or completes SLOT_ATTR_DENIED where the counter is spent; an attestation
keeps its leaf, committed, and waits for its reservation; every other operation runs as asked. A request of the
service itself that passes its checks leaves its queue and runs, where it is no seal, export or attestation. With PD14
or the vault not on, nothing happens. [R258, R338, R340, R341, R342, R345, R346, R351, R353, R354, R357] -/
def Obligations.VaultRequests : Prop :=
  (∀ (c : Instr) (op : Nat) (o : VltOp) (s : State), (c, op) ∈ vaultRows → s.on 14 = true → s.rd A.VLT_CTRL 15 14 = 1 → o.op = op →
    nextRequest s o → o.ring ≠ 64 → s.isOut o.ring o.place = true →
    ∃ t, exec c s = .next t ∧ t.vlt.svcWait = s.vlt.svcWait ∧ t.mram = s.mram ∧
      (s.placeLost o.ring o.place = true → s.ringReady o.ring o.place = true → completedWith s t o.ring o.place St.BANK_LOST) ∧
      (s.placeLost o.ring o.place = false →
        (s.fetchDesc o.ring o.place).1 = false ∨ s.ramReady o.src (wordsOf (s.vaultRegions o).1) = false → waitsFor s t) ∧
      (readable s o → s.vaultCheck o ≠ 0 → completedWith s t o.ring o.place (s.vaultCheck o) ∧
        t.vlt.ops = s.vlt.ops.filter (fun x => !(x.ring == o.ring && x.place == o.place)) ∧ (s.on 10 = true → s.fired t 0x50 0)) ∧
      (readable s o → s.vaultCheck o = 0 → op ∉ [0x01, 0x04, 0x21, 0x30] →
        t.vlt.ops = s.vlt.ops ++ [o] ∧ t.vlt.slots = s.vlt.slots ∧ s.memKept t ∧
        ∀ d ∈ (t.ring o.ring).out, d.1 = o.place → d = (o.place, true, false))) ∧
  (∀ (c : Instr) (op : Nat) (o : VltOp) (k : KeySlot) (s : State), (c, op) ∈ vaultRows → s.on 14 = true → s.rd A.VLT_CTRL 15 14 = 1 →
    o.op = op → op ∈ [0x01, 0x04, 0x21] → nextRequest s o → o.ring ≠ 64 → s.isOut o.ring o.place = true →
    (∀ x ∈ s.vlt.ops, (x.ring, x.place) ≠ (o.ring, o.place)) → readable s o → s.vaultCheck o = 0 → s.keySlot o.slot = some k →
    ∃ t, exec c s = .next t ∧ t.mram = s.mram ∧
      (k.counter = 2 ^ 64 - 1 → completedWith s t o.ring o.place St.SLOT_ATTR_DENIED ∧ t.vlt.ops = s.vlt.ops ∧
        t.vlt.slots = s.vlt.slots) ∧
      (k.counter ≠ 2 ^ 64 - 1 → k.reserve ≤ k.counter → t.vlt.ops = s.vlt.ops ++ [{ o with waiting := true }] ∧ t.vlt.slots = s.vlt.slots ∧
        ∃ p ∈ t.vlt.nonceWait, p.1 = k.slot) ∧
      (k.counter ≠ 2 ^ 64 - 1 → k.counter < k.reserve →
        t.vlt.ops = s.vlt.ops ++ [{ o with waiting := false, committed := true, nonce := k.counter }] ∧
        t.vlt.slots = s.vlt.slots.map (fun x => if x.slot == o.slot then { k with counter := k.counter + 1 } else x) ∧
        t.descCommitted o.ring o.place = true)) ∧
  (∀ (o : VltOp) (s : State), s.on 14 = true → s.rd A.VLT_CTRL 15 14 = 1 → o.op = 0x30 → nextRequest s o → o.ring ≠ 64 →
    s.isOut o.ring o.place = true → (∀ x ∈ s.vlt.ops, (x.ring, x.place) ≠ (o.ring, o.place)) → readable s o → s.vaultCheck o = 0 →
    ∃ t, exec .attest s = .next t ∧ s.memKept t ∧ t.descCommitted o.ring o.place = true ∧
      ∃ x, t.vlt.ops = s.vlt.ops ++ [x] ∧ x = { o with statement := x.statement, waiting := true, committed := true, leaf := s.vlt.lmsq }) ∧
  (∀ (c : Instr) (op : Nat) (o : VltOp) (s : State), (c, op) ∈ vaultRows → s.on 14 = true → s.rd A.VLT_CTRL 15 14 = 1 → o.op = op →
    nextRequest s o → o.ring = 64 → s.vaultCheck o = 0 → op ∉ [0x01, 0x04, 0x21, 0x30] →
    ∃ t, exec c s = .next t ∧ t.vlt.svcWait = s.vlt.svcWait.erase o ∧ t.vlt.ops = s.vlt.ops ++ [o] ∧ s.memKept t ∧ t.rings = s.rings) ∧
  ∀ (c : Instr) (op : Nat) (s : State), (c, op) ∈ vaultRows → s.on 14 = false ∨ s.rd A.VLT_CTRL 15 14 ≠ 1 → s.vlt.svcDone = [] →
    exec c s = .next s

/-- The end of a vault operation, durable reservations and the random source. With PD14 on and no request of the
service to settle, the operation of a ring that a unit runs, that waits for no reservation and none of whose slots to
replace another operation holds ends: it waits, nothing changed, where a memory it needs sleeps; it completes
BANK_LOST where a read gets an error response; else it leaves the vault, VLT_DONE fires with PD10 on, and its
descriptor completes. A verification, opening, installation or unlock completes OK where it verifies, else AUTH_FAIL,
which alone counts in VLT_AUTHFAILCNT; every other operation completes OK. An erase leaves the slot without a valid
key at its next generation; an enrolment leaves PUF 01b and no LMS leaf used; an extension replaces its measurement by
the digest of it and the data; an unlock of both signatures over the right statement clears the debug lock, any other
leaves it, and every unlock draws a new challenge; a key generated or installed is in its slot at its next generation,
a generated one with a counter of 0. With PD9 on, a durable nonce reservation stands in its slot, and one seal that
waited for it takes its counter; a durable LMS reservation moves the next leaf on. With PD14 on, a completed reseed
clears RNGFAIL, the calls and the draws that waited; a health failure sets RNGFAIL and is counted. Where none of these
is the case nothing happens. [R332, R336, R339, R343, R345, R347, R349, R351, R352, R353, R354, R356] -/
def Obligations.VaultCompletions : Prop :=
  (∀ (u : Fin 3) (o : VltOp) (s : State), s.on 14 = true → s.vlt.ops.find? (fun o => o.unit == u.val && !o.waiting) = some o →
    o.ring ≠ 64 → s.isOut o.ring o.place = true → s.vlt.svcDone = [] → s.ringReady o.ring o.place = true → s.targetHeld o = false →
    ∃ t, exec (.vaultCompletion u) s = .next t ∧
      (s.vaultLost o = true → completedWith s t o.ring o.place St.BANK_LOST) ∧
      (s.vaultLost o = false → (s.vaultReach o).1 = false → waitsFor s t) ∧
      (s.vaultLost o = false → (s.vaultReach o).1 = true →
        t.vlt.ops = s.vlt.ops.filter (fun x => !(x.ring == o.ring && x.place == o.place)) ∧ (s.on 10 = true → s.fired t 0x50 0) ∧
        (let src := s.vaultSrc o
         let ended (b : Bool) := completedWith s t o.ring o.place (if b then St.OK else St.AUTH_FAIL) ∧
           (t.word A.VLT_AUTHFAILCNT).toNat = min 0xFFFF ((s.word A.VLT_AUTHFAILCNT).toNat + (!b).toNat)
         (o.op = 0x08 → ended (s.auxOctets o o.param == vaultOctets 0x07 (s.keyOf o.slot) (packOctets src) o.param)) ∧
         (o.op = 0x19 → ended (ecdsaVerifies (s.keyOf o.slot) (if o.param = 1 then src else digest384 src) (s.auxOctets o 96))) ∧
         (o.op = 0x1B → ended (lmsVerifies (s.keyOf o.slot) src (s.auxOctets o o.arg))) ∧
         (o.op = 0x1C → ended (dualResult (s.keySlot o.slot) (s.keySlot o.slot2) src (s.auxOctets o (96 + o.arg)) == 0)) ∧
         (o.op ∈ [0x02, 0x03, 0x05, 0x06] → ended (Config.vaultVerifies o.op (s.keyOf o.slot) (s.openInput o))) ∧
         (o.op = 0x22 → t.slotGen o.slot = s.slotGen o.slot + 1 ∧ t.slotBad o.slot = false ∧
           ∀ k, t.keySlot o.slot = some k → k.attr = 0) ∧
         (o.op = 0x23 → o.param ≠ 3 ∨ o.slot2 ≠ o.slot → ∃ k ∈ t.vlt.slots, k.slot = o.slot ∧ k.attr = BitVec.ofNat 16 (o.w 12) ||| 0x8000 ∧
           k.counter = 0 ∧ k.gen = s.slotGen o.slot + 1) ∧
         (o.op = 0x20 → (let ok := Config.vaultVerifies 0x20 (s.keyOf o.slot) (s.openInput o)
           ended ok ∧ (ok = true → t.slotGen o.slot2 = s.slotGen o.slot2 + 1 ∧ t.slotBad o.slot2 = false) ∧
             (ok = false → t.vlt.slots = s.vlt.slots))) ∧
         (o.op = 0x2F → t.puf = 1 ∧ t.vlt.lmsq = 0 ∧ t.vlt.enrolled = true) ∧
         (o.op = 0x31 → o.param = 0 → t.vlt.meas0 = Config.sha384 ((toOctets 48 s.vlt.meas0.toNat).reverse ++ src) ∧ t.vlt.meas1 = s.vlt.meas1) ∧
         (o.op = 0x31 → o.param ≠ 0 → t.vlt.meas1 = Config.sha256 ((toOctets 32 s.vlt.meas1.toNat).reverse ++ src) ∧ t.vlt.meas0 = s.vlt.meas0) ∧
         (o.op = 0x32 →
           (let want := [0x4C, 0x4A, 0x44, 0x55] ++ toOctets 8 (s.rdw A.VLT_DEVID 4) ++ toOctets 8 (s.rdw A.VLT_DBGCHAL 4) ++ toOctets 4 0
            let usable (n : Nat) := if s.puf = 2 || s.slotBad n then none else s.keySlot n
            let good := src == want && dualResult (usable 6) (usable 7) src (s.auxOctets o (96 + o.arg)) == 0
            ended good ∧ t.vlt.dbglock = (s.vlt.dbglock && !good) ∧ t.freeCtr = s.freeCtr + 1 ∧
              t.rdw A.VLT_DBGCHAL 4 = (Config.freeValue 64 s.freeCtr).toNat)) ∧
         (o.op ∈ vaultRows.map Prod.snd → o.op ∉ [0x02, 0x03, 0x05, 0x06, 0x08, 0x19, 0x1B, 0x1C, 0x20, 0x32] → ended true) ∧
         (o.op ∉ [0x20, 0x22, 0x23, 0x2F] → t.vlt.slots = s.vlt.slots ∧ t.mram = s.mram)))) ∧
  (∀ (u : Fin 3) (s : State), s.on 14 = false ∨ (∀ o ∈ s.vlt.ops, o.unit ≠ u.val ∨ o.waiting = true ∨ s.targetHeld o = true) →
    s.vlt.svcDone = [] →
    exec (.vaultCompletion u) s = .next s) ∧
  (∀ (n : Octet) (p : Nat × Nat) (s : State), s.vlt.nonceWait.find? (fun p => p.1 == n.toNat) = some p → s.on 9 = true →
    (∀ o ∈ s.vlt.ops, o.waiting = true → o.op = 0x30 ∨ o.slot ≠ n.toNat) →
    (let up (k : KeySlot) : KeySlot := if k.slot == n.toNat then { k with reserve := p.2 } else k
     exec (.nonceReservationDurable n) s = .next { s with vlt := { s.vlt with
       nonceWait := s.vlt.nonceWait.filter (fun q => q.1 != n.toNat), slots := s.vlt.slots.map up, stored := s.vlt.stored.map up } })) ∧
  (∀ (n : Octet) (p : Nat × Nat) (o : VltOp) (k : KeySlot) (s : State), s.vlt.nonceWait.find? (fun p => p.1 == n.toNat) = some p →
    s.on 9 = true → s.vlt.ops = [o] → o.waiting = true → o.op ≠ 0x30 → o.slot = n.toNat → s.keySlot o.slot = some k → k.counter < p.2 →
    k.counter ≠ 2 ^ 64 - 1 →
    ∃ t, exec (.nonceReservationDurable n) s = .next t ∧
      t.vlt.ops = [{ o with waiting := false, committed := true, nonce := k.counter }] ∧ t.mram = s.mram) ∧
  (∀ (n : Octet) (s : State), s.on 9 = false ∨ (∀ p ∈ s.vlt.nonceWait, p.1 ≠ n.toNat) →
    exec (.nonceReservationDurable n) s = .next s) ∧
  (∀ (o : VltOp) (s : State), s.on 9 = true → s.vlt.ops.find? (fun o => o.op == 0x30 && o.waiting) = some o →
    ∃ t, exec .lmsReservationDurable s = .next t ∧ t.vlt.lmsq = o.leaf + 1 ∧ t.rdw A.VLT_LMSQ 2 = (o.leaf + 1) % 2 ^ 32 ∧
      { o with waiting := false } ∈ t.vlt.ops ∧ s.memKept t ∧ t.vlt = { s.vlt with lmsq := t.vlt.lmsq, ops := t.vlt.ops } ∧
      s.regsKept t [] [A.VLT_LMSQ, A.VLT_LMSQ + 1]) ∧
  (∀ s : State, s.on 9 = false ∨ (∀ o ∈ s.vlt.ops, o.op ≠ 0x30 ∨ o.waiting = false) → exec .lmsReservationDurable s = .next s) ∧
  (∀ s : State, s.on 14 = true →
    ∃ t, exec .reseedComplete s = .next t ∧ t.flag A.VLT_STAT 13 = false ∧ t.vlt = { s.vlt with calls := 0, reseeding := false, drawWait := [] } ∧
      t.freeCtr = s.freeCtr + s.vlt.drawWait.length ∧ s.memKept t ∧ s.regsKept t [Win.LNK] [A.VLT_STAT]) ∧
  (∀ s : State, s.on 14 = true →
    ∃ t, exec .entropyHealthFailure s = .next t ∧ t.flag A.VLT_STAT 13 = true ∧ counted s t A.VLT_RNGFAILCNT ∧ t = { s with regs := t.regs } ∧
      s.regsKept t [] [A.VLT_STAT, A.VLT_RNGFAILCNT]) ∧
  ∀ s : State, s.on 14 = false → exec .reseedComplete s = .next s ∧ exec .entropyHealthFailure s = .next s

/-! ## The object dictionary -/

/-- The rows of dictionary commands, with the OP, or the point of an EXEC or body chunk, that each row names. -/
def dictRows : List (Instr × Nat) :=
  [(.read, 1), (.write, 2), (.journalRead, 4), (.hold, 5), (.cancel, 6), (.reintegrateEngine, 0x201002), (.commitSheet, 0x900101),
   (.releaseSheet, 0x900102), (.attestExec, 0xB00001), (.debugUnlockExec, 0xB00201), (.leaveKickstand, 0xD00003), (.systemReset, 0xD00004),
   (.openStaging, 0xD01002), (.bodyChunk, 0xD01003), (.closeStaging, 0xD01005), (.activate, 0xD01101)]

/-- A command of a row is at the head of ring 0 and the service can take it; PD14 is on where its tag needs a key slot. -/
def commandHere (s : State) (row : Nat) : Prop :=
  s.headReady = true ∧ s.headReset = false ∧ s.incoming.row = row ∧ ((s.tagSlot s.incoming).isSome = true → s.on 14 = true)

/-- A response's octets before its tag (R368). -/
def responseOctets (r : Response) : List Octet :=
  [BitVec.ofNat 8 (r.op + 0x80), BitVec.ofNat 8 r.status] ++ toOctets 4 r.reqid.toNat ++ toOctets 4 r.jseq.toNat ++
    toOctets 4 r.abort.toNat ++ [r.flags, 0] ++ toOctets 2 r.data.length ++ r.data

/-- The one response r is given. To the wire it stands, with its tag or zeros, in the lowest free response slot, whose banks
are on and not lost, and waits
where PD15 is not on or all four are pending; to the mesh it is posted on ring 1 where that has room, and waits where PD11,
PD8 or the ring is not on. -/
def answered (s t : State) (r : Response) : Prop :=
  match r.origin with
  | .wire =>
    (∀ j, j < 4 → s.on 15 = true → (∀ p ∈ s.wfl.pend, p.slot ≠ j) → (∀ i, i < j → ∃ p ∈ s.wfl.pend, p.slot = i) → r.data.length ≤ 1024 →
      t.dict.responses = [] ∧ t.wfl.pend = s.wfl.pend ++ [⟨j, 26 + r.data.length⟩] ∧
        (let a := s.rdw A.WFL_RSPBASE 2 + 528 * j
         inSram a = true → inSram (a + 527) = true → s.ramReady a 528 = true → s.regionLost a 528 = false → t.octets a (26 + r.data.length) = responseOctets r ++
          match r.tag with
          | some n => s.cmac8 n (toOctets 4 r.origin.code.toNat ++ responseOctets r)
          | none => List.replicate 8 0)) ∧
    (s.on 15 = false ∨ (∀ i, i < 4 → ∃ p ∈ s.wfl.pend, p.slot = i) → t.dict.responses = [r] ∧ t.wfl.pend = s.wfl.pend)
  | .mesh _ _ =>
    (s.on 11 = true → s.on 8 = true → s.ringEn 1 = true → 1 ≤ s.ringSpace 1 → s.outstanding < 512 →
      t.dict.responses = [] ∧ (t.ring 1).pi = (s.ring 1).pi + 1) ∧
    (s.on 11 = false ∨ s.on 8 = false ∨ s.ringEn 1 = false → t.dict.responses = [r] ∧ (t.ring 1).pi = (s.ring 1).pi)
  | _ => t.dict.responses = []

/-- The service takes the command at the head of ring 0: it refuses it, repeats its answer, answers it, or has its
COMMAND entry made. For each row of a dictionary command, with a command of the row at the head of ring 0: it leaves
the ring; where a check of R372 refuses it, the response carries BAD_DESCRIPTOR and the abort code and nothing else of
the service changes; a READ is answered with the point's value and a JOURNAL_READ with the entries held from START on;
a repeat is answered from its entry, with REPEAT; a HOLD frame's command is answered with the relay engine's entry in
JSEQ; any other journaled command waits for its COMMAND entry, which joins the journal's queue, with its REQID as its
origin's last, and has no effect yet. A command of another row stays; without a command, or while the service cannot
take one, nothing happens; a tag under a key slot waits for PD14. A command of fewer than 14 octets, of a reserved OP
or with a wrong tag or role is refused with MALFORMED, UNKNOWN_OP, BAD_TAG or ROLE_DENIED, a READ of an index from
E000h on with RESERVED_INDEX. A response not fetched in time leaves its slot and is counted. [R366, R367, R368, R369,
R370, R372, R373, R374, R375, R377, R398, R400] -/
def Obligations.DictionaryCommands : Prop :=
  (∀ (p : Instr × Nat) (a : Nat) (s : State), p ∈ dictRows → commandHere s p.2 → s.judge s.incoming = .refuse a → s.dict.responses = [] →
    ∃ t, exec p.1 s = .next t ∧ (t.ring 0).ci = (s.ring 0).ci + 1 ∧
      answered s t ⟨s.incoming.origin, s.incoming.op, St.BAD_DESCRIPTOR, BitVec.ofNat 32 s.incoming.reqid, 0, BitVec.ofNat 32 a, 0, [],
        s.tagSlot s.incoming⟩ ∧
      t.dict = { s.dict with responses := t.dict.responses } ∧ t.upd = s.upd ∧ t.seq = s.seq ∧ t.vlt = s.vlt ∧ t.mram = s.mram) ∧
  (∀ (p : Instr × Nat) (s : State), p ∈ dictRows → commandHere s p.2 → s.judge s.incoming = .take → s.incoming.journaled = true →
    s.incoming.hold = false →
    ∃ t, exec p.1 s = .next t ∧ (t.ring 0).ci = (s.ring 0).ci + 1 ∧
      (let c := s.incoming
       t.dict = { s.dict with
         waiting := [⟨c.op, c.origin, c.role, BitVec.ofNat 32 c.reqid, c.index, c.sub, c.offset, c.data, 0, s.tagSlot c⟩]
         origins := t.dict.origins
         jnl := s.dict.jnl ++ [⟨6, 1, St.OK, BitVec.ofNat 16 (c.role * 4096 + c.op), c.origin.code, BitVec.ofNat 32 c.reqid,
           BitVec.ofNat 16 c.index, BitVec.ofNat 8 c.sub, BitVec.ofNat 8 (min 255 c.len), BitVec.ofNat 16 (octs c.data 0 2)⟩] } ∧
       t.lastReqid c.origin.code = some (c.reqid % 2 ^ 32)) ∧
      t.upd = s.upd ∧ t.seq = s.seq ∧ t.vlt = s.vlt ∧ t.eng = s.eng ∧ t.mram = s.mram) ∧
  (∀ (p : PointInfo) (s : State), commandHere s 1 → s.judge s.incoming = .take → s.point s.incoming.index s.incoming.sub = .ok p →
    s.dict.responses = [] →
    ∃ t, exec .read s = .next t ∧
      (let c := s.incoming
       let v := s.takeHead.pointValue c.index c.sub p
       answered v.2 t ⟨c.origin, 1, St.OK, BitVec.ofNat 32 c.reqid, 0, 0, 0, readSlice p c v.1, s.tagSlot c⟩) ∧
      t.dict.settings = s.dict.settings ∧ t.dict.waiting = s.dict.waiting ∧ t.mram = s.mram) ∧
  (∀ s : State, commandHere s 4 → s.judge s.incoming = .take → s.dict.responses = [] →
    ∃ t, exec .journalRead s = .next t ∧
      (let c := s.incoming
       let start := octs c.data 0 4
       let es := (List.range (oct c.data 4)).filterMap fun i => if start + i < s.jnlHead then s.jnlEntry (start + i) else none
       answered s t ⟨c.origin, 4, St.OK, BitVec.ofNat 32 c.reqid, 0, 0, 0, (es.map unpackWords).flatten, s.tagSlot c⟩) ∧
      t.dict = { s.dict with responses := t.dict.responses } ∧ t.mram = s.mram) ∧
  (∀ (s : State) (e : List W16), commandHere s 5 → s.judge s.incoming = .take → s.incoming.hold = true → s.dict.responses = [] →
    s.commandEntry s.incoming.origin.code.toNat s.incoming.reqid = some e →
    ∃ t, exec .hold s = .next t ∧
      answered s t ⟨s.incoming.origin, 5, St.OK, BitVec.ofNat 32 s.incoming.reqid, BitVec.ofNat 32 (jSeq e), 0, 0, [], none⟩ ∧
      t.dict.jnl = s.dict.jnl ∧ t.dict.waiting = s.dict.waiting ∧ t.lastReqid s.incoming.origin.code = some (s.incoming.reqid % 2 ^ 32)) ∧
  (∀ (p : Instr × Nat) (e : List W16) (s : State), p ∈ dictRows → commandHere s p.2 → s.judge s.incoming = .again e → s.dict.responses = [] →
    ∃ t, exec p.1 s = .next t ∧
      (let c := s.incoming
       let out := s.outcomeEntry c.origin.code.toNat c.reqid (jSeq e)
       let runs := s.dict.execs.any fun x => x.cmd.origin.code == c.origin.code && x.cmd.reqid.toNat == c.reqid
       let status := match out with
         | some x => jStatus x
         | none => if runs then St.OK else jStatus e
       answered s t ⟨c.origin, c.op, status, BitVec.ofNat 32 c.reqid, BitVec.ofNat 32 (jSeq e), 0,
         if out = none ∧ runs = true then 3 else 1, [], s.tagSlot c⟩) ∧
      t.dict = { s.dict with responses := t.dict.responses } ∧ t.mram = s.mram) ∧
  (∀ (p : Instr × Nat) (s : State), p ∈ dictRows → s.headReady = false ∨ (s.headReset = false ∧ s.incoming.row ≠ 0 ∧ s.incoming.row ≠ p.2) →
    exec p.1 s = .next s) ∧
  (∀ (p : Instr × Nat) (s : State), p ∈ dictRows → s.headReady = true → s.headReset = false → s.incoming.row = p.2 →
    (s.tagSlot s.incoming).isSome = true → s.on 14 = false →
    ∃ t, exec p.1 s = .next t ∧ t.dict = s.dict ∧ t.rings = s.rings ∧ s.memKept t ∧ (s.wakeAsked 14 0 = true → t = s)) ∧
  (∀ (c : Incoming) (s : State),
    (c.octets.length < 14 → s.judge c = .refuse 0x01000002) ∧
    (c.formCode = 0 → s.tagOk c = false → s.judge c = .refuse 0x01000003) ∧
    (c.formCode = 0 → s.tagOk c = true → (c.role = 0 ∨ 4 < c.role) → s.judge c = .refuse 0x01000004) ∧
    (c.formCode = 0 → s.tagOk c = true → s.roleOk c = true → s.awaitsHold c = false → c.op = 1 → 0xE000 ≤ c.index →
      s.judge c = .refuse 0x02000003) ∧
    (14 ≤ c.octets.length → c.octets.length = 14 + c.len + (if c.wire = true then 8 else 0) → c.len ≤ 1024 → oct c.octets 1 % 16 = 0 →
      oct c.octets 9 = 0 → (c.op = 0 ∨ 6 < c.op) → s.judge c = .refuse 0x01000001)) ∧
  ∀ (j : Fin 4) (s : State), s.dict.responses = [] →
    ((∃ p ∈ s.wfl.pend, p.slot = j.val) → s.on 15 = true →
      ∃ t, exec (.responseExpiry j) s = .next t ∧ t.wfl.pend = s.wfl.pend.filter (fun p => p.slot != j.val) ∧
        counted s t A.WFL_RSPDROPCNT ∧ s.memKept t) ∧
    (s.on 15 = false ∨ (∀ p ∈ s.wfl.pend, p.slot ≠ j.val) → exec (.responseExpiry j) s = .next s)

/-! ## The journal, and what its entries commit -/

/-- The COMMAND entry e of the one command that waits, c, becomes durable; no response waits, and c's point runs no EXEC. -/
def commits (s : State) (c : DictCmd) (e : List W16) : Prop :=
  s.dict.writing.map (·.1) = some e ∧ s.dict.waiting = [c] ∧ s.dict.responses = [] ∧ s.execOf c.index c.sub = none ∧
    jType e = 1 ∧ jOrigin e = c.origin.code.toNat ∧ jDetail e = c.reqid.toNat

/-- The state once the entry being written stands in the journal. -/
def entryIn (s : State) : State := (s.jnlDurable.map (·.2)).getD s

/-- The response to an accepted command, with its entry's SEQ. -/
def commandResponse (c : DictCmd) (e : List W16) (status abort : Nat) : Response :=
  ⟨c.origin, c.op, status, c.reqid, BitVec.ofNat 32 (jSeq e), BitVec.ofNat 32 abort, 0, [], c.tag⟩

/-- The command as its EXEC runs it. -/
def runOf (c : DictCmd) (e : List W16) (committed : Bool) : ExecRun := ⟨{ c with seq := BitVec.ofNat 32 (jSeq e) }, committed⟩

/-- An OUTCOME entry of c with a status. -/
def outcomeOf (c : DictCmd) (status : Nat) : JnlReq :=
  ⟨6, 2, status, 0, c.origin.code, c.reqid, BitVec.ofNat 16 c.index, BitVec.ofNat 8 c.sub, 0, 0⟩

/-- A command takes effect when its COMMAND entry is durable: WRITE, the EXECs, HOLD and CANCEL. When the entry of the
waiting command becomes durable, the command waits no more and: a WRITE of a persistent point whose register's domain
is not on is stored with the entry's SEQ, to be applied later, and answered OK; a body chunk counts its octets;
COMMIT_SHEET on an idle sequencer with a valid package starts the commit check, and otherwise ends with
WRITE_REJECTED; RELEASE_SHEET releases a running sheet and ends OK; ATTEST and DEBUG_UNLOCK ask the vault;
LEAVE_KICKSTAND and SYSTEM_RESET reset the part with causes 8 and 3; REINTEGRATE_ENGINE tests an idle engine whose
domain is on, brings up the domain of another first, and resets the part for E0; OPEN_STAGING asks for DUAL_VERIFY or
fails with its reason, CLOSE_STAGING leaves the image staged or fails, ACTIVATE keeps TA and TS or fails; a HOLD from
the wire is posted on ring 29; a CANCEL ends an EXEC short of its commit point with ABORTED, and is too late for any
other. An EXEC is answered OK as it starts, but for those whose checks decide their answer. [R361, R364, R372, R373,
R376, R377, R378, R379, R405, R413, R417, R419] -/
def Obligations.CommandsCommit : Prop :=
  (∀ (c : DictCmd) (e : List W16) (p : PointInfo) (s : State), commits s c e → c.op = 2 → s.point c.index c.sub = .ok p →
    p.cls = Cl.persistent → p.type ≠ T.OCTETS → c.index ≠ 0xD010 → s.pointOn c.index c.sub p = false →
    ∃ t, exec .journalEntryDurable s = .next t ∧ t.dict.waiting = [] ∧ answered s t (commandResponse c e St.OK 0) ∧
      t.dict.settings = s.dict.settings.filter (fun x => !(x.index == c.index && x.sub == c.sub)) ++
        [⟨c.index, c.sub, c.data, BitVec.ofNat 32 (jSeq e)⟩] ∧ (c.index, c.sub) ∈ t.dict.unapplied ∧ t.dict.jnl = s.dict.jnl) ∧
  (∀ (c : DictCmd) (e : List W16) (s : State), commits s c e → c.op = 2 → c.index = 0xD010 → c.sub = 3 →
    ∃ t, exec .journalEntryDurable s = .next t ∧ t.dict.waiting = [] ∧ answered s t (commandResponse c e St.OK 0) ∧
      t.upd.received = s.upd.received + (c.data.length - 4) ∧ t.dict.jnl = s.dict.jnl) ∧
  (∀ (c : DictCmd) (e : List W16) (s : State), commits s c e → c.op = 3 → c.index = 0x9001 →
    ∃ t, exec .journalEntryDurable s = .next t ∧ t.dict.waiting = [] ∧ answered s t (commandResponse c e St.OK 0) ∧
      (c.sub = 1 → if s.rd A.SEQ_STAT 11 10 = 0 ∧ (entryIn s).pkgOk = true then
          t.rd A.SEQ_STAT 11 10 = 1 ∧ t.dict.execs = s.dict.execs ++ [runOf c e true] ∧ t.rdw A.SEQ_SLOTLEN 2 = (entryIn s).pkg 0 4 ∧
            t.dict.points = (entryIn s).pkgPointList
        else t.rd A.SEQ_STAT 11 10 = s.rd A.SEQ_STAT 11 10 ∧ t.dict.execs = s.dict.execs ∧
          t.dict.jnl = s.dict.jnl ++ [outcomeOf c St.WRITE_REJECTED] ∧ t.seq.table = s.seq.table) ∧
      (c.sub = 2 → t.rd A.SEQ_STAT 11 10 = (if s.rd A.SEQ_STAT 11 10 = 2 then 3 else s.rd A.SEQ_STAT 11 10) ∧
        t.dict.execs = s.dict.execs ∧ t.dict.jnl = s.dict.jnl ++ [outcomeOf c St.OK] ∧ t.seq.table = s.seq.table)) ∧
  (∀ (c : DictCmd) (e : List W16) (s : State), commits s c e → c.op = 3 → c.index = 0xB000 ∨ c.index = 0xB002 →
    ∃ t, exec .journalEntryDurable s = .next t ∧ t.dict.waiting = [] ∧ answered s t (commandResponse c e St.OK 0) ∧
      t.dict.execs = s.dict.execs ++ [runOf c e false] ∧ t.dict.jnl = s.dict.jnl ∧
      ∃ o, t.vlt = { s.vlt with svcWait := s.vlt.svcWait ++ [o] } ∧ o.ring = 64 ∧ o.op = (if c.index = 0xB000 then 0x30 else 0x32)) ∧
  (∀ (c : DictCmd) (e : List W16) (s : State), commits s c e → c.op = 3 →
    (c.index = 0xD000 ∧ (c.sub = 3 ∨ c.sub = 4)) ∨ (c.index = 0x2010 ∧ oct c.data 0 = 0) →
    ∃ t, exec .journalEntryDurable s = .next t ∧
      t.rd A.SYS_RESETCAUSE 3 0 = (if c.index = 0x2010 then 9 else if c.sub = 3 then 8 else 3) ∧ t.dict.waiting = [] ∧ t.dict.execs = [] ∧
      t.dict.settings = s.dict.settings ∧ (∀ d, d < 16 → t.domState d = 0) ∧ t.upd.booting = .power ∧
      (c.index = 0xD000 → c.sub = 3 → t.rd A.SYS_BOOTCNT 3 0 = 0 ∧ t.upd.boots = 0) ∧ (c.index = 0x2010 → t.upd.reint0 = true)) ∧
  (∀ (c : DictCmd) (e : List W16) (k : Fin 8) (s : State), commits s c e → c.op = 3 → c.index = 0x2010 → oct c.data 0 = k.val → k ≠ 0 →
    ∃ t, exec .journalEntryDurable s = .next t ∧ t.dict.waiting = [] ∧ answered s t (commandResponse c e St.OK 0) ∧
      (s.on k.val = false → (∀ x ∈ s.pwr.queue, x.demand = true ∨ x.dom ≠ k.val) →
        ⟨k.val, 2, 0, false, none⟩ ∈ t.pwr.queue ∧ t.dict.execs = s.dict.execs ++ [runOf c e false]) ∧
      (s.on k.val = true → s.selfTest = none → s.engIdle k = true → s.retired k.val = true →
        t.selfTest = some k ∧ t.flag A.ENG_TEST 15 = true ∧ t.rd A.ENG_TEST 2 0 = k.val ∧ t.dict.execs = s.dict.execs ++ [runOf c e false])) ∧
  (∀ (c : DictCmd) (e : List W16) (s : State), commits s c e → c.op = 3 → c.index = 0xD010 → c.sub = 2 →
    ∃ t, exec .journalEntryDurable s = .next t ∧ t.dict.waiting = [] ∧
      match (entryIn s).openFault (s.writtenHeader.take 256) s.writtenHeader.length with
      | some r => answered s t (commandResponse c e St.BAD_DESCRIPTOR Ab.OPERATION_FAILED) ∧ t.upd.reason = r ∧ t.dict.execs = s.dict.execs ∧
          outcomeOf c St.BAD_DESCRIPTOR ∈ t.dict.jnl ∧ t.vlt = s.vlt
      | none => t.dict.execs = s.dict.execs ++ [runOf c e false] ∧ t.dict.responses = [] ∧ t.dict.jnl = s.dict.jnl ∧
          ∃ o, t.vlt = { s.vlt with svcWait := s.vlt.svcWait ++ [o] } ∧ o.ring = 64 ∧ o.op = 0x1C ∧ o.slot = 6 ∧ o.slot2 = 7) ∧
  (∀ (c : DictCmd) (e : List W16) (s : State), commits s c e → c.op = 3 → c.index = 0xD010 → c.sub = 5 →
    ∃ t, exec .journalEntryDurable s = .next t ∧ t.dict.waiting = [] ∧ t.dict.execs = s.dict.execs ∧
      (s.upd.stState ≠ 1 → answered s t (commandResponse c e St.BAD_DESCRIPTOR Ab.OPERATION_FAILED) ∧ t.upd.reason = 0x0204 ∧
        t.upd.stState = s.upd.stState ∧ outcomeOf c St.BAD_DESCRIPTOR ∈ t.dict.jnl) ∧
      (s.upd.stState = 1 → match (entryIn s).closeFault with
        | some r => answered s t (commandResponse c e St.BAD_DESCRIPTOR Ab.OPERATION_FAILED) ∧ t.upd.reason = r ∧ t.upd.stState = 1 ∧
            outcomeOf c St.BAD_DESCRIPTOR ∈ t.dict.jnl
        | none => answered s t (commandResponse c e St.OK 0) ∧ t.upd.stState = 2 ∧ t.upd.reason = 0 ∧ outcomeOf c St.OK ∈ t.dict.jnl) ∧
      (s.upd.stState = 1 → s.upd.received ≠ hdrBodyLen (entryIn s).stagedHdr → t.upd.reason = 0x0204)) ∧
  (∀ (c : DictCmd) (e : List W16) (s : State), commits s c e → c.op = 3 → c.index = 0xD011 → c.sub = 1 →
    ∃ t, exec .journalEntryDurable s = .next t ∧ t.dict.waiting = [] ∧
      (s.upd.stState ≠ 2 → answered s t (commandResponse c e St.BAD_DESCRIPTOR Ab.OPERATION_FAILED) ∧ t.upd.reason = 0x0301 ∧
        t.dict.execs = s.dict.execs) ∧
      (s.upd.stState = 2 → s.inKick = true → hdr (entryIn s).stagedHdr 28 2 = hdr (entryIn s).runHdr 28 2 →
        answered s t (commandResponse c e St.OK 0) ∧ t.upd.stState = 3 ∧ t.upd.ta = octs c.data 0 8 ∧ t.upd.ts = octs c.data 8 8 ∧
        t.dict.execs = s.dict.execs ++ [runOf c e false])) ∧
  (∀ (c : DictCmd) (e : List W16) (s : State), commits s c e → c.op = 5 →
    ∃ t, exec .journalEntryDurable s = .next t ∧ t.dict.waiting = [] ∧ t.dict.execs = s.dict.execs ∧
      (s.ringEn 29 = true → 1 ≤ s.ringSpace 29 → s.outstanding < 512 → c.origin = .wire →
        (t.ring 29).pi = (s.ring 29).pi + 1 ∧ answered s t (commandResponse c e St.OK 0) ∧ t.dict.jnl = s.dict.jnl) ∧
      (s.ringEn 29 = false → answered s t (commandResponse c e St.BAD_DESCRIPTOR Ab.OPERATION_FAILED) ∧
        t.dict.jnl = s.dict.jnl ++ [outcomeOf c St.BAD_DESCRIPTOR])) ∧
  ∀ (c : DictCmd) (e : List W16) (s : State), commits s c e → c.op = 6 →
    ∃ t, exec .journalEntryDurable s = .next t ∧ t.dict.waiting = [] ∧
      (let named (x : ExecRun) : Prop := x.cmd.origin = c.origin ∧ x.cmd.reqid.toNat = octs c.data 0 4
       ((∀ x ∈ s.dict.execs, ¬ named x) → answered s t (commandResponse c e St.ABORT_TOO_LATE 0) ∧ t.dict.execs = s.dict.execs) ∧
       (∀ x, s.dict.execs = [x] → named x → x.committed = true → answered s t (commandResponse c e St.ABORT_TOO_LATE 0) ∧ t.dict.execs = [x]) ∧
       (∀ x, s.dict.execs = [x] → named x → x.committed = false → x.cmd.index = 0xB002 →
         answered s t (commandResponse c e St.ABORTED 0) ∧ t.dict.execs = [] ∧ outcomeOf x.cmd St.ABORTED ∈ t.dict.jnl ∧
         ∀ o ∈ t.vlt.svcWait, o.op ≠ 0x32))

/-- The journal writer accepts, makes durable and gives up on entries; the MRAM write port makes a word durable. With
PD9 on, the head search done and no entry being written, the writer accepts the first waiting entry of the lowest
source: it takes the head's SEQ and the network time, its sixteen words end in their check, and the head moves on. A
durable entry stands in its sixteen MRAM words and no other word of MRAM changes; JNL_DURABLE shows its SEQ and
JNL_DURABLE fires. Nothing is accepted while PD9 is not on or moves, and nothing is durable without an entry being
written. A command whose entry is late is answered BAD_DESCRIPTOR with JOURNAL_UNAVAILABLE and waits no more, its
entry still to be written. With PD9 on, the word the MRAM port writes stands, alone; E0's BUSY clears for its own; the
next request, the first of the lowest client number, is served where the link controller wants no reservation; with
PD9 not on the port waits. [R49, R50, R373, R379, R380, R382, R404] -/
def Obligations.JournalAndMram : Prop :=
  (∀ (l m : List JnlReq) (r : JnlReq) (s : State), s.on 9 = true → s.flag A.JNL_STAT 13 = true → s.pd9Moving = false → s.dict.writing = none →
    s.dict.jnl = l ++ r :: m → (∀ x ∈ l, r.source < x.source) → (∀ x ∈ m, r.source ≤ x.source) → r.type < 256 → r.status < 256 →
    ∃ t, exec .journalAccept s = .next t ∧ t.dict.jnl = l ++ m ∧ t.rdw A.JNL_HEAD 2 = (s.jnlHead + 1) % 2 ^ 32 ∧
      s.regsKept t [] [A.JNL_HEAD, A.JNL_HEAD + 1] ∧
      (let ws : List W16 := [BitVec.ofNat 16 s.jnlHead, BitVec.ofNat 16 (s.jnlHead / 65536)] ++ toWords 4 s.jnlTime ++
         [BitVec.ofNat 16 (256 * r.type + r.status), r.roleOp, r.origin.extractLsb' 0 16, r.origin.extractLsb' 16 16,
          r.detail.extractLsb' 0 16, r.detail.extractLsb' 16 16, r.index, BitVec.ofNat 16 (256 * r.sub.toNat + r.dlen.toNat), r.value]
       t = { s with regs := t.regs, dict := { s.dict with
         jnl := l ++ m, writing := some (ws ++ [BitVec.ofNat 16 (fcs16 (unpackWords ws))], r) } })) ∧
  (∀ s : State, s.on 9 = false ∨ s.flag A.JNL_STAT 13 = false ∨ s.pd9Moving = true ∨ s.dict.writing.isSome = true ∨ s.dict.jnl = [] →
    exec .journalAccept s = .next s) ∧
  (∀ (e : List W16) (r : JnlReq) (s : State), s.dict.writing = some (e, r) → s.dict.waiting = [] → (jType e ≠ 3 ∨ s.upd.booting ≠ .commit) →
    ∃ t, exec .journalEntryDurable s = .next t ∧
      (∀ i, i < e.length → t.mramGet (0x3E0000 + 16 * (jSeq e % 8192) + i) = e.getD i 0) ∧
      (∀ a, (∀ i, i < e.length → a ≠ 0x3E0000 + 16 * (jSeq e % 8192) + i) → t.mramGet a = s.mramGet a) ∧
      t.rdw A.JNL_DURABLE 2 = jSeq e % 2 ^ 32 ∧ s.regsKept t [Win.CBL] [A.JNL_DURABLE, A.JNL_DURABLE + 1] ∧ (s.on 10 = true → s.fired t 0x56 0) ∧
      t.dict = { s.dict with writing := none } ∧ t.sram = s.sram) ∧
  (∀ s : State, s.dict.writing = none → exec .journalEntryDurable s = .next s) ∧
  (∀ (c : DictCmd) (rest : List DictCmd) (s : State), s.dict.waiting = c :: rest → s.dict.responses = [] →
    ∃ t, exec .journalTimeout s = .next t ∧ t.dict.waiting = rest ∧ t.dict.jnl = s.dict.jnl ∧ t.dict.writing = s.dict.writing ∧
      answered s t ⟨c.origin, c.op, St.BAD_DESCRIPTOR, c.reqid, c.seq, 0x03000006, 0, [], c.tag⟩) ∧
  (∀ s : State, s.dict.waiting = [] → exec .journalTimeout s = .next s) ∧
  (∀ (r : MwReq) (s : State), s.upd.mwBusy = some r → s.on 9 = true →
    ∃ t, exec .mramWordDurable s = .next t ∧ t.mramGet r.addr = r.data ∧ (∀ a, a ≠ r.addr → t.mramGet a = s.mramGet a) ∧
      t.flag A.SYS_MWSTAT 15 = (s.flag A.SYS_MWSTAT 15 && decide (r.port ≠ 2)) ∧ s.regsKept t [] [A.SYS_MWSTAT] ∧
      (s.upd.mwq = [] ∨ s.lnk.fcWait ≠ [] → t.upd = { s.upd with mwBusy := none }) ∧ t.sram = s.sram ∧
      ∀ (l m : List MwReq) (x : MwReq), s.lnk.fcWait = [] → s.upd.mwq = l ++ x :: m → (∀ y ∈ l, x.port < y.port) →
        (∀ y ∈ m, x.port ≤ y.port) → t.upd = { s.upd with mwBusy := some x, mwq := l ++ m }) ∧
  ∀ s : State, s.upd.mwBusy = none ∧ s.upd.mwq = [] ∨ s.upd.mwBusy ≠ none ∧ s.on 9 = false → exec .mramWordDurable s = .next s
end

