-- ==== Sys2Proof/Laws/Cells.lean ====
section
/-!
SUPPORT. Words by address: what a read finds after a write, and that every operation keeps the canonical form.
-/
namespace Sys2Proof.Machine

/-! ## Read after write -/

theorem cellsGet_del (d : Nat → W16) (c : Cells) (a x : Nat) :
    cellsGet d (cellsDel c a) x = if x = a then d a else cellsGet d c x := by
  induction c with
  | nil => simp only [cellsDel, cellsGet]; split <;> simp_all
  | cons p t ih =>
    obtain ⟨b, v⟩ := p
    by_cases hb : b = a
    · simp only [cellsDel, hb, if_true, ih, cellsGet]
      by_cases hx : x = a
      · simp [hx]
      · simp [hx, Ne.symm hx]
    · simp only [cellsDel, hb, if_false, cellsGet, ih]
      by_cases hx : x = a
      · simp [hx, hb]
      · simp [hx]

theorem cellsGet_ins (d : Nat → W16) (c : Cells) (a x : Nat) (v : W16) :
    cellsGet d (cellsIns c a v) x = if x = a then v else cellsGet d c x := by
  induction c with
  | nil => simp [cellsIns, cellsGet, eq_comm]
  | cons p t ih =>
    obtain ⟨b, w⟩ := p
    simp only [cellsIns]
    by_cases hx : x = a
    · subst hx
      split
      · simp [cellsGet]
      · split
        · simp [cellsGet]
        · simp_all [cellsGet]
    · split
      · simp [cellsGet, Ne.symm hx]
      · split
        · rename_i hba
          simp [cellsGet, hba, Ne.symm hx]
        · simp_all [cellsGet]

/-- A read after a write: the word written at its address, and every other word as it was. -/
theorem cellsGet_put (d : Nat → W16) (c : Cells) (a x : Nat) (v : W16) :
    cellsGet d (cellsPut d c a v) x = if x = a then v else cellsGet d c x := by
  simp only [cellsPut]
  split
  · rw [cellsGet_del]; simp_all
  · rw [cellsGet_ins]

/-! ## The canonical form -/

theorem cellsAbove_mono {b b' : Nat} {c : Cells} (h : cellsAbove b c = true) (hb : b' ≤ b) :
    cellsAbove b' c = true := by
  induction c with
  | nil => rfl
  | cons p t ih =>
    simp only [cellsAbove, Bool.and_eq_true, decide_eq_true_eq] at h ⊢
    exact ⟨by omega, ih h.2⟩

theorem cellsAbove_del {b : Nat} {c : Cells} (a : Nat) (h : cellsAbove b c = true) :
    cellsAbove b (cellsDel c a) = true := by
  induction c with
  | nil => rfl
  | cons p t ih =>
    simp only [cellsAbove, Bool.and_eq_true] at h
    simp only [cellsDel]
    split
    · exact ih h.2
    · simp [cellsAbove, h.1, ih h.2]

theorem cellsAbove_ins {b a : Nat} {c : Cells} (v : W16) (h : cellsAbove b c = true) (ha : b < a) :
    cellsAbove b (cellsIns c a v) = true := by
  induction c with
  | nil => simp [cellsIns, cellsAbove, ha]
  | cons p t ih =>
    obtain ⟨x, w⟩ := p
    simp only [cellsAbove, Bool.and_eq_true] at h
    simp only [cellsIns]
    split
    · simp_all [cellsAbove]
    · split
      · simp_all [cellsAbove]
      · simp [cellsAbove, h.1, ih h.2]

theorem cellsAbove_filter {b : Nat} {c : Cells} (q : Nat × W16 → Bool) (h : cellsAbove b c = true) :
    cellsAbove b (c.filter q) = true := by
  induction c with
  | nil => rfl
  | cons p t ih =>
    simp only [cellsAbove, Bool.and_eq_true] at h
    simp only [List.filter_cons]
    split
    · simp [cellsAbove, h.1, ih h.2]
    · exact ih h.2

/-- The canonical form as a proposition about a list with one entry more. -/
theorem Memory.wf_cons {d : Nat → W16} {a : Nat} {v : W16} {t : Cells} :
    Memory.wf d ((a, v) :: t) = true ↔ v ≠ d a ∧ cellsAbove a t = true ∧ Memory.wf d t = true := by
  simp [Memory.wf, and_assoc]

theorem Memory.wf_del {d : Nat → W16} {c : Cells} (a : Nat) (h : Memory.wf d c = true) :
    Memory.wf d (cellsDel c a) = true := by
  induction c with
  | nil => rfl
  | cons p t ih =>
    obtain ⟨b, v⟩ := p
    have h' := Memory.wf_cons.1 h
    simp only [cellsDel]
    split
    · exact ih h'.2.2
    · exact Memory.wf_cons.2 ⟨h'.1, cellsAbove_del a h'.2.1, ih h'.2.2⟩

theorem Memory.wf_ins {d : Nat → W16} {c : Cells} (a : Nat) {v : W16} (hv : v ≠ d a) (h : Memory.wf d c = true) :
    Memory.wf d (cellsIns c a v) = true := by
  induction c with
  | nil => exact Memory.wf_cons.2 ⟨hv, rfl, rfl⟩
  | cons p t ih =>
    obtain ⟨b, w⟩ := p
    have h' := Memory.wf_cons.1 h
    simp only [cellsIns]
    split
    · rename_i hab
      exact Memory.wf_cons.2 ⟨hv, by simp [cellsAbove, hab, cellsAbove_mono h'.2.1 (Nat.le_of_lt hab)], h⟩
    · split
      · rename_i hba
        subst hba
        exact Memory.wf_cons.2 ⟨hv, h'.2.1, h'.2.2⟩
      · exact Memory.wf_cons.2 ⟨h'.1, cellsAbove_ins v h'.2.1 (by omega), ih h'.2.2⟩

/-- A write keeps the canonical form. -/
theorem Memory.wf_put {d : Nat → W16} {c : Cells} (a : Nat) (v : W16) (h : Memory.wf d c = true) :
    Memory.wf d (cellsPut d c a v) = true := by
  simp only [cellsPut]
  split
  · exact Memory.wf_del a h
  · exact Memory.wf_ins a ‹_› h

/-- Entries left out keep the canonical form. -/
theorem Memory.wf_filter {d : Nat → W16} {c : Cells} (q : Nat × W16 → Bool) (h : Memory.wf d c = true) :
    Memory.wf d (c.filter q) = true := by
  induction c with
  | nil => rfl
  | cons p t ih =>
    obtain ⟨b, v⟩ := p
    have h' := Memory.wf_cons.1 h
    simp only [List.filter_cons]
    split
    · exact Memory.wf_cons.2 ⟨h'.1, cellsAbove_filter q h'.2.1, ih h'.2.2⟩
    · exact ih h'.2.2

theorem cellsAbove_iff {b : Nat} {c : Cells} : cellsAbove b c = true ↔ ∀ x ∈ c, b < x.1 := by
  induction c with
  | nil => simp [cellsAbove]
  | cons p t ih => simp [cellsAbove, ih]

/-- A run of words is listed in canonical form. -/
theorem Memory.wf_from (d : Nat → W16) (a : Nat) (ws : List W16) : Memory.wf d (cellsFrom d a ws) = true ∧
    ∀ x ∈ cellsFrom d a ws, a ≤ x.1 ∧ x.1 < a + ws.length := by
  induction ws generalizing a with
  | nil => exact ⟨rfl, by simp [cellsFrom]⟩
  | cons v t ih =>
    have h := ih (a + 1)
    simp only [cellsFrom, List.length_cons]
    split
    · exact ⟨h.1, fun x hx => ⟨by have := h.2 x hx; omega, by have := h.2 x hx; omega⟩⟩
    · refine ⟨Memory.wf_cons.2 ⟨‹_›, cellsAbove_iff.2 fun x hx => by have := h.2 x hx; omega, h.1⟩, fun x hx => ?_⟩
      rcases List.mem_cons.1 hx with rfl | hx
      · exact ⟨Nat.le_refl _, by simp⟩
      · have := h.2 x hx
        omega

/-- Two canonical lists one after the other, where every address of the first lies below those of the second. -/
theorem Memory.wf_append {d : Nat → W16} {c e : Cells} (hc : Memory.wf d c = true) (he : Memory.wf d e = true)
    (h : ∀ x ∈ c, ∀ y ∈ e, x.1 < y.1) : Memory.wf d (c ++ e) = true := by
  induction c with
  | nil => exact he
  | cons p t ih =>
    obtain ⟨a, v⟩ := p
    have h' := Memory.wf_cons.1 hc
    refine Memory.wf_cons.2 ⟨h'.1, cellsAbove_iff.2 fun x hx => ?_, ih h'.2.2 fun x hx => h x (List.mem_cons_of_mem _ hx)⟩
    rcases List.mem_append.1 hx with hx | hx
    · exact cellsAbove_iff.1 h'.2.1 x hx
    · exact h (a, v) (by simp) x hx

/-! ## Rising lists, in which every entry counts -/

theorem cellsRising_cons {a : Nat} {v : W16} {t : Cells} :
    cellsRising ((a, v) :: t) = true ↔ cellsAbove a t = true ∧ cellsRising t = true := by
  simp [cellsRising]

theorem cellsRising_ins {c : Cells} (a : Nat) (v : W16) (h : cellsRising c = true) :
    cellsRising (cellsIns c a v) = true := by
  induction c with
  | nil => rfl
  | cons p t ih =>
    obtain ⟨b, w⟩ := p
    have h' := cellsRising_cons.1 h
    simp only [cellsIns]
    split
    · rename_i hab
      exact cellsRising_cons.2 ⟨by simp [cellsAbove, hab, cellsAbove_mono h'.1 (Nat.le_of_lt hab)], h⟩
    · split
      · rename_i hba
        subst hba
        exact cellsRising_cons.2 ⟨h'.1, h'.2⟩
      · exact cellsRising_cons.2 ⟨cellsAbove_ins v h'.1 (by omega), ih h'.2⟩

theorem cellsRising_filter {c : Cells} (q : Nat × W16 → Bool) (h : cellsRising c = true) :
    cellsRising (c.filter q) = true := by
  induction c with
  | nil => rfl
  | cons p t ih =>
    obtain ⟨b, v⟩ := p
    have h' := cellsRising_cons.1 h
    simp only [List.filter_cons]
    split
    · exact cellsRising_cons.2 ⟨cellsAbove_filter q h'.1, ih h'.2⟩
    · exact ih h'.2

end Sys2Proof.Machine
end

