-- ==== Sys2Proof/Laws/Kept.lean ====
section
/-!
SUPPORT. The queue and the canonical form of the memories through the basic updates of the state.
-/
namespace Sys2Proof.Machine

/-- The queue is p and the memories are in canonical form. -/
@[irreducible] def Kept (p : List Instr) (s : State) : Prop := s.pending = p ∧ s.memWf = true
variable {p : List Instr} {s t : State}
theorem kept_ite {c : Prop} [Decidable c] (hs : Kept p s) (ht : Kept p t) : Kept p (if c then s else t) := by
  split <;> assumption
theorem kept_foldl {α : Type} {f : State → α → State} {l : List α} (hf : ∀ s x, Kept p s → Kept p (f s x)) (h : Kept p s) :
    Kept p (l.foldl f s) := by
  induction l generalizing s with
  | nil => exact h
  | cons x t ih => exact ih (hf _ _ h)
theorem kept_foldl1 {α β : Type} {f : State × β → α → State × β} {l : List α} {q : State × β}
    (hf : ∀ s x, Kept p s.1 → Kept p (f s x).1) (h : Kept p q.1) : Kept p (l.foldl f q).1 := by
  induction l generalizing q with
  | nil => exact h
  | cons x t ih => exact ih (hf _ _ h)
theorem kept_getD {o : Option State} (ho : ∀ r, o = some r → Kept p r) (h : Kept p s) : Kept p (o.getD s) := by
  cases o with
  | none => exact h
  | some t => exact ho t rfl
theorem kept_of_eq2 {α : Type} {q : α × State} {a : α} {t : State} (e : q = (a, t)) (h : Kept p q.2) : Kept p t := by
  subst e; exact h
theorem kept_of_eq22 {α β : Type} {q : α × β × State} {a : α} {b : β} {t : State} (e : q = (a, b, t)) (h : Kept p q.2.2) :
    Kept p t := by
  subst e; exact h
theorem kept_of_eq1 {α : Type} {q : State × α} {a : α} {t : State} (e : q = (t, a)) (h : Kept p q.1) : Kept p t := by
  subst e; exact h
theorem kept_none : ∀ r, (none : Option State) = some r → Kept p r := fun _ h => nomatch h
theorem kept_none2 {α : Type} : ∀ r, (none : Option (α × State)) = some r → Kept p r.2 := fun _ h => nomatch h
theorem kept_some (h : Kept p s) : ∀ r, some s = some r → Kept p r := fun _ e => Option.some.inj e ▸ h
theorem kept_some2 {α : Type} {q : α × State} (h : Kept p q.2) : ∀ r, some q = some r → Kept p r.2 :=
  fun _ e => Option.some.inj e ▸ h
theorem kept_mk {a1 a4 a5 a6 a7 a8 a9 a10 a11 a12 a13 a14 a15 a16 a17 a18 a19 a23 a24 a25 a26 a27 a28 a29 a30 a31 a32 a33 a34 a35 a36 a37 a38 a39 a40 a41 a42 a43 a44 a45 a46 a47 a48 a49 a50 a51 a52} (h : Kept p s) : Kept p (State.mk s.pending a1 s.regs s.held a4 a5 a6 a7 a8 a9 a10 a11 a12 a13 a14 a15 a16 a17 a18 a19 s.sram s.mram s.patterns a23 a24 a25 a26 a27 a28 a29 a30 a31 a32 a33 a34 a35 a36 a37 a38 a39 a40 a41 a42 a43 a44 a45 a46 a47 a48 a49 a50 a51 a52) := by
  simp only [Kept] at h ⊢; exact h

theorem State.setWord_kept (h : Kept p s) : Kept p (State.setWord s v1 v2) := by
  simp only [Kept, State.setWord, State.memWf, Bool.and_eq_true] at h ⊢
  simp only [h, Memory.wf_put, and_self]

theorem State.wr_kept (hs : Kept p s) : Kept p (State.wr s v1 v2 v3 v4) := by
  unfold State.wr
  exact State.setWord_kept hs

theorem State.setFlag_kept (hs : Kept p s) : Kept p (State.setFlag s v1 v2 v3) := by
  unfold State.setFlag
  exact State.wr_kept hs

theorem State.wrw_kept (hs : Kept p s) : Kept p (State.wrw s v1 v2 v3) := by
  induction v2 with
  | zero => exact hs
  | succ n ih => exact State.setWord_kept ih

theorem State.bumpBy_kept (hs : Kept p s) : Kept p (State.bumpBy s v1 v2) := by
  unfold State.bumpBy
  exact State.setWord_kept hs

theorem State.bump_kept (hs : Kept p s) : Kept p (State.bump s v1) := by
  unfold State.bump
  exact State.bumpBy_kept hs

theorem State.rejected_kept (hs : Kept p s) : Kept p (State.rejected s v1) := by
  unfold State.rejected
  exact State.setFlag_kept hs

theorem State.resetRegs_kept (h : Kept p s) : Kept p (State.resetRegs s v1) := by
  simp only [Kept, State.resetRegs, State.memWf, Bool.and_eq_true] at h ⊢
  simp only [h, Memory.wf_filter, cellsRising_filter, and_self]

theorem State.draw_kept (hs : Kept p s) : Kept p (State.draw s v1).2 := by
  unfold State.draw
  exact kept_mk hs

theorem State.setDomState_kept (hs : Kept p s) : Kept p (State.setDomState s v1 v2) := by
  unfold State.setDomState
  exact kept_ite hs (State.wr_kept hs)

theorem State.setBankState_kept (hs : Kept p s) : Kept p (State.setBankState s v1 v2) := by
  unfold State.setBankState
  exact State.wr_kept hs

theorem State.setBankLost_kept (hs : Kept p s) : Kept p (State.setBankLost s v1 v2) := by
  unfold State.setBankLost
  exact State.setFlag_kept hs

theorem State.sramPut_kept (h : Kept p s) : Kept p (State.sramPut s v1 v2) := by
  refine kept_ite ?_ h
  simp only [Kept, State.memWf, Bool.and_eq_true] at h ⊢
  simp only [h, Memory.wf_put, and_self]

theorem State.sramPuts_kept (hs : Kept p s) : Kept p (State.sramPuts s v1 v2) := by
  induction v2 generalizing s v1 with
  | nil => exact hs
  | cons w t ih => exact ih (State.sramPut_kept hs)

theorem State.mramPut_kept (h : Kept p s) : Kept p (State.mramPut s v1 v2) := by
  simp only [Kept, State.mramPut, State.memWf, Bool.and_eq_true] at h ⊢
  simp only [h, Memory.wf_put, and_self]

theorem State.mramPuts_kept (hs : Kept p s) : Kept p (State.mramPuts s v1 v2) := by
  induction v2 generalizing s v1 with
  | nil => exact hs
  | cons w t ih => exact ih (State.mramPut_kept hs)

theorem State.missed_kept (hs : Kept p s) : Kept p (State.missed s v1) := by
  unfold State.missed
  exact State.wr_kept hs

theorem State.enterCable_kept (hv1 : Kept p v1.1) : Kept p (State.enterCable v0 v1 v2).1 := by
  unfold State.enterCable
  extract_lets -merge -underBinder +onlyGivenNames x0
  have h0 : Kept p x0 := hv1
  clear_value x0
  split
  · exact hv1
  · split
    · exact h0
    · extract_lets -merge -underBinder +onlyGivenNames x1
      clear_value x1
      split
      · extract_lets -merge -underBinder +onlyGivenNames x2
        have h2 : Kept p x2 := kept_ite h0 (State.setFlag_kept h0)
        clear_value x2
        exact State.missed_kept h2
      · extract_lets -merge -underBinder +onlyGivenNames x3
        clear_value x3
        exact kept_mk h0

theorem State.forkOnce_kept (hs : Kept p s) : Kept p (State.forkOnce s v1 v2).1 := by
  unfold State.forkOnce
  exact kept_foldl1 (fun _ _ _ => State.enterCable_kept (by assumption)) hs

theorem State.fork_kept (hs : Kept p s) : Kept p (State.fork s v1 v2) := by
  unfold State.fork
  refine kept_ite hs ?_
  extract_lets -merge -underBinder +onlyGivenNames x0
  have h0 : Kept p x0.1 := State.forkOnce_kept hs
  clear_value x0
  split
  all_goals first
    | with_reducible exact h0
    | (extract_lets -merge -underBinder +onlyGivenNames x1
       have h1 : Kept p x1 := State.wr_kept (State.bump_kept (State.setFlag_kept h0))
       clear_value x1
       exact State.forkOnce_kept h1)

theorem State.fire_kept (hs : Kept p s) : Kept p (State.fire s v1 v2) := by
  unfold State.fire
  exact kept_ite (State.fork_kept hs) hs

theorem State.takeEvent_kept (hs : Kept p s) : Kept p (State.takeEvent s v1).2.2.2 := by
  unfold State.takeEvent
  split
  all_goals first
    | with_reducible exact hs
    | (extract_lets -merge -underBinder +onlyGivenNames x0 x1 x2
       have h2 : Kept p x2 := kept_mk hs
       clear_value x0 x1 x2
       extract_lets -merge -underBinder +onlyGivenNames x3 x4
       clear_value x3 x4
       split
       · exact State.setFlag_kept h2
       · exact h2)

theorem State.enterLater_kept (hs : Kept p s) : Kept p (State.enterLater s v1) := by
  unfold State.enterLater
  extract_lets -merge -underBinder +onlyGivenNames x0
  clear_value x0
  exact kept_mk hs

theorem State.onEvent_kept {v3 : Nat → Nat → Bool → State → State} (hs : Kept p s) (hv3 : ∀ z0 z1 z2 z3, Kept p z3 → Kept p (v3 z0 z1 z2 z3)) : Kept p (State.onEvent s v1 v2 v3) := by
  unfold State.onEvent
  extract_lets -merge -underBinder +onlyGivenNames x0
  have h0 : Kept p x0.2.2.2 := State.takeEvent_kept hs
  clear_value x0
  extract_lets -merge -underBinder +onlyGivenNames x1
  have h1 : Kept p x1 := h0
  clear_value x1
  exact kept_ite h1 (kept_ite (State.missed_kept (State.setFlag_kept h1)) (kept_ite (State.missed_kept h1) (State.enterLater_kept (hv3 _ _ _ _ h1))))

theorem State.breach_kept (hs : Kept p s) : Kept p (State.breach s v1 v2 v3 v4 v5) := by
  unfold State.breach
  refine kept_ite hs ?_
  extract_lets -merge -underBinder +onlyGivenNames x0 x1 x2
  have h2 : Kept p x2 := State.bump_kept hs
  clear_value x0 x1 x2
  extract_lets -merge -underBinder +onlyGivenNames x3 x4
  have h4 : Kept p x4 := kept_ite (State.wr_kept (kept_mk h2)) (State.setFlag_kept h2)
  clear_value x3 x4
  exact State.fire_kept h4

theorem State.addTime_kept (hs : Kept p s) : Kept p (State.addTime s v1) := by
  unfold State.addTime
  exact kept_mk hs

theorem State.setRing_kept (hs : Kept p s) : Kept p (State.setRing s v1 v2) := by
  unfold State.setRing
  exact kept_mk hs

end Sys2Proof.Machine
end

