-- ==== Sys2Proof/Laws/KeptPower.lean ====
section
/-!
SUPPORT. Every operation of Machine/Power.lean (with Ports) leaves the queue and keeps the canonical form of the memories.
-/
namespace Sys2Proof.Machine

variable {p : List Instr} {s t : State}

theorem State.setMonitors_kept (hs : Kept p s) : Kept p (State.setMonitors s v1) := by
  unfold State.setMonitors
  exact State.wr_kept (kept_mk hs)

theorem State.overrun_kept (hs : Kept p s) : Kept p (State.overrun s v1) := by
  unfold State.overrun
  exact kept_ite hs (State.breach_kept hs)

theorem State.monitorsDone_kept {v1 : Monitor → Bool} (hs : Kept p s) : Kept p (State.monitorsDone s v1) := by
  unfold State.monitorsDone
  extract_lets -merge -underBinder +onlyGivenNames x0 x1
  have h1 : Kept p x1 := State.setMonitors_kept hs
  clear_value x0 x1
  exact kept_foldl (fun _ _ _ => kept_ite (State.overrun_kept (by assumption)) (by assumption)) h1

theorem State.monitorKind_kept (hs : Kept p s) : Kept p (State.monitorKind s v1 v2) := by
  unfold State.monitorKind
  exact State.monitorsDone_kept hs

theorem State.setQueue_kept (hs : Kept p s) : Kept p (State.setQueue s v1) := by
  unfold State.setQueue
  exact State.wr_kept (kept_mk hs)

theorem State.queueTransition_kept (hs : Kept p s) : Kept p (State.queueTransition s v1) := by
  unfold State.queueTransition
  exact State.setQueue_kept hs

theorem State.demandWake_kept (hs : Kept p s) : Kept p (State.demandWake s v1 v2 v3 v4 v5) := by
  unfold State.demandWake
  extract_lets -merge -underBinder +onlyGivenNames x0
  have h0 : Kept p x0 := State.setWord_kept (State.bump_kept hs)
  clear_value x0
  extract_lets -merge -underBinder +onlyGivenNames x1
  have h1 : Kept p x1 := State.breach_kept h0
  clear_value x1
  exact State.setQueue_kept h1

theorem State.wakeFor_kept (hs : Kept p s) : Kept p (State.wakeFor s v1 v2 v3 v4 v5) := by
  unfold State.wakeFor
  exact kept_ite hs (State.demandWake_kept hs)

theorem State.jnlAdd_kept (hs : Kept p s) : Kept p (State.jnlAdd s v1) := by
  unfold State.jnlAdd
  extract_lets -merge -underBinder +onlyGivenNames x0 x1
  have h1 : Kept p x1 := kept_mk hs
  clear_value x0 x1
  exact kept_ite (State.wakeFor_kept h1) h1

theorem State.endTransition_kept (hs : Kept p s) : Kept p (State.endTransition s) := by
  unfold State.endTransition
  exact State.wr_kept (kept_mk hs)

theorem State.abortEntry_kept (hs : Kept p s) : Kept p (State.abortEntry s) := by
  unfold State.abortEntry
  split
  all_goals first
    | with_reducible exact hs
    | (extract_lets -merge -underBinder +onlyGivenNames x0
       have h0 : Kept p x0 := kept_foldl (fun _ _ _ => State.setBankState_kept (by assumption)) hs
       clear_value x0
       exact State.endTransition_kept (State.setDomState_kept h0))

theorem State.wakeDomain_kept (hs : Kept p s) : Kept p (State.wakeDomain s v1 v2 v3) := by
  unfold State.wakeDomain
  refine kept_ite hs ?_
  split
  all_goals first
    | with_reducible exact State.abortEntry_kept (State.bump_kept hs) | with_reducible exact kept_ite (kept_mk hs) (kept_ite (State.bump_kept hs) (kept_ite hs (kept_mk hs))) | with_reducible exact kept_ite (State.queueTransition_kept hs) hs

theorem State.wakeRequest_kept (hs : Kept p s) : Kept p (State.wakeRequest s v1 v2 v3) := by
  unfold State.wakeRequest
  exact kept_ite (kept_foldl (fun _ _ _ => State.wakeDomain_kept (by assumption)) hs) hs

theorem State.wakeLevels_kept (hs : Kept p s) : Kept p (State.wakeLevels s) := by
  unfold State.wakeLevels
  refine kept_foldl ?_ hs
  intros
  refine kept_ite ?_ (by assumption)
  extract_lets -merge -underBinder +onlyGivenNames x0
  have h0 : Kept p x0 := kept_foldl (fun _ _ _ => kept_ite (State.wakeDomain_kept (by assumption)) (by assumption)) (by assumption)
  clear_value x0
  exact kept_ite (State.setFlag_kept h0) h0

theorem State.gearGo_kept (hs : Kept p s) : Kept p (State.gearGo s) := by
  unfold State.gearGo
  extract_lets -merge -underBinder +onlyGivenNames x0 x1
  clear_value x0 x1
  refine kept_ite hs ?_
  refine kept_ite ?_ ?_
  · extract_lets -merge -underBinder +onlyGivenNames x2
    have h2 : Kept p x2 := State.setFlag_kept hs
    clear_value x2
    exact kept_mk h2
  · refine kept_ite ?_ hs
    extract_lets -merge -underBinder +onlyGivenNames x3
    have h3 : Kept p x3 := State.wr_kept (State.setFlag_kept hs)
    clear_value x3
    exact kept_mk h3

theorem State.setGear_kept (hs : Kept p s) : Kept p (State.setGear s v1) := by
  unfold State.setGear
  exact kept_ite (State.setFlag_kept hs) (kept_ite hs (State.gearGo_kept (State.wr_kept hs)))

theorem State.gearMonitors_kept (hs : Kept p s) : Kept p (State.gearMonitors s) := by
  unfold State.gearMonitors
  exact kept_ite hs (State.monitorsDone_kept hs)

theorem State.takeAct_kept (hs : Kept p s) : ∀ r, State.takeAct s v1 = some r → Kept p r.2 := by
  unfold State.takeAct
  split
  all_goals first
    | with_reducible exact kept_none2 | with_reducible exact kept_some2 (kept_mk hs)

theorem gearEffect_kept (hs : Kept p s) : Kept p (gearEffect s) := by
  unfold gearEffect
  split
  all_goals (try (rename_i e0; have h0 := (State.takeAct_kept hs) _ e0))
  all_goals first
    | with_reducible exact hs
    | (extract_lets -merge -underBinder +onlyGivenNames x1
       have h1 : Kept p x1 := State.gearMonitors_kept (State.setGear_kept (by assumption))
       clear_value x1
       exact kept_ite h1 (State.monitorsDone_kept h1))

theorem gearStepEndEffect_kept (hs : Kept p s) : Kept p (gearStepEndEffect s) := by
  unfold gearStepEndEffect
  refine kept_ite hs ?_
  extract_lets -merge -underBinder +onlyGivenNames x0 x1
  have h1 : Kept p x1 := State.wr_kept (State.setFlag_kept hs)
  clear_value x0 x1
  extract_lets -merge -underBinder +onlyGivenNames x2 x3 x4
  have h2 : Kept p x2 := State.setFlag_kept h1
  have h4 : Kept p x4 := kept_ite (kept_mk h2) (kept_ite (State.setFlag_kept h1) h1)
  clear_value x2 x3 x4
  exact State.gearGo_kept (State.gearMonitors_kept h4)

theorem State.clkReason_kept (hs : Kept p s) : Kept p (State.clkReason s v1) := by
  unfold State.clkReason
  extract_lets -merge -underBinder +onlyGivenNames x0
  have h0 : Kept p x0 := State.wr_kept hs
  clear_value x0
  exact kept_ite h0 (State.setFlag_kept h0)

theorem pllLockLostEffect_kept (hs : Kept p s) : Kept p (pllLockLostEffect s) := by
  unfold pllLockLostEffect
  refine kept_ite hs ?_
  extract_lets -merge -underBinder +onlyGivenNames x0
  have h0 : Kept p x0 := State.setFlag_kept (State.wr_kept (State.setFlag_kept hs))
  clear_value x0
  extract_lets -merge -underBinder +onlyGivenNames x1 x2
  have h2 : Kept p x2 := kept_mk h0
  clear_value x1 x2
  exact State.fire_kept (State.clkReason_kept h2)

theorem pllRelockEffect_kept (hs : Kept p s) : Kept p (pllRelockEffect s) := by
  unfold pllRelockEffect
  refine kept_ite ?_ hs
  extract_lets -merge -underBinder +onlyGivenNames x0
  have h0 : Kept p x0 := State.setFlag_kept hs
  clear_value x0
  exact kept_mk h0

theorem State.mwGo_kept (hs : Kept p s) : Kept p (State.mwGo s) := by
  unfold State.mwGo
  refine kept_ite hs ?_
  split
  all_goals first
    | with_reducible exact hs | with_reducible exact kept_mk hs

theorem State.refuseEntry_kept (hs : Kept p s) : Kept p (State.refuseEntry s v1 v2) := by
  unfold State.refuseEntry
  split
  all_goals first
    | with_reducible exact hs
    | (extract_lets -merge -underBinder +onlyGivenNames x0
       have h0 : Kept p x0 := State.breach_kept hs
       clear_value x0
       extract_lets -merge -underBinder +onlyGivenNames x1
       have h1 : Kept p x1 := State.bump_kept (State.setWord_kept h0)
       clear_value x1
       exact State.abortEntry_kept (State.fire_kept h1))

theorem State.reach_kept (hs : Kept p s) : Kept p (State.reach s v1 v2 v3 v4 v5).2 := by
  unfold State.reach
  split
  · exact hs
  · extract_lets -merge -underBinder +onlyGivenNames x0
    clear_value x0
    split
    · split
      all_goals first
        | with_reducible exact State.refuseEntry_kept hs | with_reducible exact hs
    · split
      · exact hs
      · split
        · exact hs
        · exact State.wakeFor_kept hs

theorem State.offSlot_kept (hs : Kept p s) : Kept p (State.offSlot s v1 v2) := by
  unfold State.offSlot
  exact State.breach_kept hs

theorem State.offSlotRecords_kept (hs : Kept p s) : Kept p (State.offSlotRecords s v1) := by
  induction v1 generalizing s with
  | zero => exact hs
  | succ n ih => exact ih (State.offSlot_kept hs)

theorem State.blockReach_kept (hs : Kept p s) : Kept p (State.blockReach s v1 v2 v3 v4).2 := by
  have h := State.reach_kept (v1 := v1) (v2 := v3) (v3 := v1 == 8) (v4 := v4) (v5 := v2) hs
  unfold State.blockReach
  exact kept_ite (kept_mk h) h

theorem State.portReach_kept (hs : Kept p s) : Kept p (State.portReach s v1 v2) := by
  unfold State.portReach
  exact State.blockReach_kept hs

theorem State.touchMram_kept (hs : Kept p s) : Kept p (State.touchMram s v1) := by
  unfold State.touchMram
  exact State.blockReach_kept hs

theorem State.portWake_kept (hs : Kept p s) : Kept p (State.portWake s v1 v2 v3) := by
  unfold State.portWake
  exact kept_ite hs (kept_foldl (fun _ _ _ => State.portReach_kept (by assumption)) hs)

theorem State.portTouch_kept (hs : Kept p s) : Kept p (State.portTouch s v1 v2 v3) := by
  unfold State.portTouch
  extract_lets -merge -underBinder +onlyGivenNames x0
  have h0 : Kept p x0 := State.portWake_kept hs
  clear_value x0
  exact kept_ite (State.offSlotRecords_kept h0) h0

end Sys2Proof.Machine
end

