-- ==== Sys2Proof/Laws/KeptRings.lean ====
section
/-!
SUPPORT. Every operation of Machine/Rings.lean leaves the queue and keeps the canonical form of the memories.
-/
namespace Sys2Proof.Machine

variable {p : List Instr} {s t : State}

theorem State.putPlaceWord_kept (hs : Kept p s) : Kept p (State.putPlaceWord s v1 v2 v3 v4) := by
  unfold State.putPlaceWord
  exact State.sramPut_kept hs

theorem State.setPi_kept (hs : Kept p s) : Kept p (State.setPi s v1 v2) := by
  unfold State.setPi
  exact State.sramPut_kept (State.setRing_kept hs)

theorem State.setCi_kept (hs : Kept p s) : Kept p (State.setCi s v1 v2) := by
  unfold State.setCi
  exact State.sramPut_kept (State.setRing_kept hs)

theorem State.setCqw_kept (hs : Kept p s) : Kept p (State.setCqw s v1 v2) := by
  unfold State.setCqw
  exact State.sramPut_kept (State.setRing_kept hs)

theorem State.setCqr_kept (hs : Kept p s) : Kept p (State.setCqr s v1 v2) := by
  unfold State.setCqr
  exact State.sramPut_kept (State.setRing_kept hs)

theorem State.ringEvent_kept (hs : Kept p s) : Kept p (State.ringEvent s v1) := by
  unfold State.ringEvent
  extract_lets -merge -underBinder +onlyGivenNames x0
  clear_value x0
  exact kept_ite (State.fire_kept hs) hs

theorem State.showOut_kept (hs : Kept p s) : Kept p (State.showOut s v1) := by
  unfold State.showOut
  extract_lets -merge -underBinder +onlyGivenNames x0
  clear_value x0
  exact State.wr_kept (State.wr_kept hs)

theorem State.touchPost_kept (hs : Kept p s) : Kept p (State.touchPost s v1 v2) := by
  unfold State.touchPost
  exact State.portTouch_kept (State.portTouch_kept hs)

theorem State.reserve_kept (hs : Kept p s) : Kept p (State.reserve s v1 v2) := by
  unfold State.reserve
  exact State.setFlag_kept (State.setRing_kept hs)

theorem State.unreserve_kept (hs : Kept p s) : Kept p (State.unreserve s v1) := by
  unfold State.unreserve
  exact State.setFlag_kept (State.setRing_kept hs)

theorem State.portPuts_kept (hs : Kept p s) : Kept p (State.portPuts s v1 v2 v3) := by
  unfold State.portPuts
  exact kept_ite hs (State.sramPuts_kept hs)

theorem State.postReserved_kept (hs : Kept p s) : Kept p (State.postReserved s v1 v2) := by
  unfold State.postReserved
  split
  all_goals first
    | with_reducible exact hs
    | (refine kept_ite hs ?_
       refine kept_ite ?_ ?_
       · extract_lets -merge -underBinder +onlyGivenNames x0
         have h0 : Kept p x0 := State.touchPost_kept hs
         clear_value x0
         exact State.setRing_kept h0
       · extract_lets -merge -underBinder +onlyGivenNames x1
         have h1 : Kept p x1 := State.touchPost_kept hs
         clear_value x1
         extract_lets -merge -underBinder +onlyGivenNames x2
         clear_value x2
         exact State.ringEvent_kept (State.setPi_kept (State.unreserve_kept (State.portPuts_kept h1))))

theorem State.post_kept (hs : Kept p s) : Kept p (State.post s v1 v2 v3).2 := by
  unfold State.post
  split
  · exact hs
  · split
    · exact State.postReserved_kept (State.reserve_kept hs)
    · extract_lets -merge -underBinder +onlyGivenNames x0
      have h0 : Kept p x0 := kept_ite (State.touchPost_kept hs) hs
      clear_value x0
      exact State.setRing_kept h0

theorem State.laneGranted_kept (hs : Kept p s) : Kept p (State.laneGranted s v1 v2) := by
  unfold State.laneGranted
  split
  all_goals first
    | with_reducible exact hs
    | (refine kept_ite ?_ hs
       extract_lets -merge -underBinder +onlyGivenNames x0
       have h0 : Kept p x0 := State.reserve_kept hs
       clear_value x0
       exact kept_mk h0)

theorem reservationGrantEffect_kept (hs : Kept p s) : Kept p (reservationGrantEffect v0 s) := by
  unfold reservationGrantEffect
  extract_lets -merge -underBinder +onlyGivenNames x0
  clear_value x0
  split
  all_goals first
    | with_reducible exact hs
    | (refine kept_ite hs ?_
       split
       all_goals first
         | with_reducible exact kept_ite hs (State.laneGranted_kept (State.setRing_kept hs)) | with_reducible exact kept_ite (State.postReserved_kept (State.reserve_kept (State.setRing_kept hs))) (State.touchPost_kept hs))

theorem State.putStatus_kept (hs : Kept p s) : Kept p (State.putStatus s v1 v2 v3) := by
  unfold State.putStatus
  extract_lets -merge -underBinder +onlyGivenNames x0
  clear_value x0
  exact State.putPlaceWord_kept hs

theorem State.completeNow_kept (hs : Kept p s) : Kept p (State.completeNow s v1 v2 v3) := by
  unfold State.completeNow
  extract_lets -merge -underBinder +onlyGivenNames x0
  have h0 : Kept p x0 := State.putStatus_kept hs
  clear_value x0
  extract_lets -merge -underBinder +onlyGivenNames x1 x2 x3
  have h3 : Kept p x3 := State.sramPuts_kept h0
  clear_value x1 x2 x3
  extract_lets -merge -underBinder +onlyGivenNames x4 x5
  have h5 : Kept p x5 := State.setRing_kept h3
  clear_value x4 x5
  exact State.ringEvent_kept (State.showOut_kept (State.setCqw_kept h5))

theorem State.touchDone_kept (hs : Kept p s) : Kept p (State.touchDone s v1 v2) := by
  unfold State.touchDone
  exact State.portTouch_kept (State.portTouch_kept hs)

theorem State.complete_kept (hs : Kept p s) : Kept p (State.complete s v1 v2 v3) := by
  unfold State.complete
  refine kept_ite hs ?_
  refine kept_ite (State.completeNow_kept (State.touchDone_kept hs)) ?_
  extract_lets -merge -underBinder +onlyGivenNames x0
  have h0 : Kept p x0 := State.touchDone_kept hs
  clear_value x0
  extract_lets -merge -underBinder +onlyGivenNames x1 x2
  have h2 : Kept p x2 := State.setRing_kept h0
  clear_value x1 x2
  exact kept_mk h2

theorem State.completeGeneric_kept (hs : Kept p s) : Kept p (State.completeGeneric s v1 v2 v3 v4) := by
  unfold State.completeGeneric
  exact State.complete_kept (State.putPlaceWord_kept hs)

theorem State.fetchDesc_kept (hs : Kept p s) : Kept p (State.fetchDesc s v1 v2).2 := by
  unfold State.fetchDesc
  exact State.portTouch_kept hs

theorem State.markOut_kept (hs : Kept p s) : Kept p (State.markOut s v1 v2 v3 v4) := by
  unfold State.markOut
  exact State.setRing_kept hs

theorem State.fetched_kept (hs : Kept p s) : Kept p (State.fetched s v1 v2 v3) := by
  unfold State.fetched
  exact State.markOut_kept (State.fetchDesc_kept hs)

theorem State.refuseQ_kept (hs : Kept p s) : Kept p (State.refuseQ s v1) := by
  unfold State.refuseQ
  exact State.bump_kept (State.setFlag_kept hs)

theorem State.qpost_kept (hs : Kept p s) : ∀ r, State.qpost s v1 v2 = some r → Kept p r := by
  unfold State.qpost
  split
  · exact kept_none
  · extract_lets -merge +onlyGivenNames x0
    clear_value x0
    extract_lets -merge +onlyGivenNames x1 x2 x3
    have h3 : Kept p x3 := kept_ite (State.setRing_kept hs) hs
    clear_value x1 x2 x3
    extract_lets -merge +onlyGivenNames x4
    have h4 : Kept p x4 := State.setPi_kept h3
    clear_value x4
    extract_lets -merge +onlyGivenNames x5
    have h5 : Kept p x5 := kept_ite (State.showOut_kept h4) h4
    clear_value x5
    exact kept_some (State.ringEvent_kept h5)

theorem State.advanceCi_kept (hs : Kept p s) : Kept p (State.advanceCi s v1 v2) := by
  induction v2 generalizing s with
  | zero => exact hs
  | succ n ih => exact kept_ite (ih (State.setCi_kept (State.setRing_kept hs))) hs

theorem State.qfetch_kept (hs : Kept p s) : ∀ r, State.qfetch s v1 v2 = some r → Kept p r := by
  unfold State.qfetch
  extract_lets -merge +onlyGivenNames x0
  clear_value x0
  split
  · exact kept_none
  · split
    · split
      · exact kept_none
      · extract_lets -merge +onlyGivenNames x1
        have h1 : Kept p x1 := State.setRing_kept hs
        clear_value x1
        exact kept_some (State.advanceCi_kept (State.setCqr_kept h1))
    · split
      · exact kept_none
      · exact kept_some (State.setCi_kept hs)

theorem State.freeRelay_kept (hs : Kept p s) : Kept p (State.freeRelay s v1 v2 v3) := by
  unfold State.freeRelay
  split
  all_goals first
    | with_reducible exact hs
    | (refine kept_ite hs ?_
       extract_lets -merge -underBinder +onlyGivenNames x0
       have h0 : Kept p x0 := kept_ite hs (kept_getD (State.qfetch_kept hs) hs)
       clear_value x0
       extract_lets -merge -underBinder +onlyGivenNames x1 x2
       have h2 : Kept p x2 := kept_mk h0
       clear_value x1 x2
       exact kept_ite h2 (State.bump_kept h2))

theorem State.lateCompletions_kept (hs : Kept p s) : Kept p (State.lateCompletions s) := by
  unfold State.lateCompletions
  exact kept_foldl (fun _ _ _ => State.freeRelay_kept (State.complete_kept (by assumption))) (kept_mk hs)

theorem State.fireDone_kept (hs : Kept p s) : Kept p (State.fireDone s v1) := by
  unfold State.fireDone
  exact kept_ite (State.fire_kept hs) (kept_ite (State.fire_kept hs) (kept_ite (State.fire_kept hs) hs))

theorem State.cancelDesc_kept (hs : Kept p s) : Kept p (State.cancelDesc s v1 v2) := by
  unfold State.cancelDesc
  exact State.freeRelay_kept (State.fireDone_kept (State.complete_kept hs))

theorem cancelOnPostEffect_kept (hs : Kept p s) : Kept p (cancelOnPostEffect v0 s) := by
  unfold cancelOnPostEffect
  extract_lets -merge -underBinder +onlyGivenNames x0
  clear_value x0
  exact kept_ite hs (kept_foldl (fun _ _ _ => State.cancelDesc_kept (by assumption)) hs)

theorem State.enLeaves_kept (hs : Kept p s) : Kept p (State.enLeaves s v1) := by
  unfold State.enLeaves
  refine kept_ite ?_ (State.wr_kept hs)
  extract_lets -merge -underBinder +onlyGivenNames x0
  have h0 : Kept p x0 := State.wr_kept hs
  clear_value x0
  exact kept_mk h0

theorem State.enSettle_kept (hs : Kept p s) : Kept p (State.enSettle s v1 v2) := by
  unfold State.enSettle
  exact kept_ite (State.enLeaves_kept hs) hs

theorem State.cancelRings_kept (hs : Kept p s) : Kept p (State.cancelRings s v1) := by
  unfold State.cancelRings
  exact kept_foldl (fun _ _ _ => kept_foldl (fun _ _ _ => State.cancelDesc_kept (by assumption)) (by assumption)) hs

theorem State.startAbort_kept (hs : Kept p s) : Kept p (State.startAbort s v1) := by
  unfold State.startAbort
  refine kept_ite (State.rejected_kept hs) ?_
  extract_lets -merge -underBinder +onlyGivenNames x0
  have h0 : Kept p x0 := State.setFlag_kept hs
  clear_value x0
  exact kept_mk h0

end Sys2Proof.Machine
end

