-- ==== Sys2Proof/Laws/KeptReset.lean ====
section
/-!
SUPPORT. Every operation of Machine/Reset.lean leaves the queue and keeps the canonical form of the memories.
-/
namespace Sys2Proof.Machine

variable {p : List Instr} {s t : State}

theorem State.clearGates_kept (hs : Kept p s) : Kept p (State.clearGates s v1) := by
  unfold State.clearGates
  exact kept_foldl (fun _ _ _ => kept_ite (State.setFlag_kept (State.setFlag_kept (by assumption))) (by assumption)) hs

theorem State.domRegs_kept (hs : Kept p s) : Kept p (State.domRegs s v1) := by
  unfold State.domRegs
  extract_lets -merge -underBinder +onlyGivenNames x0
  have h0 : Kept p x0 := State.resetRegs_kept hs
  clear_value x0
  exact kept_mk h0

theorem State.engineOff_kept (hs : Kept p s) : Kept p (State.engineOff s v1) := by
  unfold State.engineOff
  extract_lets -merge -underBinder +onlyGivenNames x0 x1 x2
  have h2 : Kept p x2 := kept_mk hs
  clear_value x0 x1 x2
  extract_lets -merge -underBinder +onlyGivenNames x3
  have h3 : Kept p x3 := State.wr_kept h2
  clear_value x3
  exact kept_ite (kept_mk h3) h3

theorem State.loseRefs_kept (hs : Kept p s) : Kept p (State.loseRefs s) := by
  unfold State.loseRefs
  extract_lets -merge -underBinder +onlyGivenNames x0 x1
  clear_value x0 x1
  exact kept_mk hs

theorem State.loseBlocks_kept (hs : Kept p s) : Kept p (State.loseBlocks s v1) := by
  unfold State.loseBlocks
  refine kept_ite (State.engineOff_kept hs) (kept_ite ?_ (kept_ite ?_ (kept_ite ?_ (kept_ite ?_ (kept_ite ?_ (kept_ite ?_ (kept_ite ?_ (kept_ite ?_ hs))))))))
  · refine kept_foldl (fun _ _ _ => State.setFlag_kept (by assumption)) ?_
    have h := State.domRegs_kept (v1 := 8) hs
    simp only [Kept, State.memWf, Bool.and_eq_true] at h ⊢
    exact ⟨h.1, h.2.1, rfl⟩
  · exact kept_mk (State.domRegs_kept hs)
  · exact kept_mk (State.domRegs_kept hs)
  · exact State.mwGo_kept (kept_mk (State.domRegs_kept hs))
  · exact kept_mk (State.wr_kept (State.domRegs_kept hs))
  · exact kept_mk (State.wr_kept (State.domRegs_kept hs))
  · exact kept_mk (kept_foldl (fun _ _ _ => kept_ite (by assumption) (State.markOut_kept (by assumption))) (State.domRegs_kept hs))
  · exact kept_mk (State.domRegs_kept hs)

theorem State.bankOff_kept (hs : Kept p s) : Kept p (State.bankOff s v1) := by
  have h := State.setBankState_kept (v1 := v1) (v2 := 0) hs
  simp only [Kept, State.bankOff, State.memWf, Bool.and_eq_true] at h hs ⊢
  exact ⟨h.1, ⟨⟨h.2.1.1.1, Memory.wf_filter _ hs.2.1.1.2⟩, h.2.1.2⟩, h.2.2⟩

theorem State.domOff_kept (hs : Kept p s) : Kept p (State.domOff s v1) := by
  unfold State.domOff
  extract_lets -merge -underBinder +onlyGivenNames x0
  have h0 : Kept p x0 := State.setDomState_kept (State.clearGates_kept (State.loseBlocks_kept hs))
  clear_value x0
  exact kept_ite (kept_foldl (fun _ _ _ => State.bankOff_kept (by assumption)) h0) h0

theorem State.allOff_kept (hs : Kept p s) : Kept p (State.allOff s) := by
  unfold State.allOff
  exact kept_foldl (fun _ _ _ => State.domOff_kept (by assumption)) hs

theorem State.drawChallenge_kept (hs : Kept p s) : Kept p (State.drawChallenge s) := by
  unfold State.drawChallenge
  extract_lets -merge -underBinder +onlyGivenNames x0
  have h0 : Kept p x0.2 := State.draw_kept hs
  clear_value x0
  exact State.wrw_kept h0

theorem State.softReset_kept (hs : Kept p s) : Kept p (State.softReset s v1) := by
  unfold State.softReset
  extract_lets -merge -underBinder +onlyGivenNames x0 x1
  have h1 : Kept p x1 := kept_mk hs
  clear_value x0 x1
  extract_lets -merge -underBinder +onlyGivenNames x2
  have h2 : Kept p x2 := State.allOff_kept h1
  clear_value x2
  extract_lets -merge -underBinder +onlyGivenNames x3
  have h3 : Kept p x3 := State.setFlag_kept (State.setWord_kept h2)
  clear_value x3
  extract_lets -merge -underBinder +onlyGivenNames x4 x5 x6 x7 x8 x9
  have h9 : Kept p x9 := kept_mk h3
  clear_value x4 x5 x6 x7 x8 x9
  extract_lets -merge -underBinder +onlyGivenNames x10
  have h10 : Kept p x10 := State.wr_kept (State.wr_kept h9)
  clear_value x10
  extract_lets -merge -underBinder +onlyGivenNames x11
  have h11 : Kept p x11 := State.wr_kept h10
  clear_value x11
  extract_lets -merge -underBinder +onlyGivenNames x12
  have h12 : Kept p x12 := State.wr_kept h11
  clear_value x12
  exact State.setQueue_kept (State.drawChallenge_kept h12)

theorem State.powerOn_kept (h : Kept p s) : Kept p (State.powerOn s v1) := by
  refine State.drawChallenge_kept (State.wr_kept ?_)
  simp only [Kept, State.memWf, Bool.and_eq_true] at h ⊢
  simp only [h, true_and, and_true]
  decide +kernel

theorem State.systemReset_kept (hs : Kept p s) : Kept p (State.systemReset s) := by
  unfold State.systemReset
  exact State.softReset_kept hs

end Sys2Proof.Machine
end

