-- ==== Sys2Proof/Laws/KeptCadence.lean ====
section
/-!
SUPPORT. Every operation of Machine/Cadence.lean leaves the queue and keeps the canonical form of the memories.
-/
namespace Sys2Proof.Machine

variable {p : List Instr} {s t : State}

theorem State.tick_kept (hs : Kept p s) : Kept p (State.tick s) := by
  unfold State.tick
  exact kept_ite (State.addTime_kept hs) hs

theorem sleepCounterEdgeEffect_kept (hs : Kept p s) : Kept p (sleepCounterEdgeEffect s) := by
  unfold sleepCounterEdgeEffect
  extract_lets -merge -underBinder +onlyGivenNames x0
  have h0 : Kept p x0 := kept_mk hs
  clear_value x0
  exact kept_ite (kept_mk h0) h0

theorem ntRebuildEffect_kept (hs : Kept p s) : Kept p (ntRebuildEffect s) := by
  unfold ntRebuildEffect
  refine kept_ite hs ?_
  extract_lets -merge -underBinder +onlyGivenNames x0
  have h0 : Kept p x0 := kept_mk hs
  clear_value x0
  extract_lets -merge -underBinder +onlyGivenNames x1
  clear_value x1
  exact kept_mk h0

theorem State.armWake_kept (hs : Kept p s) : Kept p (State.armWake s v1 v2) := by
  unfold State.armWake
  exact State.setFlag_kept (State.wrw_kept hs)

theorem wakeCompareMatchEffect_kept (hs : Kept p s) : Kept p (wakeCompareMatchEffect v0 s) := by
  unfold wakeCompareMatchEffect
  refine kept_ite ?_ hs
  extract_lets -merge -underBinder +onlyGivenNames x0
  have h0 : Kept p x0 := State.setFlag_kept (State.setFlag_kept hs)
  clear_value x0
  exact kept_ite (State.wakeLevels_kept (State.wakeRequest_kept (State.setFlag_kept h0))) h0

theorem wakecmpEffect_kept (hs : Kept p s) : Kept p (wakecmpEffect s) := by
  unfold wakecmpEffect
  split
  all_goals (try (rename_i e0; have h0 := (State.takeAct_kept hs) _ e0))
  all_goals first
    | with_reducible exact hs
    | (extract_lets -merge -underBinder +onlyGivenNames x1
       clear_value x1
       exact State.armWake_kept (by assumption))

theorem State.setCc_kept (hs : Kept p s) : Kept p (State.setCc s v1 v2) := by
  unfold State.setCc
  exact kept_mk hs

theorem State.takeTarget_kept (hs : Kept p s) : Kept p (State.takeTarget s v1 v2) := by
  unfold State.takeTarget
  extract_lets -merge -underBinder +onlyGivenNames x0
  have h0 : Kept p x0 := State.wrw_kept hs
  clear_value x0
  extract_lets -merge -underBinder +onlyGivenNames x1 x2
  have h2 : Kept p x2 := State.setCc_kept h0
  clear_value x1 x2
  exact State.setFlag_kept h2

theorem State.ccFired_kept (hs : Kept p s) : Kept p (State.ccFired s v1) := by
  unfold State.ccFired
  exact State.fire_kept (State.setFlag_kept hs)

theorem State.nextTarget_kept (hs : Kept p s) : Kept p (State.nextTarget s v1 v2) := by
  unfold State.nextTarget
  exact State.setCc_kept (State.wrw_kept hs)

theorem State.periodFired_kept (hs : Kept p s) : Kept p (State.periodFired s v1 v2) := by
  unfold State.periodFired
  exact kept_ite (State.nextTarget_kept (State.setFlag_kept hs)) (State.nextTarget_kept hs)

theorem compareFireEffect_kept (hs : Kept p s) : Kept p (compareFireEffect v0 s) := by
  unfold compareFireEffect
  refine kept_ite ?_ hs
  extract_lets -merge -underBinder +onlyGivenNames x0 x1
  have h1 : Kept p x1 := State.ccFired_kept hs
  clear_value x0 x1
  exact kept_ite (State.setFlag_kept h1) (State.periodFired_kept h1)

theorem State.periodWritten_kept (hs : Kept p s) : Kept p (State.periodWritten s v1) := by
  unfold State.periodWritten
  exact kept_ite (State.nextTarget_kept hs) hs

theorem State.modeWritten_kept (hs : Kept p s) : Kept p (State.modeWritten s v1) := by
  unfold State.modeWritten
  exact kept_ite hs (State.setFlag_kept hs)

theorem State.capturePost_kept (hs : Kept p s) : Kept p (State.capturePost s v1) := by
  unfold State.capturePost
  refine kept_ite hs ?_
  extract_lets -merge -underBinder +onlyGivenNames x0
  clear_value x0
  split
  all_goals (rename_i e1; have h1 := kept_of_eq2 e1 (State.post_kept hs))
  all_goals first
    | with_reducible exact kept_mk (by assumption) | with_reducible exact State.bump_kept (by assumption)

theorem State.pairLands_kept (hs : Kept p s) : Kept p (State.pairLands s v1) := by
  unfold State.pairLands
  extract_lets -merge -underBinder +onlyGivenNames x0
  have h0 : Kept p x0 := kept_ite (State.setFlag_kept hs) hs
  clear_value x0
  exact State.capturePost_kept (State.setFlag_kept h0)

theorem captureEdgeEffect_kept (hs : Kept p s) : Kept p (captureEdgeEffect v0 v1 s) := by
  unfold captureEdgeEffect
  refine kept_ite hs ?_
  extract_lets -merge -underBinder +onlyGivenNames x0 x1
  clear_value x0 x1
  split
  all_goals first
    | with_reducible exact State.fire_kept (State.pairLands_kept (State.wrw_kept hs)) | with_reducible exact State.fire_kept (State.setCc_kept hs) | with_reducible exact hs
    | (split
       all_goals first
         | with_reducible exact hs
         | (extract_lets -merge -underBinder +onlyGivenNames x2
            have h2 : Kept p x2 := State.wrw_kept (State.wrw_kept hs)
            clear_value x2
            extract_lets -merge -underBinder +onlyGivenNames x3
            have h3 : Kept p x3 := State.wrw_kept h2
            clear_value x3
            exact State.fire_kept (State.pairLands_kept (State.setCc_kept h3))))

theorem cadCapEffect_kept (hs : Kept p s) : Kept p (cadCapEffect v0 s) := by
  unfold cadCapEffect
  refine State.onEvent_kept hs ?_
  intros
  extract_lets -merge -underBinder +onlyGivenNames x0 x1
  have h1 : Kept p x1 := State.wrw_kept (State.wrw_kept (State.wrw_kept (by assumption)))
  clear_value x0 x1
  exact State.fire_kept (State.pairLands_kept h1)

theorem cadNtsnapEffect_kept (hs : Kept p s) : Kept p (cadNtsnapEffect s) := by
  unfold cadNtsnapEffect
  refine State.onEvent_kept hs ?_
  intros
  exact State.wrw_kept (by assumption)

theorem State.latchPair_kept (hs : Kept p s) : Kept p (State.latchPair s v1) := by
  unfold State.latchPair
  exact State.setFlag_kept (State.setCc_kept hs)

theorem State.latchSnap_kept (hs : Kept p s) : Kept p (State.latchSnap s) := by
  unfold State.latchSnap
  exact kept_mk hs

theorem State.armRequest_kept (hs : Kept p s) : Kept p (State.armRequest s v1) := by
  unfold State.armRequest
  extract_lets -merge -underBinder +onlyGivenNames x0 x1 x2
  have h2 : Kept p x2 := State.fetched_kept hs
  clear_value x0 x1 x2
  refine kept_ite (State.completeGeneric_kept h2) ?_
  extract_lets -merge -underBinder +onlyGivenNames x3
  have h3 : Kept p x3 := State.wrw_kept h2
  clear_value x3
  exact State.completeGeneric_kept (State.takeTarget_kept h3)

theorem State.disarmRequest_kept (hs : Kept p s) : Kept p (State.disarmRequest s v1) := by
  unfold State.disarmRequest
  extract_lets -merge -underBinder +onlyGivenNames x0 x1
  have h1 : Kept p x1 := State.fetched_kept hs
  clear_value x0 x1
  exact kept_ite (State.completeGeneric_kept h1) (State.completeGeneric_kept (State.setFlag_kept h1))

theorem State.ring47_kept (hs : Kept p s) : Kept p (State.ring47 s v1) := by
  unfold State.ring47
  refine kept_ite hs ?_
  split
  all_goals first
    | with_reducible exact hs
    | (extract_lets -merge -underBinder +onlyGivenNames x0
       clear_value x0
       exact kept_ite (State.fetchDesc_kept hs) (kept_ite (State.completeGeneric_kept (State.fetched_kept hs)) (kept_ite (kept_ite (State.armRequest_kept hs) (State.disarmRequest_kept hs)) (kept_ite hs (State.completeGeneric_kept (State.fetched_kept hs))))))

theorem State.pinEdge_kept (hs : Kept p s) : Kept p (State.pinEdge s v1 v2) := by
  unfold State.pinEdge
  extract_lets -merge -underBinder +onlyGivenNames x0 x1 x2
  clear_value x0 x1 x2
  exact kept_ite (State.fire_kept (State.setFlag_kept hs)) hs

theorem State.ownEdges_kept (hs : Kept p s) (hv1 : Kept p v1) : Kept p (State.ownEdges s v1) := by
  unfold State.ownEdges
  exact kept_foldl (fun _ _ _ => kept_ite (by assumption) (State.pinEdge_kept (by assumption))) hs

theorem State.ppsStart_kept (hs : Kept p s) : Kept p (State.ppsStart s v1) := by
  unfold State.ppsStart
  extract_lets -merge -underBinder +onlyGivenNames x0 x1
  have h1 : Kept p x1 := kept_mk hs
  clear_value x0 x1
  exact State.fire_kept (State.setFlag_kept (State.ownEdges_kept h1 hs))

theorem cadPpsoutEffect_kept (hs : Kept p s) : Kept p (cadPpsoutEffect s) := by
  unfold cadPpsoutEffect
  refine State.onEvent_kept hs ?_
  intros
  exact State.ppsStart_kept (by assumption)

theorem ppsAutoEffect_kept (hs : Kept p s) : Kept p (ppsAutoEffect s) := by
  unfold ppsAutoEffect
  exact kept_ite (State.ppsStart_kept hs) hs

theorem ppsPulseEndEffect_kept (hs : Kept p s) : Kept p (ppsPulseEndEffect s) := by
  unfold ppsPulseEndEffect
  extract_lets -merge -underBinder +onlyGivenNames x0 x1
  have h1 : Kept p x1 := kept_mk hs
  clear_value x0 x1
  exact State.setFlag_kept (State.ownEdges_kept h1 hs)

theorem ppsInputEdgeEffect_kept (hs : Kept p s) : Kept p (ppsInputEdgeEffect v0 s) := by
  unfold ppsInputEdgeEffect
  exact kept_ite (State.fire_kept hs) hs

end Sys2Proof.Machine
end

