-- ==== Sys2Proof/Laws/KeptGauge.lean ====
section
/-!
SUPPORT. Every operation of Machine/Gauge.lean leaves the queue and keeps the canonical form of the memories.
-/
namespace Sys2Proof.Machine

variable {p : List Instr} {s t : State}

theorem State.disableFn_kept (hs : Kept p s) : Kept p (State.disableFn s v1 v2 v3) := by
  unfold State.disableFn
  exact State.wr_kept (State.cancelRings_kept hs)

theorem State.openGate_kept (hs : Kept p s) : Kept p (State.openGate s v1) := by
  unfold State.openGate
  exact kept_ite (State.setFlag_kept (State.setFlag_kept hs)) hs

theorem State.setConv_kept (hs : Kept p s) : Kept p (State.setConv s v1 v2) := by
  unfold State.setConv
  extract_lets -merge -underBinder +onlyGivenNames x0 x1
  have h1 : Kept p x1 := kept_mk hs
  clear_value x0 x1
  exact State.setFlag_kept (State.setFlag_kept h1)

theorem State.startConv_kept (hs : Kept p s) : Kept p (State.startConv s v1 v2 v3 v4 v5) := by
  unfold State.startConv
  extract_lets -merge -underBinder +onlyGivenNames x0
  have h0 : Kept p x0 := State.openGate_kept hs
  clear_value x0
  exact State.setConv_kept h0

theorem conversionStartEffect_kept (hs : Kept p s) : Kept p (conversionStartEffect v0 s) := by
  unfold conversionStartEffect
  refine State.onEvent_kept hs ?_
  intros
  exact kept_ite (State.startConv_kept (by assumption)) (by assumption)

theorem State.limit_kept (hs : Kept p s) : Kept p (State.limit s v1 v2 v3) := by
  unfold State.limit
  refine kept_ite hs ?_
  extract_lets -merge -underBinder +onlyGivenNames x0 x1 x2
  have h2 : Kept p x2 := kept_mk hs
  clear_value x0 x1 x2
  exact kept_ite (State.fire_kept h2) h2

theorem conversionDoneEffect_kept (hs : Kept p s) : Kept p (conversionDoneEffect v0 v1 v2 v3 v4 v5 v6 s) := by
  unfold conversionDoneEffect
  split
  all_goals first
    | with_reducible exact hs
    | (extract_lets -merge -underBinder +onlyGivenNames x0 x1 x2 x3 x4
       have h4 : Kept p x4.2 := State.post_kept hs
       clear_value x0 x1 x2 x3 x4
       extract_lets -merge -underBinder +onlyGivenNames x5
       have h5 : Kept p x5 := State.setConv_kept h4
       clear_value x5
       extract_lets -merge -underBinder +onlyGivenNames x6 x7 x8 x9 x10
       have h7 : Kept p x7 := kept_mk h5
       have h8 : Kept p x8 := State.fire_kept h7
       have h10 : Kept p x10 := kept_ite (kept_ite (State.monitorsDone_kept h8) h8) (State.bump_kept h5)
       clear_value x6 x7 x8 x9 x10
       extract_lets -merge -underBinder +onlyGivenNames x11
       have h11 : Kept p x11 := by
         unfold x11
         split
         all_goals first
           | with_reducible exact State.limit_kept h10
           | (extract_lets -merge -underBinder +onlyGivenNames x12
              clear_value x12
              split
              all_goals first
                | with_reducible exact State.limit_kept h10 | with_reducible exact h10)
       clear_value x11
       extract_lets -merge -underBinder +onlyGivenNames x13
       have h13 : Kept p x13 := by
         unfold x13
         split
         all_goals first
           | with_reducible exact h11
           | (refine kept_ite (State.completeGeneric_kept h11) ?_
              extract_lets -merge -underBinder +onlyGivenNames x14
              have h14 : Kept p x14.2 := State.draw_kept h11
              clear_value x14
              exact State.completeGeneric_kept h14)
       clear_value x13
       exact State.enSettle_kept h13)

theorem State.dacLoad_kept (hs : Kept p s) : Kept p (State.dacLoad s v1 v2 v3) := by
  unfold State.dacLoad
  extract_lets -merge -underBinder +onlyGivenNames x0
  have h0 : Kept p x0 := State.openGate_kept hs
  clear_value x0
  extract_lets -merge -underBinder +onlyGivenNames x1
  clear_value x1
  exact kept_mk h0

theorem gauDacLoadEffect_kept (hs : Kept p s) : Kept p (gauDacLoadEffect v0 s) := by
  unfold gauDacLoadEffect
  refine State.onEvent_kept hs ?_
  intros
  exact State.dacLoad_kept (by assumption)

theorem dacSettledEffect_kept (hs : Kept p s) : Kept p (dacSettledEffect v0 s) := by
  unfold dacSettledEffect
  split
  all_goals first
    | with_reducible exact hs
    | (extract_lets -merge -underBinder +onlyGivenNames x0 x1
       have h1 : Kept p x1 := kept_mk hs
       clear_value x0 x1
       extract_lets -merge -underBinder +onlyGivenNames x2
       have h2 : Kept p x2 := kept_foldl (fun _ _ _ => State.completeGeneric_kept (by assumption)) h1
       clear_value x2
       exact State.enSettle_kept (State.fire_kept h2))

theorem State.ring45_kept (hs : Kept p s) : Kept p (State.ring45 s v1) := by
  unfold State.ring45
  refine kept_ite hs ?_
  split
  all_goals first
    | with_reducible exact hs
    | (refine kept_ite (State.fetchDesc_kept hs) ?_
       refine kept_ite (State.completeGeneric_kept (State.fetched_kept hs)) ?_
       refine kept_ite (State.completeGeneric_kept (State.fetched_kept hs)) ?_
       refine kept_ite hs ?_
       refine kept_ite ?_ ?_
       · extract_lets -merge -underBinder +onlyGivenNames x0
         clear_value x0
         exact kept_ite hs (State.startConv_kept (State.fetched_kept hs))
       · extract_lets -merge -underBinder +onlyGivenNames x1
         clear_value x1
         extract_lets -merge -underBinder +onlyGivenNames x2
         have h2 : Kept p x2 := State.setWord_kept (State.fetched_kept hs)
         clear_value x2
         exact State.dacLoad_kept h2)

theorem State.pwmStart_kept (hs : Kept p s) : Kept p (State.pwmStart s v1 v2) := by
  unfold State.pwmStart
  extract_lets -merge -underBinder +onlyGivenNames x0 x1
  have h1 : Kept p x1 := kept_mk hs
  clear_value x0 x1
  exact State.fire_kept h1

theorem pwmPeriodStartEffect_kept (hs : Kept p s) : Kept p (pwmPeriodStartEffect v0 s) := by
  unfold pwmPeriodStartEffect
  exact kept_ite (State.pwmStart_kept hs) hs

theorem gauPwmRestartEffect_kept (hs : Kept p s) : Kept p (gauPwmRestartEffect v0 s) := by
  unfold gauPwmRestartEffect
  refine State.onEvent_kept hs ?_
  intros
  exact kept_ite (State.pwmStart_kept (State.openGate_kept (by assumption))) (by assumption)

theorem gauIexToggleEffect_kept (hs : Kept p s) : Kept p (gauIexToggleEffect v0 s) := by
  unfold gauIexToggleEffect
  refine State.onEvent_kept hs ?_
  intros
  exact State.setFlag_kept (by assumption)

theorem gpioEdgeEffect_kept (hs : Kept p s) : Kept p (gpioEdgeEffect v0 v1 s) := by
  unfold gpioEdgeEffect
  extract_lets -merge -underBinder +onlyGivenNames x0
  have h0 : Kept p x0 := kept_mk hs
  clear_value x0
  exact kept_ite (State.pinEdge_kept h0) h0

theorem gpioTaskEffect_kept (hs : Kept p s) : Kept p (gpioTaskEffect v0 s) := by
  unfold gpioTaskEffect
  refine State.onEvent_kept hs ?_
  intros
  extract_lets -merge -underBinder +onlyGivenNames x0 x1
  clear_value x0 x1
  split
  all_goals first
    | with_reducible exact State.ownEdges_kept (State.setFlag_kept (by assumption)) (by assumption) | with_reducible exact by assumption

theorem perGpiosnapEffect_kept (hs : Kept p s) : Kept p (perGpiosnapEffect s) := by
  unfold perGpiosnapEffect
  refine State.onEvent_kept hs ?_
  intros
  exact kept_foldl (fun _ _ _ => State.setWord_kept (by assumption)) (by assumption)

end Sys2Proof.Machine
end

