-- ==== Sys2Proof/Laws/KeptSerial.lean ====
section
/-!
SUPPORT. Every operation of Machine/Serial.lean leaves the queue and keeps the canonical form of the memories.
-/
namespace Sys2Proof.Machine

variable {p : List Instr} {s t : State}

theorem State.setUnit_kept (hs : Kept p s) : Kept p (State.setUnit s v1 v2) := by
  unfold State.setUnit
  exact State.wr_kept (kept_mk hs)

theorem State.setUnitBusy_kept (hs : Kept p s) : Kept p (State.setUnitBusy s v1 v2) := by
  unfold State.setUnitBusy
  exact State.setFlag_kept (State.setFlag_kept hs)

theorem State.startTransfer_kept (hs : Kept p s) : Kept p (State.startTransfer s v1 v2) := by
  unfold State.startTransfer
  refine kept_ite ?_ hs
  extract_lets -merge -underBinder +onlyGivenNames x0
  have h0 : Kept p x0 := State.setUnitBusy_kept (State.openGate_kept hs)
  clear_value x0
  exact State.setUnit_kept h0

theorem transferStartEffect_kept (hs : Kept p s) : Kept p (transferStartEffect v0 s) := by
  unfold transferStartEffect
  refine State.onEvent_kept hs ?_
  intros
  exact State.startTransfer_kept (by assumption)

theorem State.startWritten_kept (hs : Kept p s) : Kept p (State.startWritten s v1) := by
  unfold State.startWritten
  exact kept_ite (State.rejected_kept hs) (State.startTransfer_kept hs)

theorem State.endTransfer_kept (hs : Kept p s) : Kept p (State.endTransfer s v1 v2) := by
  unfold State.endTransfer
  extract_lets -merge -underBinder +onlyGivenNames x0
  have h0 : Kept p x0 := State.setFlag_kept (State.wr_kept (State.setUnitBusy_kept hs))
  clear_value x0
  extract_lets -merge -underBinder +onlyGivenNames x1
  have h1 : Kept p x1 := State.fire_kept (State.setFlag_kept h0)
  clear_value x1
  exact State.enSettle_kept h1

theorem transferEndEffect_kept (hs : Kept p s) : Kept p (transferEndEffect v0 v1 v2 s) := by
  unfold transferEndEffect
  refine kept_ite hs ?_
  extract_lets -merge -underBinder +onlyGivenNames x0 x1 x2
  have h2 : Kept p x2 := State.setUnit_kept hs
  clear_value x0 x1 x2
  exact State.endTransfer_kept h2

theorem uartRxOctetEffect_kept (hs : Kept p s) : Kept p (uartRxOctetEffect v0 v1 v2 s) := by
  unfold uartRxOctetEffect
  extract_lets -merge -underBinder +onlyGivenNames x0
  clear_value x0
  refine kept_ite hs ?_
  extract_lets -merge -underBinder +onlyGivenNames x1 x2
  have h2 : Kept p x2 := kept_ite (State.wr_kept hs) hs
  clear_value x1 x2
  refine kept_ite (State.setUnit_kept h2) ?_
  extract_lets -merge -underBinder +onlyGivenNames x3 x4
  have h4 : Kept p x4 := State.setUnit_kept h2
  clear_value x3 x4
  exact kept_ite (State.fire_kept h4) h4

theorem State.unitDisabled_kept (hs : Kept p s) : Kept p (State.unitDisabled s v1 v2) := by
  unfold State.unitDisabled
  exact kept_ite (State.wr_kept hs) (kept_ite (State.wr_kept hs) (State.endTransfer_kept (State.wr_kept hs)))

theorem State.pushTx_kept (hs : Kept p s) : Kept p (State.pushTx s v1 v2) := by
  unfold State.pushTx
  extract_lets -merge -underBinder +onlyGivenNames x0
  clear_value x0
  exact kept_ite (State.setUnit_kept hs) hs

theorem State.popRx_kept (hs : Kept p s) : Kept p (State.popRx s v1).2 := by
  unfold State.popRx
  split
  all_goals first
    | with_reducible exact hs | with_reducible exact State.setUnit_kept hs

end Sys2Proof.Machine
end

