-- ==== Sys2Proof/Laws/KeptAttempts.lean ====
section
/-!
SUPPORT. Every operation of Machine/Attempts.lean (with Frame) leaves the queue and keeps the canonical form of the memories.
-/
namespace Sys2Proof.Machine

variable {p : List Instr} {s t : State}

theorem State.vaultCount_kept (hs : Kept p s) : Kept p (State.vaultCount s v1) := by
  unfold State.vaultCount
  exact kept_ite (State.bump_kept hs) (kept_ite (State.bump_kept hs) (kept_ite (State.bump_kept hs) hs))

theorem State.setNbr_kept (hs : Kept p s) : Kept p (State.setNbr s v1 v2 v3) := by
  unfold State.setNbr
  extract_lets -merge -underBinder +onlyGivenNames x0
  clear_value x0
  exact kept_mk hs

theorem State.wrNbr_kept (hs : Kept p s) : Kept p (State.wrNbr s v1 v2 v3 v4 v5) := by
  unfold State.wrNbr
  exact State.setNbr_kept hs

theorem State.meshEvent_kept (hs : Kept p s) : Kept p (State.meshEvent s v1 v2 v3 v4 v5 v6) := by
  unfold State.meshEvent
  extract_lets -merge -underBinder +onlyGivenNames x0 x1
  have h1 : Kept p x1.2 := State.post_kept hs
  clear_value x0 x1
  refine kept_ite ?_ (State.bump_kept hs)
  refine State.fire_kept ?_
  extract_lets -merge -underBinder +onlyGivenNames x2
  have h2 : Kept p x2 := h1
  clear_value x2
  exact kept_mk h2

theorem State.stageEvent_kept (hs : Kept p s) : Kept p (State.stageEvent s v1 v2 v3 v4 v5) := by
  unfold State.stageEvent
  exact State.meshEvent_kept hs

theorem State.checkSynced_kept (hs : Kept p s) : Kept p (State.checkSynced s) := by
  unfold State.checkSynced
  extract_lets -merge -underBinder +onlyGivenNames x0
  clear_value x0
  exact kept_ite (State.stageEvent_kept (State.wr_kept hs)) hs

theorem State.hit_kept (hs : Kept p s) : Kept p (State.hit s v1 v2 v3 v4) := by
  unfold State.hit
  refine kept_ite hs ?_
  extract_lets -merge -underBinder +onlyGivenNames x0 x1
  have h1 : Kept p x1 := State.setNbr_kept (State.setNbr_kept (State.wrNbr_kept hs))
  clear_value x0 x1
  exact kept_ite (State.stageEvent_kept h1) h1

theorem State.miss_kept (hs : Kept p s) : Kept p (State.miss s v1) := by
  unfold State.miss
  refine kept_ite hs ?_
  extract_lets -merge -underBinder +onlyGivenNames x0 x1 x2
  have h2 : Kept p x2 := State.wrNbr_kept hs
  clear_value x0 x1 x2
  exact kept_ite (State.checkSynced_kept (State.stageEvent_kept (State.wrNbr_kept h2))) h2

theorem State.advanceDwell_kept (hs : Kept p s) : Kept p (State.advanceDwell s v1) := by
  unfold State.advanceDwell
  extract_lets -merge -underBinder +onlyGivenNames x0 x1
  clear_value x0 x1
  refine kept_ite hs ?_
  extract_lets -merge -underBinder +onlyGivenNames x2
  clear_value x2
  exact kept_mk hs

theorem State.advanceAllDwell_kept (hs : Kept p s) : Kept p (State.advanceAllDwell s) := by
  unfold State.advanceAllDwell
  exact kept_foldl (fun _ _ _ => State.advanceDwell_kept (by assumption)) hs

theorem State.rebaseDwell_kept (hs : Kept p s) : Kept p (State.rebaseDwell s v1) := by
  unfold State.rebaseDwell
  extract_lets -merge -underBinder +onlyGivenNames x0 x1
  clear_value x0 x1
  exact kept_mk hs

theorem State.charge_kept (hs : Kept p s) : Kept p (State.charge s v1 v2) := by
  unfold State.charge
  extract_lets -merge -underBinder +onlyGivenNames x0
  clear_value x0
  refine kept_ite hs ?_
  extract_lets -merge -underBinder +onlyGivenNames x1
  have h1 : Kept p x1 := State.advanceDwell_kept hs
  clear_value x1
  extract_lets -merge -underBinder +onlyGivenNames x2 x3
  clear_value x2 x3
  exact kept_mk h1

theorem dwellSubwindowAdvanceEffect_kept (hs : Kept p s) : Kept p (dwellSubwindowAdvanceEffect s) := by
  unfold dwellSubwindowAdvanceEffect
  exact kept_ite (State.advanceAllDwell_kept hs) hs

theorem State.setDescWord_kept (hs : Kept p s) : Kept p (State.setDescWord s v1 v2 v3) := by
  unfold State.setDescWord
  exact kept_ite (kept_mk hs) (State.putPlaceWord_kept hs)

theorem State.fcRenew_kept (hs : Kept p s) : Kept p (State.fcRenew s v1) := by
  unfold State.fcRenew
  refine kept_ite hs ?_
  extract_lets -merge -underBinder +onlyGivenNames x0
  have h0 : Kept p x0 := State.touchMram_kept hs
  clear_value x0
  exact kept_mk h0

theorem State.takeCounter_kept (hs : Kept p s) : Kept p (State.takeCounter s v1).2 := by
  unfold State.takeCounter
  extract_lets -merge -underBinder +onlyGivenNames x0
  clear_value x0
  split
  · exact hs
  · split
    · exact State.fcRenew_kept hs
    · extract_lets -merge -underBinder +onlyGivenNames x1
      have h1 : Kept p x1 := State.wrw_kept hs
      clear_value x1
      exact kept_ite (State.fcRenew_kept h1) h1

theorem State.tried_kept (hs : Kept p s) : Kept p (State.tried s v1) := by
  unfold State.tried
  split
  all_goals first
    | with_reducible exact hs
    | (extract_lets -merge -underBinder +onlyGivenNames x0
       clear_value x0
       exact kept_ite hs (kept_mk hs))

theorem State.triesDone_kept (hs : Kept p s) : Kept p (State.triesDone s v1) := by
  unfold State.triesDone
  extract_lets -merge -underBinder +onlyGivenNames x0 x1 x2
  have h2 : Kept p x2 := kept_mk hs
  clear_value x0 x1 x2
  exact State.monitorsDone_kept h2

theorem State.completeTx_kept (hs : Kept p s) : Kept p (State.completeTx s v1 v2 v3) := by
  unfold State.completeTx
  refine kept_ite hs ?_
  extract_lets -merge -underBinder +onlyGivenNames x0
  have h0 : Kept p x0 := kept_ite hs (State.complete_kept hs)
  clear_value x0
  exact State.freeRelay_kept (State.triesDone_kept (State.fire_kept h0))

theorem State.settleEn_kept (hs : Kept p s) : Kept p (State.settleEn s) := by
  unfold State.settleEn
  extract_lets -merge -underBinder +onlyGivenNames x0
  have h0 : Kept p x0 := State.enSettle_kept hs
  clear_value x0
  exact State.enSettle_kept h0

theorem State.setBackoff_kept (hs : Kept p s) : Kept p (State.setBackoff s v1 v2 v3) := by
  unfold State.setBackoff
  exact kept_mk hs

theorem State.drawBackoff_kept (hs : Kept p s) : Kept p (State.drawBackoff s v1) := by
  unfold State.drawBackoff
  extract_lets -merge -underBinder +onlyGivenNames x0
  clear_value x0
  refine kept_ite (kept_mk hs) ?_
  extract_lets -merge -underBinder +onlyGivenNames x1 x2
  have h2 : Kept p x2.2 := State.draw_kept hs
  clear_value x1 x2
  extract_lets -merge -underBinder +onlyGivenNames x3
  have h3 : Kept p x3 := State.setBackoff_kept h2
  clear_value x3
  exact kept_mk h3

theorem State.backoffAfter_kept (hs : Kept p s) : Kept p (State.backoffAfter s v1 v2) := by
  unfold State.backoffAfter
  refine kept_ite (State.setBackoff_kept hs) ?_
  extract_lets -merge -underBinder +onlyGivenNames x0
  clear_value x0
  exact State.drawBackoff_kept (State.setBackoff_kept hs)

theorem State.countOutcome_kept (hs : Kept p s) : Kept p (State.countOutcome s v1 v2 v3) := by
  unfold State.countOutcome
  exact kept_ite (State.bump_kept hs) (kept_ite (State.bump_kept hs) (kept_ite (State.bump_kept hs) (kept_ite (State.bump_kept hs) (kept_ite (State.breach_kept (State.bump_kept hs)) hs))))

theorem State.endAttempt_kept (hs : Kept p s) : Kept p (State.endAttempt s v1 v2 v3) := by
  unfold State.endAttempt
  extract_lets -merge -underBinder +onlyGivenNames x0
  have h0 : Kept p x0 := State.tried_kept (State.countOutcome_kept hs)
  clear_value x0
  split
  all_goals first
    | with_reducible exact h0
    | (extract_lets -merge -underBinder +onlyGivenNames x1 x2
       have h2 : Kept p x2 := State.setDescWord_kept h0
       clear_value x1 x2
       extract_lets -merge -underBinder +onlyGivenNames x3
       have h3 : Kept p x3 := kept_ite (State.backoffAfter_kept h2) h2
       clear_value x3
       refine kept_ite ?_ h3
       extract_lets -merge -underBinder +onlyGivenNames x4
       have h4 : Kept p x4 := State.completeTx_kept h3
       clear_value x4
       extract_lets -merge -underBinder +onlyGivenNames x5
       have h5 : Kept p x5 := kept_ite (State.setBackoff_kept h4) h4
       clear_value x5
       exact State.settleEn_kept h5)

end Sys2Proof.Machine
end

