-- ==== Sys2Proof/Laws/KeptCells.lean ====
section
/-!
SUPPORT. Every operation of Machine/Cells.lean leaves the queue and keeps the canonical form of the memories.
-/
namespace Sys2Proof.Machine

variable {p : List Instr} {s t : State}

theorem State.setChain_kept (hs : Kept p s) : Kept p (State.setChain s v1 v2) := by
  unfold State.setChain
  exact kept_mk hs

theorem State.setRfState_kept (hs : Kept p s) : Kept p (State.setRfState s v1 v2) := by
  unfold State.setRfState
  exact State.setFlag_kept (State.wr_kept hs)

theorem State.addOp_kept (hs : Kept p s) : Kept p (State.addOp s v1 v2) := by
  unfold State.addOp
  exact State.setChain_kept hs

theorem State.markFetched_kept (hs : Kept p s) : Kept p (State.markFetched s v1) := by
  unfold State.markFetched
  exact kept_ite hs (State.markOut_kept hs)

theorem State.putOctet_kept (hs : Kept p s) : Kept p (State.putOctet s v1 v2 v3) := by
  unfold State.putOctet
  extract_lets -merge -underBinder +onlyGivenNames x0
  clear_value x0
  exact State.sramPut_kept hs

theorem State.putOctets_kept (hs : Kept p s) : Kept p (State.putOctets s v1 v2 v3) := by
  induction v3 generalizing s v2 with
  | nil => exact hs
  | cons o t ih => exact ih (State.putOctet_kept hs)

theorem State.portOctets_kept (hs : Kept p s) : Kept p (State.portOctets s v1 v2 v3 v4) := by
  unfold State.portOctets
  refine kept_ite hs ?_
  extract_lets -merge -underBinder +onlyGivenNames x0 x1 x2
  have h2 : Kept p x2 := State.portTouch_kept hs
  clear_value x0 x1 x2
  exact kept_ite h2 (kept_ite (State.putOctets_kept h2) (kept_mk h2))

theorem State.lateOctets_kept (hs : Kept p s) : Kept p (State.lateOctets s) := by
  unfold State.lateOctets
  exact kept_foldl (fun _ _ _ => kept_ite (State.putOctets_kept (by assumption)) (kept_mk (by assumption))) (kept_mk hs)

theorem State.writeHeader_kept (hs : Kept p s) : Kept p (State.writeHeader s v1 v2) := by
  unfold State.writeHeader
  extract_lets -merge -underBinder +onlyGivenNames x0 x1 x2 x3 x4
  have h3 : Kept p x3 := kept_ite hs (State.putOctet_kept hs)
  have h4 : Kept p x4 := kept_ite (State.wr_kept h3) hs
  clear_value x0 x1 x2 x3 x4
  extract_lets -merge -underBinder +onlyGivenNames x5
  clear_value x5
  split
  all_goals first
    | with_reducible exact State.putOctets_kept h4 | with_reducible exact h4

theorem State.markSealed_kept (hs : Kept p s) : Kept p (State.markSealed s v1 v2) := by
  unfold State.markSealed
  extract_lets -merge -underBinder +onlyGivenNames x0 x1
  have h1 : Kept p x1 := State.setDescWord_kept hs
  clear_value x0 x1
  exact State.setDescWord_kept (State.setDescWord_kept h1)

theorem State.sealDesc_kept (hs : Kept p s) : Kept p (State.sealDesc s v1).2.2 := by
  unfold State.sealDesc
  extract_lets -merge -underBinder +onlyGivenNames x0 x1
  have h1 : Kept p x1.2 := State.blockReach_kept hs
  clear_value x0 x1
  extract_lets -merge -underBinder +onlyGivenNames x2
  have h2 : Kept p x2 := h1
  clear_value x2
  split
  · exact h2
  · split
    all_goals (rename_i e3; have h3 := kept_of_eq2 e3 (State.takeCounter_kept h2))
    all_goals first
      | with_reducible exact by assumption
      | (split
         all_goals first
           | with_reducible exact State.vaultCount_kept (by assumption)
           | (extract_lets -merge -underBinder +onlyGivenNames x4 x5 x6
              have h6 : Kept p x6 := State.putOctets_kept (by assumption)
              clear_value x4 x5 x6
              extract_lets -merge -underBinder +onlyGivenNames x7 x8 x9
              have h9 : Kept p x9 := State.putOctets_kept h6
              clear_value x7 x8 x9
              exact State.markSealed_kept h9))

theorem State.prepare_kept (hs : Kept p s) : Kept p (State.prepare s v1 v2).2.2 := by
  unfold State.prepare
  split
  · exact hs
  · extract_lets -merge -underBinder +onlyGivenNames x0
    have h0 : Kept p x0 := State.writeHeader_kept hs
    clear_value x0
    split
    · exact State.sealDesc_kept h0
    · exact State.markSealed_kept h0

theorem State.descReach_kept (hs : Kept p s) : Kept p (State.descReach s v1).2 := by
  unfold State.descReach
  extract_lets -merge -underBinder +onlyGivenNames x0
  have h0 : Kept p x0.2 := by
    unfold x0
    split
    · exact hs
    · exact State.fetchDesc_kept hs
  clear_value x0
  split
  · exact h0
  · extract_lets -merge -underBinder +onlyGivenNames x1
    clear_value x1
    extract_lets -merge -underBinder +onlyGivenNames x2
    clear_value x2
    exact State.portTouch_kept h0

theorem State.readyDesc_kept (hs : Kept p s) : Kept p (State.readyDesc s v1 v2 v3).2.2 := by
  unfold State.readyDesc
  extract_lets -merge -underBinder +onlyGivenNames x0
  have h0 : Kept p x0.2 := by
    unfold x0
    split
    · exact hs
    · exact State.descReach_kept hs
  clear_value x0
  extract_lets -merge -underBinder +onlyGivenNames x1
  have h1 : Kept p x1 := h0
  clear_value x1
  split
  · exact h1
  · split
    · exact h1
    · extract_lets -merge -underBinder +onlyGivenNames x2
      clear_value x2
      extract_lets -merge -underBinder +onlyGivenNames x3
      have h3 : Kept p x3 := State.markFetched_kept h1
      clear_value x3
      split
      · exact h3
      · split
        all_goals (rename_i e4; have h4 := kept_of_eq22 e4 (State.prepare_kept h3))
        all_goals exact by assumption

theorem State.takeDesc_kept (hs : Kept p s) : Kept p (State.takeDesc s v1 v2 v3) := by
  unfold State.takeDesc
  split
  all_goals (rename_i e0; have h0 := kept_of_eq22 e0 (State.readyDesc_kept hs))
  all_goals first
    | with_reducible exact State.endAttempt_kept (by assumption) | with_reducible exact State.addOp_kept (by assumption)

theorem State.takeRadio_kept (hs : Kept p s) : ∀ r, State.takeRadio s v1 v2 = some r → Kept p r.2 := by
  unfold State.takeRadio
  split
  all_goals first
    | with_reducible exact kept_none2 | with_reducible exact kept_some2 (kept_mk hs)

theorem State.onRadio_kept {v3 : State → RfOp → State} (hs : Kept p s) (hv3 : ∀ z0 z1, Kept p z0 → Kept p (v3 z0 z1)) : Kept p (State.onRadio s v1 v2 v3) := by
  unfold State.onRadio
  split
  all_goals (try (rename_i e0; have h0 := (State.takeRadio_kept hs) _ e0))
  all_goals first
    | with_reducible exact hs | with_reducible exact kept_ite (State.missed_kept (State.setFlag_kept (by assumption))) (hv3 _ _ (by assumption))

theorem State.takePick_kept (hs : Kept p s) : Kept p (State.takePick s v1 v2 v3) := by
  unfold State.takePick
  split
  all_goals first
    | with_reducible exact hs | with_reducible exact State.takeDesc_kept hs

end Sys2Proof.Machine
end

