-- ==== Sys2Proof/Laws/KeptRf.lean ====
section
/-!
SUPPORT. Every operation of Machine/Rf.lean leaves the queue and keeps the canonical form of the memories.
-/
namespace Sys2Proof.Machine

variable {p : List Instr} {s t : State}

theorem State.setLane_kept (hs : Kept p s) : Kept p (State.setLane s v1 v2) := by
  unfold State.setLane
  exact kept_mk hs

theorem State.setPhase_kept (hs : Kept p s) : Kept p (State.setPhase s v1 v2) := by
  unfold State.setPhase
  extract_lets -merge -underBinder +onlyGivenNames x0
  have h0 : Kept p x0 := State.wr_kept hs
  clear_value x0
  exact kept_ite (State.wr_kept h0) h0

theorem State.leaveRing_kept (hs : Kept p s) : Kept p (State.leaveRing s v1 v2) := by
  unfold State.leaveRing
  exact State.setRing_kept hs

theorem State.releasePlace_kept (hs : Kept p s) : Kept p (State.releasePlace s v1) := by
  unfold State.releasePlace
  split
  all_goals first
    | with_reducible exact kept_ite (State.unreserve_kept hs) (kept_ite (State.leaveRing_kept hs) hs) | with_reducible exact hs

theorem State.laneEnSettle_kept (hs : Kept p s) : Kept p (State.laneEnSettle s v1) := by
  unfold State.laneEnSettle
  exact kept_ite (State.setFlag_kept (State.setLane_kept (State.wr_kept hs))) hs

theorem State.clearLane_kept (hs : Kept p s) : Kept p (State.clearLane s v1 v2) := by
  unfold State.clearLane
  extract_lets -merge -underBinder +onlyGivenNames x0
  have h0 : Kept p x0 := State.releasePlace_kept hs
  clear_value x0
  exact State.laneEnSettle_kept (State.setPhase_kept (State.setLane_kept h0))

theorem State.lanesOff_kept (hs : Kept p s) : Kept p (State.lanesOff s v1) := by
  unfold State.lanesOff
  refine kept_foldl ?_ hs
  intros
  extract_lets -merge -underBinder +onlyGivenNames x0
  have h0 : Kept p x0 := kept_ite (State.bump_kept (by assumption)) (by assumption)
  clear_value x0
  exact kept_ite h0 (State.clearLane_kept h0)

theorem State.latchLanes_kept (hs : Kept p s) : Kept p (State.latchLanes s v1) := by
  unfold State.latchLanes
  exact kept_foldl (fun _ _ _ => State.setLane_kept (by assumption)) hs

theorem State.admitLanes_kept (hs : Kept p s) : Kept p (State.admitLanes s v1 v2) := by
  unfold State.admitLanes
  extract_lets -merge -underBinder +onlyGivenNames x0
  have h0 : ∀ z0 z1, Kept p z0.1 → Kept p ((x0 z0 z1)).1 := by
    intros
    unfold x0
    extract_lets -merge -underBinder +onlyGivenNames x1
    have h1 : Kept p x1 := by assumption
    clear_value x1
    split
    · exact State.setFlag_kept h1
    · split
      · extract_lets -merge -underBinder +onlyGivenNames x2 x3
        clear_value x2 x3
        exact State.setLane_kept (State.setFlag_kept h1)
      · exact State.setFlag_kept (State.setFlag_kept h1)
  clear_value x0
  extract_lets -merge -underBinder +onlyGivenNames x4
  have h4 : Kept p x4.1 := kept_foldl1 (fun _ _ _ => h0 _ _ (by assumption)) hs
  clear_value x4
  exact kept_ite (State.wr_kept h4) (State.wr_kept h4)

theorem State.lanesSearch_kept (hs : Kept p s) : Kept p (State.lanesSearch s v1 v2) := by
  unfold State.lanesSearch
  exact kept_foldl (fun _ _ _ => kept_ite (State.clearLane_kept (by assumption)) (by assumption)) hs

theorem State.listenOn_kept (hs : Kept p s) : Kept p (State.listenOn s v1 v2) := by
  unfold State.listenOn
  extract_lets -merge -underBinder +onlyGivenNames x0
  clear_value x0
  exact State.setPhase_kept (State.setLane_kept hs)

theorem State.setOp_kept (hs : Kept p s) : Kept p (State.setOp s v1 v2) := by
  unfold State.setOp
  exact State.setChain_kept hs

theorem State.listen_kept (hs : Kept p s) : Kept p (State.listen s v1 v2) := by
  unfold State.listen
  refine kept_ite hs ?_
  refine kept_ite (kept_ite hs (State.lanesSearch_kept hs)) ?_
  split
  all_goals first
    | with_reducible exact kept_ite hs (State.listenOn_kept hs) | with_reducible exact hs

theorem State.unblank_kept (hs : Kept p s) : Kept p (State.unblank s v1) := by
  unfold State.unblank
  refine kept_ite ?_ hs
  extract_lets -merge -underBinder +onlyGivenNames x0 x1
  have h1 : Kept p x1 := State.setChain_kept hs
  clear_value x0 x1
  split
  all_goals first
    | with_reducible exact kept_ite (State.listen_kept h1) h1 | with_reducible exact h1

theorem State.cellEnd_kept (hs : Kept p s) : Kept p (State.cellEnd s v1 v2) := by
  unfold State.cellEnd
  exact kept_ite hs (kept_ite (kept_mk hs) (State.miss_kept hs))

theorem State.chainIdle_kept (hs : Kept p s) : Kept p (State.chainIdle s v1) := by
  unfold State.chainIdle
  extract_lets -merge -underBinder +onlyGivenNames x0
  have h0 : Kept p x0 := by
    unfold x0
    split
    all_goals first
      | with_reducible exact kept_ite (State.cellEnd_kept hs) hs | with_reducible exact hs
  clear_value x0
  extract_lets -merge -underBinder +onlyGivenNames x1
  have h1 : Kept p x1 := State.unblank_kept (State.lanesOff_kept h0)
  clear_value x1
  extract_lets -merge -underBinder +onlyGivenNames x2 x3
  have h3 : Kept p x3 := kept_mk h1
  clear_value x2 x3
  exact State.fire_kept (State.setRfState_kept (State.setOp_kept h3))

theorem State.direction_kept (hs : Kept p s) : Kept p (State.direction s v1 v2) := by
  unfold State.direction
  exact kept_ite (State.setChain_kept hs) hs

theorem State.chargeOp_kept (hs : Kept p s) : Kept p (State.chargeOp s v1 v2 v3) := by
  unfold State.chargeOp
  exact State.charge_kept (State.charge_kept hs)

theorem State.abandon_kept (hs : Kept p s) : Kept p (State.abandon s v1 v2 v3) := by
  unfold State.abandon
  extract_lets -merge -underBinder +onlyGivenNames x0
  have h0 : Kept p x0 := kept_ite (State.chargeOp_kept hs) hs
  clear_value x0
  extract_lets -merge -underBinder +onlyGivenNames x1
  have h1 : Kept p x1 := State.chainIdle_kept h0
  clear_value x1
  exact kept_ite h1 (State.endAttempt_kept h1)

theorem State.abandonWaiting_kept (hs : Kept p s) : Kept p (State.abandonWaiting s v1 v2 v3) := by
  unfold State.abandonWaiting
  exact State.endAttempt_kept (State.setChain_kept hs)

theorem State.applyProfile_kept (hs : Kept p s) : Kept p (State.applyProfile s v1) := by
  unfold State.applyProfile
  refine kept_ite hs ?_
  extract_lets -merge -underBinder +onlyGivenNames x0
  clear_value x0
  exact State.wr_kept (State.wr_kept (State.wr_kept hs))

theorem State.settleNow_kept (hs : Kept p s) : Kept p (State.settleNow s v1 v2) := by
  unfold State.settleNow
  extract_lets -merge -underBinder +onlyGivenNames x0
  have h0 : Kept p x0 := kept_ite (State.applyProfile_kept hs) hs
  clear_value x0
  extract_lets -merge -underBinder +onlyGivenNames x1
  have h1 : Kept p x1 := State.setRfState_kept (State.setOp_kept h0)
  clear_value x1
  extract_lets -merge -underBinder +onlyGivenNames x2 x3
  have h3 : Kept p x3 := State.latchLanes_kept (State.setChain_kept h1)
  clear_value x2 x3
  exact kept_ite h3 (State.admitLanes_kept h3)

theorem State.startCal_kept (hs : Kept p s) : Kept p (State.startCal s v1) := by
  unfold State.startCal
  exact State.setRfState_kept hs

theorem State.settle_kept (hs : Kept p s) : Kept p (State.settle s v1 v2 v3 v4) := by
  unfold State.settle
  extract_lets -merge -underBinder +onlyGivenNames x0
  clear_value x0
  refine kept_ite (kept_ite (State.endAttempt_kept hs) hs) ?_
  extract_lets -merge -underBinder +onlyGivenNames x1 x2
  have h2 : Kept p x2 := kept_ite (State.setFlag_kept hs) hs
  clear_value x1 x2
  extract_lets -merge -underBinder +onlyGivenNames x3 x4
  have h4 : Kept p x4 := kept_ite (State.advanceAllDwell_kept h2) h2
  clear_value x3 x4
  extract_lets -merge -underBinder +onlyGivenNames x5
  clear_value x5
  refine kept_ite ?_ ?_
  · extract_lets -merge -underBinder +onlyGivenNames x6
    have h6 : Kept p x6 := State.setFlag_kept h4
    clear_value x6
    exact kept_ite (State.endAttempt_kept h6) h6
  · refine kept_ite (State.endAttempt_kept h4) ?_
    extract_lets -merge -underBinder +onlyGivenNames x7 x8 x9
    have h9 : Kept p x9 := kept_ite (State.setFlag_kept h4) h4
    clear_value x7 x8 x9
    refine kept_ite ?_ (kept_ite (State.setChain_kept h9) (kept_ite (State.startCal_kept (State.setChain_kept h9)) (State.settleNow_kept h9)))
    extract_lets -merge -underBinder +onlyGivenNames x10
    have h10 : Kept p x10 := State.setFlag_kept h9
    clear_value x10
    exact kept_ite (State.setChain_kept h10) h10

theorem State.giveWay_kept (hs : Kept p s) : Kept p (State.giveWay s v1 v2) := by
  unfold State.giveWay
  exact kept_ite (State.endAttempt_kept hs) (State.bump_kept hs)

theorem State.dropAck_kept (hs : Kept p s) : Kept p (State.dropAck s v1) := by
  unfold State.dropAck
  exact kept_ite (State.bump_kept (kept_mk hs)) hs

theorem settleStartEffect_kept (hs : Kept p s) : Kept p (settleStartEffect v0 v1 v2 s) := by
  unfold settleStartEffect
  split
  all_goals first
    | with_reducible exact hs
    | (extract_lets -merge -underBinder +onlyGivenNames x0 x1
       have h1 : Kept p x1 := State.setChain_kept hs
       clear_value x0 x1
       split
       all_goals first
         | with_reducible exact kept_ite (State.giveWay_kept h1) (State.settle_kept (State.chainIdle_kept (State.dropAck_kept h1))) | with_reducible exact kept_ite (State.giveWay_kept h1) (State.settle_kept (State.setChain_kept h1)) | with_reducible exact State.settle_kept (State.dropAck_kept h1))

theorem lockLostEffect_kept (hs : Kept p s) : Kept p (lockLostEffect v0 s) := by
  unfold lockLostEffect
  refine kept_ite hs ?_
  split
  all_goals first
    | with_reducible exact hs | with_reducible exact kept_ite (State.abandon_kept (State.setFlag_kept hs)) (State.chainIdle_kept (State.dropAck_kept hs))

theorem State.abandonPending_kept (hs : Kept p s) : Kept p (State.abandonPending s v1 v2 v3) := by
  unfold State.abandonPending
  exact kept_ite (State.abandonWaiting_kept hs) (State.abandon_kept hs)

theorem grantCheckEffect_kept (hs : Kept p s) : Kept p (grantCheckEffect v0 v1 s) := by
  unfold grantCheckEffect
  extract_lets -merge -underBinder +onlyGivenNames x0
  have h0 : Kept p x0 := kept_mk hs
  clear_value x0
  split
  all_goals first
    | with_reducible exact h0
    | (refine kept_ite (State.abandonPending_kept h0) ?_
       extract_lets -merge -underBinder +onlyGivenNames x1
       have h1 : Kept p x1 := by
         unfold x1
         split
         all_goals first
           | with_reducible exact State.abandon_kept h0 | with_reducible exact h0
       clear_value x1
       refine kept_ite (State.abandonPending_kept h1) ?_
       extract_lets -merge -underBinder +onlyGivenNames x2 x3
       clear_value x2 x3
       exact kept_ite (State.setChain_kept h1) (State.setOp_kept h1))

theorem State.commitDesc_kept (hs : Kept p s) : Kept p (State.commitDesc s v1) := by
  unfold State.commitDesc
  refine kept_ite ?_ (State.markOut_kept hs)
  extract_lets -merge -underBinder +onlyGivenNames x0 x1
  have h1 : Kept p x1 := kept_mk hs
  clear_value x0 x1
  exact kept_ite h1 (State.markOut_kept h1)

theorem paEnableEffect_kept (hs : Kept p s) : Kept p (paEnableEffect v0 s) := by
  unfold paEnableEffect
  split
  · exact hs
  · exact State.abandonWaiting_kept hs
  · refine kept_ite (State.abandon_kept hs) ?_
    split
    · exact State.abandon_kept hs
    · split
      all_goals (rename_i e; have h := kept_of_eq22 e (by split <;> first | exact State.readyDesc_kept hs | exact hs))
      all_goals first
        | with_reducible exact State.abandon_kept h
        | with_reducible exact kept_ite (State.abandon_kept h) (State.setRfState_kept (State.setOp_kept (State.commitDesc_kept h)))

theorem State.emit_kept (hs : Kept p s) : Kept p (State.emit s v1 v2) := by
  unfold State.emit
  exact kept_mk hs

theorem State.modulate_kept (hs : Kept p s) : Kept p (State.modulate s v1 v2) := by
  unfold State.modulate
  exact State.emit_kept (State.openGate_kept hs)

theorem State.blankOther_kept (hs : Kept p s) : Kept p (State.blankOther s v1 v2) := by
  unfold State.blankOther
  exact kept_ite (State.setChain_kept (State.lanesOff_kept hs)) hs

theorem txFirstSymbolEffect_kept (hs : Kept p s) : Kept p (txFirstSymbolEffect v0 s) := by
  unfold txFirstSymbolEffect
  split
  all_goals first
    | with_reducible exact hs
    | (split
       all_goals first
         | with_reducible exact hs
         | (refine kept_ite hs ?_
            extract_lets -merge -underBinder +onlyGivenNames x0 x1
            have h1 : Kept p x1 := kept_foldl (fun _ _ _ => State.setDescWord_kept (by assumption)) hs
            clear_value x0 x1
            extract_lets -merge -underBinder +onlyGivenNames x2
            have h2 : Kept p x2 := State.setDescWord_kept h1
            clear_value x2
            extract_lets -merge -underBinder +onlyGivenNames x3
            have h3 : Kept p x3 := State.modulate_kept h2
            clear_value x3
            extract_lets -merge -underBinder +onlyGivenNames x4
            have h4 : Kept p x4 := State.blankOther_kept (State.direction_kept (State.setOp_kept h3))
            clear_value x4
            exact State.fire_kept h4))

theorem modeSwitchCarrierEndEffect_kept (hs : Kept p s) : Kept p (modeSwitchCarrierEndEffect v0 s) := by
  unfold modeSwitchCarrierEndEffect
  split
  all_goals first
    | with_reducible exact hs
    | (split
       all_goals first
         | with_reducible exact kept_ite (State.modulate_kept hs) hs | with_reducible exact hs)

theorem State.advanceSeed_kept (hs : Kept p s) : Kept p (State.advanceSeed s v1) := by
  unfold State.advanceSeed
  refine kept_ite ?_ hs
  extract_lets -merge -underBinder +onlyGivenNames x0
  clear_value x0
  exact State.wr_kept hs

theorem txEndEffect_kept (hs : Kept p s) : Kept p (txEndEffect v0 s) := by
  unfold txEndEffect
  split
  all_goals first
    | with_reducible exact hs
    | (refine kept_ite hs ?_
       extract_lets -merge -underBinder +onlyGivenNames x0 x1
       have h1 : Kept p x1 := State.advanceSeed_kept (State.chargeOp_kept hs)
       clear_value x0 x1
       refine kept_ite (State.chainIdle_kept h1) ?_
       refine kept_ite (State.direction_kept (State.setRfState_kept (kept_mk h1))) ?_
       extract_lets -merge -underBinder +onlyGivenNames x2
       clear_value x2
       exact State.endAttempt_kept (State.chainIdle_kept h1))

theorem turnaroundDoneEffect_kept (hs : Kept p s) : Kept p (turnaroundDoneEffect v0 s) := by
  unfold turnaroundDoneEffect
  split
  all_goals first
    | with_reducible exact kept_ite hs (kept_ite (State.setOp_kept (State.setRfState_kept hs)) (kept_ite (State.listen_kept (State.setRfState_kept (State.unblank_kept hs))) hs)) | with_reducible exact hs

theorem receiveStartEffect_kept (hs : Kept p s) : Kept p (receiveStartEffect v0 v1 s) := by
  unfold receiveStartEffect
  extract_lets -merge -underBinder +onlyGivenNames x0
  have h0 : Kept p x0 := kept_mk hs
  clear_value x0
  split
  all_goals first
    | with_reducible exact h0
    | (refine kept_ite h0 ?_
       refine kept_ite (kept_ite (State.direction_kept (State.listen_kept (State.setRfState_kept h0))) h0) ?_
       refine kept_ite (State.chainIdle_kept (State.bump_kept h0)) ?_
       extract_lets -merge -underBinder +onlyGivenNames x1
       have h1 : Kept p x1 := kept_ite (State.bump_kept h0) h0
       clear_value x1
       exact State.direction_kept (State.listen_kept (State.setRfState_kept h1)))

theorem listenEndEffect_kept (hs : Kept p s) : Kept p (listenEndEffect v0 s) := by
  unfold listenEndEffect
  split
  all_goals first
    | with_reducible exact kept_ite hs (State.setChain_kept hs) | with_reducible exact hs
    | (refine kept_ite hs ?_
       refine kept_ite (kept_ite (State.chainIdle_kept hs) hs) ?_
       extract_lets -merge -underBinder +onlyGivenNames x0
       have h0 : Kept p x0 := kept_foldl (fun _ _ _ => kept_ite (State.clearLane_kept (by assumption)) (by assumption)) hs
       clear_value x0
       exact State.setOp_kept h0)

theorem receiveEndEffect_kept (hs : Kept p s) : Kept p (receiveEndEffect v0 s) := by
  unfold receiveEndEffect
  split
  all_goals first
    | with_reducible exact kept_ite hs (State.chainIdle_kept hs) | with_reducible exact hs

theorem ccaEndEffect_kept (hs : Kept p s) : Kept p (ccaEndEffect v0 v1 s) := by
  unfold ccaEndEffect
  split
  all_goals first
    | with_reducible exact hs
    | (refine kept_ite hs ?_
       extract_lets -merge -underBinder +onlyGivenNames x0 x1 x2 x3
       have h3 : Kept p x3 := State.wr_kept hs
       clear_value x0 x1 x2 x3
       exact kept_ite (State.abandon_kept h3) (State.direction_kept (State.setRfState_kept (State.setOp_kept (State.lanesOff_kept h3)))))

theorem mismatchMeasureEffect_kept (hs : Kept p s) : Kept p (mismatchMeasureEffect v0 s) := by
  unfold mismatchMeasureEffect
  split
  all_goals first
    | with_reducible exact hs
    | (refine kept_ite hs ?_
       extract_lets -merge -underBinder +onlyGivenNames x0 x1
       have h1 : Kept p x1 := State.wr_kept (State.wr_kept hs)
       clear_value x0 x1
       refine kept_ite h1 ?_
       extract_lets -merge -underBinder +onlyGivenNames x2
       have h2 : Kept p x2 := State.wr_kept (State.setFlag_kept h1)
       clear_value x2
       extract_lets -merge -underBinder +onlyGivenNames x3
       have h3 : Kept p x3 := kept_ite (State.setFlag_kept h2) h2
       clear_value x3
       refine kept_ite h3 ?_
       extract_lets -merge -underBinder +onlyGivenNames x4 x5
       have h5 : Kept p x5 := State.wr_kept (State.setFlag_kept h3)
       clear_value x4 x5
       extract_lets -merge -underBinder +onlyGivenNames x6 x7
       have h7 : Kept p x7 := State.setChain_kept h5
       clear_value x6 x7
       extract_lets -merge -underBinder +onlyGivenNames x8
       have h8 : Kept p x8 := by
         unfold x8
         split
         all_goals first
           | with_reducible exact State.emit_kept h7 | with_reducible exact h7
       clear_value x8
       exact State.setOp_kept h8)

theorem State.calDue_kept (hs : Kept p s) : Kept p (State.calDue s v1) := by
  unfold State.calDue
  exact State.setFlag_kept hs

theorem State.searchDue_kept (hs : Kept p s) : Kept p (State.searchDue s) := by
  unfold State.searchDue
  exact kept_ite (State.rejected_kept hs) (State.setFlag_kept hs)

theorem State.setBanks_kept (hs : Kept p s) : Kept p (State.setBanks s v1 v2) := by
  unfold State.setBanks
  exact State.wr_kept (State.wr_kept hs)

theorem State.trySearch_kept (hs : Kept p s) : Kept p (State.trySearch s) := by
  unfold State.trySearch
  split
  all_goals first
    | with_reducible exact hs
    | (refine kept_ite ?_ hs
       refine kept_ite (State.setFlag_kept hs) ?_
       refine kept_ite hs ?_
       extract_lets -merge -underBinder +onlyGivenNames x0 x1 x2 x3 x4 x5 x6
       have h6 : Kept p x6 := State.setRfState_kept (State.setChain_kept hs)
       clear_value x0 x1 x2 x3 x4 x5 x6
       extract_lets -merge -underBinder +onlyGivenNames x7
       have h7 : Kept p x7 := State.setBanks_kept h6
       clear_value x7
       exact State.emit_kept h7)

theorem State.endSearch_kept (hs : Kept p s) : Kept p (State.endSearch s) := by
  unfold State.endSearch
  extract_lets -merge -underBinder +onlyGivenNames x0
  have h0 : Kept p x0 := State.charge_kept hs
  clear_value x0
  exact State.setRfState_kept (kept_mk h0)

theorem calibrationGapEffect_kept (hs : Kept p s) : Kept p (calibrationGapEffect v0 s) := by
  unfold calibrationGapEffect
  split
  all_goals (try (rename_i e0; have h0 := (State.takeAct_kept hs) _ e0))
  all_goals first
    | with_reducible exact hs
    | (refine kept_ite (State.missed_kept (State.setFlag_kept (by assumption))) ?_
       extract_lets -merge -underBinder +onlyGivenNames x1 x2 x3
       have h3 : Kept p x3 := State.setChain_kept (by assumption)
       clear_value x1 x2 x3
       exact kept_ite h3 (kept_ite (kept_ite (State.startCal_kept h3) (State.setFlag_kept h3)) (kept_ite (State.trySearch_kept h3) h3)))

theorem State.resumeWaiting_kept (hs : Kept p s) : Kept p (State.resumeWaiting s v1) := by
  unfold State.resumeWaiting
  split
  all_goals first
    | with_reducible exact kept_ite (State.settleNow_kept (State.setChain_kept hs)) hs | with_reducible exact hs

theorem calibrationDoneEffect_kept (hs : Kept p s) : Kept p (calibrationDoneEffect v0 v1 s) := by
  unfold calibrationDoneEffect
  refine kept_ite hs ?_
  extract_lets -merge -underBinder +onlyGivenNames x0
  have h0 : Kept p x0 := State.setFlag_kept (State.setFlag_kept (State.wr_kept hs))
  clear_value x0
  extract_lets -merge -underBinder +onlyGivenNames x1
  have h1 : Kept p x1 := State.fire_kept (State.setRfState_kept h0)
  clear_value x1
  extract_lets -merge -underBinder +onlyGivenNames x2
  have h2 : Kept p x2 := State.resumeWaiting_kept h1
  clear_value x2
  exact kept_ite (State.trySearch_kept h2) h2

theorem searchDoneEffect_kept (hs : Kept p s) : Kept p (searchDoneEffect v0 s) := by
  unfold searchDoneEffect
  refine kept_ite hs ?_
  extract_lets -merge -underBinder +onlyGivenNames x0 x1 x2
  have h2 : Kept p x2 := State.wr_kept (State.wr_kept hs)
  clear_value x0 x1 x2
  extract_lets -merge -underBinder +onlyGivenNames x3
  have h3 : Kept p x3 := State.setFlag_kept (State.setFlag_kept h2)
  clear_value x3
  exact State.resumeWaiting_kept (State.fire_kept (State.endSearch_kept (State.setBanks_kept h3)))

theorem coexRequestEffect_kept (hs : Kept p s) : Kept p (coexRequestEffect v0 s) := by
  unfold coexRequestEffect
  extract_lets -merge -underBinder +onlyGivenNames x0
  clear_value x0
  split
  all_goals first
    | with_reducible exact hs
    | (extract_lets -merge -underBinder +onlyGivenNames x1
       clear_value x1
       exact State.setChain_kept hs)

theorem coexGntDeassertEffect_kept (hs : Kept p s) : Kept p (coexGntDeassertEffect v0 s) := by
  unfold coexGntDeassertEffect
  extract_lets -merge -underBinder +onlyGivenNames x0
  have h0 : Kept p x0 := kept_mk hs
  clear_value x0
  split
  all_goals first
    | with_reducible exact kept_ite h0 (kept_ite (State.abandon_kept h0) (State.chainIdle_kept (State.dropAck_kept h0))) | with_reducible exact kept_ite (State.resumeWaiting_kept (State.fire_kept (State.endSearch_kept h0))) h0

theorem coexReleaseEffect_kept (hs : Kept p s) : Kept p (coexReleaseEffect v0 s) := by
  unfold coexReleaseEffect
  extract_lets -merge -underBinder +onlyGivenNames x0 x1 x2
  clear_value x0 x1 x2
  exact kept_ite (State.setChain_kept hs) (State.setChain_kept hs)

theorem State.coexOff_kept (hs : Kept p s) : Kept p (State.coexOff s v1) := by
  unfold State.coexOff
  exact kept_ite (State.setChain_kept hs) hs

theorem State.dropAttempt_kept (hs : Kept p s) : Kept p (State.dropAttempt s v1) := by
  unfold State.dropAttempt
  extract_lets -merge -underBinder +onlyGivenNames x0
  have h0 : Kept p x0 := kept_foldl (fun _ _ _ => State.tried_kept (by assumption)) hs
  clear_value x0
  refine kept_foldl ?_ h0
  intros
  extract_lets -merge -underBinder +onlyGivenNames x1 x2
  have h2 : Kept p x2 := State.setChain_kept (by assumption)
  clear_value x1 x2
  exact kept_ite (State.chainIdle_kept h2) h2

theorem State.abortTx_kept (hs : Kept p s) : Kept p (State.abortTx s v1 v2) := by
  unfold State.abortTx
  exact State.settleEn_kept (State.completeTx_kept (State.dropAttempt_kept hs))

theorem lnkAbortEffect_kept (hs : Kept p s) : Kept p (lnkAbortEffect v0 s) := by
  unfold lnkAbortEffect
  refine State.onEvent_kept hs ?_
  intros
  extract_lets -merge -underBinder +onlyGivenNames x0
  clear_value x0
  split
  all_goals first
    | with_reducible exact kept_ite (by assumption) (State.abortTx_kept (by assumption)) | with_reducible exact by assumption

theorem State.resumeOp_kept {v3 : State → RfOp → State} {v4 : State → RfOp → Nat → State} (hs : Kept p s) (hv3 : ∀ z0 z1, Kept p z0 → Kept p (v3 z0 z1)) (hv4 : ∀ z0 z1 z2, Kept p z0 → Kept p (v4 z0 z1 z2)) : Kept p (State.resumeOp s v1 v2 v3 v4) := by
  unfold State.resumeOp
  split
  all_goals first
    | with_reducible exact hs
    | (split
       all_goals (rename_i e0; have h0 := kept_of_eq22 e0 (State.readyDesc_kept hs))
       all_goals first
         | with_reducible exact hv3 _ _ (by assumption) | with_reducible exact hv4 _ _ _ (by assumption))

theorem State.resumeSeals_kept (hs : Kept p s) : Kept p (State.resumeSeals s) := by
  unfold State.resumeSeals
  refine kept_foldl ?_ hs
  intros
  extract_lets -merge -underBinder +onlyGivenNames x0
  have h0 : Kept p x0 := by
    unfold x0
    refine kept_foldl ?_ (by assumption)
    intros
    refine State.resumeOp_kept (by assumption) ?_ ?_
    · intros
      exact State.setChain_kept (by assumption)
    · intros
      exact State.endAttempt_kept (State.setChain_kept (by assumption))
  clear_value x0
  extract_lets -merge -underBinder +onlyGivenNames x1
  have h1 : Kept p x1 := by
    unfold x1
    refine kept_foldl ?_ h0
    intros
    refine State.resumeOp_kept (by assumption) ?_ ?_
    · intros
      exact State.setChain_kept (by assumption)
    · intros
      exact State.abandonWaiting_kept (by assumption)
  clear_value x1
  refine kept_foldl ?_ h1
  intros
  refine State.resumeOp_kept (by assumption) ?_ ?_
  · intros
    exact State.setOp_kept (by assumption)
  · intros
    exact State.abandon_kept (by assumption)

theorem State.linkDisable_kept (hs : Kept p s) : Kept p (State.linkDisable s) := by
  unfold State.linkDisable
  extract_lets -merge -underBinder +onlyGivenNames x0 x1 x2
  have h2 : Kept p x2 := kept_foldl (fun _ _ _ => State.dropAttempt_kept (by assumption)) hs
  clear_value x0 x1 x2
  extract_lets -merge -underBinder +onlyGivenNames x3
  have h3 : Kept p x3 := kept_foldl (fun _ _ _ => State.completeTx_kept (State.dropAttempt_kept (by assumption))) h2
  clear_value x3
  exact State.settleEn_kept (State.wr_kept h3)

theorem State.rfLoseRef_kept (hs : Kept p s) : Kept p (State.rfLoseRef s) := by
  unfold State.rfLoseRef
  refine kept_foldl ?_ hs
  intros
  refine kept_ite (by assumption) ?_
  extract_lets -merge -underBinder +onlyGivenNames x0
  have h0 : Kept p x0 := State.setFlag_kept (by assumption)
  clear_value x0
  split
  all_goals first
    | with_reducible exact kept_ite (State.abandon_kept h0) (State.chainIdle_kept (State.dropAck_kept h0)) | with_reducible exact kept_ite (State.setRfState_kept h0) (kept_ite (State.endSearch_kept h0) h0)

theorem State.rfHaveRef_kept (hs : Kept p s) : Kept p (State.rfHaveRef s) := by
  unfold State.rfHaveRef
  exact kept_foldl (fun _ _ _ => State.setFlag_kept (by assumption)) hs

end Sys2Proof.Machine
end

