-- ==== Sys2Proof/Laws/KeptReceive.lean ====
section
/-!
SUPPORT. Every operation of Machine/Receive.lean leaves the queue and keeps the canonical form of the memories.
-/
namespace Sys2Proof.Machine

variable {p : List Instr} {s t : State}

theorem State.laneHome_kept (hs : Kept p s) : Kept p (State.laneHome s v1 v2) := by
  unfold State.laneHome
  extract_lets -merge -underBinder +onlyGivenNames x0 x1 x2 x3
  have h3 : Kept p x3 := State.releasePlace_kept hs
  clear_value x0 x1 x2 x3
  extract_lets -merge -underBinder +onlyGivenNames x4 x5 x6
  have h6 : Kept p x6 := State.setLane_kept h3
  clear_value x4 x5 x6
  exact State.laneEnSettle_kept (State.setPhase_kept h6)

theorem State.setPast_kept (hs : Kept p s) : Kept p (State.setPast s v1 v2) := by
  unfold State.setPast
  exact State.setLane_kept hs

theorem State.startFrame_kept (hs : Kept p s) : Kept p (State.startFrame s v1 v2) := by
  unfold State.startFrame
  extract_lets -merge -underBinder +onlyGivenNames x0 x1 x2
  have h2 : Kept p x2 := State.setLane_kept hs
  clear_value x0 x1 x2
  extract_lets -merge -underBinder +onlyGivenNames x3
  have h3 : Kept p x3 := State.bump_kept h2
  clear_value x3
  exact kept_ite h3 (State.setPhase_kept h3)

theorem detectionEffect_kept (hs : Kept p s) : Kept p (detectionEffect v0 v1 s) := by
  unfold detectionEffect
  refine kept_ite hs ?_
  extract_lets -merge -underBinder +onlyGivenNames x0
  have h0 : Kept p x0 := State.startFrame_kept hs
  clear_value x0
  extract_lets -merge -underBinder +onlyGivenNames x1
  clear_value x1
  split
  all_goals first
    | with_reducible exact kept_ite (State.setOp_kept h0) h0 | with_reducible exact h0

theorem syncEventEffect_kept (hs : Kept p s) : Kept p (syncEventEffect v0 v1 v2 v3 s) := by
  unfold syncEventEffect
  split
  all_goals first
    | with_reducible exact hs
    | (refine kept_ite hs ?_
       extract_lets -merge -underBinder +onlyGivenNames x0 x1 x2
       have h2 : Kept p x2 := State.setLane_kept hs
       clear_value x0 x1 x2
       extract_lets -merge -underBinder +onlyGivenNames x3
       have h3 : Kept p x3 := kept_ite h2 (State.setPhase_kept h2)
       clear_value x3
       exact State.fire_kept h3)

theorem State.ackGivenUp_kept (hs : Kept p s) : Kept p (State.ackGivenUp s v1) := by
  unfold State.ackGivenUp
  extract_lets -merge -underBinder +onlyGivenNames x0
  clear_value x0
  split
  all_goals first
    | with_reducible exact kept_ite (State.endAttempt_kept (State.chainIdle_kept hs)) hs | with_reducible exact hs

theorem State.falseDetection_kept (hs : Kept p s) : Kept p (State.falseDetection s v1) := by
  unfold State.falseDetection
  exact State.ackGivenUp_kept (State.bump_kept (State.laneHome_kept hs))

theorem syncLostEffect_kept (hs : Kept p s) : Kept p (syncLostEffect v0 s) := by
  unfold syncLostEffect
  split
  all_goals first
    | with_reducible exact kept_ite (State.falseDetection_kept hs) hs | with_reducible exact hs

theorem State.commitFrame_kept (hs : Kept p s) : Kept p (State.commitFrame s v1 v2) := by
  unfold State.commitFrame
  extract_lets -merge -underBinder +onlyGivenNames x0 x1
  have h1 : ∀ z0 z1, Kept p z0 → Kept p ((x1 z0 z1)) := by
    intros
    unfold x1
    extract_lets -merge -underBinder +onlyGivenNames x2 x3
    have h3 : Kept p x3 := State.setLane_kept (by assumption)
    clear_value x2 x3
    exact kept_ite h3 (State.setPhase_kept h3)
  clear_value x0 x1
  extract_lets -merge -underBinder +onlyGivenNames x4
  clear_value x4
  exact kept_ite (h1 _ _ hs) (kept_ite (State.bump_kept (State.laneHome_kept hs)) (kept_ite (h1 _ _ (State.reserve_kept hs)) (kept_ite (h1 _ _ (State.setRing_kept hs)) (State.bump_kept (h1 _ _ hs)))))

theorem headerCheckEffect_kept (hs : Kept p s) : Kept p (headerCheckEffect v0 v1 s) := by
  unfold headerCheckEffect
  split
  all_goals first
    | with_reducible exact hs
    | (refine kept_ite hs ?_
       split
       all_goals first
         | with_reducible exact State.setPast_kept (State.falseDetection_kept hs) | with_reducible exact State.commitFrame_kept hs | with_reducible exact kept_ite (State.setPhase_kept (State.setLane_kept hs)) (State.bump_kept (State.laneHome_kept hs)))

theorem modeSwitchTimeoutEffect_kept (hs : Kept p s) : Kept p (modeSwitchTimeoutEffect v0 s) := by
  unfold modeSwitchTimeoutEffect
  extract_lets -merge -underBinder +onlyGivenNames x0
  clear_value x0
  exact kept_ite (State.ackGivenUp_kept (State.laneHome_kept hs)) hs

theorem State.countPost_kept (hs : Kept p s) : Kept p (State.countPost s v1) := by
  unfold State.countPost
  exact State.bump_kept (State.setLane_kept hs)

theorem State.writeSlot_kept (hs : Kept p s) : Kept p (State.writeSlot s v1 v2 v3) := by
  unfold State.writeSlot
  split
  all_goals first
    | with_reducible exact State.portOctets_kept hs | with_reducible exact hs

theorem State.postOvertaken_kept (hs : Kept p s) : Kept p (State.postOvertaken s v1 v2 v3 v4 v5 v6) := by
  unfold State.postOvertaken
  extract_lets -merge -underBinder +onlyGivenNames x0 x1 x2 x3
  have h3 : Kept p x3 := State.bump_kept hs
  clear_value x0 x1 x2 x3
  refine kept_ite h3 ?_
  refine kept_ite ?_ ?_
  · refine kept_ite ?_ h3
    extract_lets -merge -underBinder +onlyGivenNames x4
    have h4 : Kept p x4 := State.writeSlot_kept h3
    clear_value x4
    exact State.fire_kept (State.countPost_kept (State.postReserved_kept h4))
  · extract_lets -merge -underBinder +onlyGivenNames x5
    have h5 : Kept p x5.2 := State.post_kept h3
    clear_value x5
    exact kept_ite (State.fire_kept (State.countPost_kept h5)) (State.bump_kept h3)

theorem State.restartOnto_kept (hs : Kept p s) : Kept p (State.restartOnto s v1 v2) := by
  unfold State.restartOnto
  extract_lets -merge -underBinder +onlyGivenNames x0
  have h0 : Kept p x0 := State.releasePlace_kept hs
  clear_value x0
  extract_lets -merge -underBinder +onlyGivenNames x1
  have h1 : Kept p x1 := kept_ite h0 (State.setPhase_kept h0)
  clear_value x1
  exact State.startFrame_kept h1

theorem State.forgetPlace_kept (hs : Kept p s) : Kept p (State.forgetPlace s v1) := by
  unfold State.forgetPlace
  extract_lets -merge -underBinder +onlyGivenNames x0
  clear_value x0
  exact State.setLane_kept hs

theorem State.judgeCandidate_kept (hs : Kept p s) : Kept p (State.judgeCandidate s v1 v2 v3 v4 v5 v6) := by
  unfold State.judgeCandidate
  extract_lets -merge -underBinder +onlyGivenNames x0 x1
  exact kept_ite (kept_ite (State.bump_kept (State.restartOnto_kept hs)) hs) (kept_ite (kept_ite (State.restartOnto_kept (State.postOvertaken_kept hs)) (kept_ite (State.bump_kept (State.restartOnto_kept hs)) hs)) (kept_ite (State.restartOnto_kept (State.forgetPlace_kept (State.postOvertaken_kept hs))) hs))

theorem candidateEffect_kept (hs : Kept p s) : Kept p (candidateEffect v0 v1 v2 v3 v4 s) := by
  unfold candidateEffect
  extract_lets -merge -underBinder +onlyGivenNames x0
  clear_value x0
  split
  all_goals first
    | (split
       all_goals first
         | with_reducible exact hs
         | (refine kept_ite hs ?_
            split
            all_goals first
              | with_reducible exact hs | with_reducible exact State.bump_kept (State.startFrame_kept hs) | with_reducible exact State.startFrame_kept hs))
    | (split
       all_goals first
         | with_reducible exact hs | with_reducible exact State.judgeCandidate_kept hs)

theorem rssinowUpdateEffect_kept (hs : Kept p s) : Kept p (rssinowUpdateEffect v0 v1 v2 s) := by
  unfold rssinowUpdateEffect
  exact kept_ite hs (State.setWord_kept hs)

theorem State.laneDisable_kept (hs : Kept p s) : Kept p (State.laneDisable s v1) := by
  unfold State.laneDisable
  extract_lets -merge -underBinder +onlyGivenNames x0 x1 x2
  have h2 : Kept p x2 := State.setLane_kept hs
  clear_value x0 x1 x2
  exact kept_ite (State.wr_kept h2) (State.ackGivenUp_kept (State.setFlag_kept (State.clearLane_kept (State.wr_kept h2))))

theorem State.laneEnable_kept (hs : Kept p s) : Kept p (State.laneEnable s v1) := by
  unfold State.laneEnable
  exact kept_ite (State.setLane_kept hs) (State.wr_kept hs)

theorem State.rejectFrame_kept (hs : Kept p s) : Kept p (State.rejectFrame s v1 v2 v3) := by
  unfold State.rejectFrame
  extract_lets -merge -underBinder +onlyGivenNames x0
  have h0 : Kept p x0 := kept_ite (State.unreserve_kept hs) (kept_ite (State.leaveRing_kept hs) hs)
  clear_value x0
  exact State.bump_kept h0

theorem State.updateRx_kept (hs : Kept p s) : Kept p (State.updateRx s v1 v2 v3 v4 v5) := by
  unfold State.updateRx
  refine kept_ite hs ?_
  extract_lets -merge -underBinder +onlyGivenNames x0
  have h0 : Kept p x0 := State.wrNbr_kept hs
  clear_value x0
  exact kept_ite (State.setNbr_kept (State.setNbr_kept (State.wrNbr_kept h0))) h0

theorem State.propSample_kept (hs : Kept p s) : Kept p (State.propSample s v1 v2 v3 v4) := by
  unfold State.propSample
  refine kept_ite hs ?_
  extract_lets -merge -underBinder +onlyGivenNames x0 x1
  clear_value x0 x1
  refine kept_ite hs ?_
  extract_lets -merge -underBinder +onlyGivenNames x2
  clear_value x2
  refine kept_ite ?_ (State.setNbr_kept (kept_mk hs))
  extract_lets -merge -underBinder +onlyGivenNames x3
  clear_value x3
  exact State.setNbr_kept hs

theorem State.correct_kept (hs : Kept p s) : Kept p (State.correct s v1 v2 v3 v4 v5 v6) := by
  unfold State.correct
  exact kept_ite (State.meshEvent_kept (State.setFlag_kept hs)) (kept_mk hs)

theorem State.ackCorrection_kept (hs : Kept p s) : Kept p (State.ackCorrection s v1 v2 v3 v4) := by
  unfold State.ackCorrection
  extract_lets -merge -underBinder +onlyGivenNames x0
  clear_value x0
  exact kept_ite (State.correct_kept hs) hs

theorem State.ackFrame_kept (hs : Kept p s) : Kept p (State.ackFrame s v1 v2 v3 v4 v5 v6) := by
  unfold State.ackFrame
  extract_lets -merge -underBinder +onlyGivenNames x0 x1 x2 x3 x4 x5
  have h5 : Kept p x5 := State.endAttempt_kept (State.chainIdle_kept hs)
  refine kept_ite h5 ?_
  extract_lets -merge -underBinder +onlyGivenNames x6
  extract_lets -merge -underBinder +onlyGivenNames x7 x8
  have h8 : Kept p x8 := State.updateRx_kept hs
  extract_lets -merge -underBinder +onlyGivenNames x9
  have h9 : Kept p x9 := State.hit_kept h8
  extract_lets -merge -underBinder +onlyGivenNames x10 x11 x12 x13 x14
  have h14 : Kept p x14 := State.propSample_kept h9
  extract_lets -merge -underBinder +onlyGivenNames x15
  have h15 : Kept p x15 := by
    unfold x15
    split
    · exact kept_ite (State.ackCorrection_kept h14) h14
    · exact h14
  extract_lets -merge -underBinder +onlyGivenNames x16
  have h16 : Kept p x16 := State.fire_kept h15
  refine kept_ite (State.endAttempt_kept (State.chainIdle_kept h16)) ?_
  extract_lets -merge -underBinder +onlyGivenNames x17
  have h17 : Kept p x17 := State.setDescWord_kept h16
  extract_lets -merge -underBinder +onlyGivenNames x18
  exact State.endAttempt_kept (State.chainIdle_kept h17)

theorem State.judgeFrame_kept (hs : Kept p s) : Kept p (State.judgeFrame s v1 v2 v3 v4 v5 v6 v7) := by
  unfold State.judgeFrame
  extract_lets -merge -underBinder +onlyGivenNames x0 x1
  clear_value x0 x1
  refine kept_ite (kept_ite (State.unreserve_kept hs) (kept_ite (State.leaveRing_kept hs) hs)) ?_
  refine kept_ite (State.rejectFrame_kept hs) ?_
  extract_lets -merge -underBinder +onlyGivenNames x2 x3
  clear_value x2 x3
  refine kept_ite (State.rejectFrame_kept hs) ?_
  split
  all_goals first
    | with_reducible exact State.rejectFrame_kept hs
    | (extract_lets -merge -underBinder +onlyGivenNames x4 x5 x6 x7 x8
       clear_value x4 x5 x6 x7 x8
       exact kept_mk hs)

theorem State.ackHeard_kept (hs : Kept p s) : Kept p (State.ackHeard s v1 v2 v3 v4 v5 v6) := by
  unfold State.ackHeard
  extract_lets -merge -underBinder +onlyGivenNames x0
  clear_value x0
  refine kept_ite ?_ (State.ackFrame_kept hs)
  extract_lets -merge -underBinder +onlyGivenNames x1
  have h1 : Kept p x1.2 := State.blockReach_kept hs
  clear_value x1
  refine kept_ite (State.ackFrame_kept h1) ?_
  extract_lets -merge -underBinder +onlyGivenNames x2
  have h2 : Kept p x2 := h1
  clear_value x2
  exact kept_mk h2

theorem State.lateAcks_kept (hs : Kept p s) : Kept p (State.lateAcks s) := by
  unfold State.lateAcks
  refine kept_foldl ?_ (kept_mk hs)
  intros
  split
  all_goals first
    | with_reducible exact by assumption
    | (split
       all_goals first
         | with_reducible exact kept_ite (State.ackFrame_kept (by assumption)) (by assumption) | with_reducible exact by assumption)

theorem frameEndEffect_kept (hs : Kept p s) : Kept p (frameEndEffect v0 v1 v2 v3 s) := by
  unfold frameEndEffect
  split
  all_goals first
    | with_reducible exact hs
    | (refine kept_ite hs ?_
       extract_lets -merge -underBinder +onlyGivenNames x0 x1 x2
       clear_value x0 x1 x2
       refine kept_ite ?_ ?_
       · extract_lets -merge -underBinder +onlyGivenNames x3
         have h3 : Kept p x3 := State.laneHome_kept hs
         clear_value x3
         split
         all_goals first
           | with_reducible exact kept_ite (State.ackHeard_kept h3) h3 | with_reducible exact h3
       · extract_lets -merge -underBinder +onlyGivenNames x4
         have h4 : Kept p x4 := State.writeSlot_kept hs
         clear_value x4
         extract_lets -merge -underBinder +onlyGivenNames x5 x6
         have h6 : Kept p x6 := State.setPast_kept (State.laneHome_kept (State.forgetPlace_kept h4))
         clear_value x5 x6
         exact State.judgeFrame_kept h6)

theorem ackWaitExpiryEffect_kept (hs : Kept p s) : Kept p (ackWaitExpiryEffect v0 s) := by
  unfold ackWaitExpiryEffect
  split
  all_goals first
    | with_reducible exact hs
    | (refine kept_ite hs ?_
       refine kept_ite (State.setOp_kept hs) ?_
       extract_lets -merge -underBinder +onlyGivenNames x0
       have h0 : Kept p x0 := State.endAttempt_kept (State.chainIdle_kept hs)
       clear_value x0
       exact kept_ite (State.miss_kept h0) h0)

end Sys2Proof.Machine
end

