-- ==== Sys2Proof/Laws/KeptMesh.lean ====
section
/-!
SUPPORT. Every operation of Machine/Mesh.lean leaves the queue and keeps the canonical form of the memories.
-/
namespace Sys2Proof.Machine

variable {p : List Instr} {s t : State}

theorem State.putSetting_kept (hs : Kept p s) : Kept p (State.putSetting s v1 v2 v3 v4) := by
  unfold State.putSetting
  exact kept_mk hs

theorem State.resetSetting_kept (hs : Kept p s) : Kept p (State.resetSetting s v1 v2 v3) := by
  unfold State.resetSetting
  extract_lets -merge -underBinder +onlyGivenNames x0
  clear_value x0
  exact State.putSetting_kept hs

theorem State.setSynced_kept (hs : Kept p s) : Kept p (State.setSynced s) := by
  unfold State.setSynced
  exact kept_ite hs (State.stageEvent_kept (State.wr_kept hs))

theorem State.applyStep_kept (hs : Kept p s) : Kept p (State.applyStep s v1 v2) := by
  unfold State.applyStep
  extract_lets -merge -underBinder +onlyGivenNames x0
  have h0 : Kept p x0 := State.wrw_kept (State.addTime_kept hs)
  clear_value x0
  extract_lets -merge -underBinder +onlyGivenNames x1 x2
  have h2 : Kept p x2 := kept_ite h0 (State.wrw_kept h0)
  clear_value x1 x2
  exact State.advanceAllDwell_kept (State.fire_kept h2)

theorem timeStepEffect_kept (hs : Kept p s) : Kept p (timeStepEffect s) := by
  unfold timeStepEffect
  exact kept_foldl (fun _ _ _ => State.applyStep_kept (by assumption)) (kept_mk hs)

theorem trimFractionEffect_kept (hs : Kept p s) : Kept p (trimFractionEffect s) := by
  unfold trimFractionEffect
  extract_lets -merge -underBinder +onlyGivenNames x0
  clear_value x0
  exact kept_ite hs (State.addTime_kept hs)

theorem State.setStage_kept (hs : Kept p s) : Kept p (State.setStage s v1) := by
  unfold State.setStage
  exact State.wrw_kept hs

theorem State.setRole_kept (hs : Kept p s) : Kept p (State.setRole s v1) := by
  unfold State.setRole
  extract_lets -merge -underBinder +onlyGivenNames x0
  have h0 : Kept p x0 := State.wr_kept hs
  clear_value x0
  refine kept_ite ?_ h0
  extract_lets -merge -underBinder +onlyGivenNames x1
  have h1 : Kept p x1 := State.wr_kept h0
  clear_value x1
  exact kept_mk h1

theorem State.stageCtl_kept (hs : Kept p s) : Kept p (State.stageCtl s v1) := by
  unfold State.stageCtl
  extract_lets -merge -underBinder +onlyGivenNames x0 x1
  clear_value x0 x1
  exact kept_ite (State.rejected_kept hs) (kept_ite (State.setRole_kept (State.setStage_kept hs)) (State.checkSynced_kept (State.setRole_kept (State.setStage_kept hs))))

theorem State.stageChanged_kept (hs : Kept p s) : Kept p (State.stageChanged s) := by
  unfold State.stageChanged
  exact kept_mk hs

theorem stageStoreEffect_kept (hs : Kept p s) : Kept p (stageStoreEffect s) := by
  unfold stageStoreEffect
  exact kept_ite hs (State.resetSetting_kept (State.resetSetting_kept (kept_mk hs)))

theorem State.restoreStage_kept (hs : Kept p s) : Kept p (State.restoreStage s) := by
  unfold State.restoreStage
  extract_lets -merge -underBinder +onlyGivenNames x0 x1 x2
  have h2 : Kept p x2 := State.stageCtl_kept (State.wrw_kept hs)
  clear_value x0 x1 x2
  exact kept_mk h2

theorem stageRestoreEffect_kept (hs : Kept p s) : Kept p (stageRestoreEffect s) := by
  unfold stageRestoreEffect
  exact kept_ite hs (State.restoreStage_kept hs)

theorem State.judgeStage_kept (hs : Kept p s) : Kept p (State.judgeStage s v1 v2) := by
  unfold State.judgeStage
  refine kept_ite hs ?_
  refine kept_ite ?_ (kept_ite (State.checkSynced_kept (State.setNbr_kept (State.setNbr_kept hs))) hs)
  extract_lets -merge -underBinder +onlyGivenNames x0
  have h0 : Kept p x0 := State.stageEvent_kept (State.stageChanged_kept (State.setStage_kept hs))
  clear_value x0
  extract_lets -merge -underBinder +onlyGivenNames x1
  have h1 : Kept p x1 := State.jnlAdd_kept h0
  clear_value x1
  extract_lets -merge -underBinder +onlyGivenNames x2
  have h2 : Kept p x2 := kept_ite (State.stageEvent_kept (State.wr_kept h1)) h1
  clear_value x2
  exact State.checkSynced_kept h2

theorem State.nbrStore_kept (hs : Kept p s) : Kept p (State.nbrStore s v1 v2) := by
  unfold State.nbrStore
  extract_lets -merge -underBinder +onlyGivenNames x0
  have h0 : Kept p x0 := State.setNbr_kept hs
  clear_value x0
  extract_lets -merge -underBinder +onlyGivenNames x1 x2
  have h2 : Kept p x2 := kept_ite (kept_mk h0) h0
  clear_value x1 x2
  exact State.checkSynced_kept h2

theorem State.nbrStores_kept (hs : Kept p s) : Kept p (State.nbrStores s) := by
  unfold State.nbrStores
  exact kept_foldl (fun _ _ _ => State.nbrStore_kept (by assumption)) (kept_mk hs)

theorem State.seenInsert_kept (hs : Kept p s) : Kept p (State.seenInsert s v1 v2 v3) := by
  unfold State.seenInsert
  extract_lets -merge -underBinder +onlyGivenNames x0 x1 x2 x3
  clear_value x0 x1 x2 x3
  split
  all_goals first
    | with_reducible exact kept_mk hs
    | (extract_lets -merge -underBinder +onlyGivenNames x4
       clear_value x4
       exact State.bump_kept (kept_mk hs))

theorem State.seenHeard_kept (hs : Kept p s) : Kept p (State.seenHeard s v1 v2) := by
  unfold State.seenHeard
  exact kept_mk hs

theorem seenScrubEffect_kept (hs : Kept p s) : Kept p (seenScrubEffect v0 s) := by
  unfold seenScrubEffect
  refine kept_ite hs ?_
  extract_lets -merge -underBinder +onlyGivenNames x0 x1 x2 x3
  have h3 : Kept p x3 := kept_mk hs
  clear_value x0 x1 x2 x3
  exact State.bumpBy_kept h3

theorem holdoffEndEffect_kept (hs : Kept p s) : Kept p (holdoffEndEffect s) := by
  unfold holdoffEndEffect
  exact kept_ite (State.setFlag_kept hs) hs

theorem State.queueRelay_kept (hs : Kept p s) : Kept p (State.queueRelay s v1 v2 v3 v4 v5 v6) := by
  unfold State.queueRelay
  extract_lets -merge -underBinder +onlyGivenNames x0
  clear_value x0
  refine kept_ite (State.bump_kept hs) ?_
  split
  all_goals first
    | with_reducible exact State.bump_kept hs
    | (extract_lets -merge -underBinder +onlyGivenNames x1 x2 x3 x4 x5
       have h5 : Kept p x5 := State.portOctets_kept hs
       clear_value x1 x2 x3 x4 x5
       exact kept_mk h5)

theorem State.dropRelay_kept (hs : Kept p s) : Kept p (State.dropRelay s v1) := by
  unfold State.dropRelay
  exact kept_mk hs

theorem relayPostEffect_kept (hs : Kept p s) : Kept p (relayPostEffect s) := by
  unfold relayPostEffect
  split
  all_goals first
    | with_reducible exact hs
    | (extract_lets -merge -underBinder +onlyGivenNames x0
       have h0 : ∀ z0 z1, Kept p z0 → Kept p ((x0 z0 z1)) := by
         intros
         unfold x0
         exact State.bump_kept (kept_mk (by assumption))
       clear_value x0
       refine kept_ite (h0 _ _ hs) ?_
       extract_lets -merge -underBinder +onlyGivenNames x1 x2 x3 x4
       have h4 : Kept p x4 := State.portTouch_kept (State.portTouch_kept hs)
       clear_value x1 x2 x3 x4
       refine kept_ite (State.bump_kept (State.dropRelay_kept hs)) ?_
       refine kept_ite h4 ?_
       split
       all_goals (try (rename_i e5; have h5 := (State.qpost_kept h4) _ e5))
       all_goals first
         | with_reducible exact h0 _ _ (State.portPuts_kept (by assumption)) | with_reducible exact State.bump_kept (State.dropRelay_kept hs))

theorem State.abortRelay_kept (hs : Kept p s) : Kept p (State.abortRelay s v1 v2) := by
  unfold State.abortRelay
  split
  all_goals first
    | with_reducible exact State.completeTx_kept (State.dropAttempt_kept hs) | with_reducible exact State.dropRelay_kept hs

theorem State.suppress_kept (hs : Kept p s) : Kept p (State.suppress s v1 v2 v3) := by
  unfold State.suppress
  exact kept_foldl (fun _ _ _ => State.bump_kept (State.abortRelay_kept (by assumption))) hs

theorem State.relayDecision_kept (hs : Kept p s) : Kept p (State.relayDecision s v1 v2 v3 v4) := by
  unfold State.relayDecision
  refine kept_ite hs ?_
  refine kept_ite hs ?_
  extract_lets -merge -underBinder +onlyGivenNames x0
  clear_value x0
  split
  all_goals first
    | with_reducible exact hs | with_reducible exact kept_ite (State.bump_kept hs) (kept_ite hs (kept_ite (State.bump_kept hs) (State.queueRelay_kept hs)))
    | (extract_lets -merge -underBinder +onlyGivenNames x1 x2
       clear_value x1 x2
       exact kept_ite hs (kept_ite (State.stageEvent_kept hs) (kept_ite (State.stageEvent_kept hs) (kept_ite (State.bump_kept hs) (State.queueRelay_kept hs)))))

theorem State.relayDisable_kept (hs : Kept p s) : Kept p (State.relayDisable s) := by
  unfold State.relayDisable
  extract_lets -merge -underBinder +onlyGivenNames x0
  have h0 : Kept p x0 := kept_foldl (fun _ _ _ => State.abortRelay_kept (by assumption)) hs
  clear_value x0
  extract_lets -merge -underBinder +onlyGivenNames x1
  have h1 : Kept p x1 := State.cancelRings_kept h0
  clear_value x1
  exact State.settleEn_kept (State.wr_kept h1)

theorem State.endOrigin_kept (hs : Kept p s) : Kept p (State.endOrigin s v1 v2) := by
  unfold State.endOrigin
  exact State.complete_kept hs

theorem State.originate_kept (hs : Kept p s) : Kept p (State.originate s v1 v2) := by
  unfold State.originate
  extract_lets -merge -underBinder +onlyGivenNames x0 x1
  have h1 : Kept p x1 := State.setWord_kept hs
  clear_value x0 x1
  extract_lets -merge -underBinder +onlyGivenNames x2
  have h2 : Kept p x2 := State.seenInsert_kept h1
  clear_value x2
  extract_lets -merge -underBinder +onlyGivenNames x3
  have h3 : Kept p x3 := kept_foldl (fun _ _ _ => State.queueRelay_kept (by assumption)) h2
  clear_value x3
  exact State.endOrigin_kept (State.putPlaceWord_kept h3)

theorem State.fetchOrigin_kept (hs : Kept p s) : Kept p (State.fetchOrigin s v1).2 := by
  unfold State.fetchOrigin
  extract_lets -merge -underBinder +onlyGivenNames x0
  have h0 : Kept p x0.2 := State.fetchDesc_kept hs
  clear_value x0
  split
  · exact h0
  · extract_lets -merge -underBinder +onlyGivenNames x1
    clear_value x1
    extract_lets -merge -underBinder +onlyGivenNames x2
    clear_value x2
    exact State.portTouch_kept h0

theorem State.originNow_kept {v1 : Nat → Bool} (hs : Kept p s) : Kept p (State.originNow s v1) := by
  unfold State.originNow
  split
  all_goals first
    | with_reducible exact hs
    | (extract_lets -merge -underBinder +onlyGivenNames x0
       have h0 : Kept p x0.2 := State.fetchOrigin_kept hs
       clear_value x0
       refine kept_ite (State.endOrigin_kept h0) ?_
       refine kept_ite h0 ?_
       extract_lets -merge -underBinder +onlyGivenNames x1
       have h1 : Kept p x1 := State.markOut_kept h0
       clear_value x1
       extract_lets -merge -underBinder +onlyGivenNames x2
       clear_value x2
       exact kept_ite (State.originate_kept h1) (State.endOrigin_kept h1))

theorem State.askHold_kept (hs : Kept p s) : Kept p (State.askHold s v1 v2 v3) := by
  unfold State.askHold
  extract_lets -merge -underBinder +onlyGivenNames x0 x1
  have h1 : Kept p x1 := kept_mk hs
  clear_value x0 x1
  exact State.jnlAdd_kept h1

theorem originateHoldEffect_kept (hs : Kept p s) : Kept p (originateHoldEffect s) := by
  unfold originateHoldEffect
  refine kept_ite hs ?_
  split
  all_goals first
    | with_reducible exact hs
    | (extract_lets -merge -underBinder +onlyGivenNames x0
       have h0 : Kept p x0.2 := State.fetchOrigin_kept hs
       clear_value x0
       exact kept_ite (State.endOrigin_kept h0) (kept_ite h0 (kept_ite (State.endOrigin_kept (State.markOut_kept h0)) (State.askHold_kept (State.markOut_kept h0)))))

theorem State.holdClass_kept (hs : Kept p s) : Kept p (State.holdClass s v1 v2) := by
  unfold State.holdClass
  extract_lets -merge -underBinder +onlyGivenNames x0
  have h0 : Kept p x0 := State.setWord_kept hs
  clear_value x0
  exact kept_ite h0 (kept_foldl (fun _ _ _ => State.abortRelay_kept (by assumption)) h0)

theorem holdApplyEffect_kept (hs : Kept p s) : Kept p (holdApplyEffect s) := by
  unfold holdApplyEffect
  split
  all_goals first
    | with_reducible exact hs
    | (extract_lets -merge -underBinder +onlyGivenNames x0
       clear_value x0
       refine kept_ite hs ?_
       extract_lets -merge -underBinder +onlyGivenNames x1 x2
       have h2 : Kept p x2 := kept_mk hs
       clear_value x1 x2
       extract_lets -merge -underBinder +onlyGivenNames x3
       have h3 : Kept p x3 := kept_foldl (fun _ _ _ => kept_ite (State.holdClass_kept (by assumption)) (by assumption)) h2
       clear_value x3
       split
       all_goals first
         | (extract_lets -merge -underBinder +onlyGivenNames x4
            have h4 : Kept p x4 := State.stageEvent_kept h3
            clear_value x4
            extract_lets -merge -underBinder +onlyGivenNames x5 x6
            clear_value x5 x6
            exact kept_ite (State.originate_kept h4) (State.endOrigin_kept h4))
         | (split
            all_goals first
              | with_reducible exact State.stageEvent_kept h3
              | (extract_lets -merge -underBinder +onlyGivenNames x7
                 have h7 : Kept p x7 := State.stageEvent_kept h3
                 clear_value x7
                 exact State.relayDecision_kept h7)))

theorem holdCountdownEffect_kept (hs : Kept p s) : Kept p (holdCountdownEffect s) := by
  unfold holdCountdownEffect
  refine kept_foldl ?_ hs
  intros
  extract_lets -merge -underBinder +onlyGivenNames x0
  clear_value x0
  refine kept_ite (by assumption) ?_
  extract_lets -merge -underBinder +onlyGivenNames x1
  have h1 : Kept p x1 := State.setWord_kept (by assumption)
  clear_value x1
  exact kept_ite (State.stageEvent_kept h1) h1

end Sys2Proof.Machine
end

