-- ==== Sys2Proof/Laws/KeptLink.lean ====
section
/-!
SUPPORT. Every operation of Machine/Link.lean leaves the queue and keeps the canonical form of the memories.
-/
namespace Sys2Proof.Machine

variable {p : List Instr} {s t : State}

theorem State.releaseJudged_kept (hs : Kept p s) : Kept p (State.releaseJudged s v1) := by
  unfold State.releaseJudged
  exact kept_ite (State.unreserve_kept hs) (kept_ite (State.leaveRing_kept hs) hs)

theorem State.placeJudged_kept (hs : Kept p s) : ∀ r, State.placeJudged s v1 = some r → Kept p r.2 := by
  unfold State.placeJudged
  extract_lets -merge +onlyGivenNames x0 x1
  clear_value x0 x1
  split
  · exact kept_some2 hs
  · split
    · exact kept_none2
    · extract_lets -merge +onlyGivenNames x2
      have h2 : Kept p x2 := State.leaveRing_kept hs
      clear_value x2
      split
      · exact kept_some2 (State.bump_kept h2)
      · extract_lets -merge +onlyGivenNames x3 x4
        clear_value x3 x4
        exact kept_some2 (State.writeSlot_kept (State.reserve_kept h2))

theorem State.endJudged_kept (hs : Kept p s) : Kept p (State.endJudged s v1) := by
  unfold State.endJudged
  extract_lets -merge -underBinder +onlyGivenNames x0 x1
  have h1 : Kept p x1 := kept_mk hs
  clear_value x0 x1
  extract_lets -merge -underBinder +onlyGivenNames x2
  have h2 : Kept p x2 := kept_ite (State.nbrStores_kept h1) h1
  clear_value x2
  extract_lets -merge -underBinder +onlyGivenNames x3
  clear_value x3
  refine kept_ite h2 ?_
  extract_lets -merge -underBinder +onlyGivenNames x4 x5 x6
  have h6 : Kept p x6 := kept_mk h2
  clear_value x4 x5 x6
  exact kept_foldl (fun _ _ _ => State.miss_kept (by assumption)) h6

theorem State.rejectJudged_kept (hs : Kept p s) : Kept p (State.rejectJudged s v1 v2) := by
  unfold State.rejectJudged
  exact State.endJudged_kept (State.bump_kept (State.releaseJudged_kept hs))

theorem State.timeFrame_kept (hs : Kept p s) : Kept p (State.timeFrame s v1) := by
  unfold State.timeFrame
  extract_lets -merge -underBinder +onlyGivenNames x0 x1 x2 x3
  have h3 : Kept p x3 := kept_mk hs
  clear_value x0 x1 x2 x3
  extract_lets -merge -underBinder +onlyGivenNames x4
  clear_value x4
  exact kept_ite (State.correct_kept h3) (State.setSynced_kept (State.correct_kept h3))

theorem State.judgeTime_kept (hs : Kept p s) : Kept p (State.judgeTime s v1).2 := by
  unfold State.judgeTime
  extract_lets -merge -underBinder +onlyGivenNames x0
  extract_lets -merge -underBinder +onlyGivenNames x1 x2 x3 x4 x5
  have h5 : Kept p x5 := kept_ite (State.bump_kept (State.stageEvent_kept hs)) hs
  clear_value x1 x2 x3 x4 x5
  extract_lets -merge -underBinder +onlyGivenNames x6
  have h6 : Kept p x6 := by
    unfold x6
    split
    all_goals first
      | with_reducible exact State.judgeStage_kept h5 | with_reducible exact h5
  clear_value x6
  split
  · exact State.timeFrame_kept h6
  · exact h6

theorem State.callAck_kept (hs : Kept p s) : Kept p (State.callAck s v1 v2 v3) := by
  unfold State.callAck
  extract_lets -merge -underBinder +onlyGivenNames x0 x1
  clear_value x0 x1
  refine kept_ite (State.bump_kept hs) ?_
  extract_lets -merge -underBinder +onlyGivenNames x2
  clear_value x2
  exact kept_mk hs

theorem State.deliver_kept (hs : Kept p s) : Kept p (State.deliver s v1 v2) := by
  unfold State.deliver
  extract_lets -merge -underBinder +onlyGivenNames x0 x1
  clear_value x0 x1
  refine kept_ite ?_ (State.fire_kept (State.countPost_kept (State.postReserved_kept hs)))
  extract_lets -merge -underBinder +onlyGivenNames x2 x3
  have h3 : Kept p x3.2 := State.post_kept hs
  clear_value x2 x3
  extract_lets -merge -underBinder +onlyGivenNames x4 x5 x6
  have h4 : Kept p x4 := h3
  have h6 : Kept p x6 := kept_mk h4
  clear_value x4 x5 x6
  exact State.fire_kept (State.countPost_kept (State.releaseJudged_kept h6))

theorem State.writeOpened_kept (hs : Kept p s) : Kept p (State.writeOpened s v1) := by
  unfold State.writeOpened
  split
  all_goals first
    | with_reducible exact kept_ite (State.putOctets_kept hs) hs | with_reducible exact hs

theorem State.checkSeen_kept (hs : Kept p s) : Kept p (State.checkSeen s v1).2 := by
  unfold State.checkSeen
  split
  all_goals first
    | with_reducible exact hs
    | (split
       · exact hs
       · split
         all_goals first
           | with_reducible exact State.seenInsert_kept hs
           | (extract_lets -merge -underBinder +onlyGivenNames x0
              have h0 : Kept p x0 := State.seenHeard_kept hs
              clear_value x0
              extract_lets -merge -underBinder +onlyGivenNames x1
              have h1 : Kept p x1 := State.suppress_kept h0
              clear_value x1
              exact kept_ite (State.bump_kept h1) h1))

theorem State.acceptFrame_kept (hs : Kept p s) : Kept p (State.acceptFrame s v1 v2 v3 v4 v5 v6) := by
  unfold State.acceptFrame
  extract_lets -merge -underBinder +onlyGivenNames x0 x1
  clear_value x0 x1
  refine kept_ite ?_ ?_
  · extract_lets -merge -underBinder +onlyGivenNames x2
    have h2 : Kept p x2 := kept_ite (State.callAck_kept hs) hs
    clear_value x2
    exact State.endJudged_kept (State.bump_kept (State.releaseJudged_kept h2))
  · refine kept_ite (State.endJudged_kept (State.bump_kept (State.releaseJudged_kept hs))) ?_
    extract_lets -merge -underBinder +onlyGivenNames x3
    have h3 : Kept p x3 := State.updateRx_kept hs
    clear_value x3
    extract_lets -merge -underBinder +onlyGivenNames x4
    have h4 : Kept p x4 := kept_ite (State.bump_kept h3) h3
    clear_value x4
    extract_lets -merge -underBinder +onlyGivenNames x5 x6
    have h6 : Kept p x6 := kept_ite (State.callAck_kept h4) h4
    clear_value x5 x6
    extract_lets -merge -underBinder +onlyGivenNames x7
    have h7 : Kept p x7 := State.deliver_kept (State.writeOpened_kept h6)
    clear_value x7
    extract_lets -merge -underBinder +onlyGivenNames x8
    have h8 : Kept p x8 := by
      unfold x8
      split
      all_goals first
        | with_reducible exact h7
        | (extract_lets -merge -underBinder +onlyGivenNames x9
           clear_value x9
           exact kept_ite (State.askHold_kept h7) (State.relayDecision_kept h7))
    clear_value x8
    exact State.endJudged_kept h8

theorem State.cellHit_kept (hs : Kept p s) : Kept p (State.cellHit s v1) := by
  unfold State.cellHit
  extract_lets -merge -underBinder +onlyGivenNames x0
  have h0 : Kept p x0 := State.hit_kept hs
  clear_value x0
  extract_lets -merge -underBinder +onlyGivenNames x1
  have h1 : Kept p x1 := by
    unfold x1
    split
    all_goals first
      | with_reducible exact kept_ite (State.setOp_kept h0) h0 | with_reducible exact h0
  clear_value x1
  exact kept_ite (kept_mk h1) h1

theorem State.judgeOpened_kept (hs : Kept p s) : Kept p (State.judgeOpened s v1 v2 v3) := by
  unfold State.judgeOpened
  extract_lets -merge -underBinder +onlyGivenNames x0 x1 x2
  have h2 : Kept p x2.2 := State.judgeTime_kept (State.cellHit_kept hs)
  clear_value x0 x1 x2
  extract_lets -merge -underBinder +onlyGivenNames x3
  have h3 : Kept p x3 := h2
  clear_value x3
  extract_lets -merge -underBinder +onlyGivenNames x4 x5
  clear_value x4 x5
  refine kept_ite (State.endJudged_kept h3) ?_
  extract_lets -merge -underBinder +onlyGivenNames x6
  have h6 : Kept p x6.2 := State.checkSeen_kept h3
  clear_value x6
  exact kept_ite (State.rejectJudged_kept h6) (State.acceptFrame_kept h6)

theorem State.judgeSteps_kept (hs : Kept p s) : Kept p (State.judgeSteps s v1) := by
  unfold State.judgeSteps
  extract_lets -merge -underBinder +onlyGivenNames x0
  clear_value x0
  split
  all_goals first
    | with_reducible exact State.rejectJudged_kept (kept_ite (State.vaultCount_kept hs) hs)
    | (extract_lets -merge -underBinder +onlyGivenNames x1 x2 x3
       clear_value x1 x2 x3
       exact State.judgeOpened_kept hs)

theorem acceptDecisionEffect_kept (hs : Kept p s) : Kept p (acceptDecisionEffect s) := by
  unfold acceptDecisionEffect
  split
  all_goals first
    | with_reducible exact hs
    | (refine kept_ite hs ?_
       refine kept_ite (State.endJudged_kept (State.releaseJudged_kept hs)) ?_
       extract_lets -merge -underBinder +onlyGivenNames x0
       have h0 : Kept p x0.2 := by
         unfold x0
         split
         · exact State.blockReach_kept hs
         · exact hs
       clear_value x0
       refine kept_ite h0 ?_
       split
       all_goals (try (rename_i e1; have h1 := (State.placeJudged_kept h0) _ e1))
       all_goals first
         | with_reducible exact h0 | with_reducible exact State.judgeSteps_kept (by assumption))

theorem State.sealAck_kept (hs : Kept p s) : Kept p (State.sealAck s v1).2 := by
  unfold State.sealAck
  split
  · exact hs
  · extract_lets -merge -underBinder +onlyGivenNames x0
    have h0 : Kept p x0.2 := State.blockReach_kept hs
    clear_value x0
    split
    · exact h0
    · split
      all_goals (rename_i e1; have h1 := kept_of_eq2 e1 (State.takeCounter_kept h0))
      all_goals first
        | with_reducible exact by assumption
        | (split
           all_goals first
             | with_reducible exact State.vaultCount_kept (by assumption)
             | (extract_lets -merge -underBinder +onlyGivenNames x2
                clear_value x2
                exact by assumption))

theorem State.setAckSent_kept (hs : Kept p s) : Kept p (State.setAckSent s v1) := by
  unfold State.setAckSent
  split
  all_goals first
    | with_reducible exact hs
    | (extract_lets -merge -underBinder +onlyGivenNames x0 x1
       clear_value x0 x1
       split
       all_goals first
         | with_reducible exact State.setRing_kept hs | with_reducible exact State.portOctets_kept hs)

theorem State.ackTurn_kept (hs : Kept p s) : Kept p (State.ackTurn s v1 v2 v3 v4) := by
  unfold State.ackTurn
  extract_lets -merge -underBinder +onlyGivenNames x0 x1
  have h1 : Kept p x1 := kept_mk hs
  clear_value x0 x1
  extract_lets -merge -underBinder +onlyGivenNames x2
  have h2 : Kept p x2 := State.lanesOff_kept (State.cellEnd_kept h1)
  clear_value x2
  extract_lets -merge -underBinder +onlyGivenNames x3 x4 x5
  have h5 : Kept p x5 := State.modulate_kept h2
  clear_value x3 x4 x5
  extract_lets -merge -underBinder +onlyGivenNames x6
  have h6 : Kept p x6 := kept_ite (State.setFlag_kept h5) h5
  clear_value x6
  extract_lets -merge -underBinder +onlyGivenNames x7
  have h7 : Kept p x7 := State.setOp_kept h6
  clear_value x7
  extract_lets -merge -underBinder +onlyGivenNames x8
  have h8 : Kept p x8 := State.blankOther_kept (State.direction_kept (State.setRfState_kept h7))
  clear_value x8
  exact State.fire_kept (State.bump_kept (State.setAckSent_kept h8))

theorem ackTransmitEffect_kept (hs : Kept p s) : Kept p (ackTransmitEffect v0 v1 s) := by
  unfold ackTransmitEffect
  extract_lets -merge -underBinder +onlyGivenNames x0
  have h0 : Kept p x0 := kept_mk hs
  clear_value x0
  split
  all_goals first
    | with_reducible exact h0
    | (refine kept_ite h0 ?_
       refine kept_ite (State.dropAck_kept h0) ?_
       split
       all_goals (rename_i e1; have h1 := kept_of_eq2 e1 (State.sealAck_kept h0))
       all_goals first
         | with_reducible exact State.dropAck_kept (by assumption) | with_reducible exact State.ackTurn_kept (by assumption))

theorem fcReservationDurableEffect_kept (hs : Kept p s) : Kept p (fcReservationDurableEffect v0 s) := by
  unfold fcReservationDurableEffect
  split
  all_goals first
    | with_reducible exact hs
    | (refine kept_ite hs ?_
       extract_lets -merge -underBinder +onlyGivenNames x0 x1
       have h1 : Kept p x1 := State.mramPut_kept (State.mramPut_kept hs)
       clear_value x0 x1
       extract_lets -merge -underBinder +onlyGivenNames x2 x3
       have h3 : Kept p x3 := kept_mk h1
       clear_value x2 x3
       exact State.mwGo_kept (State.resumeSeals_kept h3))

end Sys2Proof.Machine
end

