-- ==== Sys2Proof/Laws/KeptVault.lean ====
section
/-!
SUPPORT. Every operation of Machine/Vault.lean leaves the queue and keeps the canonical form of the memories.
-/
namespace Sys2Proof.Machine

variable {p : List Instr} {s t : State}

theorem State.putSlot_kept (hs : Kept p s) : Kept p (State.putSlot s v1) := by
  unfold State.putSlot
  extract_lets -merge -underBinder +onlyGivenNames x0
  have h0 : Kept p x0 := State.setFlag_kept hs
  clear_value x0
  exact kept_mk h0

theorem State.resetLinkCounters_kept (hs : Kept p s) : Kept p (State.resetLinkCounters s v1) := by
  unfold State.resetLinkCounters
  refine kept_foldl ?_ hs
  intros
  refine kept_ite ?_ (by assumption)
  extract_lets -merge -underBinder +onlyGivenNames x0
  have h0 : Kept p x0 := State.mramPuts_kept (by assumption)
  clear_value x0
  extract_lets -merge -underBinder +onlyGivenNames x1 x2
  have h2 : Kept p x2 := State.mwGo_kept (kept_mk h0)
  clear_value x1 x2
  exact kept_ite (State.wrw_kept h2) (kept_ite h2 (State.wrw_kept h2))

theorem State.newKey_kept (hs : Kept p s) : Kept p (State.newKey s v1 v2 v3).2 := by
  unfold State.newKey
  extract_lets -merge -underBinder +onlyGivenNames x0
  clear_value x0
  exact State.resetLinkCounters_kept (State.putSlot_kept hs)

theorem State.nonceRenew_kept (hs : Kept p s) : Kept p (State.nonceRenew s v1) := by
  unfold State.nonceRenew
  refine kept_ite hs ?_
  extract_lets -merge -underBinder +onlyGivenNames x0
  have h0 : Kept p x0 := State.touchMram_kept hs
  clear_value x0
  exact kept_mk h0

theorem State.vaultLoad_kept (hs : Kept p s) : Kept p (State.vaultLoad s) := by
  unfold State.vaultLoad
  refine kept_ite (State.wr_kept hs) ?_
  refine kept_ite (kept_foldl (fun _ _ _ => State.setWord_kept (by assumption)) (State.wr_kept hs)) ?_
  extract_lets -merge -underBinder +onlyGivenNames x0
  have h0 : Kept p x0 := State.wr_kept hs
  clear_value x0
  extract_lets -merge -underBinder +onlyGivenNames x1 x2 x3
  have h3 : Kept p x3 := kept_mk h0
  clear_value x1 x2 x3
  extract_lets -merge -underBinder +onlyGivenNames x4
  have h4 : Kept p x4 := kept_foldl (fun _ _ _ => State.setFlag_kept (by assumption)) h3
  clear_value x4
  extract_lets -merge -underBinder +onlyGivenNames x5
  have h5 : Kept p x5 := kept_foldl (fun _ _ _ => State.nonceRenew_kept (by assumption)) h4
  clear_value x5
  extract_lets -merge -underBinder +onlyGivenNames x6
  have h6 : Kept p x6 := State.wrw_kept h5
  clear_value x6
  split
  all_goals first
    | with_reducible exact State.wrw_kept h6 | with_reducible exact h6

theorem State.generateCall_kept (hs : Kept p s) : Kept p (State.generateCall s) := by
  unfold State.generateCall
  exact kept_mk hs

theorem State.vaultDone_kept (hs : Kept p s) : Kept p (State.vaultDone s v1 v2 v3) := by
  unfold State.vaultDone
  extract_lets -merge -underBinder +onlyGivenNames x0 x1
  have h1 : Kept p x1 := kept_mk hs
  clear_value x0 x1
  extract_lets -merge -underBinder +onlyGivenNames x2
  have h2 : Kept p x2 := State.vaultCount_kept h1
  clear_value x2
  extract_lets -merge -underBinder +onlyGivenNames x3 x4
  have h4 : Kept p x4 := kept_ite (kept_mk h2) (State.completeGeneric_kept h2)
  clear_value x3 x4
  extract_lets -merge -underBinder +onlyGivenNames x5
  have h5 : Kept p x5 := State.fire_kept h4
  clear_value x5
  exact State.enSettle_kept h5

theorem State.setVltOp_kept (hs : Kept p s) : Kept p (State.setVltOp s v1) := by
  unfold State.setVltOp
  exact kept_mk hs

theorem State.takeNonce_kept (hs : Kept p s) : Kept p (State.takeNonce s v1).2 := by
  unfold State.takeNonce
  split
  all_goals first
    | with_reducible exact hs
    | (split
       · exact hs
       · split
         · exact State.nonceRenew_kept hs
         · extract_lets -merge -underBinder +onlyGivenNames x0
           clear_value x0
           extract_lets -merge -underBinder +onlyGivenNames x1 x2
           have h2 : Kept p x2 := kept_mk hs
           clear_value x1 x2
           exact kept_ite (State.nonceRenew_kept h2) h2)

theorem State.commitMark_kept (hs : Kept p s) : Kept p (State.commitMark s v1) := by
  unfold State.commitMark
  exact kept_ite hs (State.markOut_kept hs)

theorem State.sealStart_kept (hs : Kept p s) : Kept p (State.sealStart s v1) := by
  unfold State.sealStart
  split
  all_goals (rename_i e0; have h0 := kept_of_eq2 e0 (State.takeNonce_kept hs))
  all_goals first
    | with_reducible exact State.vaultDone_kept (by assumption) | with_reducible exact State.setVltOp_kept (by assumption) | with_reducible exact State.commitMark_kept (State.setVltOp_kept (by assumption))

theorem State.attestStart_kept (hs : Kept p s) : Kept p (State.attestStart s v1) := by
  unfold State.attestStart
  extract_lets -merge -underBinder +onlyGivenNames x0
  clear_value x0
  exact State.commitMark_kept (State.setVltOp_kept (State.touchMram_kept hs))

theorem State.vaultBegin_kept (hs : Kept p s) : Kept p (State.vaultBegin s v1) := by
  unfold State.vaultBegin
  extract_lets -merge -underBinder +onlyGivenNames x0 x1
  have h1 : Kept p x1 := kept_ite (kept_mk hs) (State.markOut_kept hs)
  clear_value x0 x1
  extract_lets -merge -underBinder +onlyGivenNames x2
  clear_value x2
  refine kept_ite (State.vaultDone_kept h1) ?_
  extract_lets -merge -underBinder +onlyGivenNames x3 x4
  have h4 : Kept p x4 := State.openGate_kept (kept_mk h1)
  clear_value x3 x4
  extract_lets -merge -underBinder +onlyGivenNames x5
  have h5 : Kept p x5 := kept_ite (State.generateCall_kept h4) h4
  clear_value x5
  exact kept_ite (State.sealStart_kept h5) (kept_ite (State.attestStart_kept h5) h5)

theorem State.vaultReject_kept (hs : Kept p s) : Kept p (State.vaultReject s) := by
  unfold State.vaultReject
  refine kept_foldl ?_ hs
  intros
  extract_lets -merge -underBinder +onlyGivenNames x0
  have h0 : Kept p x0.2 := by
    unfold x0
    split
    · exact by assumption
    · exact State.fetchDesc_kept (by assumption)
  clear_value x0
  exact kept_ite h0 (State.vaultDone_kept (kept_ite (by assumption) (State.markOut_kept h0)))

theorem State.vaultTake_kept (hs : Kept p s) : Kept p (State.vaultTake s v1) := by
  unfold State.vaultTake
  refine kept_ite (State.vaultBegin_kept hs) ?_
  extract_lets -merge -underBinder +onlyGivenNames x0
  have h0 : Kept p x0.2 := State.fetchDesc_kept hs
  clear_value x0
  extract_lets -merge -underBinder +onlyGivenNames x1
  clear_value x1
  exact kept_ite (State.vaultDone_kept (State.markOut_kept h0)) (kept_ite h0 (kept_ite (State.portWake_kept h0) (State.vaultBegin_kept h0)))

theorem State.vaultStart_kept (hs : Kept p s) : Kept p (State.vaultStart s v1) := by
  unfold State.vaultStart
  refine kept_ite hs ?_
  extract_lets -merge -underBinder +onlyGivenNames x0
  have h0 : Kept p x0 := State.vaultReject_kept hs
  clear_value x0
  extract_lets -merge -underBinder +onlyGivenNames x1
  clear_value x1
  split
  all_goals first
    | with_reducible exact h0
    | (extract_lets -merge -underBinder +onlyGivenNames x2
       clear_value x2
       exact kept_ite h0 (State.vaultTake_kept h0))

theorem State.vaultPut_kept (hs : Kept p s) : Kept p (State.vaultPut s v1 v2) := by
  unfold State.vaultPut
  exact State.portOctets_kept hs

theorem State.ecdsaSign_kept (hs : Kept p s) : Kept p (State.ecdsaSign s v1 v2).2 := by
  unfold State.ecdsaSign
  extract_lets -merge -underBinder +onlyGivenNames x0
  have h0 : Kept p x0.2 := State.draw_kept hs
  clear_value x0
  exact h0

theorem State.sealFinish_kept (hs : Kept p s) : Kept p (State.sealFinish s v1 v2) := by
  unfold State.sealFinish
  extract_lets -merge -underBinder +onlyGivenNames x0 x1 x2 x3
  clear_value x0 x1 x2 x3
  exact State.vaultPut_kept (State.vaultPut_kept hs)

theorem State.zeroFill_kept (hs : Kept p s) : Kept p (State.zeroFill s v1) := by
  unfold State.zeroFill
  exact kept_ite (State.vaultPut_kept hs) hs

theorem State.openFinish_kept (hs : Kept p s) : Kept p (State.openFinish s v1).2.2 := by
  unfold State.openFinish
  extract_lets -merge -underBinder +onlyGivenNames x0 x1 x2
  clear_value x0 x1 x2
  split
  · exact State.zeroFill_kept hs
  · split
    · exact State.vaultPut_kept hs
    · exact hs

theorem State.hashFinish_kept (hs : Kept p s) : Kept p (State.hashFinish s v1) := by
  unfold State.hashFinish
  extract_lets -merge -underBinder +onlyGivenNames x0 x1 x2
  clear_value x0 x1 x2
  exact kept_ite (State.vaultPut_kept hs) (State.vaultPut_kept hs)

theorem State.installFinish_kept (hs : Kept p s) : Kept p (State.installFinish s v1).2.2 := by
  unfold State.installFinish
  extract_lets -merge -underBinder +onlyGivenNames x0 x1
  clear_value x0 x1
  split
  · exact hs
  · extract_lets -merge -underBinder +onlyGivenNames x2
    have h2 : Kept p x2.2 := State.newKey_kept hs
    clear_value x2
    exact h2

theorem State.generateFinish_kept (hs : Kept p s) : Kept p (State.generateFinish s v1).2.2 := by
  unfold State.generateFinish
  extract_lets -merge -underBinder +onlyGivenNames x0
  have h0 : Kept p x0.2 := State.draw_kept hs
  clear_value x0
  extract_lets -merge -underBinder +onlyGivenNames x1
  have h1 : Kept p x1.2 := State.newKey_kept h0
  clear_value x1
  extract_lets -merge -underBinder +onlyGivenNames x2
  have h2 : Kept p x2 := kept_ite (State.newKey_kept h1) h1
  clear_value x2
  exact h2

theorem State.eraseFinish_kept (hs : Kept p s) : Kept p (State.eraseFinish s v1).2.2 := by
  unfold State.eraseFinish
  extract_lets -merge -underBinder +onlyGivenNames x0
  clear_value x0
  exact State.putSlot_kept hs

theorem State.enrolFinish_kept (hs : Kept p s) : Kept p (State.enrolFinish s) := by
  unfold State.enrolFinish
  extract_lets -merge -underBinder +onlyGivenNames x0 x1
  have h1 : Kept p x1 := kept_mk hs
  clear_value x0 x1
  extract_lets -merge -underBinder +onlyGivenNames x2
  have h2 : Kept p x2.2 := State.draw_kept h1
  clear_value x2
  extract_lets -merge -underBinder +onlyGivenNames x3
  have h3 : Kept p x3.2 := State.draw_kept h2
  clear_value x3
  extract_lets -merge -underBinder +onlyGivenNames x4
  have h4 : Kept p x4.2 := State.draw_kept h3
  clear_value x4
  extract_lets -merge -underBinder +onlyGivenNames x5
  have h5 : Kept p x5 := h4
  clear_value x5
  extract_lets -merge -underBinder +onlyGivenNames x6 x7
  have h7 : Kept p x7 := kept_mk h5
  clear_value x6 x7
  extract_lets -merge -underBinder +onlyGivenNames x8
  have h8 : Kept p x8 := kept_foldl (fun _ _ _ => State.setWord_kept (by assumption)) h7
  clear_value x8
  extract_lets -merge -underBinder +onlyGivenNames x9
  have h9 : Kept p x9 := State.newKey_kept h8
  clear_value x9
  extract_lets -merge -underBinder +onlyGivenNames x10
  have h10 : Kept p x10 := State.newKey_kept h9
  clear_value x10
  extract_lets -merge -underBinder +onlyGivenNames x11
  have h11 : Kept p x11 := State.newKey_kept h10
  clear_value x11
  extract_lets -merge -underBinder +onlyGivenNames x12
  have h12 : Kept p x12 := State.newKey_kept h11
  clear_value x12
  exact State.wrw_kept (State.wrw_kept (State.wr_kept h12))

theorem State.attestFinish_kept (hs : Kept p s) : Kept p (State.attestFinish s v1) := by
  unfold State.attestFinish
  extract_lets -merge -underBinder +onlyGivenNames x0 x1
  have h1 : Kept p x1.2 := State.ecdsaSign_kept hs
  clear_value x0 x1
  extract_lets -merge -underBinder +onlyGivenNames x2
  clear_value x2
  refine kept_ite ?_ (State.vaultPut_kept h1)
  extract_lets -merge -underBinder +onlyGivenNames x3
  have h3 : Kept p x3 := h1
  clear_value x3
  exact kept_mk h3

theorem State.extend_kept (hs : Kept p s) : Kept p (State.extend s v1 v2) := by
  unfold State.extend
  exact kept_ite (kept_mk hs) (kept_mk hs)

theorem State.unlockFinish_kept (hs : Kept p s) : Kept p (State.unlockFinish s v1).2.2 := by
  unfold State.unlockFinish
  extract_lets -merge -underBinder +onlyGivenNames x0 x1 x2 x3 x4 x5
  have h5 : Kept p x5 := State.drawChallenge_kept hs
  clear_value x0 x1 x2 x3 x4 x5
  split
  · exact kept_mk h5
  · exact h5

theorem State.vaultFinish_kept (hs : Kept p s) : Kept p (State.vaultFinish s v1).2.2 := by
  unfold State.vaultFinish
  extract_lets -merge -underBinder +onlyGivenNames x0 x1 x2
  clear_value x0 x1 x2
  split
  all_goals first
    | with_reducible exact State.sealFinish_kept hs | with_reducible exact State.openFinish_kept hs | with_reducible exact State.vaultPut_kept hs | with_reducible exact hs | with_reducible exact State.hashFinish_kept hs | with_reducible exact State.installFinish_kept hs | with_reducible exact State.eraseFinish_kept hs | with_reducible exact State.generateFinish_kept hs | with_reducible exact State.enrolFinish_kept hs | with_reducible exact State.attestFinish_kept hs | with_reducible exact State.extend_kept hs | with_reducible exact State.unlockFinish_kept hs
    | (extract_lets -merge -underBinder +onlyGivenNames x3
       have h3 : Kept p x3.2 := State.ecdsaSign_kept hs
       clear_value x3
       exact State.vaultPut_kept h3)
    | (extract_lets -merge -underBinder +onlyGivenNames x4
       clear_value x4
       exact hs)
    | (extract_lets -merge -underBinder +onlyGivenNames x5 x6 x7 x8
       clear_value x5 x6 x7 x8
       exact State.sealFinish_kept hs)
    | (extract_lets -merge -underBinder +onlyGivenNames x9
       clear_value x9
       exact State.vaultPut_kept hs)
    | (extract_lets -merge -underBinder +onlyGivenNames x10
       have h10 : Kept p x10.2 := State.draw_kept hs
       clear_value x10
       exact State.vaultPut_kept h10)

theorem State.vaultReach_kept (hs : Kept p s) : Kept p (State.vaultReach s v1).2 := by
  unfold State.vaultReach
  extract_lets -merge -underBinder +onlyGivenNames x0 x1
  have h1 : Kept p x1.2 := by
    unfold x1
    split
    · exact State.blockReach_kept hs
    · exact hs
  clear_value x0 x1
  split
  · exact h1
  · extract_lets -merge -underBinder +onlyGivenNames x2
    clear_value x2
    extract_lets -merge -underBinder +onlyGivenNames x3 x4
    clear_value x3 x4
    exact State.portWake_kept (State.portWake_kept (State.portTouch_kept h1))

theorem vaultCompletionEffect_kept (hs : Kept p s) : Kept p (vaultCompletionEffect v0 s) := by
  unfold vaultCompletionEffect
  split
  all_goals first
    | with_reducible exact hs
    | (refine kept_ite hs ?_
       extract_lets -merge -underBinder +onlyGivenNames x0
       have h0 : Kept p x0.2 := State.vaultReach_kept hs
       clear_value x0
       refine kept_ite (State.vaultDone_kept (State.zeroFill_kept h0)) ?_
       refine kept_ite h0 ?_
       extract_lets -merge -underBinder +onlyGivenNames x1
       have h1 : Kept p x1.2.2 := State.vaultFinish_kept h0
       clear_value x1
       exact State.vaultDone_kept h1)

theorem nonceReservationDurableEffect_kept (hs : Kept p s) : Kept p (nonceReservationDurableEffect v0 s) := by
  unfold nonceReservationDurableEffect
  extract_lets -merge -underBinder +onlyGivenNames x0
  clear_value x0
  split
  all_goals first
    | with_reducible exact hs
    | (refine kept_ite hs ?_
       extract_lets -merge -underBinder +onlyGivenNames x1 x2 x3
       have h3 : Kept p x3 := kept_mk hs
       clear_value x1 x2 x3
       exact kept_foldl (fun _ _ _ => State.sealStart_kept (by assumption)) h3)

theorem lmsReservationDurableEffect_kept (hs : Kept p s) : Kept p (lmsReservationDurableEffect s) := by
  unfold lmsReservationDurableEffect
  split
  all_goals first
    | with_reducible exact hs
    | (refine kept_ite hs ?_
       extract_lets -merge -underBinder +onlyGivenNames x0 x1
       have h1 : Kept p x1 := kept_mk hs
       clear_value x0 x1
       exact State.setVltOp_kept (State.wrw_kept h1))

theorem State.reseed_kept (hs : Kept p s) : Kept p (State.reseed s) := by
  unfold State.reseed
  exact kept_mk hs

theorem reseedCompleteEffect_kept (hs : Kept p s) : Kept p (reseedCompleteEffect s) := by
  unfold reseedCompleteEffect
  refine kept_ite hs ?_
  extract_lets -merge -underBinder +onlyGivenNames x0 x1
  have h1 : Kept p x1 := State.setFlag_kept hs
  clear_value x0 x1
  extract_lets -merge -underBinder +onlyGivenNames x2 x3
  have h3 : Kept p x3 := kept_mk h1
  clear_value x2 x3
  exact kept_foldl (fun _ _ _ => State.drawBackoff_kept (by assumption)) h3

theorem entropyHealthFailureEffect_kept (hs : Kept p s) : Kept p (entropyHealthFailureEffect s) := by
  unfold entropyHealthFailureEffect
  exact kept_ite (State.bump_kept (State.setFlag_kept hs)) hs

theorem State.vaultDrop_kept (hs : Kept p s) : Kept p (State.vaultDrop s v1 v2) := by
  unfold State.vaultDrop
  split
  all_goals first
    | with_reducible exact hs
    | (extract_lets -merge -underBinder +onlyGivenNames x0 x1
       have h1 : Kept p x1 := kept_mk hs
       clear_value x0 x1
       exact State.zeroFill_kept h1)

theorem State.vaultDisabled_kept (hs : Kept p s) : Kept p (State.vaultDisabled s) := by
  unfold State.vaultDisabled
  extract_lets -merge -underBinder +onlyGivenNames x0
  have h0 : Kept p x0 := State.wr_kept hs
  clear_value x0
  extract_lets -merge -underBinder +onlyGivenNames x1 x2
  have h2 : Kept p x2 := kept_foldl (fun _ _ _ => State.vaultDrop_kept (by assumption)) h0
  clear_value x1 x2
  extract_lets -merge -underBinder +onlyGivenNames x3 x4
  have h4 : Kept p x4 := kept_mk h2
  clear_value x3 x4
  exact State.enSettle_kept (State.cancelRings_kept h4)

theorem State.abortDesc_kept (hs : Kept p s) : Kept p (State.abortDesc s v1 v2) := by
  unfold State.abortDesc
  exact kept_ite (State.abortTx_kept hs) (kept_ite (State.fireDone_kept (State.complete_kept (State.vaultDrop_kept hs))) (State.fireDone_kept (State.complete_kept hs)))

end Sys2Proof.Machine
end

