-- ==== Sys2Proof/Laws/KeptJournal.lean ====
section
/-!
SUPPORT. Every operation of Machine/Journal.lean leaves the queue and keeps the canonical form of the memories.
-/
namespace Sys2Proof.Machine

variable {p : List Instr} {s t : State}

theorem State.headSearch_kept (hs : Kept p s) : Kept p (State.headSearch s) := by
  unfold State.headSearch
  extract_lets -merge -underBinder +onlyGivenNames x0
  clear_value x0
  exact State.setFlag_kept (State.wrw_kept (State.wrw_kept hs))

theorem journalAcceptEffect_kept (hs : Kept p s) : Kept p (journalAcceptEffect s) := by
  unfold journalAcceptEffect
  refine kept_ite hs ?_
  split
  all_goals first
    | with_reducible exact hs
    | (extract_lets -merge -underBinder +onlyGivenNames x0 x1 x2
       have h2 : Kept p x2 := kept_mk hs
       clear_value x0 x1 x2
       exact State.wrw_kept h2)

theorem State.jnlDurable_kept (hs : Kept p s) : ∀ r, State.jnlDurable s = some r → Kept p r.2 := by
  unfold State.jnlDurable
  split
  all_goals first
    | with_reducible exact kept_none2
    | (extract_lets -merge +onlyGivenNames x0 x1 x2
       have h2 : Kept p x2 := kept_mk hs
       clear_value x0 x1 x2
       exact kept_some2 (State.fire_kept (State.wrw_kept (State.mramPuts_kept h2))))

theorem State.jnlCommit_kept (hs : Kept p s) : Kept p (State.jnlCommit s) := by
  unfold State.jnlCommit
  refine kept_ite (State.rejected_kept hs) ?_
  extract_lets -merge -underBinder +onlyGivenNames x0
  clear_value x0
  exact State.jnlAdd_kept hs

theorem State.jnlService_kept (hs : Kept p s) : Kept p (State.jnlService s v1) := by
  unfold State.jnlService
  exact State.jnlAdd_kept hs

theorem State.mwData_kept (hs : Kept p s) : Kept p (State.mwData s v1 v2) := by
  unfold State.mwData
  extract_lets -merge -underBinder +onlyGivenNames x0
  clear_value x0
  refine kept_ite (State.rejected_kept hs) ?_
  extract_lets -merge -underBinder +onlyGivenNames x1 x2
  clear_value x1 x2
  refine kept_ite (State.wrw_kept (State.rejected_kept (State.setFlag_kept hs))) ?_
  extract_lets -merge -underBinder +onlyGivenNames x3
  have h3 : Kept p x3 := State.setFlag_kept (State.wrw_kept hs)
  clear_value x3
  refine State.mwGo_kept ?_
  extract_lets -merge -underBinder +onlyGivenNames x4
  have h4 : Kept p x4 := State.touchMram_kept h3
  clear_value x4
  exact kept_mk h4

theorem mramWordDurableEffect_kept (hs : Kept p s) : Kept p (mramWordDurableEffect s) := by
  unfold mramWordDurableEffect
  split
  all_goals first
    | with_reducible exact State.mwGo_kept hs
    | (refine kept_ite hs ?_
       extract_lets -merge -underBinder +onlyGivenNames x0 x1 x2
       have h0 : Kept p x0 := State.mramPut_kept hs
       have h2 : Kept p x2 := kept_mk h0
       clear_value x0 x1 x2
       extract_lets -merge -underBinder +onlyGivenNames x3
       have h3 : Kept p x3 := kept_ite (State.setFlag_kept h2) h2
       clear_value x3
       exact State.mwGo_kept h3)

end Sys2Proof.Machine
end

