-- ==== Sys2Proof/Laws/KeptWaifeti.lean ====
section
/-!
SUPPORT. Every operation of Machine/Waifeti.lean leaves the queue and keeps the canonical form of the memories.
-/
namespace Sys2Proof.Machine

variable {p : List Instr} {s t : State}

theorem State.wflBump_kept (hs : Kept p s) : Kept p (State.wflBump s v1) := by
  unfold State.wflBump
  exact kept_ite (State.bump_kept hs) hs

theorem State.wflReply_kept (hs : Kept p s) : Kept p (State.wflReply s v1 v2 v3) := by
  unfold State.wflReply
  exact kept_mk hs

theorem State.wflRead_kept (hs : Kept p s) : Kept p (State.wflRead s) := by
  unfold State.wflRead
  refine kept_ite ?_ hs
  extract_lets -merge -underBinder +onlyGivenNames x0
  have h0 : Kept p x0 := State.setFlag_kept hs
  clear_value x0
  exact kept_mk h0

theorem State.wflWake_kept (hs : Kept p s) : Kept p (State.wflWake s) := by
  unfold State.wflWake
  extract_lets -merge -underBinder +onlyGivenNames x0
  have h0 : Kept p x0 := State.bump_kept hs
  clear_value x0
  extract_lets -merge -underBinder +onlyGivenNames x1 x2 x3
  have h1 : Kept p x1 := State.setFlag_kept h0
  have h3 : Kept p x3 := kept_mk h1
  clear_value x1 x2 x3
  exact State.wflRead_kept (State.wakeRequest_kept h3)

theorem State.setHeader_kept (hs : Kept p s) : Kept p (State.setHeader s v1) := by
  unfold State.setHeader
  extract_lets -merge -underBinder +onlyGivenNames x0
  have h0 : Kept p x0 := State.setFlag_kept hs
  clear_value x0
  exact kept_mk h0

theorem State.wflAck_kept (hs : Kept p s) : Kept p (State.wflAck s v1 v2 v3 v4) := by
  unfold State.wflAck
  extract_lets -merge -underBinder +onlyGivenNames x0
  have h0 : Kept p x0 := State.wflReply_kept hs
  clear_value x0
  extract_lets -merge -underBinder +onlyGivenNames x1
  have h1 : Kept p x1 := State.setHeader_kept h0
  clear_value x1
  refine kept_ite ?_ h1
  extract_lets -merge -underBinder +onlyGivenNames x2 x3 x4 x5
  have h3 : Kept p x3 := State.setFlag_kept h1
  have h5 : Kept p x5 := kept_mk h3
  clear_value x2 x3 x4 x5
  exact kept_ite (State.reserve_kept h5) h5

theorem frameHeaderEffect_kept (hs : Kept p s) : Kept p (frameHeaderEffect v0 v1 v2 v3 v4 s) := by
  unfold frameHeaderEffect
  extract_lets -merge -underBinder +onlyGivenNames x0 x1 x2 x3
  clear_value x0 x1 x2 x3
  refine kept_ite hs ?_
  extract_lets -merge -underBinder +onlyGivenNames x4
  have h4 : Kept p x4 := State.setFlag_kept hs
  clear_value x4
  refine kept_ite (State.wflReply_kept (State.wflBump_kept h4)) ?_
  refine kept_ite (kept_ite (State.setHeader_kept (State.wflReply_kept h4)) (State.wflReply_kept h4)) ?_
  refine kept_ite (State.wflReply_kept h4) ?_
  extract_lets -merge -underBinder +onlyGivenNames x5 x6
  have h6 : Kept p x6 := State.wflWake_kept h4
  clear_value x5 x6
  exact kept_ite (State.wflAck_kept h6) (State.wflReply_kept (State.wflBump_kept (kept_ite (State.openGate_kept h6) h6)))

theorem State.wflEnd_kept (hs : Kept p s) : Kept p (State.wflEnd s) := by
  unfold State.wflEnd
  extract_lets -merge -underBinder +onlyGivenNames x0
  have h0 : Kept p x0 := by
    unfold x0
    split
    all_goals first
      | with_reducible exact hs
      | (extract_lets -merge -underBinder +onlyGivenNames x1
         have h1 : Kept p x1 := State.setFlag_kept hs
         clear_value x1
         exact kept_ite (State.unreserve_kept h1) h1)
  clear_value x0
  extract_lets -merge -underBinder +onlyGivenNames x2 x3
  have h3 : Kept p x3 := kept_mk h0
  clear_value x2 x3
  exact State.setHeader_kept h3

theorem State.wflSettle_kept (hs : Kept p s) : Kept p (State.wflSettle s) := by
  unfold State.wflSettle
  exact State.enSettle_kept hs

theorem State.wflRecord_kept (hs : Kept p s) : Kept p (State.wflRecord s v1) := by
  unfold State.wflRecord
  exact kept_ite (State.postReserved_kept hs) (kept_ite (State.post_kept hs) (kept_ite (State.setRing_kept hs) hs))

theorem State.wflPost_kept (hs : Kept p s) : Kept p (State.wflPost s v1 v2 v3 v4) := by
  unfold State.wflPost
  split
  all_goals first
    | with_reducible exact hs
    | (extract_lets -merge -underBinder +onlyGivenNames x0 x1
       have h1 : Kept p x1 := State.portOctets_kept hs
       clear_value x0 x1
       extract_lets -merge -underBinder +onlyGivenNames x2 x3 x4
       have h4 : Kept p x4 := kept_mk h1
       clear_value x2 x3 x4
       exact State.fire_kept (State.setHeader_kept (State.wflRecord_kept h4)))

theorem State.wflBody_kept (hs : Kept p s) : Kept p (State.wflBody s v1 v2 v3) := by
  unfold State.wflBody
  split
  all_goals first
    | with_reducible exact hs
    | (refine kept_ite hs ?_
       refine kept_ite (State.wflSettle_kept (State.wflReply_kept (State.bump_kept (State.wflEnd_kept hs)))) ?_
       refine kept_ite (State.wflSettle_kept (State.wflReply_kept (State.bump_kept (State.wflEnd_kept hs)))) ?_
       extract_lets -merge -underBinder +onlyGivenNames x0 x1
       have h1 : Kept p x1 := kept_ite (kept_mk hs) hs
       clear_value x0 x1
       exact State.wflSettle_kept (State.wflReply_kept (State.wflPost_kept h1)))

theorem State.wflFetched_kept (hs : Kept p s) : Kept p (State.wflFetched s) := by
  unfold State.wflFetched
  split
  all_goals first
    | with_reducible exact hs | with_reducible exact State.portTouch_kept hs

theorem State.wflBack_kept {v3 : State → State} (hs : Kept p s) (hv3 : ∀ z0, Kept p z0 → Kept p (v3 z0)) : Kept p (State.wflBack s v1 v2 v3 v4) := by
  unfold State.wflBack
  split
  all_goals first
    | with_reducible exact hs
    | (refine kept_ite hs ?_
       extract_lets -merge -underBinder +onlyGivenNames x0
       have h0 : Kept p x0 := State.setHeader_kept (kept_ite (State.wflFetched_kept hs) hs)
       clear_value x0
       extract_lets -merge -underBinder +onlyGivenNames x1
       have h1 : Kept p x1 := State.wflReply_kept h0
       clear_value x1
       exact State.wflSettle_kept (kept_ite (hv3 _ h1) h1))

theorem assignEffect_kept (hs : Kept p s) : Kept p (assignEffect v0 v1 s) := by
  unfold assignEffect
  split
  all_goals first
    | with_reducible exact hs
    | (refine kept_ite hs ?_
       extract_lets -merge -underBinder +onlyGivenNames x0
       have h0 : Kept p x0 := State.setHeader_kept hs
       clear_value x0
       exact kept_ite (State.wflReply_kept (State.wflBump_kept h0)) (kept_ite (State.wflReply_kept h0) (State.wflReply_kept (State.setFlag_kept (State.wr_kept h0)))))

theorem pingEffect_kept (hs : Kept p s) : Kept p (pingEffect s) := by
  unfold pingEffect
  split
  all_goals first
    | with_reducible exact State.setHeader_kept hs | with_reducible exact hs

theorem frameAbandonEffect_kept (hs : Kept p s) : Kept p (frameAbandonEffect s) := by
  unfold frameAbandonEffect
  exact kept_ite hs (State.wflSettle_kept (State.wflReply_kept (State.wflBump_kept (State.wflEnd_kept hs))))

theorem idleResyncEffect_kept (hs : Kept p s) : Kept p (idleResyncEffect s) := by
  unfold idleResyncEffect
  split
  all_goals first
    | with_reducible exact kept_ite hs (State.wflSettle_kept (State.wflReply_kept (State.wflEnd_kept hs))) | with_reducible exact hs

theorem responseExpiryEffect_kept (hs : Kept p s) : Kept p (responseExpiryEffect v0 s) := by
  unfold responseExpiryEffect
  exact kept_ite (State.wflSettle_kept (State.bump_kept (kept_mk hs))) hs

theorem State.rspCtl_kept (hs : Kept p s) : Kept p (State.rspCtl s v1) := by
  unfold State.rspCtl
  extract_lets -merge -underBinder +onlyGivenNames x0 x1
  clear_value x0 x1
  exact kept_ite (State.rejected_kept hs) (kept_mk hs)

theorem State.rxFree_kept (hs : Kept p s) : Kept p (State.rxFree s v1) := by
  unfold State.rxFree
  exact kept_foldl (fun _ _ _ => kept_ite (State.setFlag_kept (by assumption)) (by assumption)) hs

theorem State.addrCtl_kept (hs : Kept p s) : Kept p (State.addrCtl s v1) := by
  unfold State.addrCtl
  exact kept_ite (State.rejected_kept hs) (kept_ite (State.setFlag_kept (State.wr_kept hs)) hs)

theorem State.wflDisabled_kept (hs : Kept p s) : Kept p (State.wflDisabled s) := by
  unfold State.wflDisabled
  exact State.wflSettle_kept (State.wr_kept hs)

theorem wflIrqEffect_kept (hs : Kept p s) : Kept p (wflIrqEffect s) := by
  unfold wflIrqEffect
  refine State.onEvent_kept hs ?_
  intros
  exact State.setFlag_kept (by assumption)

end Sys2Proof.Machine
end

