-- ==== Sys2Proof/Laws/KeptEngine.lean ====
section
/-!
SUPPORT. Every operation of Machine/Engine.lean leaves the queue and keeps the canonical form of the memories.
-/
namespace Sys2Proof.Machine

variable {p : List Instr} {s t : State}

theorem State.setEngine_kept (hs : Kept p s) : Kept p (State.setEngine s v1 v2) := by
  unfold State.setEngine
  exact kept_mk hs

theorem State.setCbuf_kept (hs : Kept p s) : Kept p (State.setCbuf s v1 v2 v3) := by
  unfold State.setCbuf
  extract_lets -merge -underBinder +onlyGivenNames x0
  clear_value x0
  exact State.setEngine_kept hs

theorem State.setTask_kept (hs : Kept p s) : Kept p (State.setTask s v1 v2) := by
  unfold State.setTask
  exact State.setEngine_kept hs

theorem State.startTask_kept (hs : Kept p s) : Kept p (State.startTask s v1 v2 v3) := by
  unfold State.startTask
  extract_lets -merge -underBinder +onlyGivenNames x0 x1 x2
  have h1 : Kept p x1 := State.setEngine_kept hs
  have h2 : Kept p x2 := kept_mk h1
  clear_value x0 x1 x2
  extract_lets -merge -underBinder +onlyGivenNames x3
  have h3 : Kept p x3 := kept_ite (State.setCbuf_kept h2) h2
  clear_value x3
  extract_lets -merge -underBinder +onlyGivenNames x4
  have h4 : Kept p x4 := kept_ite (State.setFlag_kept h3) h3
  clear_value x4
  exact State.wr_kept h4

theorem State.stopTask_kept (hs : Kept p s) : Kept p (State.stopTask s v1) := by
  unfold State.stopTask
  extract_lets -merge -underBinder +onlyGivenNames x0 x1 x2
  have h2 : Kept p x2 := State.setEngine_kept hs
  clear_value x0 x1 x2
  exact kept_mk h2

theorem State.consumeAll_kept (hs : Kept p s) : Kept p (State.consumeAll s v1) := by
  unfold State.consumeAll
  refine kept_foldl ?_ hs
  intros
  extract_lets -merge -underBinder +onlyGivenNames x0 x1
  clear_value x0 x1
  exact kept_ite (by assumption) (kept_getD (State.qfetch_kept (by assumption)) (by assumption))

theorem State.discardBuf_kept (hs : Kept p s) : Kept p (State.discardBuf s v1 v2) := by
  unfold State.discardBuf
  exact State.setCbuf_kept (State.consumeAll_kept hs)

theorem State.discardBufs_kept (hs : Kept p s) : Kept p (State.discardBufs s v1) := by
  unfold State.discardBufs
  exact kept_foldl (fun _ _ _ => State.setCbuf_kept (by assumption)) (State.consumeAll_kept hs)

theorem State.freeCbuf_kept (hs : Kept p s) : Kept p (State.freeCbuf s v1 v2) := by
  unfold State.freeCbuf
  exact State.setCbuf_kept hs

theorem State.drainDone_kept (hs : Kept p s) : Kept p (State.drainDone s v1 v2) := by
  unfold State.drainDone
  extract_lets -merge -underBinder +onlyGivenNames x0
  clear_value x0
  exact State.monitorsDone_kept (State.freeCbuf_kept hs)

theorem State.drainStart_kept (hs : Kept p s) : Kept p (State.drainStart s v1 v2) := by
  unfold State.drainStart
  extract_lets -merge -underBinder +onlyGivenNames x0
  clear_value x0
  exact kept_ite (State.drainDone_kept hs) (State.setCbuf_kept hs)

theorem State.recordRetired_kept (hs : Kept p s) : Kept p (State.recordRetired s) := by
  unfold State.recordRetired
  extract_lets -merge -underBinder +onlyGivenNames x0
  have h0 : Kept p x0 := State.touchMram_kept hs
  clear_value x0
  exact kept_mk h0

theorem State.markRetired_kept (hs : Kept p s) : Kept p (State.markRetired s v1) := by
  unfold State.markRetired
  refine kept_ite hs ?_
  extract_lets -merge -underBinder +onlyGivenNames x0
  have h0 : Kept p x0 := State.setFlag_kept hs
  clear_value x0
  exact kept_mk h0

theorem State.haltTask_kept (hs : Kept p s) : Kept p (State.haltTask s v1) := by
  unfold State.haltTask
  split
  all_goals first
    | with_reducible exact hs
    | (extract_lets -merge -underBinder +onlyGivenNames x0
       have h0 : Kept p x0 := State.stopTask_kept hs
       clear_value x0
       exact kept_ite (State.setCbuf_kept h0) (kept_ite (State.setCbuf_kept h0) (kept_ite (State.discardBuf_kept h0) h0)))

theorem State.retire_kept (hs : Kept p s) : Kept p (State.retire s v1 v2 v3) := by
  unfold State.retire
  refine kept_ite hs ?_
  extract_lets -merge -underBinder +onlyGivenNames x0 x1
  have h1 : Kept p x1 := State.setFlag_kept (State.markRetired_kept (State.haltTask_kept hs))
  clear_value x0 x1
  extract_lets -merge -underBinder +onlyGivenNames x2 x3
  have h3 : Kept p x3 := State.setEngine_kept h1
  clear_value x2 x3
  extract_lets -merge -underBinder +onlyGivenNames x4
  have h4 : Kept p x4 := State.breach_kept h3
  clear_value x4
  extract_lets -merge -underBinder +onlyGivenNames x5 x6
  have h6 : Kept p x6 := State.jnlAdd_kept h4
  clear_value x5 x6
  extract_lets -merge -underBinder +onlyGivenNames x7
  have h7 : Kept p x7 := State.recordRetired_kept h6
  clear_value x7
  extract_lets -merge -underBinder +onlyGivenNames x8 x9
  have h9 : Kept p x9 := kept_ite h7 (kept_mk h7)
  clear_value x8 x9
  refine kept_ite (kept_mk h9) ?_
  extract_lets -merge -underBinder +onlyGivenNames x10
  have h10 : Kept p x10 := State.setFlag_kept (State.breach_kept h9)
  clear_value x10
  exact kept_mk h10

theorem State.setWindow_kept (hs : Kept p s) : Kept p (State.setWindow s v1) := by
  unfold State.setWindow
  exact kept_mk hs

theorem State.activate_kept (hs : Kept p s) : Kept p (State.activate s v1) := by
  unfold State.activate
  refine kept_ite hs ?_
  extract_lets -merge -underBinder +onlyGivenNames x0 x1
  have h1 : Kept p x1 := State.setWindow_kept hs
  clear_value x0 x1
  extract_lets -merge -underBinder +onlyGivenNames x2
  have h2 : Kept p x2 := kept_ite h1 (State.queueTransition_kept h1)
  clear_value x2
  exact kept_ite (State.setGear_kept h2) h2

theorem State.queueThird_kept (hs : Kept p s) : Kept p (State.queueThird s v1) := by
  unfold State.queueThird
  extract_lets -merge -underBinder +onlyGivenNames x0 x1
  have h1 : Kept p x1 := kept_mk hs
  clear_value x0 x1
  split
  all_goals first
    | with_reducible exact State.activate_kept h1 | with_reducible exact h1

theorem State.stopRun_kept (hs : Kept p s) : Kept p (State.stopRun s v1 v2 v3) := by
  unfold State.stopRun
  split
  all_goals first
    | with_reducible exact State.stopTask_kept hs | with_reducible exact hs

theorem State.compare_kept (hs : Kept p s) : Kept p (State.compare s v1 v2) := by
  unfold State.compare
  split
  all_goals first
    | with_reducible exact hs
    | (extract_lets -merge -underBinder +onlyGivenNames x0 x1 x2
       have h2 : Kept p x2 := State.stopRun_kept (State.stopRun_kept hs)
       clear_value x0 x1 x2
       extract_lets -merge -underBinder +onlyGivenNames x3 x4
       clear_value x3 x4
       refine kept_ite (State.drainStart_kept (State.setCbuf_kept (State.freeCbuf_kept h2))) ?_
       extract_lets -merge -underBinder +onlyGivenNames x5
       have h5 : Kept p x5 := State.setCbuf_kept (State.setCbuf_kept h2)
       clear_value x5
       extract_lets -merge -underBinder +onlyGivenNames x6
       have h6 : Kept p x6 := State.bump_kept (State.breach_kept h5)
       clear_value x6
       extract_lets -merge -underBinder +onlyGivenNames x7
       have h7 : Kept p x7 := State.setMonitors_kept h6
       clear_value x7
       extract_lets -merge -underBinder +onlyGivenNames x8
       clear_value x8
       exact State.queueThird_kept h7)

theorem State.thirdOver_kept (hs : Kept p s) : Kept p (State.thirdOver s v1) := by
  unfold State.thirdOver
  split
  all_goals first
    | with_reducible exact State.setWindow_kept hs | with_reducible exact hs

theorem State.discardPair_kept (hs : Kept p s) : Kept p (State.discardPair s v1 v2) := by
  unfold State.discardPair
  exact State.discardBufs_kept hs

theorem State.arbitrate_kept (hs : Kept p s) : Kept p (State.arbitrate s v1 v2 v3) := by
  unfold State.arbitrate
  extract_lets -merge -underBinder +onlyGivenNames x0 x1 x2 x3 x4
  have h4 : Kept p x4 := State.thirdOver_kept (State.stopTask_kept hs)
  clear_value x0 x1 x2 x3 x4
  refine kept_ite ?_ (State.bump_kept (State.breach_kept (State.discardPair_kept h4)))
  extract_lets -merge -underBinder +onlyGivenNames x5
  clear_value x5
  exact State.retire_kept (State.drainStart_kept (State.freeCbuf_kept (State.freeCbuf_kept h4)))

theorem State.taskEnd_kept (hs : Kept p s) : Kept p (State.taskEnd s v1 v2) := by
  unfold State.taskEnd
  split
  all_goals first
    | with_reducible exact hs
    | (refine kept_ite (State.monitorsDone_kept (State.stopTask_kept hs)) ?_
       extract_lets -merge -underBinder +onlyGivenNames x0 x1
       have h1 : Kept p x1 := State.setCbuf_kept hs
       clear_value x0 x1
       refine kept_ite ?_ ?_
       · split
         all_goals first
           | with_reducible exact State.arbitrate_kept h1 | with_reducible exact State.freeCbuf_kept (State.stopTask_kept h1)
       · split
         all_goals first
           | with_reducible exact State.drainStart_kept (State.stopTask_kept h1)
           | (extract_lets -merge -underBinder +onlyGivenNames x2
              have h2 : Kept p x2 := State.haltTask_kept h1
              clear_value x2
              extract_lets -merge -underBinder +onlyGivenNames x3
              clear_value x3
              exact kept_ite (State.compare_kept h2) h2))

theorem State.taskFails_kept (hs : Kept p s) : Kept p (State.taskFails s v1) := by
  unfold State.taskFails
  exact kept_ite (State.fire_kept (State.haltTask_kept hs)) hs

theorem State.updateRun_kept {v4 : Task → Task} (hs : Kept p s) : Kept p (State.updateRun s v1 v2 v3 v4) := by
  unfold State.updateRun
  split
  all_goals first
    | with_reducible exact State.setTask_kept hs | with_reducible exact State.setCbuf_kept hs | with_reducible exact hs

theorem State.split_kept (hs : Kept p s) : Kept p (State.split s v1 v2 v3 v4) := by
  unfold State.split
  extract_lets -merge -underBinder +onlyGivenNames x0 x1
  have h1 : Kept p x1 := State.updateRun_kept (State.updateRun_kept hs)
  clear_value x0 x1
  extract_lets -merge -underBinder +onlyGivenNames x2
  have h2 : Kept p x2 := State.setFlag_kept (State.setFlag_kept h1)
  clear_value x2
  exact State.fire_kept (State.bump_kept h2)

theorem State.detectSplit_kept (hs : Kept p s) : Kept p (State.detectSplit s v1 v2) := by
  unfold State.detectSplit
  split
  all_goals first
    | with_reducible exact hs
    | (split
       all_goals first
         | with_reducible exact hs
         | (refine kept_ite hs ?_
            split
            all_goals first
              | with_reducible exact hs
              | (split
                 all_goals first
                   | with_reducible exact kept_ite (State.updateRun_kept hs) (State.split_kept hs) | with_reducible exact kept_ite (State.split_kept hs) (State.setTask_kept hs))))

theorem State.dropRuns_kept (hs : Kept p s) : Kept p (State.dropRuns s v1 v2) := by
  unfold State.dropRuns
  extract_lets -merge -underBinder +onlyGivenNames x0 x1
  clear_value x0 x1
  exact State.discardBufs_kept (State.stopRun_kept (State.stopRun_kept hs))

theorem State.stopTest_kept (hs : Kept p s) : Kept p (State.stopTest s v1) := by
  unfold State.stopTest
  refine kept_ite ?_ hs
  extract_lets -merge -underBinder +onlyGivenNames x0
  have h0 : Kept p x0 := State.setFlag_kept (State.setFlag_kept hs)
  clear_value x0
  exact kept_mk h0

theorem State.abortPosts_kept (hs : Kept p s) : Kept p (State.abortPosts s v1) := by
  unfold State.abortPosts
  exact kept_foldl (fun _ _ _ => State.abortDesc_kept (by assumption)) hs

theorem State.dropTask_kept (hs : Kept p s) : Kept p (State.dropTask s v1) := by
  unfold State.dropTask
  split
  all_goals first
    | with_reducible exact hs
    | (refine kept_ite ?_ ?_
       · split
         all_goals first
           | with_reducible exact State.thirdOver_kept (State.discardPair_kept (State.stopTask_kept hs)) | with_reducible exact State.discardBuf_kept (State.stopTask_kept hs)
       · refine kept_ite (State.dropRuns_kept hs) ?_
         extract_lets -merge -underBinder +onlyGivenNames x0
         have h0 : Kept p x0 := State.stopTask_kept hs
         clear_value x0
         exact kept_ite (State.discardBuf_kept h0) (State.abortPosts_kept h0))

theorem State.preempt_kept (hs : Kept p s) : Kept p (State.preempt s v1 v2 v3) := by
  unfold State.preempt
  extract_lets -merge -underBinder +onlyGivenNames x0 x1
  have h1 : Kept p x1 := kept_foldl (fun _ _ _ => State.breach_kept (by assumption)) hs
  clear_value x0 x1
  exact kept_foldl (fun _ _ _ => State.stopTest_kept (State.dropTask_kept (by assumption))) h1

theorem State.skipped_kept (hs : Kept p s) : Kept p (State.skipped s v1) := by
  unfold State.skipped
  extract_lets -merge -underBinder +onlyGivenNames x0
  have h0 : Kept p x0 := State.setMonitors_kept hs
  clear_value x0
  exact State.breach_kept h0

theorem State.dispatchOn_kept (hs : Kept p s) : Kept p (State.dispatchOn s v1 v2 v3) := by
  unfold State.dispatchOn
  extract_lets -merge -underBinder +onlyGivenNames x0 x1 x2 x3 x4
  have h4 : Kept p x4 := State.preempt_kept hs
  clear_value x0 x1 x2 x3 x4
  split
  all_goals first
    | with_reducible exact State.startTask_kept h4 | with_reducible exact State.startTask_kept (State.startTask_kept h4)

theorem State.dispatchWake_kept (hs : Kept p s) : Kept p (State.dispatchWake s v1 v2) := by
  unfold State.dispatchWake
  split
  all_goals first
    | with_reducible exact State.refuseEntry_kept hs | with_reducible exact kept_ite (State.wakeFor_kept hs) hs

theorem State.preemptTests_kept (hs : Kept p s) : Kept p (State.preemptTests s v1 v2) := by
  unfold State.preemptTests
  exact State.preempt_kept hs

theorem State.dispatchTry_kept (hs : Kept p s) : Kept p (State.dispatchTry s v1 v2) := by
  induction v2 generalizing s v1 with
  | nil => exact State.skipped_kept (kept_mk hs)
  | cons c t ih =>
    have h := State.preemptTests_kept (v1 := v1) (v2 := choiceEngines c) hs
    exact kept_ite (kept_ite (State.dispatchOn_kept (kept_mk h)) (ih (kept_mk h)))
      (kept_foldl (fun _ _ _ => State.dispatchWake_kept (by assumption)) hs)

theorem dispatchEffect_kept (hs : Kept p s) : Kept p (dispatchEffect v0 s) := by
  unfold dispatchEffect
  split
  all_goals first
    | with_reducible exact hs | with_reducible exact State.dispatchTry_kept hs

theorem State.thirdStarts_kept (hs : Kept p s) : Kept p (State.thirdStarts s v1 v2) := by
  unfold State.thirdStarts
  extract_lets -merge -underBinder +onlyGivenNames x0
  have h0 : Kept p x0 := State.preempt_kept hs
  clear_value x0
  extract_lets -merge -underBinder +onlyGivenNames x1 x2
  have h2 : Kept p x2 := kept_mk h0
  clear_value x1 x2
  exact State.setWindow_kept (State.startTask_kept h2)

theorem thirdRunStartEffect_kept (hs : Kept p s) : Kept p (thirdRunStartEffect v0 s) := by
  unfold thirdRunStartEffect
  split
  all_goals first
    | with_reducible exact hs
    | (split
       all_goals first
         | with_reducible exact hs | with_reducible exact kept_ite (State.thirdStarts_kept hs) hs)

theorem State.testStart_kept (hs : Kept p s) : Kept p (State.testStart s v1) := by
  unfold State.testStart
  refine kept_ite (State.rejected_kept hs) ?_
  extract_lets -merge -underBinder +onlyGivenNames x0
  have h0 : Kept p x0 := State.setFlag_kept (State.wr_kept (State.setFlag_kept hs))
  clear_value x0
  extract_lets -merge -underBinder +onlyGivenNames x1 x2
  have h2 : Kept p x2 := State.setEngine_kept h0
  clear_value x1 x2
  exact kept_mk h2

theorem State.testDone_kept (hs : Kept p s) : Kept p (State.testDone s v1) := by
  unfold State.testDone
  split
  all_goals first
    | with_reducible exact hs
    | (extract_lets -merge -underBinder +onlyGivenNames x0
       have h0 : Kept p x0 := State.setFlag_kept (State.setFlag_kept (State.setFlag_kept hs))
       clear_value x0
       extract_lets -merge -underBinder +onlyGivenNames x1 x2
       have h2 : Kept p x2 := State.setEngine_kept h0
       clear_value x1 x2
       exact kept_mk h2)

theorem State.putMem_kept (hs : Kept p s) : Kept p (State.putMem s v1 v2 v3 v4) := by
  unfold State.putMem
  extract_lets -merge -underBinder +onlyGivenNames x0 x1
  have h1 : Kept p x1 := State.setEngine_kept hs
  clear_value x0 x1
  exact kept_mk h1

theorem State.ldData_kept (hs : Kept p s) : Kept p (State.ldData s v1) := by
  unfold State.ldData
  extract_lets -merge -underBinder +onlyGivenNames x0 x1 x2
  clear_value x0 x1 x2
  exact kept_ite (State.rejected_kept hs) (State.wr_kept (State.putMem_kept hs))

theorem State.ldDone_kept (hs : Kept p s) : Kept p (State.ldDone s v1) := by
  unfold State.ldDone
  extract_lets -merge -underBinder +onlyGivenNames x0
  clear_value x0
  exact State.setFlag_kept (State.setEngine_kept hs)

theorem State.retSetOne_kept (hs : Kept p s) : Kept p (State.retSetOne s v1) := by
  unfold State.retSetOne
  refine kept_ite hs ?_
  extract_lets -merge -underBinder +onlyGivenNames x0 x1
  clear_value x0 x1
  exact State.markRetired_kept (State.setEngine_kept hs)

theorem State.retSet_kept (hs : Kept p s) : Kept p (State.retSet s v1) := by
  unfold State.retSet
  exact kept_ite (State.rejected_kept hs) (kept_foldl (fun _ _ _ => kept_ite (State.retSetOne_kept (by assumption)) (by assumption)) hs)

theorem State.reintegrate_kept (hs : Kept p s) : Kept p (State.reintegrate s v1) := by
  unfold State.reintegrate
  extract_lets -merge -underBinder +onlyGivenNames x0 x1
  have h0 : Kept p x0 := State.setFlag_kept hs
  have h1 : Kept p x1 := kept_mk h0
  clear_value x0 x1
  extract_lets -merge -underBinder +onlyGivenNames x2 x3
  have h3 : Kept p x3 := State.setEngine_kept h1
  clear_value x2 x3
  extract_lets -merge -underBinder +onlyGivenNames x4 x5
  have h5 : Kept p x5 := State.jnlAdd_kept h3
  clear_value x4 x5
  extract_lets -merge -underBinder +onlyGivenNames x6
  have h6 : Kept p x6 := State.recordRetired_kept h5
  clear_value x6
  extract_lets -merge -underBinder +onlyGivenNames x7 x8
  have h8 : Kept p x8 := kept_mk h6
  clear_value x7 x8
  split
  all_goals exact kept_mk h8

theorem State.reint_kept (hs : Kept p s) : Kept p (State.reint s v1 v2) := by
  unfold State.reint
  exact kept_ite (State.rejected_kept hs) (State.reintegrate_kept hs)

theorem engFlagEffect_kept (hs : Kept p s) : Kept p (engFlagEffect v0 s) := by
  unfold engFlagEffect
  refine State.onEvent_kept hs ?_
  intros
  extract_lets -merge -underBinder +onlyGivenNames x0
  have h0 : Kept p x0 := kept_ite (State.setFlag_kept (by assumption)) (by assumption)
  clear_value x0
  exact State.setFlag_kept h0

end Sys2Proof.Machine
end

