-- ==== Sys2Proof/Laws/KeptSequencer.lean ====
section
/-!
SUPPORT. Every operation of Machine/Sequencer.lean (with Package) leaves the queue and keeps the canonical form of the memories.
-/
namespace Sys2Proof.Machine

variable {p : List Instr} {s t : State}

theorem State.putArea_kept (hs : Kept p s) : Kept p (State.putArea s v1 v2 v3) := by
  unfold State.putArea
  refine kept_foldl ?_ hs
  intros
  extract_lets -merge -underBinder +onlyGivenNames x0 x1
  clear_value x0 x1
  exact State.mramPut_kept (by assumption)

theorem State.putStaged_kept (hs : Kept p s) : Kept p (State.putStaged s v1 v2) := by
  unfold State.putStaged
  refine kept_ite ?_ (State.putArea_kept hs)
  extract_lets -merge -underBinder +onlyGivenNames x0
  clear_value x0
  exact kept_mk hs

theorem State.loadEngine_kept (hs : Kept p s) : Kept p (State.loadEngine s v1) := by
  unfold State.loadEngine
  extract_lets -merge -underBinder +onlyGivenNames x0 x1 x2 x3
  have h3 : Kept p x3 := State.setEngine_kept hs
  clear_value x0 x1 x2 x3
  exact kept_mk h3

theorem State.updateEntry_kept (hs : Kept p s) : Kept p (State.updateEntry s v1 v2 v3 v4) := by
  unfold State.updateEntry
  exact State.jnlService_kept hs

theorem State.updateOver_kept (hs : Kept p s) : Kept p (State.updateOver s) := by
  unfold State.updateOver
  refine kept_ite ?_ hs
  extract_lets -merge -underBinder +onlyGivenNames x0 x1 x2
  have h2 : Kept p x2 := kept_mk hs
  clear_value x0 x1 x2
  exact kept_ite (State.resetSetting_kept h2) h2

theorem State.reloadPoint_kept (hs : Kept p s) : Kept p (State.reloadPoint s v1 v2) := by
  unfold State.reloadPoint
  split
  all_goals first
    | with_reducible exact hs
    | (extract_lets -merge -underBinder +onlyGivenNames x0 x1
       clear_value x0 x1
       refine kept_ite ?_ hs
       extract_lets -merge -underBinder +onlyGivenNames x2
       have h2 : Kept p x2 := State.setFlag_kept (State.loadEngine_kept hs)
       clear_value x2
       extract_lets -merge -underBinder +onlyGivenNames x3 x4
       have h4 : Kept p x4 := kept_mk h2
       clear_value x3 x4
       exact State.updateOver_kept (State.updateEntry_kept h4))

theorem commitCheckCompleteEffect_kept (hs : Kept p s) : Kept p (commitCheckCompleteEffect s) := by
  unfold commitCheckCompleteEffect
  refine kept_ite hs ?_
  split
  all_goals first
    | with_reducible exact State.wr_kept (State.wr_kept (State.wr_kept (State.wr_kept hs)))
    | (extract_lets -merge -underBinder +onlyGivenNames x0
       have h0 : Kept p x0 := State.setFlag_kept (State.wr_kept (State.wr_kept (State.wr_kept hs)))
       clear_value x0
       exact kept_mk h0)

theorem State.seqCtrl_kept (hs : Kept p s) : Kept p (State.seqCtrl s v1) := by
  unfold State.seqCtrl
  extract_lets -merge -underBinder +onlyGivenNames x0
  have h0 : Kept p x0 := by
    unfold x0
    refine kept_ite ?_ hs
    split
    all_goals first
      | with_reducible exact hs | with_reducible exact State.wr_kept (kept_mk hs)
  clear_value x0
  extract_lets -merge -underBinder +onlyGivenNames x1
  have h1 : Kept p x1 := kept_ite (kept_foldl (fun _ _ _ => State.setWord_kept (by assumption)) h0) h0
  clear_value x1
  extract_lets -merge -underBinder +onlyGivenNames x2
  have h2 : Kept p x2 := kept_ite (State.wr_kept h1) h1
  clear_value x2
  exact kept_ite (State.wr_kept h2) h2

theorem State.tblNext_kept (hs : Kept p s) : Kept p (State.tblNext s) := by
  unfold State.tblNext
  exact State.setWord_kept hs

theorem State.tblWrite_kept (hs : Kept p s) : Kept p (State.tblWrite s v1) := by
  unfold State.tblWrite
  exact kept_mk hs

theorem State.sheetStops_kept (hs : Kept p s) : Kept p (State.sheetStops s) := by
  unfold State.sheetStops
  extract_lets -merge -underBinder +onlyGivenNames x0
  have h0 : Kept p x0 := State.wr_kept hs
  clear_value x0
  exact kept_mk h0

theorem State.placementStarts_kept (hs : Kept p s) : Kept p (State.placementStarts s) := by
  unfold State.placementStarts
  extract_lets -merge -underBinder +onlyGivenNames x0
  have h0 : Kept p x0 := by
    unfold x0
    split
    all_goals first
      | with_reducible exact State.wr_kept hs | with_reducible exact hs
  clear_value x0
  extract_lets -merge -underBinder +onlyGivenNames x1
  have h1 : Kept p x1 := by
    unfold x1
    split
    all_goals first
      | with_reducible exact State.setFlag_kept h0 | with_reducible exact h0
  clear_value x1
  exact kept_mk h1

theorem State.retiredGoOff_kept (hs : Kept p s) : Kept p (State.retiredGoOff s) := by
  unfold State.retiredGoOff
  exact kept_foldl (fun _ _ _ => State.queueTransition_kept (by assumption)) (kept_mk hs)

theorem State.slotStarts_kept (hs : Kept p s) : Kept p (State.slotStarts s) := by
  unfold State.slotStarts
  refine kept_ite hs ?_
  extract_lets -merge -underBinder +onlyGivenNames x0
  have h0 : Kept p x0 := State.wrw_kept hs
  clear_value x0
  extract_lets -merge -underBinder +onlyGivenNames x1
  have h1 : Kept p x1 := kept_ite (kept_mk h0) h0
  clear_value x1
  extract_lets -merge -underBinder +onlyGivenNames x2
  have h2 : Kept p x2 := State.retiredGoOff_kept (State.placementStarts_kept h1)
  clear_value x2
  extract_lets -merge -underBinder +onlyGivenNames x3
  have h3 : Kept p x3 := State.fire_kept (kept_ite (State.sheetStops_kept h2) h2)
  clear_value x3
  exact kept_ite (State.fire_kept h3) h3

theorem State.cursorNext_kept (hs : Kept p s) : Kept p (State.cursorNext s v1) := by
  unfold State.cursorNext
  split
  all_goals first
    | (extract_lets -merge -underBinder +onlyGivenNames x0
       clear_value x0
       exact kept_mk hs)

theorem entryFetchEffect_kept (hs : Kept p s) : Kept p (entryFetchEffect v0 s) := by
  unfold entryFetchEffect
  refine kept_ite hs ?_
  split
  all_goals first
    | (extract_lets -merge -underBinder +onlyGivenNames x0 x1 x2 x3 x4 x5 x6
       have h4 : Kept p x4 := State.cursorNext_kept hs
       have h6 : Kept p x6 := kept_mk h4
       clear_value x0 x1 x2 x3 x4 x5 x6
       extract_lets -merge -underBinder +onlyGivenNames x7
       clear_value x7
       exact kept_ite (State.takeTarget_kept h6) h6)

theorem State.takeMonitor_kept (hs : Kept p s) : Kept p (State.takeMonitor s v1 v2 v3) := by
  unfold State.takeMonitor
  extract_lets -merge -underBinder +onlyGivenNames x0 x1
  clear_value x0 x1
  refine kept_ite hs ?_
  refine kept_ite ?_ (State.breach_kept hs)
  extract_lets -merge -underBinder +onlyGivenNames x2
  clear_value x2
  exact State.setMonitors_kept hs

theorem State.sendAct_kept (hs : Kept p s) : Kept p (State.sendAct s v1 v2) := by
  unfold State.sendAct
  extract_lets -merge -underBinder +onlyGivenNames x0
  clear_value x0
  exact kept_ite (kept_mk hs) hs

theorem State.windowCloses_kept (hs : Kept p s) : Kept p (State.windowCloses s v1) := by
  unfold State.windowCloses
  exact kept_mk hs

theorem State.openWindow_kept (hs : Kept p s) : Kept p (State.openWindow s v1) := by
  unfold State.openWindow
  extract_lets -merge -underBinder +onlyGivenNames x0 x1 x2 x3
  have h3 : Kept p x3 := State.windowCloses_kept hs
  clear_value x0 x1 x2 x3
  extract_lets -merge -underBinder +onlyGivenNames x4 x5
  have h5 : Kept p x5 := kept_mk h3
  clear_value x4 x5
  exact kept_ite (State.activate_kept h5) h5

theorem State.entryAction_kept (hs : Kept p s) : Kept p (State.entryAction s v1) := by
  unfold State.entryAction
  extract_lets -merge -underBinder +onlyGivenNames x0
  clear_value x0
  split
  all_goals first
    | with_reducible exact State.sendAct_kept hs | with_reducible exact hs | with_reducible exact State.openWindow_kept hs
    | (split
       all_goals first
         | with_reducible exact State.sendAct_kept hs | with_reducible exact State.reloadPoint_kept hs)

theorem State.fireEntry_kept (hs : Kept p s) : Kept p (State.fireEntry s v1 v2) := by
  unfold State.fireEntry
  extract_lets -merge -underBinder +onlyGivenNames x0
  clear_value x0
  split
  all_goals first
    | (extract_lets -merge -underBinder +onlyGivenNames x1 x2
       clear_value x1 x2
       exact kept_mk hs)
    | (split
       all_goals first
         | (extract_lets -merge -underBinder +onlyGivenNames x3
            clear_value x3
            exact State.entryAction_kept (State.takeMonitor_kept hs))
         | (extract_lets -merge -underBinder +onlyGivenNames x4
            have h4 : Kept p x4 := kept_ite (State.breach_kept hs) hs
            clear_value x4
            exact State.entryAction_kept (State.takeMonitor_kept h4)))

theorem State.leversSet_kept (hs : Kept p s) : Kept p (State.leversSet s v1) := by
  unfold State.leversSet
  refine kept_foldl ?_ hs
  intros
  extract_lets -merge -underBinder +onlyGivenNames x0 x1
  have h1 : Kept p x1 := State.setFlag_kept (by assumption)
  clear_value x0 x1
  exact kept_mk h1

theorem State.fireDue_kept (hs : Kept p s) : Kept p (State.fireDue s v1) := by
  unfold State.fireDue
  extract_lets -merge -underBinder +onlyGivenNames x0 x1 x2
  have h2 : Kept p x2 := kept_mk hs
  clear_value x0 x1 x2
  exact kept_foldl (fun _ _ _ => State.fireEntry_kept (by assumption)) (State.leversSet_kept h2)

theorem entryFireEffect_kept (hs : Kept p s) : Kept p (entryFireEffect s) := by
  unfold entryFireEffect
  refine kept_ite hs ?_
  extract_lets -merge -underBinder +onlyGivenNames x0 x1
  have h1 : Kept p x1 := kept_ite hs (kept_mk hs)
  clear_value x0 x1
  exact State.fireDue_kept h1

theorem State.leversWrite_kept (hs : Kept p s) : Kept p (State.leversWrite s v1) := by
  unfold State.leversWrite
  extract_lets -merge -underBinder +onlyGivenNames x0
  clear_value x0
  exact kept_foldl (fun _ _ _ => kept_ite (by assumption) (State.setFlag_kept (by assumption))) hs

theorem budgetExpiryEffect_kept (hs : Kept p s) : Kept p (budgetExpiryEffect v0 s) := by
  unfold budgetExpiryEffect
  split
  all_goals first
    | with_reducible exact hs
    | (refine kept_ite hs ?_
       refine kept_ite (State.compare_kept hs) ?_
       extract_lets -merge -underBinder +onlyGivenNames x0
       have h0 : Kept p x0 := State.overrun_kept hs
       clear_value x0
       exact kept_ite (State.setMonitors_kept h0) (State.setMonitors_kept h0))

theorem State.dropThird_kept (hs : Kept p s) : Kept p (State.dropThird s v1 v2 v3) := by
  unfold State.dropThird
  exact State.bump_kept (State.breach_kept (State.discardPair_kept hs))

theorem State.stopThird_kept (hs : Kept p s) : Kept p (State.stopThird s v1 v2) := by
  unfold State.stopThird
  extract_lets -merge -underBinder +onlyGivenNames x0 x1
  have h1 : Kept p x1 := by
    unfold x1
    split
    all_goals first
      | with_reducible exact kept_ite (State.stopTask_kept hs) hs | with_reducible exact hs
  clear_value x0 x1
  exact State.dropThird_kept h1

theorem reserveWindowEndEffect_kept (hs : Kept p s) : Kept p (reserveWindowEndEffect v0 s) := by
  unfold reserveWindowEndEffect
  split
  all_goals first
    | with_reducible exact hs
    | (refine kept_ite hs ?_
       refine kept_ite (State.windowCloses_kept hs) ?_
       extract_lets -merge -underBinder +onlyGivenNames x0
       have h0 : Kept p x0 := by
         unfold x0
         split
         all_goals first
           | with_reducible exact State.stopThird_kept hs | with_reducible exact hs
       clear_value x0
       extract_lets -merge -underBinder +onlyGivenNames x1 x2 x3
       have h3 : Kept p x3 := kept_mk h0
       clear_value x1 x2 x3
       extract_lets -merge -underBinder +onlyGivenNames x4
       have h4 : Kept p x4 := kept_foldl (fun _ _ _ => State.dropThird_kept (by assumption)) h3
       clear_value x4
       extract_lets -merge -underBinder +onlyGivenNames x5
       have h5 : Kept p x5 := State.windowCloses_kept h4
       clear_value x5
       extract_lets -merge -underBinder +onlyGivenNames x6
       have h6 : Kept p x6 := kept_ite (State.queueTransition_kept h5) h5
       clear_value x6
       extract_lets -merge -underBinder +onlyGivenNames x7 x8 x9
       have h9 : Kept p x9 := kept_mk h6
       clear_value x7 x8 x9
       exact kept_foldl (fun _ _ _ => State.fireEntry_kept (by assumption)) h9)

theorem grantEffect_kept (hs : Kept p s) : Kept p (grantEffect s) := by
  unfold grantEffect
  split
  all_goals (try (rename_i e0; have h0 := (State.takeAct_kept hs) _ e0))
  all_goals first
    | with_reducible exact hs | with_reducible exact kept_ite (State.wr_kept (by assumption)) (State.missed_kept (State.setFlag_kept (by assumption)))

theorem startConfirmedEffect_kept (hs : Kept p s) : Kept p (startConfirmedEffect s) := by
  unfold startConfirmedEffect
  split
  all_goals (try (rename_i e0; have h0 := (State.takeAct_kept hs) _ e0))
  all_goals first
    | with_reducible exact hs
    | (refine kept_ite (by assumption) ?_
       extract_lets -merge -underBinder +onlyGivenNames x1
       have h1 : Kept p x1 := State.wr_kept (State.touchMram_kept (by assumption))
       clear_value x1
       extract_lets -merge -underBinder +onlyGivenNames x2 x3 x4
       have h4 : Kept p x4 := kept_mk h1
       clear_value x2 x3 x4
       extract_lets -merge -underBinder +onlyGivenNames x5
       have h5 : Kept p x5 := kept_ite (State.setFlag_kept h4) h4
       clear_value x5
       exact State.jnlAdd_kept h5)

end Sys2Proof.Machine
end

