-- ==== Sys2Proof/Laws/KeptClocks.lean ====
section
/-!
SUPPORT. Every operation of Machine/Clocks.lean leaves the queue and keeps the canonical form of the memories.
-/
namespace Sys2Proof.Machine

variable {p : List Instr} {s t : State}

theorem State.timeLost_kept (hs : Kept p s) : Kept p (State.timeLost s) := by
  unfold State.timeLost
  exact kept_mk hs

theorem State.xo32mGood_kept (hs : Kept p s) : Kept p (State.xo32mGood s) := by
  unfold State.xo32mGood
  extract_lets -merge -underBinder +onlyGivenNames x0 x1
  have h1 : Kept p x1 := State.setFlag_kept (State.setFlag_kept (State.setFlag_kept hs))
  clear_value x0 x1
  extract_lets -merge -underBinder +onlyGivenNames x2
  have h2 : Kept p x2 := State.setFlag_kept h1
  clear_value x2
  extract_lets -merge -underBinder +onlyGivenNames x3
  have h3 : Kept p x3 := kept_ite (State.wr_kept h2) h2
  clear_value x3
  extract_lets -merge -underBinder +onlyGivenNames x4 x5
  have h5 : Kept p x5 := kept_mk h3
  clear_value x4 x5
  extract_lets -merge -underBinder +onlyGivenNames x6
  have h6 : Kept p x6 := kept_ite (State.timeLost_kept h5) h5
  clear_value x6
  exact State.fire_kept (State.rfHaveRef_kept h6)

theorem State.xo32kGood_kept (hs : Kept p s) : Kept p (State.xo32kGood s) := by
  unfold State.xo32kGood
  extract_lets -merge -underBinder +onlyGivenNames x0
  have h0 : Kept p x0 := State.setFlag_kept (State.setFlag_kept hs)
  clear_value x0
  extract_lets -merge -underBinder +onlyGivenNames x1
  have h1 : Kept p x1 := kept_ite (State.wr_kept h0) h0
  clear_value x1
  extract_lets -merge -underBinder +onlyGivenNames x2 x3
  have h3 : Kept p x3 := kept_mk h1
  clear_value x2 x3
  exact State.fire_kept h3

theorem State.rc16mGood_kept (hs : Kept p s) : Kept p (State.rc16mGood s) := by
  unfold State.rc16mGood
  extract_lets -merge -underBinder +onlyGivenNames x0
  have h0 : Kept p x0 := State.setFlag_kept hs
  clear_value x0
  refine kept_ite h0 ?_
  extract_lets -merge -underBinder +onlyGivenNames x1
  have h1 : Kept p x1 := State.setFlag_kept (State.setFlag_kept (State.setFlag_kept h0))
  clear_value x1
  extract_lets -merge -underBinder +onlyGivenNames x2
  have h2 : Kept p x2 := kept_ite (State.timeLost_kept h1) h1
  clear_value x2
  exact State.fire_kept h2

theorem State.clkFailure_kept (hs : Kept p s) : Kept p (State.clkFailure s v1) := by
  unfold State.clkFailure
  exact State.clkReason_kept (State.bump_kept hs)

theorem State.xo32mFails_kept (hs : Kept p s) : Kept p (State.xo32mFails s v1 v2) := by
  unfold State.xo32mFails
  extract_lets -merge -underBinder +onlyGivenNames x0
  have h0 : Kept p x0 := State.clkFailure_kept (State.setFlag_kept (State.setFlag_kept hs))
  clear_value x0
  extract_lets -merge -underBinder +onlyGivenNames x1
  have h1 : Kept p x1 := State.setFlag_kept (State.wr_kept (State.setFlag_kept h0))
  clear_value x1
  extract_lets -merge -underBinder +onlyGivenNames x2
  have h2 : Kept p x2 := State.rfLoseRef_kept (State.setFlag_kept h1)
  clear_value x2
  extract_lets -merge -underBinder +onlyGivenNames x3 x4 x5 x6
  have h4 : Kept p x4 := State.setFlag_kept h2
  have h6 : Kept p x6 := kept_mk h4
  clear_value x3 x4 x5 x6
  exact kept_ite (State.rc16mGood_kept (State.timeLost_kept h6)) (State.timeLost_kept h6)

theorem State.xo32kFails_kept (hs : Kept p s) : Kept p (State.xo32kFails s v1 v2) := by
  unfold State.xo32kFails
  extract_lets -merge -underBinder +onlyGivenNames x0
  have h0 : Kept p x0 := State.clkFailure_kept (State.setFlag_kept (State.setFlag_kept hs))
  clear_value x0
  extract_lets -merge -underBinder +onlyGivenNames x1 x2
  have h2 : Kept p x2 := kept_mk h0
  clear_value x1 x2
  exact State.fire_kept h2

theorem State.rc16mFails_kept (hs : Kept p s) : Kept p (State.rc16mFails s v1) := by
  unfold State.rc16mFails
  extract_lets -merge -underBinder +onlyGivenNames x0
  have h0 : Kept p x0 := State.clkFailure_kept (State.setFlag_kept hs)
  clear_value x0
  extract_lets -merge -underBinder +onlyGivenNames x1 x2
  have h2 : Kept p x2 := kept_mk h0
  clear_value x1 x2
  exact kept_ite (State.fire_kept h2) (State.timeLost_kept (State.clkReason_kept (State.setFlag_kept (State.setFlag_kept h2))))

theorem clockSourceFailureEffect_kept (hs : Kept p s) : Kept p (clockSourceFailureEffect v0 s) := by
  unfold clockSourceFailureEffect
  refine kept_ite hs ?_
  split
  all_goals first
    | with_reducible exact kept_ite (State.xo32mFails_kept hs) (kept_mk hs) | with_reducible exact kept_ite (State.xo32kFails_kept hs) (kept_mk hs) | with_reducible exact kept_ite (State.rc16mFails_kept hs) (State.clkReason_kept (State.setFlag_kept hs)) | with_reducible exact State.softReset_kept (State.bump_kept hs) | with_reducible exact kept_ite (State.fire_kept (State.clkFailure_kept hs)) (State.softReset_kept (State.clkFailure_kept hs))

theorem frequencyCountEffect_kept (hs : Kept p s) : Kept p (frequencyCountEffect v0 v1 s) := by
  unfold frequencyCountEffect
  split
  all_goals first
    | with_reducible exact hs
    | (refine kept_ite hs ?_
       extract_lets -merge -underBinder +onlyGivenNames x0
       clear_value x0
       split
       all_goals first
         | (extract_lets -merge -underBinder +onlyGivenNames x1
            have h1 : Kept p x1 := State.setWord_kept hs
            clear_value x1
            extract_lets -merge -underBinder +onlyGivenNames x2 x3
            have h3 : Kept p x3 := kept_mk h1
            clear_value x2 x3
            exact kept_ite (kept_ite h3 (State.xo32mFails_kept h3)) (kept_ite (State.xo32mGood_kept h3) h3))
         | (extract_lets -merge -underBinder +onlyGivenNames x4
            have h4 : Kept p x4 := State.setWord_kept hs
            clear_value x4
            extract_lets -merge -underBinder +onlyGivenNames x5 x6
            have h6 : Kept p x6 := kept_mk h4
            clear_value x5 x6
            exact kept_ite (kept_ite h6 (State.xo32kFails_kept h6)) (kept_ite (State.xo32kGood_kept h6) h6))
         | (extract_lets -merge -underBinder +onlyGivenNames x7
            have h7 : Kept p x7 := State.setWord_kept hs
            clear_value x7
            exact kept_ite (State.rc16mGood_kept h7) (kept_ite (State.rc16mFails_kept h7) (kept_ite (State.clkReason_kept h7) h7))))

theorem primaryRestartEffect_kept (hs : Kept p s) : Kept p (primaryRestartEffect v0 s) := by
  unfold primaryRestartEffect
  split
  all_goals first
    | with_reducible exact kept_ite hs (kept_mk hs) | with_reducible exact hs

theorem State.xoStart_kept (hs : Kept p s) : Kept p (State.xoStart s) := by
  unfold State.xoStart
  exact kept_ite hs (kept_mk hs)

theorem State.xoStop_kept (hs : Kept p s) : Kept p (State.xoStop s) := by
  unfold State.xoStop
  refine kept_ite hs ?_
  extract_lets -merge -underBinder +onlyGivenNames x0
  have h0 : Kept p x0 := State.setFlag_kept hs
  clear_value x0
  exact kept_mk h0

theorem xoPrestartEffect_kept (hs : Kept p s) : Kept p (xoPrestartEffect s) := by
  unfold xoPrestartEffect
  extract_lets -merge -underBinder +onlyGivenNames x0
  clear_value x0
  exact kept_ite (State.xoStart_kept hs) hs

theorem State.clkCtrl_kept (hs : Kept p s) : Kept p (State.clkCtrl s v1) := by
  unfold State.clkCtrl
  extract_lets -merge -underBinder +onlyGivenNames x0
  have h0 : Kept p x0 := State.setFlag_kept hs
  clear_value x0
  extract_lets -merge -underBinder +onlyGivenNames x1
  have h1 : Kept p x1 := kept_ite (State.xoStart_kept h0) h0
  clear_value x1
  exact kept_ite (kept_mk h1) h1

theorem State.clkGate_kept (hs : Kept p s) : Kept p (State.clkGate s v1) := by
  unfold State.clkGate
  exact kept_foldl (fun _ _ _ => kept_ite (kept_ite (State.setFlag_kept (by assumption)) (by assumption)) (State.setFlag_kept (State.setFlag_kept (by assumption)))) hs

theorem gateCloseEffect_kept (hs : Kept p s) : Kept p (gateCloseEffect v0 s) := by
  unfold gateCloseEffect
  exact kept_ite (State.setFlag_kept hs) hs

theorem gateRefusedEffect_kept (hs : Kept p s) : Kept p (gateRefusedEffect v0 s) := by
  unfold gateRefusedEffect
  refine kept_ite ?_ hs
  extract_lets -merge -underBinder +onlyGivenNames x0
  have h0 : Kept p x0 := State.setFlag_kept (State.setFlag_kept hs)
  clear_value x0
  exact State.fire_kept (State.breach_kept h0)

theorem domainEffect_kept (hs : Kept p s) : Kept p (domainEffect s) := by
  unfold domainEffect
  split
  all_goals (try (rename_i e0; have h0 := (State.takeAct_kept hs) _ e0))
  all_goals first
    | with_reducible exact hs
    | (extract_lets -merge -underBinder +onlyGivenNames x1 x2
       clear_value x1 x2
       exact kept_ite (State.setMonitors_kept (by assumption)) (State.queueTransition_kept (by assumption)))

theorem State.domCmd_kept (hs : Kept p s) : Kept p (State.domCmd s v1 v2 v3) := by
  unfold State.domCmd
  exact kept_ite (State.rejected_kept hs) (kept_ite (State.rejected_kept hs) (State.queueTransition_kept hs))

theorem State.gearSet_kept (hs : Kept p s) : Kept p (State.gearSet s v1) := by
  unfold State.gearSet
  exact kept_ite (State.rejected_kept hs) (State.gearMonitors_kept (State.setGear_kept hs))

theorem wakePinEffect_kept (hs : Kept p s) : Kept p (wakePinEffect v0 v1 v2 s) := by
  unfold wakePinEffect
  extract_lets -merge -underBinder +onlyGivenNames x0 x1 x2
  have h2 : Kept p x2 := kept_mk hs
  clear_value x0 x1 x2
  extract_lets -merge -underBinder +onlyGivenNames x3 x4 x5
  clear_value x3 x4 x5
  refine kept_ite h2 ?_
  refine kept_ite (kept_ite (State.wakeRequest_kept h2) h2) ?_
  extract_lets -merge -underBinder +onlyGivenNames x6
  have h6 : Kept p x6 := State.setFlag_kept h2
  clear_value x6
  exact kept_ite (State.wakeLevels_kept (State.wakeRequest_kept h6)) h6

theorem sramEccWriteBackEffect_kept (hs : Kept p s) : Kept p (sramEccWriteBackEffect v0 s) := by
  unfold sramEccWriteBackEffect
  exact kept_mk hs

end Sys2Proof.Machine
end

