-- ==== Sys2Proof/Laws/KeptBus.lean ====
section
/-!
SUPPORT. Every operation of Machine/Bus.lean leaves the queue and keeps the canonical form of the memories.
-/
namespace Sys2Proof.Machine

variable {p : List Instr} {s t : State}

theorem State.eccMeets_kept (hs : Kept p s) : Kept p (State.eccMeets s v1 v2 v3).2 := by
  unfold State.eccMeets
  split
  all_goals first
    | with_reducible exact hs
    | (split
       · exact hs
       · split
         · exact hs
         · exact State.bump_kept (kept_mk hs))

theorem State.loseBank_kept (hs : Kept p s) : Kept p (State.loseBank s v1) := by
  unfold State.loseBank
  extract_lets -merge -underBinder +onlyGivenNames x0
  have h0 : Kept p x0 := State.fire_kept (State.bump_kept (State.setBankLost_kept hs))
  clear_value x0
  exact State.jnlAdd_kept h0

theorem State.sramRead_kept (hs : Kept p s) : Kept p (State.sramRead s v1).2.2 := by
  unfold State.sramRead
  split
  · exact hs
  · extract_lets -merge -underBinder +onlyGivenNames x0
    have h0 : Kept p x0.2 := State.eccMeets_kept hs
    clear_value x0
    split
    · exact State.loseBank_kept h0
    · exact h0

theorem State.nextAddr_kept (hs : Kept p s) : Kept p (State.nextAddr s v1 v2 v3) := by
  unfold State.nextAddr
  exact State.wr_kept hs

theorem State.hopNext_kept (hs : Kept p s) : Kept p (State.hopNext s) := by
  unfold State.hopNext
  exact State.wr_kept hs

theorem State.dataRead_kept (hs : Kept p s) : ∀ r, State.dataRead s v1 = some r → Kept p r.2 := by
  unfold State.dataRead
  split
  · exact kept_some2 (State.tblNext_kept hs)
  · split
    · extract_lets -merge +onlyGivenNames x0
      clear_value x0
      extract_lets -merge +onlyGivenNames x1
      have h1 : Kept p x1.2 := State.eccMeets_kept hs
      clear_value x1
      exact kept_some2 (State.nextAddr_kept h1)
    · split
      · exact kept_some2 (State.nextAddr_kept hs)
      · split
        · exact kept_some2 (State.hopNext_kept hs)
        · split
          · exact kept_some2 (State.nextAddr_kept hs)
          · split
            · extract_lets -merge +onlyGivenNames x2
              clear_value x2
              exact kept_some2 (State.nextAddr_kept hs)
            · split
              · exact kept_some2 (State.latchSnap_kept hs)
              · split
                · exact kept_some2 (State.latchPair_kept hs)
                · split
                  · exact kept_some2 (State.popRx_kept hs)
                  · exact kept_none2

theorem State.regRead_kept (hs : Kept p s) : Kept p (State.regRead s v1).2 := by
  unfold State.regRead
  split
  all_goals (try (rename_i e0; have h0 := (State.dataRead_kept hs) _ e0))
  all_goals first
    | with_reducible exact by assumption | with_reducible exact hs

theorem State.readWord_kept (hs : Kept p s) : Kept p (State.readWord s v1 v2).2.2 := by
  unfold State.readWord
  split
  all_goals first
    | with_reducible exact State.sramRead_kept hs | with_reducible exact hs
    | (extract_lets -merge -underBinder +onlyGivenNames x0 x1
       have h1 : Kept p x1.2 := State.eccMeets_kept hs
       clear_value x0 x1
       exact h1)
    | (extract_lets -merge -underBinder +onlyGivenNames x2
       have h2 : Kept p x2.2 := State.regRead_kept hs
       clear_value x2
       exact h2)

theorem State.rejectIn_kept (hs : Kept p s) : Kept p (State.rejectIn s v1) := by
  unfold State.rejectIn
  split
  all_goals first
    | with_reducible exact kept_ite (State.rejected_kept hs) hs | with_reducible exact hs

theorem State.regStore_kept (hs : Kept p s) : Kept p (State.regStore s v1 v2 v3 v4 v5) := by
  unfold State.regStore
  extract_lets -merge -underBinder +onlyGivenNames x0
  refine kept_ite ?_ ?_
  · extract_lets -merge -underBinder +onlyGivenNames x1 x2
    have h2 : Kept p x2 := State.setWord_kept hs
    exact kept_ite (State.rejectIn_kept h2) h2
  · extract_lets -merge -underBinder +onlyGivenNames x3 x4 x5 x6
    have h5 : Kept p x5 := State.wrw_kept hs
    clear_value x5
    refine kept_ite h5 (kept_ite (kept_ite (State.rejectIn_kept h5) ?_) ?_)
    · simp only [Kept, State.memWf, Bool.and_eq_true] at h5 ⊢
      exact ⟨h5.1, ⟨⟨⟨h5.2.1.1.1.1, cellsRising_ins _ _ h5.2.1.1.1.2⟩, h5.2.1.1.2⟩, h5.2.1.2⟩, h5.2.2⟩
    · extract_lets -merge -underBinder +onlyGivenNames y0 y1 y2 y3 y4
      have h10 : Kept p y3 := State.wrw_kept h5
      have h11 : Kept p y4 := by
        simp only [y4, Kept, State.memWf, Bool.and_eq_true] at h10 ⊢
        exact ⟨h10.1, ⟨⟨⟨h10.2.1.1.1.1, cellsRising_filter _ h10.2.1.1.1.2⟩, h10.2.1.1.2⟩, h10.2.1.2⟩, h10.2.2⟩
      exact kept_ite (State.rejectIn_kept h11) h11

theorem State.patternWrite_kept (hs : Kept p s) : Kept p (State.patternWrite s v1) := by
  unfold State.patternWrite
  extract_lets x0 x1 x2 x3 x4
  have h4 : Kept p x4 := by
    simp only [x4, Kept, State.memWf, Bool.and_eq_true] at hs ⊢
    exact ⟨hs.1, hs.2.1, Memory.wf_put _ _ hs.2.2⟩
  clear_value x4
  exact kept_ite h4 (State.rejectIn_kept h4)

theorem State.pathWrite_kept (hs : Kept p s) : Kept p (State.pathWrite s v1) := by
  unfold State.pathWrite
  extract_lets -merge -underBinder +onlyGivenNames x0 x1 x2
  extract_lets -merge -underBinder +onlyGivenNames x3
  extract_lets -merge -underBinder +onlyGivenNames x4 x5 x6 x7 x8
  have h8 : Kept p x8 := kept_mk hs
  clear_value x4 x5 x6 x7 x8
  exact kept_ite h8 (State.rejectIn_kept h8)

theorem State.nbrWrite_kept (hs : Kept p s) : Kept p (State.nbrWrite s v1) := by
  unfold State.nbrWrite
  extract_lets -merge -underBinder +onlyGivenNames x0 x1 x2 x3
  have h3 : Kept p x3 := kept_ite hs (kept_ite (State.nbrStore_kept hs) (kept_mk hs))
  clear_value x0 x1 x2 x3
  exact kept_ite (State.rejectIn_kept h3) h3

theorem State.dataWrite_kept (hs : Kept p s) : ∀ r, State.dataWrite s v1 v2 = some r → Kept p r := by
  unfold State.dataWrite
  split
  · exact kept_some (kept_ite (State.tblNext_kept (State.rejectIn_kept hs)) (State.tblNext_kept (State.tblWrite_kept hs)))
  · split
    · exact kept_some (State.nextAddr_kept (kept_ite (State.rejectIn_kept hs) (State.patternWrite_kept hs)))
    · split
      · extract_lets -merge +onlyGivenNames x0
        clear_value x0
        exact kept_some (State.nextAddr_kept (kept_ite (State.rejectIn_kept hs) (kept_mk hs)))
      · split
        · extract_lets -merge +onlyGivenNames x1
          clear_value x1
          exact kept_some (State.hopNext_kept (kept_ite (State.rejectIn_kept hs) (kept_mk hs)))
        · split
          · exact kept_some (State.nextAddr_kept (State.pathWrite_kept hs))
          · split
            · exact kept_some (State.nextAddr_kept (State.nbrWrite_kept hs))
            · split
              · exact kept_some (State.clkGate_kept hs)
              · split
                · exact kept_some (State.leversWrite_kept hs)
                · split
                  · exact kept_some hs
                  · exact kept_none

theorem State.enWrite_kept {v3 : State → State} (hs : Kept p s) (hv3 : ∀ z0, Kept p z0 → Kept p (v3 z0)) : Kept p (State.enWrite s v1 v2 v3) := by
  unfold State.enWrite
  extract_lets -merge -underBinder +onlyGivenNames x0 x1
  clear_value x0 x1
  exact kept_ite (kept_ite (hv3 _ hs) (kept_mk hs)) (kept_ite (kept_ite (kept_mk hs) (State.wr_kept hs)) hs)

theorem State.wsrcWritten_kept (hs : Kept p s) : Kept p (State.wsrcWritten s v1) := by
  unfold State.wsrcWritten
  refine kept_ite (State.wakeLevels_kept hs) ?_
  extract_lets -merge -underBinder +onlyGivenNames x0 x1
  clear_value x0 x1
  exact State.wakeLevels_kept (State.setFlag_kept hs)

theorem State.limitsEnabled_kept (hs : Kept p s) : Kept p (State.limitsEnabled s v1) := by
  unfold State.limitsEnabled
  exact kept_foldl (fun _ _ _ => kept_ite (kept_mk (by assumption)) (by assumption)) hs

theorem State.e0ldData_kept (hs : Kept p s) : Kept p (State.e0ldData s v1 v2) := by
  unfold State.e0ldData
  extract_lets -merge -underBinder +onlyGivenNames x0
  clear_value x0
  exact kept_ite (State.rejected_kept hs) (State.wr_kept (State.putMem_kept hs))

theorem State.actControl_kept (hs : Kept p s) : Kept p (State.actControl s v1 v2 v3 v4) := by
  unfold State.actControl
  exact kept_ite (State.seqCtrl_kept hs) (kept_ite (kept_ite (State.gearSet_kept hs) hs) (kept_ite (kept_ite (State.domCmd_kept hs) hs) (kept_ite (State.wsrcWritten_kept hs) (kept_ite (State.wakeLevels_kept hs) (kept_ite (State.clkCtrl_kept hs) (kept_ite (State.startAbort_kept hs) (kept_ite (kept_ite (State.fork_kept hs) hs) hs)))))))

theorem State.actCadence_kept (hs : Kept p s) : Kept p (State.actCadence s v1 v2 v3) := by
  unfold State.actCadence
  exact kept_ite (State.armWake_kept hs) (kept_ite (State.modeWritten_kept hs) (kept_ite (State.takeTarget_kept hs) (kept_ite (State.periodWritten_kept hs) hs)))

theorem State.actRadio_kept (hs : Kept p s) : Kept p (State.actRadio s v1 v2 v3 v4) := by
  unfold State.actRadio
  refine kept_ite ?_ ?_
  · extract_lets -merge -underBinder +onlyGivenNames x0
    have h0 : Kept p x0 := kept_ite (State.calDue_kept hs) hs
    clear_value x0
    exact kept_ite (State.searchDue_kept h0) h0
  · refine kept_ite (kept_ite (State.calDue_kept hs) hs) ?_
    refine kept_ite (State.coexOff_kept hs) ?_
    refine kept_ite (State.coexOff_kept hs) ?_
    refine kept_ite (kept_ite (kept_ite hs (State.laneDisable_kept hs)) (kept_ite (State.laneEnable_kept hs) hs)) ?_
    refine kept_ite ?_ ?_
    · refine State.enWrite_kept hs ?_
      intros
      exact State.linkDisable_kept (by assumption)
    · refine kept_ite ?_ (kept_ite (kept_ite (State.stageChanged_kept (State.stageCtl_kept hs)) (State.stageCtl_kept hs)) hs)
      refine State.enWrite_kept hs ?_
      intros
      exact State.relayDisable_kept (by assumption)

theorem State.actPeripheral_kept (hs : Kept p s) : Kept p (State.actPeripheral s v1 v2 v3 v4) := by
  unfold State.actPeripheral
  refine kept_ite ?_ ?_
  · extract_lets -merge -underBinder +onlyGivenNames x0
    have h0 : Kept p x0 := by
      unfold x0
      refine State.enWrite_kept hs ?_
      intros
      exact State.vaultDisabled_kept (by assumption)
    clear_value x0
    exact kept_ite (State.reseed_kept h0) h0
  · refine kept_ite ?_ ?_
    · refine State.enWrite_kept hs ?_
      intros
      exact State.disableFn_kept (by assumption)
    · refine kept_ite (State.limitsEnabled_kept hs) ?_
      refine kept_ite (kept_ite (State.dacLoad_kept hs) hs) ?_
      refine kept_ite ?_ ?_
      · refine State.enWrite_kept hs ?_
        intros
        exact State.unitDisabled_kept (by assumption)
      · refine kept_ite (kept_ite (State.startWritten_kept hs) hs) ?_
        refine kept_ite (State.pushTx_kept hs) ?_
        refine kept_ite ?_ (kept_ite (State.addrCtl_kept hs) (kept_ite (State.rxFree_kept hs) (kept_ite (State.rspCtl_kept hs) hs)))
        refine State.enWrite_kept hs ?_
        intros
        exact State.wflDisabled_kept (by assumption)

theorem State.actSystem_kept (hs : Kept p s) : Kept p (State.actSystem s v1 v2 v3) := by
  unfold State.actSystem
  exact kept_ite (State.mwData_kept hs) (kept_ite (State.e0ldData_kept hs) (kept_ite (State.retSet_kept hs) (kept_ite (State.reint_kept hs) (kept_ite (kept_ite (State.testStart_kept hs) hs) (kept_ite (kept_ite (State.ldDone_kept hs) hs) (kept_ite (State.ldData_kept hs) (kept_ite (kept_ite (State.jnlCommit_kept hs) hs) hs)))))))

theorem State.regWrite_kept (hs : Kept p s) : Kept p (State.regWrite s v1 v2 v3) := by
  unfold State.regWrite
  split
  all_goals (try (rename_i e0; have h0 := (State.dataWrite_kept hs) _ e0))
  all_goals first
    | with_reducible exact by assumption
    | (split
       all_goals first
         | with_reducible exact hs
         | (extract_lets -merge -underBinder +onlyGivenNames x1 x2
            have h2 : Kept p x2 := State.regStore_kept hs
            clear_value x1 x2
            extract_lets -merge -underBinder +onlyGivenNames x3
            have h3 : Kept p x3 := kept_ite (State.wr_kept h2) h2
            clear_value x3
            split
            all_goals first
              | with_reducible exact kept_ite h3 (kept_ite (State.ownEdges_kept h3 hs) (State.actCadence_kept h3)) | with_reducible exact State.actRadio_kept h3 | with_reducible exact kept_ite (kept_ite h3 (State.rebaseDwell_kept h3)) (State.actRadio_kept h3) | with_reducible exact State.actPeripheral_kept h3 | with_reducible exact kept_ite (State.ownEdges_kept h3 hs) (State.actPeripheral_kept h3) | with_reducible exact State.actSystem_kept h3 | with_reducible exact State.actControl_kept h3))

theorem State.writeWord_kept (hs : Kept p s) : Kept p (State.writeWord s v1 v2 v3).2 := by
  unfold State.writeWord
  split
  all_goals first
    | with_reducible exact State.putMem_kept hs | with_reducible exact State.sramPut_kept hs | with_reducible exact hs | with_reducible exact State.regWrite_kept hs | with_reducible exact State.rejectIn_kept hs

theorem State.errorTo_kept (hs : Kept p s) : Kept p (State.errorTo s) := by
  unfold State.errorTo
  exact kept_mk hs

theorem State.writeNow_kept (hs : Kept p s) : Kept p (State.writeNow s v1 v2 v3) := by
  unfold State.writeNow
  extract_lets -merge -underBinder +onlyGivenNames x0
  have h0 : Kept p x0.2 := State.writeWord_kept hs
  clear_value x0
  exact kept_ite (State.errorTo_kept h0) h0

theorem State.readNow_kept (hs : Kept p s) : Kept p (State.readNow s v1 v2) := by
  unfold State.readNow
  extract_lets -merge -underBinder +onlyGivenNames x0
  have h0 : Kept p x0.2.2 := State.readWord_kept hs
  clear_value x0
  extract_lets -merge -underBinder +onlyGivenNames x1 x2
  have h1 : Kept p x1 := h0
  have h2 : Kept p x2 := kept_mk h1
  clear_value x1 x2
  exact kept_ite (State.errorTo_kept h2) h2

theorem State.initWrite_kept (hs : Kept p s) : Kept p (State.initWrite s v1 v2 v3) := by
  unfold State.initWrite
  refine kept_ite (State.errorTo_kept hs) ?_
  extract_lets -merge -underBinder +onlyGivenNames x0 x1
  have h1 : Kept p x1.2 := State.reach_kept hs
  clear_value x0 x1
  split
  all_goals first
    | with_reducible exact State.writeNow_kept h1 | with_reducible exact State.errorTo_kept h1
    | (extract_lets -merge -underBinder +onlyGivenNames x2
       have h2 : Kept p x2 := h1
       clear_value x2
       exact kept_mk h2)

theorem State.initRead_kept (hs : Kept p s) : Kept p (State.initRead s v1 v2) := by
  unfold State.initRead
  refine kept_ite (State.errorTo_kept hs) ?_
  extract_lets -merge -underBinder +onlyGivenNames x0 x1
  have h1 : Kept p x1.2 := State.reach_kept hs
  clear_value x0 x1
  split
  all_goals first
    | with_reducible exact State.readNow_kept h1
    | (extract_lets -merge -underBinder +onlyGivenNames x2
       have h2 : Kept p x2 := h1
       clear_value x2
       exact kept_mk h2)
    | (extract_lets -merge -underBinder +onlyGivenNames x3
       have h3 : Kept p x3 := State.errorTo_kept h1
       clear_value x3
       exact kept_mk h3)

theorem State.initAccess_kept (hs : Kept p s) : Kept p (State.initAccess s v1 v2 v3) := by
  unfold State.initAccess
  split
  all_goals first
    | with_reducible exact State.initWrite_kept hs | with_reducible exact State.initRead_kept hs

end Sys2Proof.Machine
end

