-- ==== Sys2Proof/Laws/KeptSpoke.lean ====
section
/-!
SUPPORT. Every operation of Machine/Spoke.lean (with Points) leaves the queue and keeps the canonical form of the memories.
-/
namespace Sys2Proof.Machine

variable {p : List Instr} {s t : State}

theorem State.putSession_kept (hs : Kept p s) : Kept p (State.putSession s v1 v2 v3) := by
  unfold State.putSession
  exact kept_mk hs

theorem State.readTarget_kept (hs : Kept p s) : Kept p (State.readTarget s v1 v2).2 := by
  induction v2 generalizing s v1 with
  | zero => exact hs
  | succ n ih => exact ih (State.readWord_kept hs)

theorem State.pointValue_kept (hs : Kept p s) : Kept p (State.pointValue s v1 v2 v3).2 := by
  unfold State.pointValue
  split
  · exact hs
  · split
    · exact hs
    · split
      · exact hs
      · split
        all_goals first
          | with_reducible exact hs
          | (extract_lets -merge -underBinder +onlyGivenNames x0
             have h0 : Kept p x0.2 := State.readTarget_kept hs
             clear_value x0
             exact h0)

theorem State.serviceWrite_kept (hs : Kept p s) : Kept p (State.serviceWrite s v1 v2).2 := by
  unfold State.serviceWrite
  split
  all_goals first
    | (extract_lets -merge -underBinder +onlyGivenNames x0
       have h0 : Kept p x0.2 := State.writeWord_kept hs
       clear_value x0
       exact h0)
    | (extract_lets -merge -underBinder +onlyGivenNames x1 x2
       have h2 : Kept p x2.2 := State.writeWord_kept (State.setFlag_kept hs)
       clear_value x1 x2
       extract_lets -merge -underBinder +onlyGivenNames x3
       clear_value x3
       exact State.setFlag_kept h2)

theorem State.serviceWrites_kept (hs : Kept p s) : Kept p (State.serviceWrites s v1 v2).2 := by
  induction v2 generalizing s v1 with
  | nil => exact hs
  | cons o t ih => exact ih (State.serviceWrite_kept hs)

theorem State.applyPoint_kept (hs : Kept p s) : Kept p (State.applyPoint s v1 v2 v3 v4).2 := by
  unfold State.applyPoint
  extract_lets -merge -underBinder +onlyGivenNames x0
  clear_value x0
  split
  all_goals first
    | with_reducible exact State.serviceWrites_kept hs
    | (split
       all_goals first
         | with_reducible exact State.serviceWrite_kept hs | with_reducible exact hs
         | (split
            · exact State.serviceWrite_kept hs
            · split
              · exact State.serviceWrite_kept hs
              · split
                · exact State.serviceWrite_kept hs
                · exact hs)
         | (extract_lets -merge -underBinder +onlyGivenNames x1
            clear_value x1
            exact State.serviceWrite_kept hs))

theorem State.applySetting_kept (hs : Kept p s) : Kept p (State.applySetting s v1) := by
  unfold State.applySetting
  split
  all_goals first
    | with_reducible exact hs
    | (refine kept_ite hs ?_
       extract_lets -merge -underBinder +onlyGivenNames x0 x1
       have h1 : Kept p x1 := kept_mk hs
       clear_value x0 x1
       exact State.applyPoint_kept h1)

theorem State.applyAtWake_kept (hs : Kept p s) : Kept p (State.applyAtWake s v1 v2) := by
  unfold State.applyAtWake
  exact kept_ite hs (kept_foldl (fun _ _ _ => State.applySetting_kept (by assumption)) hs)

theorem State.applyAll_kept (hs : Kept p s) : Kept p (State.applyAll s) := by
  unfold State.applyAll
  exact kept_foldl (fun _ _ _ => State.applySetting_kept (by assumption)) hs

theorem State.setBankOf_kept (hs : Kept p s) : Kept p (State.setBankOf s v1 v2) := by
  unfold State.setBankOf
  split
  all_goals first
    | with_reducible exact State.setEngine_kept hs | with_reducible exact kept_mk hs

theorem State.cycles_kept (hs : Kept p s) : Kept p (State.cycles s v1) := by
  unfold State.cycles
  exact kept_ite hs (kept_mk hs)

theorem State.takeBank_kept (hs : Kept p s) : Kept p (State.takeBank s v1) := by
  unfold State.takeBank
  exact kept_mk hs

theorem State.offSlotOf_kept (hs : Kept p s) : Kept p (State.offSlotOf s v1) := by
  unfold State.offSlotOf
  split
  all_goals first
    | with_reducible exact hs | with_reducible exact kept_ite hs (State.offSlot_kept hs)

theorem State.xbar_kept (hs : Kept p s) : Kept p (State.xbar s v1 v2 v3).2 := by
  unfold State.xbar
  extract_lets -merge -underBinder +onlyGivenNames x0 x1 x2
  have h2 : Kept p x2.2 := State.reach_kept hs
  clear_value x0 x1 x2
  split
  all_goals first
    | with_reducible exact h2
    | (extract_lets -merge -underBinder +onlyGivenNames x3
       have h3 : Kept p x3 := h2
       clear_value x3
       exact kept_mk h3)
    | (split
       · exact State.takeBank_kept h2
       · extract_lets -merge -underBinder +onlyGivenNames x4
         have h4 : Kept p x4 := State.offSlotOf_kept h2
         clear_value x4
         exact kept_mk h4)

theorem State.windowAccess_kept (hs : Kept p s) : Kept p (State.windowAccess s v1 v2 v3).2 := by
  unfold State.windowAccess
  extract_lets -merge -underBinder +onlyGivenNames x0 x1 x2
  have h2 : Kept p x2.2 := State.reach_kept hs
  clear_value x0 x1 x2
  split
  all_goals first
    | with_reducible exact h2
    | (extract_lets -merge -underBinder +onlyGivenNames x3
       have h3 : Kept p x3 := h2
       clear_value x3
       exact kept_mk h3)

theorem State.fly_kept (hs : Kept p s) : Kept p (State.fly s v1 v2) := by
  unfold State.fly
  extract_lets -merge -underBinder +onlyGivenNames x0
  clear_value x0
  exact State.setBankOf_kept hs

theorem State.flyLoad_kept (hs : Kept p s) : Kept p (State.flyLoad s v1 v2) := by
  unfold State.flyLoad
  extract_lets -merge -underBinder +onlyGivenNames x0
  clear_value x0
  exact State.setBankOf_kept hs

theorem State.raise_kept (hs : Kept p s) : Kept p (State.raise s v1 v2 v3 v4) := by
  unfold State.raise
  extract_lets -merge -underBinder +onlyGivenNames x0
  clear_value x0
  refine kept_ite ?_ (State.setBankOf_kept hs)
  split
  all_goals first
    | with_reducible exact State.taskFails_kept hs | with_reducible exact State.softReset_kept hs

theorem State.append_kept (hs : Kept p s) : Kept p (State.append s v1 v2) := by
  unfold State.append
  split
  all_goals first
    | with_reducible exact hs | with_reducible exact State.setCbuf_kept hs

theorem State.mapTask_kept {v2 : Task → Task} (hs : Kept p s) : Kept p (State.mapTask s v1 v2) := by
  unfold State.mapTask
  split
  all_goals first
    | with_reducible exact State.setTask_kept hs | with_reducible exact hs

theorem State.giveLoad_kept (hs : Kept p s) : Kept p (State.giveLoad s v1 v2 v3 v4) := by
  unfold State.giveLoad
  split
  all_goals first
    | with_reducible exact hs | with_reducible exact State.mapTask_kept hs

theorem State.loadWord_kept (hs : Kept p s) : Kept p (State.loadWord s v1 v2).2.2 := by
  unfold State.loadWord
  split
  · split
    all_goals first
      | with_reducible exact State.mapTask_kept hs
      | (extract_lets -merge -underBinder +onlyGivenNames x0
         have h0 : Kept p x0.2.2 := State.readWord_kept hs
         clear_value x0
         exact State.mapTask_kept hs)
  · extract_lets -merge -underBinder +onlyGivenNames x1
    have h1 : Kept p x1.2.2 := State.readWord_kept hs
    clear_value x1
    exact State.giveLoad_kept h1

theorem State.loadServed_kept (hs : Kept p s) : Kept p (State.loadServed s v1 v2 v3) := by
  unfold State.loadServed
  split
  all_goals first
    | with_reducible exact State.flyLoad_kept hs
    | (extract_lets -merge -underBinder +onlyGivenNames x0
       have h0 : Kept p x0.2.2 := State.loadWord_kept hs
       clear_value x0
       exact State.flyLoad_kept h0)

theorem State.storeServed_kept (hs : Kept p s) : Kept p (State.storeServed s v1 v2 v3) := by
  unfold State.storeServed
  exact State.writeWord_kept hs

theorem State.qRefused_kept (hs : Kept p s) : Kept p (State.qRefused s v1 v2 v3) := by
  unfold State.qRefused
  extract_lets -merge -underBinder +onlyGivenNames x0
  have h0 : Kept p x0 := kept_ite hs (State.refuseQ_kept hs)
  clear_value x0
  exact State.fly_kept h0

theorem State.ownPosted_kept (hs : Kept p s) : Kept p (State.ownPosted s v1 v2 v3 v4) := by
  unfold State.ownPosted
  split
  all_goals first
    | with_reducible exact hs
    | (refine kept_ite ?_ hs
       extract_lets -merge -underBinder +onlyGivenNames x0
       clear_value x0
       exact State.setRing_kept hs)

theorem State.qServed_kept (hs : Kept p s) : Kept p (State.qServed s v1 v2 v3 v4 v5) := by
  unfold State.qServed
  extract_lets -merge -underBinder +onlyGivenNames x0
  have h0 : ∀ z0, Kept p ((x0 z0)) := by
    intros
    unfold x0
    split
    all_goals first
      | with_reducible exact State.fly_kept hs | with_reducible exact State.qRefused_kept hs
  clear_value x0
  extract_lets -merge -underBinder +onlyGivenNames x1
  have h1 : ∀ z0, Kept p ((x1 z0)) := by
    intros
    unfold x1
    split
    all_goals first
      | with_reducible exact State.fly_kept hs | with_reducible exact State.qRefused_kept hs
  clear_value x1
  refine kept_ite (h0 _ ) ?_
  refine kept_ite (h0 _ ) ?_
  refine kept_ite (h1 _ ) ?_
  refine kept_ite (h1 _ ) ?_
  refine kept_ite ?_ (kept_getD (State.qfetch_kept hs) (State.qRefused_kept hs))
  split
  all_goals (try (rename_i e2; have h2 := (State.qpost_kept hs) _ e2))
  all_goals first
    | with_reducible exact State.ownPosted_kept (by assumption) | with_reducible exact State.qRefused_kept hs

theorem State.accessServed_kept (hs : Kept p s) : Kept p (State.accessServed s v1) := by
  unfold State.accessServed
  split
  all_goals first
    | with_reducible exact State.loadServed_kept hs | with_reducible exact State.storeServed_kept hs | with_reducible exact State.qServed_kept hs | with_reducible exact State.writeNow_kept hs | with_reducible exact State.readNow_kept hs | with_reducible exact hs

theorem State.runEnds_kept (hs : Kept p s) : Kept p (State.runEnds s v1) := by
  unfold State.runEnds
  extract_lets -merge -underBinder +onlyGivenNames x0 x1
  have h1 : Kept p x1 := State.setBankOf_kept hs
  clear_value x0 x1
  split
  all_goals first
    | with_reducible exact State.taskEnd_kept h1 | with_reducible exact kept_mk h1

theorem State.settleEnd_kept (hs : Kept p s) : Kept p (State.settleEnd s v1) := by
  unfold State.settleEnd
  exact kept_ite (State.runEnds_kept hs) hs

theorem State.serveAccess_kept (hs : Kept p s) : Kept p (State.serveAccess s v1) := by
  unfold State.serveAccess
  exact State.settleEnd_kept (State.accessServed_kept (kept_mk hs))

theorem State.mIssue_kept (hs : Kept p s) : Kept p (State.mIssue s v1 v2 v3 v4 v5 v6 v7 v8) := by
  unfold State.mIssue
  extract_lets -merge -underBinder +onlyGivenNames x0 x1 x2
  have h2 : Kept p x2 := by
    unfold x2
    split
    all_goals first
      | with_reducible exact State.setBankOf_kept hs | with_reducible exact hs
  clear_value x0 x1 x2
  exact State.fly_kept h2

theorem State.spadLoad_kept (hs : Kept p s) : Kept p (State.spadLoad s v1 v2 v3) := by
  unfold State.spadLoad
  extract_lets -merge -underBinder +onlyGivenNames x0
  have h0 : Kept p x0.2.2 := State.readWord_kept hs
  clear_value x0
  exact State.fly_kept h0

theorem State.ldIssue_kept (hs : Kept p s) : Kept p (State.ldIssue s v1 v2 v3) := by
  unfold State.ldIssue
  split
  all_goals first
    | with_reducible exact State.spadLoad_kept hs
    | (extract_lets -merge -underBinder +onlyGivenNames x0
       have h0 : Kept p x0.2 := State.xbar_kept hs
       clear_value x0
       exact kept_ite (State.loadServed_kept h0) h0)
    | (extract_lets -merge -underBinder +onlyGivenNames x1
       have h1 : Kept p x1.2 := State.windowAccess_kept hs
       clear_value x1
       exact kept_ite (State.loadServed_kept h1) h1)

theorem State.stIssue_kept (hs : Kept p s) : Kept p (State.stIssue s v1 v2 v3) := by
  unfold State.stIssue
  split
  all_goals first
    | with_reducible exact State.writeWord_kept hs
    | (refine kept_ite (State.append_kept hs) ?_
       extract_lets -merge -underBinder +onlyGivenNames x0
       have h0 : Kept p x0.2 := State.xbar_kept hs
       clear_value x0
       exact kept_ite (State.storeServed_kept h0) h0)
    | (refine kept_ite (State.append_kept hs) ?_
       extract_lets -merge -underBinder +onlyGivenNames x1
       have h1 : Kept p x1.2 := State.windowAccess_kept hs
       clear_value x1
       exact kept_ite (State.storeServed_kept h1) h1)

theorem State.ldimIssue_kept (hs : Kept p s) : Kept p (State.ldimIssue s v1 v2 v3) := by
  unfold State.ldimIssue
  extract_lets -merge -underBinder +onlyGivenNames x0 x1
  have h1 : Kept p x1.2 := State.eccMeets_kept hs
  clear_value x0 x1
  exact State.fly_kept h1

theorem State.lIssue_kept (hs : Kept p s) : Kept p (State.lIssue s v1 v2 v3) := by
  unfold State.lIssue
  split
  all_goals first
    | with_reducible exact State.fly_kept hs | with_reducible exact State.ldIssue_kept (State.fly_kept hs) | with_reducible exact State.stIssue_kept (State.fly_kept hs) | with_reducible exact State.ldimIssue_kept hs

theorem State.qIssueAt_kept (hs : Kept p s) : Kept p (State.qIssueAt s v1 v2 v3 v4 v5) := by
  unfold State.qIssueAt
  extract_lets -merge -underBinder +onlyGivenNames x0
  have h0 : Kept p x0.2 := State.xbar_kept hs
  clear_value x0
  exact kept_ite (State.qServed_kept h0) h0

theorem State.qIssue_kept (hs : Kept p s) : Kept p (State.qIssue s v1 v2) := by
  unfold State.qIssue
  split
  all_goals first
    | with_reducible exact State.qIssueAt_kept hs | with_reducible exact kept_ite (State.append_kept hs) (State.qIssueAt_kept hs) | with_reducible exact State.fire_kept hs

theorem State.linkOf_kept (hs : Kept p s) : Kept p (State.linkOf s v1 v2).2 := by
  unfold State.linkOf
  extract_lets -merge -underBinder +onlyGivenNames x0
  clear_value x0
  split
  · exact State.draw_kept hs
  · exact hs

theorem State.bIssue_kept (hs : Kept p s) : Kept p (State.bIssue s v1 v2 v3 v4) := by
  cases v4
  case call => exact State.fly_kept (State.linkOf_kept hs)
  case bdec => exact State.fly_kept hs
  case rett => exact State.setBankOf_kept hs
  case tend => exact State.setBankOf_kept hs
  all_goals exact hs

theorem State.sylIssue_kept (hs : Kept p s) : Kept p (State.sylIssue s v1 v2 v3 v4) := by
  unfold State.sylIssue
  split
  all_goals first
    | with_reducible exact State.fly_kept hs | with_reducible exact State.mIssue_kept hs | with_reducible exact State.lIssue_kept hs | with_reducible exact State.bIssue_kept hs | with_reducible exact State.qIssue_kept hs

theorem State.compareCycle_kept (hs : Kept p s) : Kept p (State.compareCycle s v1 v2) := by
  unfold State.compareCycle
  split
  all_goals first
    | with_reducible exact State.detectSplit_kept hs | with_reducible exact hs

theorem State.fetchCounts_kept (hs : Kept p s) : Kept p (State.fetchCounts s v1 v2 v3) := by
  unfold State.fetchCounts
  exact kept_foldl (fun _ _ _ => State.eccMeets_kept (by assumption)) hs

theorem State.bundleRuns_kept (hs : Kept p s) : Kept p (State.bundleRuns s v1 v2) := by
  unfold State.bundleRuns
  extract_lets -merge -underBinder +onlyGivenNames x0 x1 x2
  have h2 : Kept p x2 := State.compareCycle_kept hs
  clear_value x0 x1 x2
  extract_lets -merge -underBinder +onlyGivenNames x3
  have h3 : Kept p x3 := kept_foldl (fun _ _ _ => State.sylIssue_kept (by assumption)) h2
  clear_value x3
  extract_lets -merge -underBinder +onlyGivenNames x4 x5 x6
  have h6 : Kept p x6 := kept_ite h3 (State.setBankOf_kept h3)
  clear_value x4 x5 x6
  exact kept_ite (State.settleEnd_kept (State.setBankOf_kept h6)) h6

theorem State.refusedStore_kept (hs : Kept p s) : Kept p (State.refusedStore s v1) := by
  unfold State.refusedStore
  refine kept_ite ?_ hs
  split
  all_goals first
    | with_reducible exact State.rejectIn_kept hs | with_reducible exact hs

theorem State.issueFetched_kept (hs : Kept p s) : Kept p (State.issueFetched s v1 v2) := by
  unfold State.issueFetched
  extract_lets -merge -underBinder +onlyGivenNames x0 x1
  clear_value x0 x1
  refine kept_ite (State.setEngine_kept hs) ?_
  split
  all_goals first
    | with_reducible exact State.raise_kept (State.compareCycle_kept (State.refusedStore_kept hs)) | with_reducible exact State.bundleRuns_kept (State.setEngine_kept hs)

theorem State.runCycle_kept (hs : Kept p s) : Kept p (State.runCycle s v1 v2) := by
  unfold State.runCycle
  extract_lets -merge -underBinder +onlyGivenNames x0 x1 x2 x3
  clear_value x0 x1 x2 x3
  split
  all_goals first
    | (extract_lets -merge -underBinder +onlyGivenNames x4
       have h4 : Kept p x4 := State.setBankOf_kept hs
       clear_value x4
       exact kept_ite (State.issueFetched_kept h4) (State.compareCycle_kept h4))
    | (extract_lets -merge -underBinder +onlyGivenNames x5
       have h5 : Kept p x5 := State.setBankOf_kept hs
       clear_value x5
       exact kept_ite (State.issueFetched_kept h5) (State.compareCycle_kept h5))
    | (extract_lets -merge -underBinder +onlyGivenNames x6
       clear_value x6
       exact State.raise_kept (State.compareCycle_kept (State.setBankOf_kept hs)))

theorem State.countCycle_kept (hs : Kept p s) : Kept p (State.countCycle s v1) := by
  unfold State.countCycle
  extract_lets -merge -underBinder +onlyGivenNames x0
  clear_value x0
  exact State.setBankOf_kept hs

theorem State.cycleOf_kept (hs : Kept p s) : Kept p (State.cycleOf s v1 v2 v3) := by
  unfold State.cycleOf
  refine kept_ite (State.countCycle_kept hs) ?_
  extract_lets -merge -underBinder +onlyGivenNames x0 x1
  have h1 : Kept p x1 := kept_ite (State.fetchCounts_kept hs) hs
  clear_value x0 x1
  extract_lets -merge -underBinder +onlyGivenNames x2 x3
  have h3 : Kept p x3 := State.runCycle_kept h1
  clear_value x2 x3
  exact kept_ite (State.setBankOf_kept h3) h3

theorem bundleIssueEffect_kept (hs : Kept p s) : Kept p (bundleIssueEffect v0 v1 s) := by
  unfold bundleIssueEffect
  extract_lets -merge -underBinder +onlyGivenNames x0
  have h0 : Kept p x0 := State.cycles_kept hs
  clear_value x0
  split
  all_goals first
    | with_reducible exact h0
    | (extract_lets -merge -underBinder +onlyGivenNames x1
       clear_value x1
       exact State.cycleOf_kept h0)

theorem issueOne_kept (hs : Kept p s) : Kept p (issueOne v0 v1 v2 s) := by
  unfold issueOne
  extract_lets -merge -underBinder +onlyGivenNames x0
  have h0 : Kept p x0 := State.cycles_kept hs
  clear_value x0
  split
  all_goals first
    | with_reducible exact h0 | with_reducible exact State.cycleOf_kept h0

theorem dataTrapEffect_kept (hs : Kept p s) : Kept p (dataTrapEffect v0 v1 s) := by
  unfold dataTrapEffect
  split
  all_goals first
    | with_reducible exact hs | with_reducible exact kept_ite hs (bundleIssueEffect_kept hs)

theorem engineEccWriteBackEffect_kept (hs : Kept p s) : Kept p (engineEccWriteBackEffect v0 v1 v2 s) := by
  unfold engineEccWriteBackEffect
  exact kept_mk hs

theorem e0SvcEffect_kept (hs : Kept p s) : Kept p (e0SvcEffect v0 s) := by
  unfold e0SvcEffect
  refine State.onEvent_kept hs ?_
  intros
  extract_lets -merge -underBinder +onlyGivenNames x0
  have h0 : Kept p x0 := kept_ite (State.setFlag_kept (by assumption)) (by assumption)
  clear_value x0
  extract_lets -merge -underBinder +onlyGivenNames x1
  have h1 : Kept p x1 := State.setFlag_kept h0
  clear_value x1
  exact kept_ite (kept_mk h1) h1

theorem debugResumeEffect_kept (hs : Kept p s) : Kept p (debugResumeEffect v0 v1 s) := by
  unfold debugResumeEffect
  refine kept_ite (State.errorTo_kept hs) ?_
  extract_lets -merge -underBinder +onlyGivenNames x0
  have h0 : Kept p x0 := kept_mk hs
  clear_value x0
  extract_lets -merge -underBinder +onlyGivenNames x1
  clear_value x1
  exact kept_ite (State.setEngine_kept h0) h0

theorem offSlotServedEffect_kept (hs : Kept p s) : Kept p (offSlotServedEffect v0 v1 s) := by
  unfold offSlotServedEffect
  extract_lets -merge -underBinder +onlyGivenNames x0
  have h0 : Kept p x0 := State.cycles_kept hs
  clear_value x0
  split
  all_goals first
    | with_reducible exact h0 | with_reducible exact kept_ite (kept_foldl (fun _ _ _ => State.serveAccess_kept (by assumption)) (State.takeBank_kept h0)) h0

theorem State.timeOut_kept (hs : Kept p s) : Kept p (State.timeOut s v1) := by
  have h0 : Kept p { s with waits := s.waits.erase v1 } := kept_mk hs
  rw [State.timeOut]
  refine State.settleEnd_kept ?_
  cases v1.kind
  all_goals first
    | with_reducible exact State.flyLoad_kept h0
    | with_reducible exact State.fly_kept h0
    | with_reducible exact State.errorTo_kept h0
    | exact h0

theorem crossbarTimeoutEffect_kept (hs : Kept p s) : Kept p (crossbarTimeoutEffect v0 s) := by
  unfold crossbarTimeoutEffect
  split
  all_goals first
    | with_reducible exact hs | with_reducible exact kept_ite hs (kept_foldl (fun _ _ _ => State.timeOut_kept (by assumption)) hs)

theorem State.drainRefused_kept (hs : Kept p s) : Kept p (State.drainRefused s v1) := by
  unfold State.drainRefused
  exact State.bump_kept (State.setFlag_kept hs)

theorem State.drainPerform_kept (hs : Kept p s) : Kept p (State.drainPerform s v1 v2) := by
  unfold State.drainPerform
  split
  all_goals first
    | with_reducible exact State.writeWord_kept hs | with_reducible exact kept_getD (State.qpost_kept hs) (State.drainRefused_kept hs) | with_reducible exact kept_getD (State.qfetch_kept hs) (State.drainRefused_kept hs)

theorem State.drainPop_kept (hs : Kept p s) : Kept p (State.drainPop s v1 v2) := by
  unfold State.drainPop
  extract_lets -merge -underBinder +onlyGivenNames x0 x1
  have h1 : Kept p x1 := State.setCbuf_kept hs
  clear_value x0 x1
  exact kept_ite (State.drainDone_kept h1) h1

theorem State.drainOffSlot_kept (hs : Kept p s) : Kept p (State.drainOffSlot s v1 v2) := by
  unfold State.drainOffSlot
  extract_lets -merge -underBinder +onlyGivenNames x0 x1
  clear_value x0 x1
  exact State.offSlot_kept hs

theorem State.drainXbar_kept (hs : Kept p s) : Kept p (State.drainXbar s v1 v2 v3 v4) := by
  unfold State.drainXbar
  refine kept_ite hs ?_
  extract_lets -merge -underBinder +onlyGivenNames x0
  extract_lets -merge -underBinder +onlyGivenNames x1 x2
  have h1 : Kept p x1 := State.takeBank_kept hs
  have h2 : Kept p x2 := kept_mk h1
  clear_value x1 x2
  extract_lets -merge -underBinder +onlyGivenNames x3
  have h3 : Kept p x3 := kept_ite (State.drainOffSlot_kept h2) h2
  clear_value x3
  exact State.drainPop_kept (State.drainPerform_kept h3)

theorem drainEntryEffect_kept (hs : Kept p s) : Kept p (drainEntryEffect v0 v1 s) := by
  unfold drainEntryEffect
  extract_lets -merge -underBinder +onlyGivenNames x0
  have h0 : Kept p x0 := State.cycles_kept hs
  clear_value x0
  split
  all_goals first
    | with_reducible exact h0
    | (split
       all_goals first
         | with_reducible exact State.drainDone_kept h0
         | (extract_lets -merge -underBinder +onlyGivenNames x1 x2 x3
            have h3 : Kept p x3.2 := State.reach_kept h0
            clear_value x1 x2 x3
            split
            all_goals first
              | with_reducible exact h3 | with_reducible exact kept_ite (State.drainXbar_kept h3) (State.drainPop_kept (State.drainPerform_kept h3))))

theorem drainEntryTimeoutEffect_kept (hs : Kept p s) : Kept p (drainEntryTimeoutEffect v0 s) := by
  unfold drainEntryTimeoutEffect
  split
  all_goals first
    | with_reducible exact hs
    | (split
       all_goals first
         | with_reducible exact State.drainDone_kept hs
         | (extract_lets -merge -underBinder +onlyGivenNames x0
            clear_value x0
            exact kept_ite hs (State.drainPop_kept (State.drainOffSlot_kept (State.drainOffSlot_kept hs)))))

end Sys2Proof.Machine
end

