-- ==== Sys2Proof/Laws/KeptMoves.lean ====
section
/-!
SUPPORT. Every operation of Machine/Moves.lean leaves the queue and keeps the canonical form of the memories.
-/
namespace Sys2Proof.Machine

variable {p : List Instr} {s t : State}

theorem State.showPhase_kept (hs : Kept p s) : Kept p (State.showPhase s v1 v2) := by
  unfold State.showPhase
  extract_lets -merge -underBinder +onlyGivenNames x0
  clear_value x0
  exact State.wr_kept (State.wr_kept (State.setFlag_kept hs))

theorem State.inPhase_kept (hs : Kept p s) : Kept p (State.inPhase s v1 v2) := by
  unfold State.inPhase
  exact State.showPhase_kept (kept_mk hs)

theorem State.domainMonitor_kept (hs : Kept p s) : Kept p (State.domainMonitor s v1) := by
  unfold State.domainMonitor
  split
  all_goals first
    | with_reducible exact State.monitorsDone_kept hs | with_reducible exact hs

theorem transitionStartEffect_kept (hs : Kept p s) : Kept p (transitionStartEffect s) := by
  unfold transitionStartEffect
  refine kept_ite hs ?_
  split
  all_goals first
    | with_reducible exact hs
    | (extract_lets -merge -underBinder +onlyGivenNames x0
       have h0 : Kept p x0 := State.setQueue_kept hs
       clear_value x0
       extract_lets -merge -underBinder +onlyGivenNames x1 x2
       clear_value x1 x2
       refine kept_ite (State.domainMonitor_kept h0) ?_
       extract_lets -merge -underBinder +onlyGivenNames x3 x4
       have h4 : Kept p x4 := kept_mk h0
       clear_value x3 x4
       extract_lets -merge -underBinder +onlyGivenNames x5
       have h5 : Kept p x5 := kept_ite (State.setDomState_kept h4) h4
       clear_value x5
       extract_lets -merge -underBinder +onlyGivenNames x6
       have h6 : Kept p x6 := kept_foldl (fun _ _ _ => State.setBankState_kept (by assumption)) h5
       clear_value x6
       refine kept_ite ?_ (kept_ite (State.inPhase_kept h6) (State.inPhase_kept h6))
       extract_lets -merge -underBinder +onlyGivenNames x7 x8
       have h8 : Kept p x8 := kept_mk h6
       clear_value x7 x8
       exact State.xoStart_kept (State.inPhase_kept h8))

theorem State.sealBanks_kept (hs : Kept p s) : Kept p (State.sealBanks s v1) := by
  unfold State.sealBanks
  refine kept_ite hs ?_
  extract_lets -merge -underBinder +onlyGivenNames x0
  clear_value x0
  exact kept_foldl (fun _ _ _ => kept_mk (by assumption)) (State.setWord_kept hs)

theorem State.checkSeal_kept (hs : Kept p s) : Kept p (State.checkSeal s v1 v2) := by
  unfold State.checkSeal
  extract_lets -merge -underBinder +onlyGivenNames x0
  have h0 : Kept p x0 := State.bumpBy_kept hs
  clear_value x0
  exact kept_ite h0 (State.loseBank_kept (State.breach_kept h0))

theorem State.bankAwake_kept (hs : Kept p s) : Kept p (State.bankAwake s v1 v2) := by
  unfold State.bankAwake
  have h0 := State.setBankState_kept (v1 := v1.1) (v2 := 2) hs
  refine kept_ite (State.checkSeal_kept h0) ?_
  have h := State.setBankLost_kept (v1 := v1.1) (v2 := false) h0
  simp only [Kept, State.memWf, Bool.and_eq_true] at h h0 ⊢
  exact ⟨h.1, ⟨⟨h.2.1.1.1, Memory.wf_filter _ h0.2.1.1.2⟩, h.2.1.2⟩, h.2.2⟩

theorem State.memoryStep_kept (hs : Kept p s) : Kept p (State.memoryStep s v1) := by
  unfold State.memoryStep
  extract_lets -merge -underBinder +onlyGivenNames x0
  extract_lets -merge -underBinder +onlyGivenNames x1 x2 x3
  have h1 : Kept p x1 := kept_foldl (fun _ _ _ => State.bankAwake_kept (by assumption)) hs
  have h3 : Kept p x3 := kept_ite (kept_mk h1) hs
  clear_value x1 x2 x3
  extract_lets -merge -underBinder +onlyGivenNames x4
  have h4 : Kept p x4 := kept_ite (State.vaultLoad_kept h3) h3
  clear_value x4
  exact kept_ite (State.headSearch_kept h4) h4

theorem State.logicStep_kept (hs : Kept p s) : Kept p (State.logicStep s v1) := by
  unfold State.logicStep
  extract_lets -merge -underBinder +onlyGivenNames x0
  have h0 : Kept p x0 := by
    unfold x0
    split
    all_goals first
      | with_reducible exact kept_ite (kept_foldl (fun _ _ _ => State.setWord_kept (by assumption)) hs) hs | with_reducible exact hs
  clear_value x0
  extract_lets -merge -underBinder +onlyGivenNames x1
  clear_value x1
  exact kept_ite (State.setFlag_kept h0) (kept_ite (State.setFlag_kept h0) h0)

theorem State.countersFromReserve_kept (hs : Kept p s) : Kept p (State.countersFromReserve s) := by
  unfold State.countersFromReserve
  exact kept_foldl (fun _ _ _ => State.fcRenew_kept (State.wrw_kept (by assumption))) hs

theorem State.wokenFromOff_kept (hs : Kept p s) : Kept p (State.wokenFromOff s v1) := by
  unfold State.wokenFromOff
  exact kept_ite (kept_mk hs) (kept_ite (State.countersFromReserve_kept hs) hs)

theorem State.domainReady_kept (hs : Kept p s) : Kept p (State.domainReady s v1) := by
  unfold State.domainReady
  extract_lets -merge -underBinder +onlyGivenNames x0
  extract_lets -merge -underBinder +onlyGivenNames x1
  have h1 : Kept p x1 := State.fire_kept (State.endTransition_kept (State.setDomState_kept hs))
  clear_value x1
  extract_lets -merge -underBinder +onlyGivenNames x2
  have h2 : Kept p x2 := State.domainMonitor_kept h1
  clear_value x2
  extract_lets -merge -underBinder +onlyGivenNames x3
  have h3 : Kept p x3 := kept_ite (State.wokenFromOff_kept h2) h2
  clear_value x3
  extract_lets -merge -underBinder +onlyGivenNames x4
  have h4 : Kept p x4 := kept_ite (State.wflRead_kept h3) h3
  clear_value x4
  exact State.wakeLevels_kept (State.applyAtWake_kept h4)

theorem State.wakeOver_kept (hs : Kept p s) : Kept p (State.wakeOver s v1) := by
  unfold State.wakeOver
  extract_lets -merge -underBinder +onlyGivenNames x0
  have h0 : Kept p x0 := State.logicStep_kept hs
  clear_value x0
  exact kept_ite (State.inPhase_kept h0) (State.domainReady_kept (kept_ite (kept_mk h0) h0))

theorem wakeStepReadyEffect_kept (hs : Kept p s) : Kept p (wakeStepReadyEffect s) := by
  unfold wakeStepReadyEffect
  split
  all_goals first
    | with_reducible exact kept_ite hs (kept_ite (State.inPhase_kept (State.memoryStep_kept hs)) (kept_ite (State.inPhase_kept hs) (State.wakeOver_kept hs))) | with_reducible exact hs

theorem prepareDoneEffect_kept (hs : Kept p s) : Kept p (prepareDoneEffect v0 s) := by
  unfold prepareDoneEffect
  split
  all_goals first
    | with_reducible exact hs
    | (refine kept_ite hs ?_
       split
       all_goals first
         | with_reducible exact State.refuseEntry_kept hs
         | (refine kept_ite (State.refuseEntry_kept hs) ?_
            extract_lets -merge -underBinder +onlyGivenNames x0
            have h0 : Kept p x0 := State.inPhase_kept hs
            clear_value x0
            exact kept_mk h0))

theorem State.engineRetained_kept (hs : Kept p s) : Kept p (State.engineRetained s v1) := by
  unfold State.engineRetained
  extract_lets -merge -underBinder +onlyGivenNames x0 x1 x2
  have h2 : Kept p x2 := State.setEngine_kept hs
  clear_value x0 x1 x2
  exact kept_ite (kept_mk h2) h2

theorem State.domRetained_kept (hs : Kept p s) : Kept p (State.domRetained s v1) := by
  unfold State.domRetained
  extract_lets -merge -underBinder +onlyGivenNames x0
  have h0 : Kept p x0 := State.clearGates_kept (State.setDomState_kept hs)
  clear_value x0
  exact kept_ite (State.engineRetained_kept h0) h0

theorem State.ramEntry_kept (hs : Kept p s) : Kept p (State.ramEntry s v1) := by
  unfold State.ramEntry
  extract_lets -merge -underBinder +onlyGivenNames x0
  have h0 : Kept p x0 := kept_foldl (fun _ _ _ => kept_ite (State.bankOff_kept (by assumption)) (State.setBankState_kept (by assumption))) hs
  clear_value x0
  extract_lets -merge -underBinder +onlyGivenNames x1 x2
  have h2 : Kept p x2 := State.sealBanks_kept h0
  clear_value x1 x2
  exact kept_ite h2 (kept_ite (State.setDomState_kept (State.loseBlocks_kept h2)) (State.setDomState_kept h2))

theorem State.closedAccess_kept (hs : Kept p s) : Kept p (State.closedAccess s v1) := by
  have h0 : Kept p { s with waits := s.waits.erase v1 } := kept_mk hs
  rw [State.closedAccess]
  cases v1.kind
  all_goals first
    | with_reducible exact State.serveAccess_kept hs
    | with_reducible exact State.errorTo_kept h0
    | exact kept_mk (State.errorTo_kept h0)

theorem State.rewake_kept (hs : Kept p s) : Kept p (State.rewake s v1) := by
  unfold State.rewake
  extract_lets -merge -underBinder +onlyGivenNames x0
  have h0 : Kept p x0 := kept_foldl (fun _ _ _ => kept_ite (State.closedAccess_kept (by assumption)) (State.wakeFor_kept (by assumption))) hs
  clear_value x0
  extract_lets -merge -underBinder +onlyGivenNames x1
  clear_value x1
  exact kept_foldl (fun _ _ _ => State.wakeFor_kept (by assumption)) (kept_mk h0)

theorem State.jnlRewake_kept (hs : Kept p s) : Kept p (State.jnlRewake s v1) := by
  unfold State.jnlRewake
  exact kept_ite (State.wakeFor_kept hs) hs

theorem State.runLatched_kept (hs : Kept p s) : Kept p (State.runLatched s v1 v2) := by
  unfold State.runLatched
  exact kept_ite (State.setQueue_kept hs) hs

theorem entryCompleteEffect_kept (hs : Kept p s) : Kept p (entryCompleteEffect s) := by
  unfold entryCompleteEffect
  split
  all_goals first
    | with_reducible exact hs
    | (extract_lets -merge -underBinder +onlyGivenNames x0 x1
       have h1 : Kept p x1 := kept_ite (State.ramEntry_kept hs) (kept_ite (State.domOff_kept hs) (State.domRetained_kept hs))
       clear_value x0 x1
       extract_lets -merge -underBinder +onlyGivenNames x2
       have h2 : Kept p x2 := State.domainMonitor_kept (State.endTransition_kept h1)
       clear_value x2
       extract_lets -merge -underBinder +onlyGivenNames x3
       have h3 : Kept p x3 := State.runLatched_kept (State.jnlRewake_kept (State.rewake_kept h2))
       clear_value x3
       exact State.xoStop_kept (State.wakeLevels_kept h3))

theorem State.wokenAccess_kept (hs : Kept p s) : Kept p (State.wokenAccess s v1) := by
  unfold State.wokenAccess
  extract_lets -merge -underBinder +onlyGivenNames x0
  clear_value x0
  exact kept_ite (kept_mk hs) (State.serveAccess_kept hs)

theorem State.blocksGoOn_kept (hs : Kept p s) : Kept p (State.blocksGoOn s v1) := by
  unfold State.blocksGoOn
  refine kept_ite ?_ (kept_ite (State.resumeSeals_kept (State.lateAcks_kept hs)) hs)
  extract_lets -merge -underBinder +onlyGivenNames x0
  have h0 : Kept p x0 := State.settleEn_kept (State.resumeSeals_kept (State.lateCompletions_kept (State.lateOctets_kept hs)))
  clear_value x0
  exact State.enSettle_kept (State.enSettle_kept h0)

theorem demandWakeCompleteEffect_kept (hs : Kept p s) : Kept p (demandWakeCompleteEffect v0 s) := by
  unfold demandWakeCompleteEffect
  extract_lets -merge -underBinder +onlyGivenNames x0
  have h0 : Kept p x0 := kept_foldl (fun _ _ _ => State.wokenAccess_kept (by assumption)) hs
  clear_value x0
  exact kept_ite (State.blocksGoOn_kept h0) h0

theorem State.bankImage_kept (hs : Kept p s) : ∀ r, State.bankImage s v1 = some r → Kept p r.2 := by
  unfold State.bankImage
  extract_lets -merge +onlyGivenNames x0 x1
  clear_value x0 x1
  split
  · exact kept_some2 hs
  · split
    · split
      · extract_lets -merge +onlyGivenNames x2
        clear_value x2
        exact kept_some2 hs
      · exact kept_none2
    · split
      · extract_lets -merge +onlyGivenNames x3
        clear_value x3
        exact kept_some2 (kept_mk hs)
      · exact kept_none2

theorem State.rebuild_kept (hs : Kept p s) : Kept p (State.rebuild s v1) := by
  unfold State.rebuild
  refine kept_ite hs ?_
  split
  · exact hs
  · rename_i ws t e
    have h0 : Kept p t := State.bankImage_kept hs _ e
    have h := State.setBankLost_kept (v1 := v1) (v2 := false) h0
    have hn := Memory.wf_from zeroWord (0x100000 + 0x8000 * v1) (ws.take 0x8000)
    simp only [Kept, State.memWf, Bool.and_eq_true] at h h0 ⊢
    refine ⟨h.1, ⟨⟨h.2.1.1.1, ?_⟩, h.2.1.2⟩, h.2.2⟩
    have hl : (ws.take 0x8000).length ≤ 0x8000 := List.length_take_le ..
    refine Memory.wf_append (Memory.wf_append (Memory.wf_filter _ h0.2.1.1.2) hn.1 ?_) (Memory.wf_filter _ h0.2.1.1.2) ?_
    · intro x hx y hy
      have h1 := (List.mem_filter.1 hx).2
      have h2 := hn.2 y hy
      simp only [decide_eq_true_eq] at h1
      omega
    · intro x hx y hy
      have h2 := (List.mem_filter.1 hy).2
      simp only [decide_eq_true_eq] at h2
      rcases List.mem_append.1 hx with hx | hx
      · have h1 := (List.mem_filter.1 hx).2
        simp only [decide_eq_true_eq] at h1
        omega
      · have h1 := hn.2 x hx
        omega

theorem bankRebuildEffect_kept (hs : Kept p s) : Kept p (bankRebuildEffect s) := by
  unfold bankRebuildEffect
  exact kept_ite (kept_foldl (fun _ _ _ => State.rebuild_kept (by assumption)) hs) hs

end Sys2Proof.Machine
end

