-- ==== Sys2Proof/Laws/KeptResponses.lean ====
section
/-!
SUPPORT. Every operation of Machine/Responses.lean leaves the queue and keeps the canonical form of the memories.
-/
namespace Sys2Proof.Machine

variable {p : List Instr} {s t : State}

theorem State.takeHead_kept (hs : Kept p s) : Kept p (State.takeHead s) := by
  unfold State.takeHead
  extract_lets -merge -underBinder +onlyGivenNames x0 x1 x2
  have h2 : Kept p x2 := kept_getD (State.qfetch_kept hs) hs
  clear_value x0 x1 x2
  extract_lets -merge -underBinder +onlyGivenNames x3 x4
  have h4 : Kept p x4 := kept_mk h2
  clear_value x3 x4
  split
  all_goals first
    | with_reducible exact State.rxFree_kept h4 | with_reducible exact h4

theorem State.serviceOctets_kept (hs : Kept p s) : Kept p (State.serviceOctets s v1 v2) := by
  unfold State.serviceOctets
  extract_lets -merge -underBinder +onlyGivenNames x0 x1
  have h1 : Kept p x1 := State.portWake_kept hs
  clear_value x0 x1
  exact kept_ite (State.putOctets_kept h1) (kept_mk h1)

theorem State.sendWire_kept (hs : Kept p s) : ∀ r, State.sendWire s v1 = some r → Kept p r := by
  unfold State.sendWire
  split
  · exact kept_none
  · split
    all_goals first
      | with_reducible exact kept_none
      | (extract_lets -merge +onlyGivenNames x0 x1 x2
         clear_value x0 x1 x2
         exact kept_some (State.rspCtl_kept (State.serviceOctets_kept hs)))

theorem State.sendMesh_kept (hs : Kept p s) : ∀ r, State.sendMesh s v1 v2 v3 = some r → Kept p r := by
  unfold State.sendMesh
  split
  · exact kept_none
  · split
    all_goals (try (rename_i e0; have h0 := (State.qpost_kept hs) _ e0))
    all_goals first
      | with_reducible exact kept_none
      | (extract_lets -merge +onlyGivenNames x1
         extract_lets -merge +onlyGivenNames x2
         have h2 : Kept p x2.2 := State.draw_kept (by assumption)
         clear_value x2
         extract_lets -merge +onlyGivenNames x3
         have h3 : Kept p x3.2 := State.draw_kept h2
         clear_value x3
         extract_lets -merge +onlyGivenNames x4 x5 x6 x7 x8 x9
         clear_value x4 x5 x6 x7 x8 x9
         exact kept_some (State.sramPuts_kept (State.putOctets_kept h3)))

theorem State.sendResponse_kept (hs : Kept p s) : ∀ r, State.sendResponse s v1 = some r → Kept p r := by
  unfold State.sendResponse
  split
  all_goals first
    | with_reducible exact State.sendWire_kept hs | with_reducible exact State.sendMesh_kept hs | with_reducible exact kept_some hs

theorem State.flushResponses_kept (hs : Kept p s) : Kept p (State.flushResponses s) := by
  unfold State.flushResponses
  refine kept_foldl ?_ hs
  intros
  split
  all_goals (try (rename_i e0; have h0 := (State.sendResponse_kept (by assumption)) _ e0))
  all_goals first
    | with_reducible exact kept_mk (by assumption) | with_reducible exact by assumption

theorem State.respond_kept (hs : Kept p s) : Kept p (State.respond s v1) := by
  unfold State.respond
  exact State.flushResponses_kept (kept_mk hs)

theorem State.refuse_kept (hs : Kept p s) : Kept p (State.refuse s v1 v2) := by
  unfold State.refuse
  exact State.respond_kept hs

theorem State.answer_kept (hs : Kept p s) : Kept p (State.answer s v1 v2) := by
  unfold State.answer
  exact State.respond_kept hs

theorem State.answerCmd_kept (hs : Kept p s) : Kept p (State.answerCmd s v1 v2 v3) := by
  unfold State.answerCmd
  exact State.respond_kept hs

end Sys2Proof.Machine
end

