-- ==== Sys2Proof/Laws/KeptUpdate.lean ====
section
/-!
SUPPORT. Every operation of Machine/Update.lean leaves the queue and keeps the canonical form of the memories.
-/
namespace Sys2Proof.Machine

variable {p : List Instr} {s t : State}

theorem State.outcome_kept (hs : Kept p s) : Kept p (State.outcome s v1 v2 v3 v4 v5) := by
  unfold State.outcome
  exact State.jnlService_kept hs

theorem State.execCommits_kept (hs : Kept p s) : Kept p (State.execCommits s v1 v2) := by
  unfold State.execCommits
  exact kept_mk hs

theorem State.finishExec_kept (hs : Kept p s) : Kept p (State.finishExec s v1 v2 v3) := by
  unfold State.finishExec
  split
  all_goals first
    | with_reducible exact hs
    | (extract_lets -merge -underBinder +onlyGivenNames x0 x1 x2
       have h2 : Kept p x2 := kept_mk hs
       clear_value x0 x1 x2
       exact State.outcome_kept h2)

theorem State.answerExec_kept (hs : Kept p s) : Kept p (State.answerExec s v1 v2 v3) := by
  unfold State.answerExec
  split
  all_goals first
    | with_reducible exact hs | with_reducible exact State.answerCmd_kept hs

theorem State.updateFails_kept (hs : Kept p s) : Kept p (State.updateFails s v1 v2) := by
  unfold State.updateFails
  exact State.updateEntry_kept (kept_mk hs)

theorem State.loadSheet_kept (hs : Kept p s) : Kept p (State.loadSheet s) := by
  unfold State.loadSheet
  extract_lets -merge -underBinder +onlyGivenNames x0
  have h0 : Kept p x0 := State.wrw_kept hs
  clear_value x0
  extract_lets -merge -underBinder +onlyGivenNames x1
  have h1 : Kept p x1 := kept_foldl (fun _ _ _ => State.setWord_kept (State.setWord_kept (State.setWord_kept (by assumption)))) h0
  clear_value x1
  extract_lets -merge -underBinder +onlyGivenNames x2
  clear_value x2
  exact kept_mk h1

theorem State.askVault_kept (hs : Kept p s) : Kept p (State.askVault s v1) := by
  unfold State.askVault
  exact kept_mk hs

theorem State.openFails_kept (hs : Kept p s) : Kept p (State.openFails s v1 v2) := by
  unfold State.openFails
  exact State.finishExec_kept (State.answerExec_kept (State.updateFails_kept hs))

theorem State.openStart_kept (hs : Kept p s) : Kept p (State.openStart s) := by
  unfold State.openStart
  extract_lets -merge -underBinder +onlyGivenNames x0 x1
  clear_value x0 x1
  split
  all_goals first
    | with_reducible exact State.openFails_kept hs | with_reducible exact State.askVault_kept hs

theorem State.openEnd_kept (hs : Kept p s) : Kept p (State.openEnd s v1) := by
  unfold State.openEnd
  refine kept_ite hs ?_
  refine kept_ite (State.openFails_kept hs) ?_
  extract_lets -merge -underBinder +onlyGivenNames x0 x1 x2
  have h2 : Kept p x2 := kept_mk hs
  clear_value x0 x1 x2
  extract_lets -merge -underBinder +onlyGivenNames x3
  have h3 : Kept p x3 := State.updateEntry_kept (State.putStaged_kept h2)
  clear_value x3
  exact State.finishExec_kept (State.answerExec_kept (State.execCommits_kept h3))

theorem State.putChunk_kept (hs : Kept p s) : Kept p (State.putChunk s v1) := by
  unfold State.putChunk
  extract_lets -merge -underBinder +onlyGivenNames x0
  have h0 : Kept p x0 := State.putStaged_kept hs
  clear_value x0
  exact kept_mk h0

theorem State.closeStart_kept (hs : Kept p s) : Kept p (State.closeStart s) := by
  unfold State.closeStart
  extract_lets -merge -underBinder +onlyGivenNames x0
  clear_value x0
  split
  all_goals first
    | with_reducible exact State.finishExec_kept (State.answerExec_kept (State.updateFails_kept hs))
    | (extract_lets -merge -underBinder +onlyGivenNames x1 x2
       have h2 : Kept p x2 := State.updateEntry_kept (kept_mk hs)
       clear_value x1 x2
       exact State.finishExec_kept (State.answerExec_kept (State.execCommits_kept h2)))

theorem State.armSwitch_kept (hs : Kept p s) : Kept p (State.armSwitch s v1) := by
  unfold State.armSwitch
  extract_lets -merge -underBinder +onlyGivenNames x0
  have h0 : Kept p x0 := State.setWord_kept (State.setWord_kept hs)
  clear_value x0
  exact State.armWake_kept h0

theorem State.disarmSwitch_kept (hs : Kept p s) : Kept p (State.disarmSwitch s) := by
  unfold State.disarmSwitch
  exact State.setFlag_kept hs

theorem State.activateStart_kept (hs : Kept p s) : Kept p (State.activateStart s v1) := by
  unfold State.activateStart
  extract_lets -merge -underBinder +onlyGivenNames x0 x1 x2
  clear_value x0 x1 x2
  split
  all_goals first
    | with_reducible exact State.finishExec_kept (State.answerExec_kept (State.updateFails_kept hs))
    | (extract_lets -merge -underBinder +onlyGivenNames x3
       extract_lets -merge -underBinder +onlyGivenNames x4 x5
       have h5 : Kept p x5 := kept_mk hs
       clear_value x4 x5
       extract_lets -merge -underBinder +onlyGivenNames x6
       have h6 : Kept p x6 := State.answerExec_kept (State.updateEntry_kept h5)
       clear_value x6
       exact kept_ite h6 (State.armSwitch_kept h6))

theorem State.measureHeader_kept (hs : Kept p s) : Kept p (State.measureHeader s v1) := by
  unfold State.measureHeader
  exact State.extend_kept hs

theorem activationStartEffect_kept (hs : Kept p s) : Kept p (activationStartEffect s) := by
  unfold activationStartEffect
  refine kept_ite hs ?_
  extract_lets -merge -underBinder +onlyGivenNames x0
  clear_value x0
  refine kept_ite (State.finishExec_kept (State.updateFails_kept (State.disarmSwitch_kept (kept_mk hs)))) ?_
  extract_lets -merge -underBinder +onlyGivenNames x1 x2
  have h2 : Kept p x2 := State.updateEntry_kept (kept_mk hs)
  clear_value x1 x2
  exact State.measureHeader_kept (State.execCommits_kept h2)

theorem State.copySection_kept (hs : Kept p s) : Kept p (State.copySection s v1) := by
  unfold State.copySection
  extract_lets -merge -underBinder +onlyGivenNames x0 x1
  clear_value x0 x1
  split
  all_goals first
    | with_reducible exact hs | with_reducible exact State.putArea_kept hs

theorem State.copyHeader_kept (hs : Kept p s) : Kept p (State.copyHeader s) := by
  unfold State.copyHeader
  exact State.putArea_kept hs

theorem State.leaveKick_kept (hs : Kept p s) : Kept p (State.leaveKick s) := by
  unfold State.leaveKick
  refine State.softReset_kept ?_
  extract_lets -merge -underBinder +onlyGivenNames x0
  have h0 : Kept p x0 := State.wr_kept hs
  clear_value x0
  exact kept_mk h0

theorem State.copyDone_kept (hs : Kept p s) : Kept p (State.copyDone s) := by
  unfold State.copyDone
  refine State.updateEntry_kept ?_
  extract_lets -merge -underBinder +onlyGivenNames x0
  have h0 : Kept p x0 := State.copyHeader_kept hs
  clear_value x0
  exact kept_mk h0

theorem sectionDoneEffect_kept (hs : Kept p s) : Kept p (sectionDoneEffect s) := by
  unfold sectionDoneEffect
  refine kept_ite hs ?_
  refine kept_ite ?_ (kept_ite (State.leaveKick_kept (State.copyDone_kept hs)) (State.copyDone_kept hs))
  extract_lets -merge -underBinder +onlyGivenNames x0 x1
  have h1 : Kept p x1 := State.updateEntry_kept (State.copySection_kept hs)
  clear_value x0 x1
  exact kept_mk h1

theorem State.settleFormat_kept (hs : Kept p s) : Kept p (State.settleFormat s v1) := by
  unfold State.settleFormat
  extract_lets -merge -underBinder +onlyGivenNames x0
  have h0 : ∀ z0, Kept p z0 → Kept p ((x0 z0)) := by
    intros
    unfold x0
    exact kept_mk (by assumption)
  clear_value x0
  split
  all_goals first
    | with_reducible exact h0 _ hs
    | (refine kept_ite hs ?_
       extract_lets -merge -underBinder +onlyGivenNames x1 x2
       have h2 : Kept p x2 := by
         unfold x2
         refine kept_foldl ?_ hs
         intros
         split
         all_goals first
           | with_reducible exact State.applySetting_kept (State.resetSetting_kept (by assumption)) | with_reducible exact by assumption
       clear_value x1 x2
       exact State.jnlService_kept (h0 _ h2))

theorem State.settleFormats_kept (hs : Kept p s) : Kept p (State.settleFormats s) := by
  unfold State.settleFormats
  exact kept_foldl (fun _ _ _ => State.settleFormat_kept (by assumption)) hs

theorem switchReleaseEffect_kept (hs : Kept p s) : Kept p (switchReleaseEffect s) := by
  unfold switchReleaseEffect
  extract_lets -merge -underBinder +onlyGivenNames x0 x1
  clear_value x0 x1
  refine kept_ite hs ?_
  extract_lets -merge -underBinder +onlyGivenNames x2
  have h2 : Kept p x2 := State.seqCtrl_kept hs
  clear_value x2
  exact kept_mk h2

theorem State.loadEngines_kept (hs : Kept p s) : Kept p (State.loadEngines s) := by
  unfold State.loadEngines
  refine kept_foldl ?_ hs
  intros
  refine kept_ite ?_ (by assumption)
  extract_lets -merge -underBinder +onlyGivenNames x0
  have h0 : Kept p x0 := State.ldDone_kept (State.loadEngine_kept (by assumption))
  clear_value x0
  exact kept_mk h0

theorem State.rebase_kept (hs : Kept p s) : Kept p (State.rebase s v1 v2) := by
  unfold State.rebase
  extract_lets -merge -underBinder +onlyGivenNames x0
  clear_value x0
  exact kept_ite (kept_foldl (fun _ _ _ => State.wrw_kept (by assumption)) hs) (kept_foldl (fun _ _ _ => State.wrw_kept (by assumption)) (State.wrw_kept hs))

theorem State.switchGap_kept (hs : Kept p s) : Kept p (State.switchGap s v1) := by
  unfold State.switchGap
  extract_lets -merge -underBinder +onlyGivenNames x0 x1
  have h1 : Kept p x1 := kept_ite (State.loadEngines_kept hs) hs
  clear_value x0 x1
  extract_lets -merge -underBinder +onlyGivenNames x2 x3
  have h3 : Kept p x3 := State.settleFormats_kept (kept_mk h1)
  clear_value x2 x3
  extract_lets -merge -underBinder +onlyGivenNames x4
  have h4 : Kept p x4 := State.seqCtrl_kept (State.rebase_kept (State.loadSheet_kept h3))
  clear_value x4
  exact kept_mk h4

theorem State.switchEnd_kept (hs : Kept p s) : Kept p (State.switchEnd s) := by
  unfold State.switchEnd
  exact kept_ite (State.updateOver_kept (State.finishExec_kept (State.updateEntry_kept (kept_mk hs)))) (State.finishExec_kept (kept_mk hs))

end Sys2Proof.Machine
end

