-- ==== Sys2Proof/Laws/KeptService.lean ====
section
/-!
SUPPORT. Every operation of Machine/Service.lean leaves the queue and keeps the canonical form of the memories.
-/
namespace Sys2Proof.Machine

variable {p : List Instr} {s t : State}

theorem State.answerRepeat_kept (hs : Kept p s) : Kept p (State.answerRepeat s v1 v2) := by
  unfold State.answerRepeat
  extract_lets -merge -underBinder +onlyGivenNames x0 x1 x2 x3
  clear_value x0 x1 x2 x3
  exact State.respond_kept hs

theorem State.noteOrigin_kept (hs : Kept p s) : Kept p (State.noteOrigin s v1) := by
  unfold State.noteOrigin
  extract_lets -merge -underBinder +onlyGivenNames x0 x1
  clear_value x0 x1
  exact kept_mk hs

theorem State.accept_kept (hs : Kept p s) : Kept p (State.accept s v1) := by
  unfold State.accept
  split
  all_goals first
    | (split
       all_goals first
         | with_reducible exact hs
         | (extract_lets -merge -underBinder +onlyGivenNames x0
            have h0 : Kept p x0.2 := State.pointValue_kept hs
            clear_value x0
            exact State.answer_kept h0))
    | (extract_lets -merge -underBinder +onlyGivenNames x1 x2
       clear_value x1 x2
       exact State.answer_kept hs)
    | (extract_lets -merge -underBinder +onlyGivenNames x3
       have h3 : Kept p x3 := State.noteOrigin_kept hs
       clear_value x3
       refine kept_ite ?_ ?_
       · extract_lets -merge -underBinder +onlyGivenNames x4
         clear_value x4
         exact State.answerCmd_kept h3
       · extract_lets -merge -underBinder +onlyGivenNames x5 x6
         have h6 : Kept p x6 := kept_mk h3
         clear_value x5 x6
         exact State.jnlService_kept h6)

theorem State.writeRefused_kept (hs : Kept p s) : Kept p (State.writeRefused s v1) := by
  unfold State.writeRefused
  exact State.answerCmd_kept (State.outcome_kept hs)

theorem State.commitWrite_kept (hs : Kept p s) : Kept p (State.commitWrite s v1) := by
  unfold State.commitWrite
  split
  all_goals first
    | with_reducible exact hs
    | (extract_lets -merge -underBinder +onlyGivenNames x0
       clear_value x0
       refine kept_ite (State.answerCmd_kept (State.putChunk_kept hs)) ?_
       refine kept_ite ?_ ?_
       · extract_lets -merge -underBinder +onlyGivenNames x1
         clear_value x1
         extract_lets -merge -underBinder +onlyGivenNames x2 x3
         have h3 : Kept p x3 := State.putSetting_kept hs
         clear_value x2 x3
         refine kept_ite ?_ (State.answerCmd_kept (kept_mk h3))
         extract_lets -merge -underBinder +onlyGivenNames x4
         have h4 : Kept p x4.2 := State.applyPoint_kept h3
         clear_value x4
         refine kept_ite (State.answerCmd_kept h4) ?_
         refine State.writeRefused_kept ?_
         extract_lets -merge -underBinder +onlyGivenNames x5
         have h5 : Kept p x5 := h4
         clear_value x5
         exact kept_mk h5
       · refine kept_ite ?_ ?_
         · extract_lets -merge -underBinder +onlyGivenNames x6
           clear_value x6
           extract_lets -merge -underBinder +onlyGivenNames x7
           have h7 : Kept p x7 := State.putSession_kept hs
           clear_value x7
           extract_lets -merge -underBinder +onlyGivenNames x8
           have h8 : Kept p x8.2 := by
             unfold x8
             split
             · exact State.applyPoint_kept h7
             · exact h7
           clear_value x8
           refine kept_ite (State.answerCmd_kept h8) ?_
           refine State.writeRefused_kept ?_
           extract_lets -merge -underBinder +onlyGivenNames x9
           have h9 : Kept p x9 := h8
           clear_value x9
           exact kept_mk h9
         · extract_lets -merge -underBinder +onlyGivenNames x10
           have h10 : Kept p x10.2 := by
             unfold x10
             split
             · exact State.pointValue_kept hs
             · exact hs
           clear_value x10
           extract_lets -merge -underBinder +onlyGivenNames x11
           have h11 : Kept p x11.2 := State.applyPoint_kept h10
           clear_value x11
           exact kept_ite (State.answerCmd_kept h11) (State.writeRefused_kept h11))

theorem State.commitHold_kept (hs : Kept p s) : Kept p (State.commitHold s v1) := by
  unfold State.commitHold
  extract_lets -merge -underBinder +onlyGivenNames x0
  clear_value x0
  split
  all_goals (try (rename_i e1; have h1 := (State.qpost_kept hs) _ e1))
  all_goals first
    | with_reducible exact State.answerCmd_kept (State.outcome_kept hs)
    | (extract_lets -merge -underBinder +onlyGivenNames x2
       have h2 : Kept p x2.2 := State.draw_kept (by assumption)
       clear_value x2
       extract_lets -merge -underBinder +onlyGivenNames x3 x4
       clear_value x3 x4
       exact State.answerCmd_kept (State.sramPuts_kept (State.putOctets_kept h2)))

theorem State.undoExec_kept (hs : Kept p s) : Kept p (State.undoExec s v1) := by
  unfold State.undoExec
  extract_lets -merge -underBinder +onlyGivenNames x0 x1 x2
  have h2 : Kept p x2 := kept_ite hs (kept_mk hs)
  clear_value x0 x1 x2
  exact kept_ite (State.disarmSwitch_kept (kept_mk h2)) h2

theorem State.commitCancel_kept (hs : Kept p s) : Kept p (State.commitCancel s v1) := by
  unfold State.commitCancel
  extract_lets -merge -underBinder +onlyGivenNames x0
  clear_value x0
  split
  all_goals first
    | with_reducible exact State.answerCmd_kept hs
    | (refine kept_ite (State.answerCmd_kept hs) ?_
       extract_lets -merge -underBinder +onlyGivenNames x1
       have h1 : Kept p x1 := kept_ite (State.answerExec_kept hs) hs
       clear_value x1
       exact State.answerCmd_kept (State.finishExec_kept (State.undoExec_kept h1)))

theorem State.commitSheet_kept (hs : Kept p s) : Kept p (State.commitSheet s) := by
  unfold State.commitSheet
  exact kept_ite (State.finishExec_kept hs) (State.execCommits_kept (State.seqCtrl_kept (State.loadSheet_kept hs)))

theorem State.reintStart_kept (hs : Kept p s) : Kept p (State.reintStart s v1) := by
  unfold State.reintStart
  refine kept_ite (State.softReset_kept (kept_mk hs)) ?_
  refine kept_ite (State.domCmd_kept hs) ?_
  extract_lets -merge -underBinder +onlyGivenNames x0
  have h0 : Kept p x0 := State.testStart_kept hs
  clear_value x0
  exact kept_ite h0 (State.finishExec_kept h0)

theorem State.commitExec_kept (hs : Kept p s) : Kept p (State.commitExec s v1) := by
  unfold State.commitExec
  extract_lets -merge -underBinder +onlyGivenNames x0 x1
  have h1 : Kept p x1 := kept_mk hs
  clear_value x0 x1
  extract_lets -merge -underBinder +onlyGivenNames x2
  have h2 : Kept p x2 := kept_ite h1 (State.answerCmd_kept h1)
  clear_value x2
  split
  all_goals first
    | with_reducible exact State.reintStart_kept h2 | with_reducible exact State.commitSheet_kept h2 | with_reducible exact State.finishExec_kept (State.execCommits_kept (State.seqCtrl_kept h2)) | with_reducible exact State.askVault_kept h2 | with_reducible exact State.leaveKick_kept h2 | with_reducible exact State.systemReset_kept h2 | with_reducible exact State.openStart_kept h2 | with_reducible exact State.closeStart_kept h2 | with_reducible exact State.activateStart_kept h2 | with_reducible exact State.finishExec_kept h2
    | (extract_lets -merge -underBinder +onlyGivenNames x3
       clear_value x3
       exact State.askVault_kept h2)

theorem State.commitCmd_kept (hs : Kept p s) : Kept p (State.commitCmd s v1) := by
  unfold State.commitCmd
  split
  all_goals first
    | with_reducible exact State.commitWrite_kept hs | with_reducible exact State.commitExec_kept hs | with_reducible exact State.commitHold_kept hs | with_reducible exact State.commitCancel_kept hs

theorem State.newNonce_kept (hs : Kept p s) : Kept p (State.newNonce s) := by
  unfold State.newNonce
  extract_lets -merge -underBinder +onlyGivenNames x0
  have h0 : Kept p x0.2 := State.draw_kept hs
  clear_value x0
  exact State.wrw_kept h0

theorem State.judgeReset_kept (hs : Kept p s) : Kept p (State.judgeReset s) := by
  unfold State.judgeReset
  extract_lets -merge -underBinder +onlyGivenNames x0 x1 x2 x3 x4 x5 x6 x7
  have h7 : Kept p x7 := State.newNonce_kept (State.takeHead_kept hs)
  clear_value x0 x1 x2 x3 x4 x5 x6 x7
  exact kept_ite h7 (kept_ite (State.softReset_kept h7) (kept_ite (State.addrCtl_kept h7) h7))

theorem State.dictRow_kept (hs : Kept p s) : Kept p (State.dictRow s v1) := by
  unfold State.dictRow
  refine kept_ite hs ?_
  refine kept_ite (State.judgeReset_kept hs) ?_
  extract_lets -merge -underBinder +onlyGivenNames x0
  clear_value x0
  refine kept_ite hs ?_
  refine kept_ite (State.blockReach_kept hs) ?_
  split
  all_goals first
    | with_reducible exact hs | with_reducible exact State.refuse_kept (State.takeHead_kept hs) | with_reducible exact State.answerRepeat_kept (State.takeHead_kept hs) | with_reducible exact State.accept_kept (State.takeHead_kept hs)

theorem State.settleSvc_kept (hs : Kept p s) : Kept p (State.settleSvc s) := by
  unfold State.settleSvc
  extract_lets -merge -underBinder +onlyGivenNames x0
  clear_value x0
  exact kept_foldl (fun _ _ _ => kept_ite (State.finishExec_kept (by assumption)) (kept_ite (State.finishExec_kept (by assumption)) (kept_ite (State.openEnd_kept (by assumption)) (by assumption)))) (kept_mk hs)

theorem State.vaultRow_kept (hs : Kept p s) : Kept p (State.vaultRow s v1) := by
  unfold State.vaultRow
  exact State.settleSvc_kept (State.vaultStart_kept hs)

theorem journalTimeoutEffect_kept (hs : Kept p s) : Kept p (journalTimeoutEffect s) := by
  unfold journalTimeoutEffect
  split
  all_goals first
    | with_reducible exact hs | with_reducible exact State.answerCmd_kept (kept_mk hs)

theorem State.entryStands_kept (hs : Kept p s) : Kept p (State.entryStands s v1) := by
  unfold State.entryStands
  refine kept_ite (State.seqCtrl_kept hs) ?_
  split
  all_goals first
    | with_reducible exact hs | with_reducible exact kept_ite (State.commitCmd_kept (kept_mk hs)) hs

end Sys2Proof.Machine
end

