-- ==== Sys2Proof/Laws/KeptStart.lean ====
section
/-!
SUPPORT. Every operation of Machine/Start.lean leaves the queue and keeps the canonical form of the memories.
-/
namespace Sys2Proof.Machine

variable {p : List Instr} {s t : State}

theorem State.settleJournal_kept (hs : Kept p s) : Kept p (State.settleJournal s) := by
  unfold State.settleJournal
  extract_lets -merge -underBinder +onlyGivenNames x0 x1
  have h1 : Kept p x1 := kept_ite (kept_mk hs) hs
  clear_value x0 x1
  exact kept_foldl (fun _ _ _ => State.outcome_kept (by assumption)) h1

theorem State.recordBadSlots_kept (hs : Kept p s) : Kept p (State.recordBadSlots s) := by
  unfold State.recordBadSlots
  exact kept_ite hs (kept_foldl (fun _ _ _ => State.jnlService_kept (by assumption)) hs)

theorem State.retireStart_kept (hs : Kept p s) : Kept p (State.retireStart s) := by
  unfold State.retireStart
  extract_lets -merge -underBinder +onlyGivenNames x0
  have h0 : Kept p x0 := by
    unfold x0
    split
    all_goals first
      | with_reducible exact State.retSet_kept hs | with_reducible exact hs
  clear_value x0
  extract_lets -merge -underBinder +onlyGivenNames x1
  have h1 : Kept p x1 := State.retSet_kept h0
  clear_value x1
  refine kept_ite h1 ?_
  extract_lets -merge -underBinder +onlyGivenNames x2 x3
  have h3 : Kept p x3 := State.reint_kept h1
  clear_value x2 x3
  split
  all_goals first
    | with_reducible exact State.outcome_kept h3 | with_reducible exact h3

theorem State.loadExt_kept (hs : Kept p s) : Kept p (State.loadExt s) := by
  unfold State.loadExt
  extract_lets -merge -underBinder +onlyGivenNames x0
  have h0 : Kept p x0.2 := State.draw_kept hs
  clear_value x0
  exact State.wrw_kept h0

theorem State.placeRing_kept (hs : Kept p s) : Kept p (State.placeRing s v1) := by
  unfold State.placeRing
  refine kept_ite hs ?_
  extract_lets -merge -underBinder +onlyGivenNames x0
  have h0 : Kept p x0.2 := State.draw_kept hs
  clear_value x0
  extract_lets -merge -underBinder +onlyGivenNames x1
  have h1 : Kept p x1.2 := State.draw_kept h0
  clear_value x1
  extract_lets -merge -underBinder +onlyGivenNames x2
  clear_value x2
  exact State.setFlag_kept (State.wrw_kept (State.wrw_kept h1))

theorem State.startEntry_kept (hs : Kept p s) : Kept p (State.startEntry s) := by
  unfold State.startEntry
  exact State.jnlService_kept hs

theorem State.loadKickSheet_kept (hs : Kept p s) : Kept p (State.loadKickSheet s) := by
  unfold State.loadKickSheet
  extract_lets -merge -underBinder +onlyGivenNames x0
  have h0 : Kept p x0 := State.wrw_kept hs
  clear_value x0
  extract_lets -merge -underBinder +onlyGivenNames x1
  have h1 : ∀ z0 z1 z2 z3 z4, Kept p z0 → Kept p ((x1 z0 z1 z2 z3 z4)) := by
    intros
    unfold x1
    exact State.setWord_kept (State.setWord_kept (State.setWord_kept (by assumption)))
  clear_value x1
  extract_lets -merge -underBinder +onlyGivenNames x2
  have h2 : Kept p x2 := kept_foldl (fun _ _ _ => h1 _ _ _ _ _ (by assumption)) (h1 _ _ _ _ _ (h1 _ _ _ _ _ h0))
  clear_value x2
  extract_lets -merge -underBinder +onlyGivenNames x3
  have h3 : Kept p x3 := State.wrw_kept (State.wrw_kept h2)
  clear_value x3
  exact kept_mk h3

theorem State.kickKeys_kept (hs : Kept p s) : Kept p (State.kickKeys s) := by
  unfold State.kickKeys
  extract_lets -merge -underBinder +onlyGivenNames x0
  clear_value x0
  refine kept_foldl ?_ hs
  intros
  split
  all_goals first
    | with_reducible exact by assumption
    | (split
       all_goals first
         | with_reducible exact by assumption
         | (extract_lets -merge -underBinder +onlyGivenNames x1
            clear_value x1
            exact kept_ite (State.wrw_kept (by assumption)) (by assumption)))

theorem State.startCals_kept (hs : Kept p s) : Kept p (State.startCals s) := by
  unfold State.startCals
  exact kept_ite hs (kept_foldl (fun _ _ _ => kept_ite (State.startCal_kept (by assumption)) (by assumption)) hs)

theorem State.kickReady_kept (hs : Kept p s) : Kept p (State.kickReady s) := by
  unfold State.kickReady
  extract_lets -merge -underBinder +onlyGivenNames x0
  clear_value x0
  refine kept_ite hs ?_
  extract_lets -merge -underBinder +onlyGivenNames x1 x2
  have h2 : Kept p x2 := kept_mk hs
  clear_value x1 x2
  extract_lets -merge -underBinder +onlyGivenNames x3
  have h3 : Kept p x3 := State.kickKeys_kept (State.loadExt_kept (State.restoreStage_kept (State.applyAll_kept (State.retireStart_kept h2))))
  clear_value x3
  extract_lets -merge -underBinder +onlyGivenNames x4
  have h4 : Kept p x4 := kept_foldl (fun _ _ _ => State.placeRing_kept (by assumption)) h3
  clear_value x4
  extract_lets -merge -underBinder +onlyGivenNames x5
  have h5 : Kept p x5 := kept_ite (State.wr_kept h4) (State.wr_kept h4)
  clear_value x5
  extract_lets -merge -underBinder +onlyGivenNames x6 x7
  have h7 : Kept p x7 := kept_mk h5
  clear_value x6 x7
  extract_lets -merge -underBinder +onlyGivenNames x8
  have h8 : Kept p x8 := State.wrw_kept h7
  clear_value x8
  extract_lets -merge -underBinder +onlyGivenNames x9
  have h9 : Kept p x9 := State.wr_kept h8
  clear_value x9
  extract_lets -merge -underBinder +onlyGivenNames x10
  have h10 : Kept p x10 := State.startEntry_kept (State.loadKickSheet_kept h9)
  clear_value x10
  exact kept_mk h10

theorem State.enterKick_kept (hs : Kept p s) : Kept p (State.enterKick s v1) := by
  unfold State.enterKick
  extract_lets -merge -underBinder +onlyGivenNames x0
  have h0 : Kept p x0 := by
    unfold x0
    split
    all_goals first
      | with_reducible exact State.setWord_kept hs | with_reducible exact hs
  clear_value x0
  extract_lets -merge -underBinder +onlyGivenNames x1 x2 x3
  have h1 : Kept p x1 := State.setFlag_kept h0
  have h3 : Kept p x3 := kept_mk h1
  clear_value x1 x2 x3
  extract_lets -merge -underBinder +onlyGivenNames x4 x5
  have h5 : Kept p x5 := kept_foldl (fun _ _ _ => State.queueTransition_kept (by assumption)) h3
  clear_value x4 x5
  extract_lets -merge -underBinder +onlyGivenNames x6
  have h6 : Kept p x6 := kept_foldl (fun _ _ _ => kept_ite (by assumption) (State.queueTransition_kept (by assumption))) h5
  clear_value x6
  exact State.kickReady_kept (State.startCals_kept h6)

theorem State.postBeacon_kept (hs : Kept p s) : Kept p (State.postBeacon s) := by
  unfold State.postBeacon
  refine kept_ite hs ?_
  extract_lets -merge -underBinder +onlyGivenNames x0
  clear_value x0
  split
  all_goals (try (rename_i e1; have h1 := (State.qpost_kept hs) _ e1))
  all_goals first
    | with_reducible exact hs
    | (extract_lets -merge -underBinder +onlyGivenNames x2
       have h2 : Kept p x2.2 := State.draw_kept (by assumption)
       clear_value x2
       extract_lets -merge -underBinder +onlyGivenNames x3 x4 x5
       clear_value x3 x4 x5
       exact State.sramPuts_kept (State.putOctets_kept h2))

theorem State.priorReason_kept (hs : Kept p s) : Kept p (State.priorReason s v1) := by
  unfold State.priorReason
  extract_lets -merge -underBinder +onlyGivenNames x0
  clear_value x0
  exact kept_ite hs (kept_ite (State.setWord_kept hs) (kept_ite (State.setWord_kept hs) hs))

theorem State.bootRun_kept (hs : Kept p s) : Kept p (State.bootRun s) := by
  unfold State.bootRun
  extract_lets -merge -underBinder +onlyGivenNames x0 x1 x2 x3 x4 x5
  have h5 : Kept p x5 := kept_mk hs
  clear_value x0 x1 x2 x3 x4 x5
  extract_lets -merge -underBinder +onlyGivenNames x6
  have h6 : Kept p x6 := State.setFlag_kept (State.wr_kept (State.wr_kept h5))
  clear_value x6
  extract_lets -merge -underBinder +onlyGivenNames x7 x8
  have h7 : Kept p x7 := State.priorReason_kept h6
  have h8 : Kept p x8 := kept_mk h7
  clear_value x7 x8
  extract_lets -merge -underBinder +onlyGivenNames x9
  have h9 : Kept p x9 := kept_ite (State.settleJournal_kept h8) h8
  clear_value x9
  extract_lets -merge -underBinder +onlyGivenNames x10
  have h10 : Kept p x10 := kept_ite (State.recordBadSlots_kept h9) h9
  clear_value x10
  extract_lets -merge -underBinder +onlyGivenNames x11
  have h11 : Kept p x11 := kept_ite (State.newNonce_kept h10) h10
  clear_value x11
  refine kept_ite (State.enterKick_kept h11) ?_
  extract_lets -merge -underBinder +onlyGivenNames x12 x13
  have h13 : Kept p x13 := kept_foldl (fun _ _ _ => State.queueTransition_kept (by assumption)) h11
  clear_value x12 x13
  exact kept_ite (State.startCals_kept (State.gearSet_kept h13)) h13

theorem bootStartEffect_kept (hs : Kept p s) : Kept p (bootStartEffect s) := by
  unfold bootStartEffect
  refine kept_ite hs ?_
  refine kept_ite ?_ (State.bootRun_kept hs)
  extract_lets -merge -underBinder +onlyGivenNames x0 x1
  have h1 : Kept p x1 := kept_mk hs
  clear_value x0 x1
  extract_lets -merge -underBinder +onlyGivenNames x2
  have h2 : Kept p x2 := State.testStart_kept h1
  clear_value x2
  exact kept_ite h2 (State.bootRun_kept h2)

theorem State.resumeCopy_kept (hs : Kept p s) : ∀ r, State.resumeCopy s = some r → Kept p r := by
  unfold State.resumeCopy
  split
  all_goals first
    | with_reducible exact kept_some hs
    | (split
       · exact kept_some hs
       · extract_lets -merge +onlyGivenNames x0
         have h0 : Kept p x0 := State.updateEntry_kept hs
         clear_value x0
         split
         · exact kept_none
         · extract_lets -merge +onlyGivenNames x1
           clear_value x1
           extract_lets -merge +onlyGivenNames x2
           have h2 : Kept p x2 := kept_foldl (fun _ _ _ => State.updateEntry_kept (State.copySection_kept (by assumption))) h0
           clear_value x2
           exact kept_some (State.copyDone_kept h2))

theorem State.startUpdateOver_kept (hs : Kept p s) : Kept p (State.startUpdateOver s) := by
  unfold State.startUpdateOver
  refine kept_ite hs ?_
  extract_lets -merge -underBinder +onlyGivenNames x0 x1 x2
  have h2 : Kept p x2 := kept_mk hs
  clear_value x0 x1 x2
  exact kept_ite (State.resetSetting_kept h2) h2

theorem State.normalStart_kept (hs : Kept p s) : Kept p (State.normalStart s) := by
  unfold State.normalStart
  extract_lets -merge -underBinder +onlyGivenNames x0
  have h0 : Kept p x0 := State.startUpdateOver_kept (State.loadEngines_kept (State.measureHeader_kept hs))
  clear_value x0
  extract_lets -merge -underBinder +onlyGivenNames x1 x2
  have h2 : Kept p x2 := kept_mk h0
  clear_value x1 x2
  extract_lets -merge -underBinder +onlyGivenNames x3
  have h3 : Kept p x3 := State.retireStart_kept h2
  clear_value x3
  extract_lets -merge -underBinder +onlyGivenNames x4 x5
  have h5 : Kept p x5 := kept_mk h3
  clear_value x4 x5
  extract_lets -merge -underBinder +onlyGivenNames x6
  have h6 : Kept p x6 := State.restoreStage_kept (State.applyAll_kept (State.settleFormats_kept h5))
  clear_value x6
  extract_lets -merge -underBinder +onlyGivenNames x7
  have h7 : Kept p x7 := State.startEntry_kept (State.loadSheet_kept (State.placeRing_kept (State.loadExt_kept h6)))
  clear_value x7
  exact kept_mk h7

theorem startImageCheckDoneEffect_kept (hs : Kept p s) : Kept p (startImageCheckDoneEffect s) := by
  unfold startImageCheckDoneEffect
  refine kept_ite hs ?_
  refine kept_ite (State.enterKick_kept hs) ?_
  split
  all_goals (try (rename_i e0; have h0 := (State.resumeCopy_kept hs) _ e0))
  all_goals first
    | with_reducible exact State.enterKick_kept (State.updateEntry_kept hs)
    | (split
       all_goals first
         | with_reducible exact State.enterKick_kept (by assumption) | with_reducible exact State.normalStart_kept (by assumption))

theorem State.withoutXo_kept (hs : Kept p s) : Kept p (State.withoutXo s) := by
  unfold State.withoutXo
  extract_lets -merge -underBinder +onlyGivenNames x0
  have h0 : Kept p x0 := State.clkReason_kept hs
  clear_value x0
  exact kept_mk h0

theorem startXoTimeoutEffect_kept (hs : Kept p s) : Kept p (startXoTimeoutEffect s) := by
  unfold startXoTimeoutEffect
  exact kept_ite hs (kept_ite (State.enterKick_kept (State.withoutXo_kept hs)) (kept_ite (State.kickReady_kept (State.withoutXo_kept hs)) hs))

theorem State.onReady_kept (hs : Kept p s) : Kept p (State.onReady s v1 v2) := by
  unfold State.onReady
  extract_lets -merge -underBinder +onlyGivenNames x0
  have h0 : Kept p x0 := kept_ite (State.settleJournal_kept hs) hs
  clear_value x0
  extract_lets -merge -underBinder +onlyGivenNames x1
  have h1 : Kept p x1 := kept_ite (State.recordBadSlots_kept h0) h0
  clear_value x1
  extract_lets -merge -underBinder +onlyGivenNames x2
  have h2 : Kept p x2 := kept_ite (State.newNonce_kept h1) h1
  clear_value x2
  extract_lets -merge -underBinder +onlyGivenNames x3
  have h3 : Kept p x3 := by
    unfold x3
    split
    all_goals first
      | with_reducible exact kept_ite (State.reintStart_kept h2) h2 | with_reducible exact h2
  clear_value x3
  exact State.kickReady_kept (State.startCals_kept h3)

theorem State.reintFinish_kept (hs : Kept p s) : Kept p (State.reintFinish s v1) := by
  unfold State.reintFinish
  extract_lets -merge -underBinder +onlyGivenNames x0
  have h0 : Kept p x0 := State.reint_kept (State.execCommits_kept (State.ldDone_kept (State.loadEngine_kept hs)))
  clear_value x0
  exact State.finishExec_kept h0

theorem selfTestDoneEffect_kept (hs : Kept p s) : Kept p (selfTestDoneEffect v0 s) := by
  unfold selfTestDoneEffect
  split
  all_goals first
    | with_reducible exact hs
    | (extract_lets -merge -underBinder +onlyGivenNames x0
       have h0 : Kept p x0 := State.testDone_kept hs
       clear_value x0
       refine kept_ite (State.bootRun_kept h0) ?_
       split
       all_goals first
         | with_reducible exact kept_ite h0 (kept_ite (State.reintFinish_kept h0) (State.finishExec_kept h0)) | with_reducible exact h0)

theorem State.sheetCommitted_kept (hs : Kept p s) : Kept p (State.sheetCommitted s) := by
  unfold State.sheetCommitted
  exact State.jnlService_kept (State.extend_kept hs)

theorem State.commitOver_kept (hs : Kept p s) : Kept p (State.commitOver s v1) := by
  unfold State.commitOver
  refine kept_ite (State.switchEnd_kept (kept_ite (State.extend_kept hs) hs)) ?_
  refine kept_ite ?_ (kept_ite (kept_ite (State.finishExec_kept (State.sheetCommitted_kept hs)) (State.finishExec_kept hs)) hs)
  refine kept_ite ?_ (kept_ite (kept_mk hs) (State.enterKick_kept hs))
  extract_lets -merge -underBinder +onlyGivenNames x0
  have h0 : Kept p x0 := State.sheetCommitted_kept hs
  clear_value x0
  exact kept_mk h0

end Sys2Proof.Machine
end

