-- ==== Sys2Proof/Laws/KeptStep.lean ====
section
/-!
SUPPORT. Every operation of Machine/Step.lean (with Registers, Scan, Aborts) leaves the queue and keeps the canonical form of the memories.
-/
namespace Sys2Proof.Machine

variable {p : List Instr} {s t : State}

theorem State.abortAnswer_kept (hs : Kept p s) : Kept p (State.abortAnswer s v1 v2).2 := by
  unfold State.abortAnswer
  split
  · exact hs
  · split
    · split
      · exact hs
      · exact State.abortDesc_kept hs
    · split
      · exact hs
      · exact hs

theorem abortRequestArrivalEffect_kept (hs : Kept p s) : Kept p (abortRequestArrivalEffect s) := by
  unfold abortRequestArrivalEffect
  split
  all_goals first
    | with_reducible exact hs
    | (extract_lets -merge -underBinder +onlyGivenNames x0
       have h0 : Kept p x0.2 := State.abortAnswer_kept hs
       clear_value x0
       extract_lets -merge -underBinder +onlyGivenNames x1
       have h1 : Kept p x1 := State.setFlag_kept (State.wr_kept h0)
       clear_value x1
       exact kept_mk h1)

theorem pannierStoreRequestEffect_kept (hs : Kept p s) : Kept p (pannierStoreRequestEffect v0 s) := by
  unfold pannierStoreRequestEffect
  extract_lets -merge -underBinder +onlyGivenNames x0
  clear_value x0
  refine kept_ite hs ?_
  split
  all_goals first
    | with_reducible exact hs
    | (refine kept_ite (State.fetchDesc_kept hs) ?_
       extract_lets -merge -underBinder +onlyGivenNames x1
       have h1 : Kept p x1 := State.fetched_kept hs
       clear_value x1
       refine kept_ite (State.fireDone_kept (State.completeGeneric_kept h1)) ?_
       refine kept_ite (State.fireDone_kept (State.completeGeneric_kept h1)) ?_
       extract_lets -merge -underBinder +onlyGivenNames x2
       have h2 : Kept p x2 := State.openGate_kept h1
       clear_value x2
       exact kept_mk h2)

theorem pannierStoreCompletionEffect_kept (hs : Kept p s) : Kept p (pannierStoreCompletionEffect v0 v1 v2 s) := by
  unfold pannierStoreCompletionEffect
  extract_lets -merge -underBinder +onlyGivenNames x0
  clear_value x0
  split
  all_goals first
    | with_reducible exact hs
    | (extract_lets -merge -underBinder +onlyGivenNames x1
       have h1 : Kept p x1 := kept_mk hs
       clear_value x1
       exact State.fire_kept (State.completeGeneric_kept h1))

theorem State.setIr_kept (hs : Kept p s) : Kept p (State.setIr s v1) := by
  unfold State.setIr
  exact kept_mk hs

theorem samplePreloadEffect_kept (hs : Kept p s) : Kept p (samplePreloadEffect v0 v1 s) := by
  unfold samplePreloadEffect
  exact kept_mk hs

theorem State.writeOff_kept (hs : Kept p s) : Kept p (State.writeOff s v1 v2) := by
  unfold State.writeOff
  exact State.initWrite_kept hs

theorem serialDisableEffect_kept (hs : Kept p s) : Kept p (serialDisableEffect v0 v1 v2 s) := by
  unfold serialDisableEffect
  extract_lets -merge -underBinder +onlyGivenNames x0 x1
  have h1 : Kept p x1 := State.writeOff_kept hs
  clear_value x0 x1
  exact kept_ite (State.unitDisabled_kept h1) h1

theorem State.withFront_kept (hs : Kept p s) : Kept (v1 :: p) (State.withFront s v1) := by
  simp only [Kept, State.withFront, State.memWf, List.cons.injEq, true_and] at hs ⊢
  exact hs

theorem State.withFetchWord_kept (hs : Kept p s) : Kept p (State.withFetchWord s v1 v2) := hs

end Sys2Proof.Machine
end

