-- ==== Sys2Proof/Laws/State.lean ====
section
/-!
SUPPORT. The basic updates of the state: what each leaves, field by field, what a read of a word, a field or a ring
finds after it, and one step.
-/
namespace Sys2Proof.Machine

/-! ## Bits -/

theorem bits_lt (v hi lo : Nat) : bits v hi lo < 2 ^ (hi + 1 - lo) := Nat.mod_lt _ (Nat.two_pow_pos _)

/-- A replaced field reads as what was put there. -/
theorem bits_putBits (v hi lo f : Nat) : bits (putBits v hi lo f) hi lo = f % 2 ^ (hi + 1 - lo) := by
  have hp : 0 < 2 ^ lo := Nat.two_pow_pos lo
  have hn : 0 < 2 ^ (hi + 1 - lo) := Nat.two_pow_pos _
  have hv := Nat.div_add_mod v (2 ^ lo)
  have hq := Nat.div_add_mod (v / 2 ^ lo) (2 ^ (hi + 1 - lo))
  have e : putBits v hi lo f =
      2 ^ lo * (2 ^ (hi + 1 - lo) * (v / 2 ^ lo / 2 ^ (hi + 1 - lo)) + f % 2 ^ (hi + 1 - lo)) + v % 2 ^ lo := by
    unfold putBits bits
    generalize v / 2 ^ lo = q at *
    generalize 2 ^ (hi + 1 - lo) = n at *
    generalize q / n = x at *
    generalize q % n = y at *
    generalize f % n = z at *
    generalize v % 2 ^ lo = r at *
    generalize 2 ^ lo = m at *
    subst hq
    subst hv
    have h1 : m * (n * x + y) = m * (n * x) + y * m := by rw [Nat.mul_add, Nat.mul_comm m y]
    have h2 : m * (n * x + z) = m * (n * x) + z * m := by rw [Nat.mul_add, Nat.mul_comm m z]
    omega
  rw [e]
  unfold bits
  rw [Nat.mul_add_div hp, Nat.div_eq_of_lt (Nat.mod_lt _ hp), Nat.add_zero, Nat.mul_add_mod, Nat.mod_mod]

/-! ## Words and fields -/

/-- A register word reads as what was last written there. -/
theorem State.word_setWord (s : State) (a x : Nat) (v : W16) : (s.setWord a v).word x = if x = a then v else s.word x :=
  cellsGet_put ..

@[simp] theorem State.word_setWord_same (s : State) (a : Nat) (v : W16) : (s.setWord a v).word a = v := by
  rw [State.word_setWord, if_pos rfl]

theorem State.word_setWord_ne (s : State) {a x : Nat} (v : W16) (h : x ≠ a) : (s.setWord a v).word x = s.word x := by
  rw [State.word_setWord, if_neg h]

theorem State.word_wr_ne (s : State) {a x : Nat} (hi lo v : Nat) (h : x ≠ a) : (s.wr a hi lo v).word x = s.word x :=
  s.word_setWord_ne _ h

theorem State.word_setFlag_ne (s : State) {a x : Nat} (b : Nat) (v : Bool) (h : x ≠ a) :
    (s.setFlag a b v).word x = s.word x := s.word_setWord_ne _ h

theorem State.word_bump_ne (s : State) {a x : Nat} (h : x ≠ a) : (s.bump a).word x = s.word x := s.word_setWord_ne _ h

theorem State.rd_setWord_ne (s : State) {a x : Nat} (v : W16) (hi lo : Nat) (h : x ≠ a) :
    (s.setWord a v).rd x hi lo = s.rd x hi lo := by
  unfold State.rd; rw [s.word_setWord_ne _ h]

theorem State.rd_wr_ne (s : State) {a x : Nat} (hi lo v h' l' : Nat) (h : x ≠ a) :
    (s.wr a hi lo v).rd x h' l' = s.rd x h' l' := s.rd_setWord_ne _ _ _ h

/-- A counter counts and saturates. -/
theorem State.word_bump (s : State) (a : Nat) :
    (s.bump a).word a = BitVec.ofNat 16 (min 0xFFFF ((s.word a).toNat + 1)) := s.word_setWord_same ..

/-! ## Memories -/

theorem State.mramGet_mramPut (s : State) (a x : Nat) (v : W16) :
    (s.mramPut a v).mramGet x = if x = a then v else s.mramGet x := cellsGet_put ..

theorem State.sramPut_sram (s : State) (a x : Nat) (v : W16) (h : inSram a = true) :
    cellsGet zeroWord (s.sramPut a v).sram x = if x = a then v else cellsGet zeroWord s.sram x := by
  simp only [State.sramPut, h, if_true]; exact cellsGet_put ..

/-! ## Rings -/

@[simp] theorem State.ring_setRing_same (s : State) (n : Nat) (r : Ring) : (s.setRing n r).ring n = r := by
  simp [State.ring, State.setRing]

theorem State.ring_setRing_ne (s : State) {n m : Nat} (r : Ring) (h : ringIx m ≠ ringIx n) :
    (s.setRing n r).ring m = s.ring m := by
  have h' : (ringIx n).val ≠ (ringIx m).val := fun e => h (Fin.ext e.symm)
  simp [State.ring, State.setRing, h']

/-! ## What setWord leaves -/

@[simp] theorem State.setWord_pending (s : State) (a : Nat) (v : W16) : (s.setWord a v).pending = s.pending := rfl
@[simp] theorem State.setWord_freeCtr (s : State) (a : Nat) (v : W16) : (s.setWord a v).freeCtr = s.freeCtr := rfl
@[simp] theorem State.setWord_held (s : State) (a : Nat) (v : W16) : (s.setWord a v).held = s.held := rfl
@[simp] theorem State.setWord_nt (s : State) (a : Nat) (v : W16) : (s.setWord a v).nt = s.nt := rfl
@[simp] theorem State.setWord_ntRun (s : State) (a : Nat) (v : W16) : (s.setWord a v).ntRun = s.ntRun := rfl
@[simp] theorem State.setWord_sleep (s : State) (a : Nat) (v : W16) : (s.setWord a v).sleep = s.sleep := rfl
@[simp] theorem State.setWord_pair (s : State) (a : Nat) (v : W16) : (s.setWord a v).pair = s.pair := rfl
@[simp] theorem State.setWord_phase (s : State) (a : Nat) (v : W16) : (s.setWord a v).phase = s.phase := rfl
@[simp] theorem State.setWord_xbarUsed (s : State) (a : Nat) (v : W16) : (s.setWord a v).xbarUsed = s.xbarUsed := rfl
@[simp] theorem State.setWord_drainUsed (s : State) (a : Nat) (v : W16) : (s.setWord a v).drainUsed = s.drainUsed := rfl
@[simp] theorem State.setWord_eng (s : State) (a : Nat) (v : W16) : (s.setWord a v).eng = s.eng := rfl
@[simp] theorem State.setWord_svc (s : State) (a : Nat) (v : W16) : (s.setWord a v).svc = s.svc := rfl
@[simp] theorem State.setWord_svcRun (s : State) (a : Nat) (v : W16) : (s.setWord a v).svcRun = s.svcRun := rfl
@[simp] theorem State.setWord_dbgHalt (s : State) (a : Nat) (v : W16) : (s.setWord a v).dbgHalt = s.dbgHalt := rfl
@[simp] theorem State.setWord_romIn (s : State) (a : Nat) (v : W16) : (s.setWord a v).romIn = s.romIn := rfl
@[simp] theorem State.setWord_waits (s : State) (a : Nat) (v : W16) : (s.setWord a v).waits = s.waits := rfl
@[simp] theorem State.setWord_portWaits (s : State) (a : Nat) (v : W16) : (s.setWord a v).portWaits = s.portWaits := rfl
@[simp] theorem State.setWord_lateDone (s : State) (a : Nat) (v : W16) : (s.setWord a v).lateDone = s.lateDone := rfl
@[simp] theorem State.setWord_latePuts (s : State) (a : Nat) (v : W16) : (s.setWord a v).latePuts = s.latePuts := rfl
@[simp] theorem State.setWord_sram (s : State) (a : Nat) (v : W16) : (s.setWord a v).sram = s.sram := rfl
@[simp] theorem State.setWord_mram (s : State) (a : Nat) (v : W16) : (s.setWord a v).mram = s.mram := rfl
@[simp] theorem State.setWord_patterns (s : State) (a : Nat) (v : W16) : (s.setWord a v).patterns = s.patterns := rfl
@[simp] theorem State.setWord_ecc (s : State) (a : Nat) (v : W16) : (s.setWord a v).ecc = s.ecc := rfl
@[simp] theorem State.setWord_seq (s : State) (a : Nat) (v : W16) : (s.setWord a v).seq = s.seq := rfl
@[simp] theorem State.setWord_pwr (s : State) (a : Nat) (v : W16) : (s.setWord a v).pwr = s.pwr := rfl
@[simp] theorem State.setWord_clk (s : State) (a : Nat) (v : W16) : (s.setWord a v).clk = s.clk := rfl
@[simp] theorem State.setWord_rings (s : State) (a : Nat) (v : W16) : (s.setWord a v).rings = s.rings := rfl
@[simp] theorem State.setWord_abortReq (s : State) (a : Nat) (v : W16) : (s.setWord a v).abortReq = s.abortReq := rfl
@[simp] theorem State.setWord_cbl (s : State) (a : Nat) (v : W16) : (s.setWord a v).cbl = s.cbl := rfl
@[simp] theorem State.setWord_cad (s : State) (a : Nat) (v : W16) : (s.setWord a v).cad = s.cad := rfl
@[simp] theorem State.setWord_gau (s : State) (a : Nat) (v : W16) : (s.setWord a v).gau = s.gau := rfl
@[simp] theorem State.setWord_ser (s : State) (a : Nat) (v : W16) : (s.setWord a v).ser = s.ser := rfl
@[simp] theorem State.setWord_rf (s : State) (a : Nat) (v : W16) : (s.setWord a v).rf = s.rf := rfl
@[simp] theorem State.setWord_lane (s : State) (a : Nat) (v : W16) : (s.setWord a v).lane = s.lane := rfl
@[simp] theorem State.setWord_lnk (s : State) (a : Nat) (v : W16) : (s.setWord a v).lnk = s.lnk := rfl
@[simp] theorem State.setWord_msh (s : State) (a : Nat) (v : W16) : (s.setWord a v).msh = s.msh := rfl
@[simp] theorem State.setWord_vlt (s : State) (a : Nat) (v : W16) : (s.setWord a v).vlt = s.vlt := rfl
@[simp] theorem State.setWord_dict (s : State) (a : Nat) (v : W16) : (s.setWord a v).dict = s.dict := rfl
@[simp] theorem State.setWord_wfl (s : State) (a : Nat) (v : W16) : (s.setWord a v).wfl = s.wfl := rfl
@[simp] theorem State.setWord_upd (s : State) (a : Nat) (v : W16) : (s.setWord a v).upd = s.upd := rfl
@[simp] theorem State.setWord_jtag (s : State) (a : Nat) (v : W16) : (s.setWord a v).jtag = s.jtag := rfl
@[simp] theorem State.setWord_retOrder (s : State) (a : Nat) (v : W16) : (s.setWord a v).retOrder = s.retOrder := rfl
@[simp] theorem State.setWord_selfTest (s : State) (a : Nat) (v : W16) : (s.setWord a v).selfTest = s.selfTest := rfl
@[simp] theorem State.setWord_vio1 (s : State) (a : Nat) (v : W16) : (s.setWord a v).vio1 = s.vio1 := rfl
@[simp] theorem State.setWord_vio2 (s : State) (a : Nat) (v : W16) : (s.setWord a v).vio2 = s.vio2 := rfl
@[simp] theorem State.setWord_gpioIn (s : State) (a : Nat) (v : W16) : (s.setWord a v).gpioIn = s.gpioIn := rfl
@[simp] theorem State.setWord_coexGnt (s : State) (a : Nat) (v : W16) : (s.setWord a v).coexGnt = s.coexGnt := rfl
@[simp] theorem State.setWord_pan (s : State) (a : Nat) (v : W16) : (s.setWord a v).pan = s.pan := rfl
@[simp] theorem State.setWord_wflStore (s : State) (a : Nat) (v : W16) : (s.setWord a v).wflStore = s.wflStore := rfl
@[simp] theorem State.setWord_again (s : State) (a : Nat) (v : W16) : (s.setWord a v).again = s.again := rfl
@[simp] theorem State.setWord_errors (s : State) (a : Nat) (v : W16) : (s.setWord a v).errors = s.errors := rfl
@[simp] theorem State.setWord_lastRead (s : State) (a : Nat) (v : W16) : (s.setWord a v).lastRead = s.lastRead := rfl

/-! ## What wr leaves -/

@[simp] theorem State.wr_pending (s : State) (a hi lo v : Nat) : (s.wr a hi lo v).pending = s.pending := rfl
@[simp] theorem State.wr_freeCtr (s : State) (a hi lo v : Nat) : (s.wr a hi lo v).freeCtr = s.freeCtr := rfl
@[simp] theorem State.wr_held (s : State) (a hi lo v : Nat) : (s.wr a hi lo v).held = s.held := rfl
@[simp] theorem State.wr_nt (s : State) (a hi lo v : Nat) : (s.wr a hi lo v).nt = s.nt := rfl
@[simp] theorem State.wr_ntRun (s : State) (a hi lo v : Nat) : (s.wr a hi lo v).ntRun = s.ntRun := rfl
@[simp] theorem State.wr_sleep (s : State) (a hi lo v : Nat) : (s.wr a hi lo v).sleep = s.sleep := rfl
@[simp] theorem State.wr_pair (s : State) (a hi lo v : Nat) : (s.wr a hi lo v).pair = s.pair := rfl
@[simp] theorem State.wr_phase (s : State) (a hi lo v : Nat) : (s.wr a hi lo v).phase = s.phase := rfl
@[simp] theorem State.wr_xbarUsed (s : State) (a hi lo v : Nat) : (s.wr a hi lo v).xbarUsed = s.xbarUsed := rfl
@[simp] theorem State.wr_drainUsed (s : State) (a hi lo v : Nat) : (s.wr a hi lo v).drainUsed = s.drainUsed := rfl
@[simp] theorem State.wr_eng (s : State) (a hi lo v : Nat) : (s.wr a hi lo v).eng = s.eng := rfl
@[simp] theorem State.wr_svc (s : State) (a hi lo v : Nat) : (s.wr a hi lo v).svc = s.svc := rfl
@[simp] theorem State.wr_svcRun (s : State) (a hi lo v : Nat) : (s.wr a hi lo v).svcRun = s.svcRun := rfl
@[simp] theorem State.wr_dbgHalt (s : State) (a hi lo v : Nat) : (s.wr a hi lo v).dbgHalt = s.dbgHalt := rfl
@[simp] theorem State.wr_romIn (s : State) (a hi lo v : Nat) : (s.wr a hi lo v).romIn = s.romIn := rfl
@[simp] theorem State.wr_waits (s : State) (a hi lo v : Nat) : (s.wr a hi lo v).waits = s.waits := rfl
@[simp] theorem State.wr_portWaits (s : State) (a hi lo v : Nat) : (s.wr a hi lo v).portWaits = s.portWaits := rfl
@[simp] theorem State.wr_lateDone (s : State) (a hi lo v : Nat) : (s.wr a hi lo v).lateDone = s.lateDone := rfl
@[simp] theorem State.wr_latePuts (s : State) (a hi lo v : Nat) : (s.wr a hi lo v).latePuts = s.latePuts := rfl
@[simp] theorem State.wr_sram (s : State) (a hi lo v : Nat) : (s.wr a hi lo v).sram = s.sram := rfl
@[simp] theorem State.wr_mram (s : State) (a hi lo v : Nat) : (s.wr a hi lo v).mram = s.mram := rfl
@[simp] theorem State.wr_patterns (s : State) (a hi lo v : Nat) : (s.wr a hi lo v).patterns = s.patterns := rfl
@[simp] theorem State.wr_ecc (s : State) (a hi lo v : Nat) : (s.wr a hi lo v).ecc = s.ecc := rfl
@[simp] theorem State.wr_seq (s : State) (a hi lo v : Nat) : (s.wr a hi lo v).seq = s.seq := rfl
@[simp] theorem State.wr_pwr (s : State) (a hi lo v : Nat) : (s.wr a hi lo v).pwr = s.pwr := rfl
@[simp] theorem State.wr_clk (s : State) (a hi lo v : Nat) : (s.wr a hi lo v).clk = s.clk := rfl
@[simp] theorem State.wr_rings (s : State) (a hi lo v : Nat) : (s.wr a hi lo v).rings = s.rings := rfl
@[simp] theorem State.wr_abortReq (s : State) (a hi lo v : Nat) : (s.wr a hi lo v).abortReq = s.abortReq := rfl
@[simp] theorem State.wr_cbl (s : State) (a hi lo v : Nat) : (s.wr a hi lo v).cbl = s.cbl := rfl
@[simp] theorem State.wr_cad (s : State) (a hi lo v : Nat) : (s.wr a hi lo v).cad = s.cad := rfl
@[simp] theorem State.wr_gau (s : State) (a hi lo v : Nat) : (s.wr a hi lo v).gau = s.gau := rfl
@[simp] theorem State.wr_ser (s : State) (a hi lo v : Nat) : (s.wr a hi lo v).ser = s.ser := rfl
@[simp] theorem State.wr_rf (s : State) (a hi lo v : Nat) : (s.wr a hi lo v).rf = s.rf := rfl
@[simp] theorem State.wr_lane (s : State) (a hi lo v : Nat) : (s.wr a hi lo v).lane = s.lane := rfl
@[simp] theorem State.wr_lnk (s : State) (a hi lo v : Nat) : (s.wr a hi lo v).lnk = s.lnk := rfl
@[simp] theorem State.wr_msh (s : State) (a hi lo v : Nat) : (s.wr a hi lo v).msh = s.msh := rfl
@[simp] theorem State.wr_vlt (s : State) (a hi lo v : Nat) : (s.wr a hi lo v).vlt = s.vlt := rfl
@[simp] theorem State.wr_dict (s : State) (a hi lo v : Nat) : (s.wr a hi lo v).dict = s.dict := rfl
@[simp] theorem State.wr_wfl (s : State) (a hi lo v : Nat) : (s.wr a hi lo v).wfl = s.wfl := rfl
@[simp] theorem State.wr_upd (s : State) (a hi lo v : Nat) : (s.wr a hi lo v).upd = s.upd := rfl
@[simp] theorem State.wr_jtag (s : State) (a hi lo v : Nat) : (s.wr a hi lo v).jtag = s.jtag := rfl
@[simp] theorem State.wr_retOrder (s : State) (a hi lo v : Nat) : (s.wr a hi lo v).retOrder = s.retOrder := rfl
@[simp] theorem State.wr_selfTest (s : State) (a hi lo v : Nat) : (s.wr a hi lo v).selfTest = s.selfTest := rfl
@[simp] theorem State.wr_vio1 (s : State) (a hi lo v : Nat) : (s.wr a hi lo v).vio1 = s.vio1 := rfl
@[simp] theorem State.wr_vio2 (s : State) (a hi lo v : Nat) : (s.wr a hi lo v).vio2 = s.vio2 := rfl
@[simp] theorem State.wr_gpioIn (s : State) (a hi lo v : Nat) : (s.wr a hi lo v).gpioIn = s.gpioIn := rfl
@[simp] theorem State.wr_coexGnt (s : State) (a hi lo v : Nat) : (s.wr a hi lo v).coexGnt = s.coexGnt := rfl
@[simp] theorem State.wr_pan (s : State) (a hi lo v : Nat) : (s.wr a hi lo v).pan = s.pan := rfl
@[simp] theorem State.wr_wflStore (s : State) (a hi lo v : Nat) : (s.wr a hi lo v).wflStore = s.wflStore := rfl
@[simp] theorem State.wr_again (s : State) (a hi lo v : Nat) : (s.wr a hi lo v).again = s.again := rfl
@[simp] theorem State.wr_errors (s : State) (a hi lo v : Nat) : (s.wr a hi lo v).errors = s.errors := rfl
@[simp] theorem State.wr_lastRead (s : State) (a hi lo v : Nat) : (s.wr a hi lo v).lastRead = s.lastRead := rfl

/-! ## What setFlag leaves -/

@[simp] theorem State.setFlag_pending (s : State) (a b : Nat) (v : Bool) : (s.setFlag a b v).pending = s.pending := rfl
@[simp] theorem State.setFlag_freeCtr (s : State) (a b : Nat) (v : Bool) : (s.setFlag a b v).freeCtr = s.freeCtr := rfl
@[simp] theorem State.setFlag_held (s : State) (a b : Nat) (v : Bool) : (s.setFlag a b v).held = s.held := rfl
@[simp] theorem State.setFlag_nt (s : State) (a b : Nat) (v : Bool) : (s.setFlag a b v).nt = s.nt := rfl
@[simp] theorem State.setFlag_ntRun (s : State) (a b : Nat) (v : Bool) : (s.setFlag a b v).ntRun = s.ntRun := rfl
@[simp] theorem State.setFlag_sleep (s : State) (a b : Nat) (v : Bool) : (s.setFlag a b v).sleep = s.sleep := rfl
@[simp] theorem State.setFlag_pair (s : State) (a b : Nat) (v : Bool) : (s.setFlag a b v).pair = s.pair := rfl
@[simp] theorem State.setFlag_phase (s : State) (a b : Nat) (v : Bool) : (s.setFlag a b v).phase = s.phase := rfl
@[simp] theorem State.setFlag_xbarUsed (s : State) (a b : Nat) (v : Bool) : (s.setFlag a b v).xbarUsed = s.xbarUsed := rfl
@[simp] theorem State.setFlag_drainUsed (s : State) (a b : Nat) (v : Bool) : (s.setFlag a b v).drainUsed = s.drainUsed := rfl
@[simp] theorem State.setFlag_eng (s : State) (a b : Nat) (v : Bool) : (s.setFlag a b v).eng = s.eng := rfl
@[simp] theorem State.setFlag_svc (s : State) (a b : Nat) (v : Bool) : (s.setFlag a b v).svc = s.svc := rfl
@[simp] theorem State.setFlag_svcRun (s : State) (a b : Nat) (v : Bool) : (s.setFlag a b v).svcRun = s.svcRun := rfl
@[simp] theorem State.setFlag_dbgHalt (s : State) (a b : Nat) (v : Bool) : (s.setFlag a b v).dbgHalt = s.dbgHalt := rfl
@[simp] theorem State.setFlag_romIn (s : State) (a b : Nat) (v : Bool) : (s.setFlag a b v).romIn = s.romIn := rfl
@[simp] theorem State.setFlag_waits (s : State) (a b : Nat) (v : Bool) : (s.setFlag a b v).waits = s.waits := rfl
@[simp] theorem State.setFlag_portWaits (s : State) (a b : Nat) (v : Bool) : (s.setFlag a b v).portWaits = s.portWaits := rfl
@[simp] theorem State.setFlag_lateDone (s : State) (a b : Nat) (v : Bool) : (s.setFlag a b v).lateDone = s.lateDone := rfl
@[simp] theorem State.setFlag_latePuts (s : State) (a b : Nat) (v : Bool) : (s.setFlag a b v).latePuts = s.latePuts := rfl
@[simp] theorem State.setFlag_sram (s : State) (a b : Nat) (v : Bool) : (s.setFlag a b v).sram = s.sram := rfl
@[simp] theorem State.setFlag_mram (s : State) (a b : Nat) (v : Bool) : (s.setFlag a b v).mram = s.mram := rfl
@[simp] theorem State.setFlag_patterns (s : State) (a b : Nat) (v : Bool) : (s.setFlag a b v).patterns = s.patterns := rfl
@[simp] theorem State.setFlag_ecc (s : State) (a b : Nat) (v : Bool) : (s.setFlag a b v).ecc = s.ecc := rfl
@[simp] theorem State.setFlag_seq (s : State) (a b : Nat) (v : Bool) : (s.setFlag a b v).seq = s.seq := rfl
@[simp] theorem State.setFlag_pwr (s : State) (a b : Nat) (v : Bool) : (s.setFlag a b v).pwr = s.pwr := rfl
@[simp] theorem State.setFlag_clk (s : State) (a b : Nat) (v : Bool) : (s.setFlag a b v).clk = s.clk := rfl
@[simp] theorem State.setFlag_rings (s : State) (a b : Nat) (v : Bool) : (s.setFlag a b v).rings = s.rings := rfl
@[simp] theorem State.setFlag_abortReq (s : State) (a b : Nat) (v : Bool) : (s.setFlag a b v).abortReq = s.abortReq := rfl
@[simp] theorem State.setFlag_cbl (s : State) (a b : Nat) (v : Bool) : (s.setFlag a b v).cbl = s.cbl := rfl
@[simp] theorem State.setFlag_cad (s : State) (a b : Nat) (v : Bool) : (s.setFlag a b v).cad = s.cad := rfl
@[simp] theorem State.setFlag_gau (s : State) (a b : Nat) (v : Bool) : (s.setFlag a b v).gau = s.gau := rfl
@[simp] theorem State.setFlag_ser (s : State) (a b : Nat) (v : Bool) : (s.setFlag a b v).ser = s.ser := rfl
@[simp] theorem State.setFlag_rf (s : State) (a b : Nat) (v : Bool) : (s.setFlag a b v).rf = s.rf := rfl
@[simp] theorem State.setFlag_lane (s : State) (a b : Nat) (v : Bool) : (s.setFlag a b v).lane = s.lane := rfl
@[simp] theorem State.setFlag_lnk (s : State) (a b : Nat) (v : Bool) : (s.setFlag a b v).lnk = s.lnk := rfl
@[simp] theorem State.setFlag_msh (s : State) (a b : Nat) (v : Bool) : (s.setFlag a b v).msh = s.msh := rfl
@[simp] theorem State.setFlag_vlt (s : State) (a b : Nat) (v : Bool) : (s.setFlag a b v).vlt = s.vlt := rfl
@[simp] theorem State.setFlag_dict (s : State) (a b : Nat) (v : Bool) : (s.setFlag a b v).dict = s.dict := rfl
@[simp] theorem State.setFlag_wfl (s : State) (a b : Nat) (v : Bool) : (s.setFlag a b v).wfl = s.wfl := rfl
@[simp] theorem State.setFlag_upd (s : State) (a b : Nat) (v : Bool) : (s.setFlag a b v).upd = s.upd := rfl
@[simp] theorem State.setFlag_jtag (s : State) (a b : Nat) (v : Bool) : (s.setFlag a b v).jtag = s.jtag := rfl
@[simp] theorem State.setFlag_retOrder (s : State) (a b : Nat) (v : Bool) : (s.setFlag a b v).retOrder = s.retOrder := rfl
@[simp] theorem State.setFlag_selfTest (s : State) (a b : Nat) (v : Bool) : (s.setFlag a b v).selfTest = s.selfTest := rfl
@[simp] theorem State.setFlag_vio1 (s : State) (a b : Nat) (v : Bool) : (s.setFlag a b v).vio1 = s.vio1 := rfl
@[simp] theorem State.setFlag_vio2 (s : State) (a b : Nat) (v : Bool) : (s.setFlag a b v).vio2 = s.vio2 := rfl
@[simp] theorem State.setFlag_gpioIn (s : State) (a b : Nat) (v : Bool) : (s.setFlag a b v).gpioIn = s.gpioIn := rfl
@[simp] theorem State.setFlag_coexGnt (s : State) (a b : Nat) (v : Bool) : (s.setFlag a b v).coexGnt = s.coexGnt := rfl
@[simp] theorem State.setFlag_pan (s : State) (a b : Nat) (v : Bool) : (s.setFlag a b v).pan = s.pan := rfl
@[simp] theorem State.setFlag_wflStore (s : State) (a b : Nat) (v : Bool) : (s.setFlag a b v).wflStore = s.wflStore := rfl
@[simp] theorem State.setFlag_again (s : State) (a b : Nat) (v : Bool) : (s.setFlag a b v).again = s.again := rfl
@[simp] theorem State.setFlag_errors (s : State) (a b : Nat) (v : Bool) : (s.setFlag a b v).errors = s.errors := rfl
@[simp] theorem State.setFlag_lastRead (s : State) (a b : Nat) (v : Bool) : (s.setFlag a b v).lastRead = s.lastRead := rfl

/-! ## What setRing leaves -/

@[simp] theorem State.setRing_pending (s : State) (n : Nat) (r : Ring) : (s.setRing n r).pending = s.pending := rfl
@[simp] theorem State.setRing_freeCtr (s : State) (n : Nat) (r : Ring) : (s.setRing n r).freeCtr = s.freeCtr := rfl
@[simp] theorem State.setRing_regs (s : State) (n : Nat) (r : Ring) : (s.setRing n r).regs = s.regs := rfl
@[simp] theorem State.setRing_held (s : State) (n : Nat) (r : Ring) : (s.setRing n r).held = s.held := rfl
@[simp] theorem State.setRing_nt (s : State) (n : Nat) (r : Ring) : (s.setRing n r).nt = s.nt := rfl
@[simp] theorem State.setRing_ntRun (s : State) (n : Nat) (r : Ring) : (s.setRing n r).ntRun = s.ntRun := rfl
@[simp] theorem State.setRing_sleep (s : State) (n : Nat) (r : Ring) : (s.setRing n r).sleep = s.sleep := rfl
@[simp] theorem State.setRing_pair (s : State) (n : Nat) (r : Ring) : (s.setRing n r).pair = s.pair := rfl
@[simp] theorem State.setRing_phase (s : State) (n : Nat) (r : Ring) : (s.setRing n r).phase = s.phase := rfl
@[simp] theorem State.setRing_xbarUsed (s : State) (n : Nat) (r : Ring) : (s.setRing n r).xbarUsed = s.xbarUsed := rfl
@[simp] theorem State.setRing_drainUsed (s : State) (n : Nat) (r : Ring) : (s.setRing n r).drainUsed = s.drainUsed := rfl
@[simp] theorem State.setRing_eng (s : State) (n : Nat) (r : Ring) : (s.setRing n r).eng = s.eng := rfl
@[simp] theorem State.setRing_svc (s : State) (n : Nat) (r : Ring) : (s.setRing n r).svc = s.svc := rfl
@[simp] theorem State.setRing_svcRun (s : State) (n : Nat) (r : Ring) : (s.setRing n r).svcRun = s.svcRun := rfl
@[simp] theorem State.setRing_dbgHalt (s : State) (n : Nat) (r : Ring) : (s.setRing n r).dbgHalt = s.dbgHalt := rfl
@[simp] theorem State.setRing_romIn (s : State) (n : Nat) (r : Ring) : (s.setRing n r).romIn = s.romIn := rfl
@[simp] theorem State.setRing_waits (s : State) (n : Nat) (r : Ring) : (s.setRing n r).waits = s.waits := rfl
@[simp] theorem State.setRing_portWaits (s : State) (n : Nat) (r : Ring) : (s.setRing n r).portWaits = s.portWaits := rfl
@[simp] theorem State.setRing_lateDone (s : State) (n : Nat) (r : Ring) : (s.setRing n r).lateDone = s.lateDone := rfl
@[simp] theorem State.setRing_latePuts (s : State) (n : Nat) (r : Ring) : (s.setRing n r).latePuts = s.latePuts := rfl
@[simp] theorem State.setRing_sram (s : State) (n : Nat) (r : Ring) : (s.setRing n r).sram = s.sram := rfl
@[simp] theorem State.setRing_mram (s : State) (n : Nat) (r : Ring) : (s.setRing n r).mram = s.mram := rfl
@[simp] theorem State.setRing_patterns (s : State) (n : Nat) (r : Ring) : (s.setRing n r).patterns = s.patterns := rfl
@[simp] theorem State.setRing_ecc (s : State) (n : Nat) (r : Ring) : (s.setRing n r).ecc = s.ecc := rfl
@[simp] theorem State.setRing_seq (s : State) (n : Nat) (r : Ring) : (s.setRing n r).seq = s.seq := rfl
@[simp] theorem State.setRing_pwr (s : State) (n : Nat) (r : Ring) : (s.setRing n r).pwr = s.pwr := rfl
@[simp] theorem State.setRing_clk (s : State) (n : Nat) (r : Ring) : (s.setRing n r).clk = s.clk := rfl
@[simp] theorem State.setRing_abortReq (s : State) (n : Nat) (r : Ring) : (s.setRing n r).abortReq = s.abortReq := rfl
@[simp] theorem State.setRing_cbl (s : State) (n : Nat) (r : Ring) : (s.setRing n r).cbl = s.cbl := rfl
@[simp] theorem State.setRing_cad (s : State) (n : Nat) (r : Ring) : (s.setRing n r).cad = s.cad := rfl
@[simp] theorem State.setRing_gau (s : State) (n : Nat) (r : Ring) : (s.setRing n r).gau = s.gau := rfl
@[simp] theorem State.setRing_ser (s : State) (n : Nat) (r : Ring) : (s.setRing n r).ser = s.ser := rfl
@[simp] theorem State.setRing_rf (s : State) (n : Nat) (r : Ring) : (s.setRing n r).rf = s.rf := rfl
@[simp] theorem State.setRing_lane (s : State) (n : Nat) (r : Ring) : (s.setRing n r).lane = s.lane := rfl
@[simp] theorem State.setRing_lnk (s : State) (n : Nat) (r : Ring) : (s.setRing n r).lnk = s.lnk := rfl
@[simp] theorem State.setRing_msh (s : State) (n : Nat) (r : Ring) : (s.setRing n r).msh = s.msh := rfl
@[simp] theorem State.setRing_vlt (s : State) (n : Nat) (r : Ring) : (s.setRing n r).vlt = s.vlt := rfl
@[simp] theorem State.setRing_dict (s : State) (n : Nat) (r : Ring) : (s.setRing n r).dict = s.dict := rfl
@[simp] theorem State.setRing_wfl (s : State) (n : Nat) (r : Ring) : (s.setRing n r).wfl = s.wfl := rfl
@[simp] theorem State.setRing_upd (s : State) (n : Nat) (r : Ring) : (s.setRing n r).upd = s.upd := rfl
@[simp] theorem State.setRing_jtag (s : State) (n : Nat) (r : Ring) : (s.setRing n r).jtag = s.jtag := rfl
@[simp] theorem State.setRing_retOrder (s : State) (n : Nat) (r : Ring) : (s.setRing n r).retOrder = s.retOrder := rfl
@[simp] theorem State.setRing_selfTest (s : State) (n : Nat) (r : Ring) : (s.setRing n r).selfTest = s.selfTest := rfl
@[simp] theorem State.setRing_vio1 (s : State) (n : Nat) (r : Ring) : (s.setRing n r).vio1 = s.vio1 := rfl
@[simp] theorem State.setRing_vio2 (s : State) (n : Nat) (r : Ring) : (s.setRing n r).vio2 = s.vio2 := rfl
@[simp] theorem State.setRing_gpioIn (s : State) (n : Nat) (r : Ring) : (s.setRing n r).gpioIn = s.gpioIn := rfl
@[simp] theorem State.setRing_coexGnt (s : State) (n : Nat) (r : Ring) : (s.setRing n r).coexGnt = s.coexGnt := rfl
@[simp] theorem State.setRing_pan (s : State) (n : Nat) (r : Ring) : (s.setRing n r).pan = s.pan := rfl
@[simp] theorem State.setRing_wflStore (s : State) (n : Nat) (r : Ring) : (s.setRing n r).wflStore = s.wflStore := rfl
@[simp] theorem State.setRing_again (s : State) (n : Nat) (r : Ring) : (s.setRing n r).again = s.again := rfl
@[simp] theorem State.setRing_errors (s : State) (n : Nat) (r : Ring) : (s.setRing n r).errors = s.errors := rfl
@[simp] theorem State.setRing_lastRead (s : State) (n : Nat) (r : Ring) : (s.setRing n r).lastRead = s.lastRead := rfl

/-! ## What mramPut leaves -/

@[simp] theorem State.mramPut_pending (s : State) (a : Nat) (v : W16) : (s.mramPut a v).pending = s.pending := rfl
@[simp] theorem State.mramPut_freeCtr (s : State) (a : Nat) (v : W16) : (s.mramPut a v).freeCtr = s.freeCtr := rfl
@[simp] theorem State.mramPut_regs (s : State) (a : Nat) (v : W16) : (s.mramPut a v).regs = s.regs := rfl
@[simp] theorem State.mramPut_held (s : State) (a : Nat) (v : W16) : (s.mramPut a v).held = s.held := rfl
@[simp] theorem State.mramPut_nt (s : State) (a : Nat) (v : W16) : (s.mramPut a v).nt = s.nt := rfl
@[simp] theorem State.mramPut_ntRun (s : State) (a : Nat) (v : W16) : (s.mramPut a v).ntRun = s.ntRun := rfl
@[simp] theorem State.mramPut_sleep (s : State) (a : Nat) (v : W16) : (s.mramPut a v).sleep = s.sleep := rfl
@[simp] theorem State.mramPut_pair (s : State) (a : Nat) (v : W16) : (s.mramPut a v).pair = s.pair := rfl
@[simp] theorem State.mramPut_phase (s : State) (a : Nat) (v : W16) : (s.mramPut a v).phase = s.phase := rfl
@[simp] theorem State.mramPut_xbarUsed (s : State) (a : Nat) (v : W16) : (s.mramPut a v).xbarUsed = s.xbarUsed := rfl
@[simp] theorem State.mramPut_drainUsed (s : State) (a : Nat) (v : W16) : (s.mramPut a v).drainUsed = s.drainUsed := rfl
@[simp] theorem State.mramPut_eng (s : State) (a : Nat) (v : W16) : (s.mramPut a v).eng = s.eng := rfl
@[simp] theorem State.mramPut_svc (s : State) (a : Nat) (v : W16) : (s.mramPut a v).svc = s.svc := rfl
@[simp] theorem State.mramPut_svcRun (s : State) (a : Nat) (v : W16) : (s.mramPut a v).svcRun = s.svcRun := rfl
@[simp] theorem State.mramPut_dbgHalt (s : State) (a : Nat) (v : W16) : (s.mramPut a v).dbgHalt = s.dbgHalt := rfl
@[simp] theorem State.mramPut_romIn (s : State) (a : Nat) (v : W16) : (s.mramPut a v).romIn = s.romIn := rfl
@[simp] theorem State.mramPut_waits (s : State) (a : Nat) (v : W16) : (s.mramPut a v).waits = s.waits := rfl
@[simp] theorem State.mramPut_portWaits (s : State) (a : Nat) (v : W16) : (s.mramPut a v).portWaits = s.portWaits := rfl
@[simp] theorem State.mramPut_lateDone (s : State) (a : Nat) (v : W16) : (s.mramPut a v).lateDone = s.lateDone := rfl
@[simp] theorem State.mramPut_latePuts (s : State) (a : Nat) (v : W16) : (s.mramPut a v).latePuts = s.latePuts := rfl
@[simp] theorem State.mramPut_sram (s : State) (a : Nat) (v : W16) : (s.mramPut a v).sram = s.sram := rfl
@[simp] theorem State.mramPut_patterns (s : State) (a : Nat) (v : W16) : (s.mramPut a v).patterns = s.patterns := rfl
@[simp] theorem State.mramPut_ecc (s : State) (a : Nat) (v : W16) : (s.mramPut a v).ecc = s.ecc := rfl
@[simp] theorem State.mramPut_seq (s : State) (a : Nat) (v : W16) : (s.mramPut a v).seq = s.seq := rfl
@[simp] theorem State.mramPut_pwr (s : State) (a : Nat) (v : W16) : (s.mramPut a v).pwr = s.pwr := rfl
@[simp] theorem State.mramPut_clk (s : State) (a : Nat) (v : W16) : (s.mramPut a v).clk = s.clk := rfl
@[simp] theorem State.mramPut_rings (s : State) (a : Nat) (v : W16) : (s.mramPut a v).rings = s.rings := rfl
@[simp] theorem State.mramPut_abortReq (s : State) (a : Nat) (v : W16) : (s.mramPut a v).abortReq = s.abortReq := rfl
@[simp] theorem State.mramPut_cbl (s : State) (a : Nat) (v : W16) : (s.mramPut a v).cbl = s.cbl := rfl
@[simp] theorem State.mramPut_cad (s : State) (a : Nat) (v : W16) : (s.mramPut a v).cad = s.cad := rfl
@[simp] theorem State.mramPut_gau (s : State) (a : Nat) (v : W16) : (s.mramPut a v).gau = s.gau := rfl
@[simp] theorem State.mramPut_ser (s : State) (a : Nat) (v : W16) : (s.mramPut a v).ser = s.ser := rfl
@[simp] theorem State.mramPut_rf (s : State) (a : Nat) (v : W16) : (s.mramPut a v).rf = s.rf := rfl
@[simp] theorem State.mramPut_lane (s : State) (a : Nat) (v : W16) : (s.mramPut a v).lane = s.lane := rfl
@[simp] theorem State.mramPut_lnk (s : State) (a : Nat) (v : W16) : (s.mramPut a v).lnk = s.lnk := rfl
@[simp] theorem State.mramPut_msh (s : State) (a : Nat) (v : W16) : (s.mramPut a v).msh = s.msh := rfl
@[simp] theorem State.mramPut_vlt (s : State) (a : Nat) (v : W16) : (s.mramPut a v).vlt = s.vlt := rfl
@[simp] theorem State.mramPut_dict (s : State) (a : Nat) (v : W16) : (s.mramPut a v).dict = s.dict := rfl
@[simp] theorem State.mramPut_wfl (s : State) (a : Nat) (v : W16) : (s.mramPut a v).wfl = s.wfl := rfl
@[simp] theorem State.mramPut_upd (s : State) (a : Nat) (v : W16) : (s.mramPut a v).upd = s.upd := rfl
@[simp] theorem State.mramPut_jtag (s : State) (a : Nat) (v : W16) : (s.mramPut a v).jtag = s.jtag := rfl
@[simp] theorem State.mramPut_retOrder (s : State) (a : Nat) (v : W16) : (s.mramPut a v).retOrder = s.retOrder := rfl
@[simp] theorem State.mramPut_selfTest (s : State) (a : Nat) (v : W16) : (s.mramPut a v).selfTest = s.selfTest := rfl
@[simp] theorem State.mramPut_vio1 (s : State) (a : Nat) (v : W16) : (s.mramPut a v).vio1 = s.vio1 := rfl
@[simp] theorem State.mramPut_vio2 (s : State) (a : Nat) (v : W16) : (s.mramPut a v).vio2 = s.vio2 := rfl
@[simp] theorem State.mramPut_gpioIn (s : State) (a : Nat) (v : W16) : (s.mramPut a v).gpioIn = s.gpioIn := rfl
@[simp] theorem State.mramPut_coexGnt (s : State) (a : Nat) (v : W16) : (s.mramPut a v).coexGnt = s.coexGnt := rfl
@[simp] theorem State.mramPut_pan (s : State) (a : Nat) (v : W16) : (s.mramPut a v).pan = s.pan := rfl
@[simp] theorem State.mramPut_wflStore (s : State) (a : Nat) (v : W16) : (s.mramPut a v).wflStore = s.wflStore := rfl
@[simp] theorem State.mramPut_again (s : State) (a : Nat) (v : W16) : (s.mramPut a v).again = s.again := rfl
@[simp] theorem State.mramPut_errors (s : State) (a : Nat) (v : W16) : (s.mramPut a v).errors = s.errors := rfl
@[simp] theorem State.mramPut_lastRead (s : State) (a : Nat) (v : W16) : (s.mramPut a v).lastRead = s.lastRead := rfl

/-! ## What sramPut leaves -/

@[simp] theorem State.sramPut_pending (s : State) (a : Nat) (v : W16) : (s.sramPut a v).pending = s.pending := (apply_ite State.pending _ _ _).trans (ite_self _)
@[simp] theorem State.sramPut_freeCtr (s : State) (a : Nat) (v : W16) : (s.sramPut a v).freeCtr = s.freeCtr := (apply_ite State.freeCtr _ _ _).trans (ite_self _)
@[simp] theorem State.sramPut_regs (s : State) (a : Nat) (v : W16) : (s.sramPut a v).regs = s.regs := (apply_ite State.regs _ _ _).trans (ite_self _)
@[simp] theorem State.sramPut_held (s : State) (a : Nat) (v : W16) : (s.sramPut a v).held = s.held := (apply_ite State.held _ _ _).trans (ite_self _)
@[simp] theorem State.sramPut_nt (s : State) (a : Nat) (v : W16) : (s.sramPut a v).nt = s.nt := (apply_ite State.nt _ _ _).trans (ite_self _)
@[simp] theorem State.sramPut_ntRun (s : State) (a : Nat) (v : W16) : (s.sramPut a v).ntRun = s.ntRun := (apply_ite State.ntRun _ _ _).trans (ite_self _)
@[simp] theorem State.sramPut_sleep (s : State) (a : Nat) (v : W16) : (s.sramPut a v).sleep = s.sleep := (apply_ite State.sleep _ _ _).trans (ite_self _)
@[simp] theorem State.sramPut_pair (s : State) (a : Nat) (v : W16) : (s.sramPut a v).pair = s.pair := (apply_ite State.pair _ _ _).trans (ite_self _)
@[simp] theorem State.sramPut_phase (s : State) (a : Nat) (v : W16) : (s.sramPut a v).phase = s.phase := (apply_ite State.phase _ _ _).trans (ite_self _)
@[simp] theorem State.sramPut_xbarUsed (s : State) (a : Nat) (v : W16) : (s.sramPut a v).xbarUsed = s.xbarUsed := (apply_ite State.xbarUsed _ _ _).trans (ite_self _)
@[simp] theorem State.sramPut_drainUsed (s : State) (a : Nat) (v : W16) : (s.sramPut a v).drainUsed = s.drainUsed := (apply_ite State.drainUsed _ _ _).trans (ite_self _)
@[simp] theorem State.sramPut_eng (s : State) (a : Nat) (v : W16) : (s.sramPut a v).eng = s.eng := (apply_ite State.eng _ _ _).trans (ite_self _)
@[simp] theorem State.sramPut_svc (s : State) (a : Nat) (v : W16) : (s.sramPut a v).svc = s.svc := (apply_ite State.svc _ _ _).trans (ite_self _)
@[simp] theorem State.sramPut_svcRun (s : State) (a : Nat) (v : W16) : (s.sramPut a v).svcRun = s.svcRun := (apply_ite State.svcRun _ _ _).trans (ite_self _)
@[simp] theorem State.sramPut_dbgHalt (s : State) (a : Nat) (v : W16) : (s.sramPut a v).dbgHalt = s.dbgHalt := (apply_ite State.dbgHalt _ _ _).trans (ite_self _)
@[simp] theorem State.sramPut_romIn (s : State) (a : Nat) (v : W16) : (s.sramPut a v).romIn = s.romIn := (apply_ite State.romIn _ _ _).trans (ite_self _)
@[simp] theorem State.sramPut_waits (s : State) (a : Nat) (v : W16) : (s.sramPut a v).waits = s.waits := (apply_ite State.waits _ _ _).trans (ite_self _)
@[simp] theorem State.sramPut_portWaits (s : State) (a : Nat) (v : W16) : (s.sramPut a v).portWaits = s.portWaits := (apply_ite State.portWaits _ _ _).trans (ite_self _)
@[simp] theorem State.sramPut_lateDone (s : State) (a : Nat) (v : W16) : (s.sramPut a v).lateDone = s.lateDone := (apply_ite State.lateDone _ _ _).trans (ite_self _)
@[simp] theorem State.sramPut_latePuts (s : State) (a : Nat) (v : W16) : (s.sramPut a v).latePuts = s.latePuts := (apply_ite State.latePuts _ _ _).trans (ite_self _)
@[simp] theorem State.sramPut_mram (s : State) (a : Nat) (v : W16) : (s.sramPut a v).mram = s.mram := (apply_ite State.mram _ _ _).trans (ite_self _)
@[simp] theorem State.sramPut_patterns (s : State) (a : Nat) (v : W16) : (s.sramPut a v).patterns = s.patterns := (apply_ite State.patterns _ _ _).trans (ite_self _)
@[simp] theorem State.sramPut_seq (s : State) (a : Nat) (v : W16) : (s.sramPut a v).seq = s.seq := (apply_ite State.seq _ _ _).trans (ite_self _)
@[simp] theorem State.sramPut_pwr (s : State) (a : Nat) (v : W16) : (s.sramPut a v).pwr = s.pwr := (apply_ite State.pwr _ _ _).trans (ite_self _)
@[simp] theorem State.sramPut_clk (s : State) (a : Nat) (v : W16) : (s.sramPut a v).clk = s.clk := (apply_ite State.clk _ _ _).trans (ite_self _)
@[simp] theorem State.sramPut_rings (s : State) (a : Nat) (v : W16) : (s.sramPut a v).rings = s.rings := (apply_ite State.rings _ _ _).trans (ite_self _)
@[simp] theorem State.sramPut_abortReq (s : State) (a : Nat) (v : W16) : (s.sramPut a v).abortReq = s.abortReq := (apply_ite State.abortReq _ _ _).trans (ite_self _)
@[simp] theorem State.sramPut_cbl (s : State) (a : Nat) (v : W16) : (s.sramPut a v).cbl = s.cbl := (apply_ite State.cbl _ _ _).trans (ite_self _)
@[simp] theorem State.sramPut_cad (s : State) (a : Nat) (v : W16) : (s.sramPut a v).cad = s.cad := (apply_ite State.cad _ _ _).trans (ite_self _)
@[simp] theorem State.sramPut_gau (s : State) (a : Nat) (v : W16) : (s.sramPut a v).gau = s.gau := (apply_ite State.gau _ _ _).trans (ite_self _)
@[simp] theorem State.sramPut_ser (s : State) (a : Nat) (v : W16) : (s.sramPut a v).ser = s.ser := (apply_ite State.ser _ _ _).trans (ite_self _)
@[simp] theorem State.sramPut_rf (s : State) (a : Nat) (v : W16) : (s.sramPut a v).rf = s.rf := (apply_ite State.rf _ _ _).trans (ite_self _)
@[simp] theorem State.sramPut_lane (s : State) (a : Nat) (v : W16) : (s.sramPut a v).lane = s.lane := (apply_ite State.lane _ _ _).trans (ite_self _)
@[simp] theorem State.sramPut_lnk (s : State) (a : Nat) (v : W16) : (s.sramPut a v).lnk = s.lnk := (apply_ite State.lnk _ _ _).trans (ite_self _)
@[simp] theorem State.sramPut_msh (s : State) (a : Nat) (v : W16) : (s.sramPut a v).msh = s.msh := (apply_ite State.msh _ _ _).trans (ite_self _)
@[simp] theorem State.sramPut_vlt (s : State) (a : Nat) (v : W16) : (s.sramPut a v).vlt = s.vlt := (apply_ite State.vlt _ _ _).trans (ite_self _)
@[simp] theorem State.sramPut_dict (s : State) (a : Nat) (v : W16) : (s.sramPut a v).dict = s.dict := (apply_ite State.dict _ _ _).trans (ite_self _)
@[simp] theorem State.sramPut_wfl (s : State) (a : Nat) (v : W16) : (s.sramPut a v).wfl = s.wfl := (apply_ite State.wfl _ _ _).trans (ite_self _)
@[simp] theorem State.sramPut_upd (s : State) (a : Nat) (v : W16) : (s.sramPut a v).upd = s.upd := (apply_ite State.upd _ _ _).trans (ite_self _)
@[simp] theorem State.sramPut_jtag (s : State) (a : Nat) (v : W16) : (s.sramPut a v).jtag = s.jtag := (apply_ite State.jtag _ _ _).trans (ite_self _)
@[simp] theorem State.sramPut_retOrder (s : State) (a : Nat) (v : W16) : (s.sramPut a v).retOrder = s.retOrder := (apply_ite State.retOrder _ _ _).trans (ite_self _)
@[simp] theorem State.sramPut_selfTest (s : State) (a : Nat) (v : W16) : (s.sramPut a v).selfTest = s.selfTest := (apply_ite State.selfTest _ _ _).trans (ite_self _)
@[simp] theorem State.sramPut_vio1 (s : State) (a : Nat) (v : W16) : (s.sramPut a v).vio1 = s.vio1 := (apply_ite State.vio1 _ _ _).trans (ite_self _)
@[simp] theorem State.sramPut_vio2 (s : State) (a : Nat) (v : W16) : (s.sramPut a v).vio2 = s.vio2 := (apply_ite State.vio2 _ _ _).trans (ite_self _)
@[simp] theorem State.sramPut_gpioIn (s : State) (a : Nat) (v : W16) : (s.sramPut a v).gpioIn = s.gpioIn := (apply_ite State.gpioIn _ _ _).trans (ite_self _)
@[simp] theorem State.sramPut_coexGnt (s : State) (a : Nat) (v : W16) : (s.sramPut a v).coexGnt = s.coexGnt := (apply_ite State.coexGnt _ _ _).trans (ite_self _)
@[simp] theorem State.sramPut_pan (s : State) (a : Nat) (v : W16) : (s.sramPut a v).pan = s.pan := (apply_ite State.pan _ _ _).trans (ite_self _)
@[simp] theorem State.sramPut_wflStore (s : State) (a : Nat) (v : W16) : (s.sramPut a v).wflStore = s.wflStore := (apply_ite State.wflStore _ _ _).trans (ite_self _)
@[simp] theorem State.sramPut_again (s : State) (a : Nat) (v : W16) : (s.sramPut a v).again = s.again := (apply_ite State.again _ _ _).trans (ite_self _)
@[simp] theorem State.sramPut_errors (s : State) (a : Nat) (v : W16) : (s.sramPut a v).errors = s.errors := (apply_ite State.errors _ _ _).trans (ite_self _)
@[simp] theorem State.sramPut_lastRead (s : State) (a : Nat) (v : W16) : (s.sramPut a v).lastRead = s.lastRead := (apply_ite State.lastRead _ _ _).trans (ite_self _)

end Sys2Proof.Machine
end

