-- ==== Sys2Proof/Tests/Slice0.lean ====
section
/-!
SUPPORT. Tests. Small states built by helpers; for every obligation with hypotheses one theorem that gives, clause by
clause, a state and operands that meet them together; an ill-formed command for each check of `Instr.wf`; the spec's worked
examples; and a few single commands.
-/
open Sys2Proof Sys2Proof.Machine

namespace Sys2Proof.Tests

set_option Elab.async false

/-! ## States -/

/-- Every domain and SRAM bank on, network time running, debug open, the service neither starting nor switching. -/
def awake : State :=
  let s := (State.reset.setWord (A.PWR_DSTAT 0) 0xAAAA).setWord (A.PWR_DSTAT 1) 0xAAAA
  let s := (List.range 4).foldl (fun s i => s.setWord (A.PWR_BANKSTATE i) 0xAAAA) s
  { s with ntRun := true, vlt := { s.vlt with dbglock := false }, upd := { s.upd with booting := .done },
           pwr := { s.pwr with queue := [] } }

/-- The sheet runs. -/
def running : State := awake.wr A.SEQ_STAT 11 10 2

/-- A sheet of one entry, START_CONFIRMED at slot 0, is being checked. -/
def checking : State :=
  let s := awake.wr A.SEQ_STAT 11 10 1
  let s := ((s.setWord (A.SEQ_LAP_CFG 0) 0x8000).setWord (A.SEQ_LAP_COUNT 0) 1).wrw A.SEQ_SLOTLEN 2 64000
  { s with seq := { s.seq with table := [(0, 0x81FF)] } }

/-- An action waits at its consumer, for an entry of lap 1. -/
def act (cons : Nat) (args : List W16) : EntryAct := ⟨cons, 1, 5, [0, 0, 0, 0, 0] ++ args, 40000, 3, []⟩
def acts (s : State) (l : List EntryAct) : State := { s with cbl := { s.cbl with acts := l } }

/-- An entry fetched for the placement given, with its instant. -/
def fetched (place : W16) (instant : Nat) : Fetched := ⟨2, 7, 100, instant, [place, 0, 0, 0, 0, 0x10, 0, 0]⟩
def entries (s : State) (l : List Fetched) : State := { s with seq := { s.seq with fetched := l } }

/-- The power controller's queue and the transition in progress. -/
def queued (s : State) (l : List Transition) : State := { s with pwr := { s.pwr with queue := l } }
def moves (s : State) (x : Transition) (p : XPhase) : State := { s with pwr := { s.pwr with current := some (x, p) } }

/-- A task of an engine; every engine has LOADED. -/
def task (buffered : Bool) : Task := ⟨1, 0, 0, 0, buffered, none, true, false, [], false, [], 0, 0⟩
def tasked (s : State) (k : Fin 8) (t : Option Task) : State := s.setEngine k { s.eng[k] with task := t }
def loadedAll (s : State) : State := (List.range 8).foldl (fun s k => s.setFlag (A.ENG_STAT k) 10 true) s

/-- Stages of a start and of an activation. -/
def booting (s : State) (b : BootStage) : State := { s with upd := { s.upd with booting := b } }
def staging (s : State) (st section_ : Nat) : State :=
  { s with upd := { s.upd with stState := st, section_ := section_, copied := true } }

/-- Ring n enabled, with 16 places. -/
def ringUp (s : State) (n : Nat) : State :=
  let s := ((s.setWord (A.RING_CFG n) 0x8004).setWord (A.RING_BASE n) (BitVec.ofNat 16 (n * 0x100))).setWord (A.RING_BASE n + 1) 0x11
  (s.setWord (A.RING_IDX n) (BitVec.ofNat 16 (0x8000 + n * 0x80))).setWord (A.RING_IDX n + 1) 0x11

/-- A descriptor stands at place p of ring n: fetched, past its commit point. -/
def posted (s : State) (n p : Nat) (ws : List W16) (fetched committed : Bool) : State :=
  let s := ringUp s n
  let s := (List.range ws.length).foldl (fun s k => s.sramPut (s.placeAddr n p + k) (ws.getD k 0)) s
  s.setRing n { s.ring n with pi := BitVec.ofNat 16 (p + 1), out := (s.ring n).out ++ [(p, fetched, committed)] }

/-- A sealed frame in a transmit descriptor. -/
def sealed (mode : Nat) : List W16 :=
  [0, BitVec.ofNat 16 (mode * 256 + 0x13), if mode = 9 then 0x2101 else 0, 20, 10, 0x4000, 0x10, 0x03FF, 0, 0x80]

/-- A cell's action at a chain, and a chain's operation. -/
def cell (c : Chain) (op : Nat) (cls nbr : Nat) : EntryAct :=
  act (0x20 + c.ix) [BitVec.ofNat 16 (op * 8192 + cls * 256 + 7), 5, BitVec.ofNat 16 nbr]
def radio (kind : OpKind) (desc : Option (Nat × Nat)) : RfOp :=
  { kind := kind, lap := 1, index := 5, a := 40000, instant := 50000, settle := 45000, stop := 70000, ch := 1, hop := 3,
    nbr := 0x3FF, lanes := 0x3FF, txClass := 0, desc := desc, read := true, sealWait := false, freq := 8000000, pwr := 40,
    clipped := false, held := ⟨8, false, false, 0, 0, false⟩, granted := none, cca := false, emitted := false, listened := false, ackWanted := false, heard := false, hit := false }
def onAir (s : State) (c : Chain) (st : Nat) (o : RfOp) : State := (s.setOp c (some o)).setRfState c st

/-- A frame of lane 9 by sub-state. -/
def inFrame (sub : Nat) : LaneFrame :=
  { sub := sub, power := 0, mode := 0x21, coded := false, time := 4000, length := 13, fcs4 := false, place := none,
    unplaced := false, waitsPlace := false, modeSwitch := false, whiten := false, seed := 0, interleaved := false }

/-- A frame being judged, and an acknowledgement to be sent. -/
def judged (octets : List Octet) : Judged :=
  ⟨3, .A, { inFrame 4 with length := 20, fcs4 := true, place := some 2 }, octets, octets.length + 2, -60, 200, 5, 3, 0x3FF, 0, 5000, 100,
    true, 40000, .receive, 0x3FF⟩
def plainFrame : List Octet := [0x01, 0x88, 5, 0xCD, 0xAB, 0xFF, 0xFF, 0x34, 0x12, 0x11, 0x22]
def securedFrame : List Octet :=
  [0x09, 0xA8, 5, 0xCD, 0xAB, 0xFF, 0xFF, 0x34, 0x12, 0x05, 1, 2, 3, 4, 5, 6, 7, 8, 9, 10, 11, 12, 13, 14, 15, 16]
def judging (s : State) (octets : List Octet) : State :=
  { s.wr A.LNK_CTRL 15 14 1 with lnk := { s.lnk with judging := [judged octets] } }
def ack : AckOut := ⟨5, 2, false, 0, 0, 0, true, 7, 0x21, 3, 40000, some (3, 2)⟩
def acking (s : State) (c : Chain) : State := { s with lnk := { s.lnk with ackOut := vset s.lnk.ackOut c.ix (some ack) } }

/-- Capture channel 7 with CFG as given; every pin of port bank 1 has its function. -/
def capturing (cfg : W16) : State :=
  (List.range 4).foldl (fun s p => s.setWord (A.PER_P_FUNC p) 0x5555) { awake.setWord (A.CAD_CC_CFG 7) cfg with vio1 := true }

/-- Channel 1 of chain A lies in its band, XO32M is qualified and the chain's calibration is good. -/
def band : State :=
  let s := ((awake.setWord (A.RF_CHBASE .A) 0x1200).setWord (A.RF_CHBASE .A + 1) 0x7A).setWord (A.RF_CHSPACE .A) 100
  (s.setFlag A.CLK_STAT 15 true).setFlag (A.RF_STAT .A) 11 true

/-- The gauge enabled, and with converter SD0 or SAR converting. -/
def gauge : State := awake.wr A.GAU_CTRL 15 14 1
def converting (s : State) : State :=
  { s with gau := { s.gau with conv := s.gau.conv.map fun _ => some ⟨77, 0x12, true, 3, 0x1FF, none⟩ } }

/-- The Waifeti Link at an address, idle; and with the header of a frame heard, slot 1 taken for its body. -/
def wire (addr : Nat) : State := { awake.wr A.WFL_ADDR 5 0 addr with vio1 := true }
def heard (addr type len : Nat) : State :=
  { wire addr with wfl := { awake.wfl with header := some (addr, type, len, 2), slot := some 1 } }

/-- Every slot of the grant pattern in force is engine 3's. -/
def granting (s : State) : State := { s with patterns := (List.range 128).map fun i => (i, 0x3333) }

/-- Ring n holds three items and three places. -/
def ready (s : State) (n : Nat) : State := s.setRing n { s.ring n with pi := 3, cqw := 3, recs := [0, 1, 2] }

/-- A result about to land in engine 3, and its instruction memory. -/
def landing (s : State) (l : Landing) : State :=
  s.setEngine 3 { s.eng[3] with bank := { s.eng[3].bank with flight := [⟨1, l⟩] } }
def coded (s : State) (m : Cells) : State := s.setEngine 3 { s.eng[3] with imem := m }
def basing (s : State) : State := s.setEngine 3 { s.eng[3] with bank := { s.eng[3].bank with a := s.eng[3].bank.a.set 7 0x100000 } }

/-- Engine 3 drains its commit buffer 0. -/
def draining (s : State) : State :=
  let e := s.eng[3]
  s.setEngine 3 { e with bufs := e.bufs.set 0 { e.bufs[0] with st := .draining, ents := [.store 0x110000 0x8001, .store 0x110100 7] } }

/-- Engine k is retired, and has been tested and loaded since. -/
def passed (k : Fin 8) : State :=
  (awake.setFlag A.ENG_RETIRED k.val true).setEngine k { awake.eng[k] with passSince := true, loadSince := true }

/-- Lane 9 in a phase with a frame, while chain B receives or awaits an acknowledgement. -/
def inPhase (s : State) (ph : Nat) (f : Option LaneFrame) : State :=
  ((s.setLane 9 { s.laneOf 9 with frame := f }).wr (A.RXE_LANE_STAT 9) 15 13 ph).wr (A.RXE_LANE_CFG 9) 15 14 1
def listening (ph : Nat) (f : Option LaneFrame) : State := onAir (inPhase awake ph f) .B 4 (radio .receive none)
def awaiting (ph : Nat) (f : Option LaneFrame) : State :=
  onAir (inPhase awake ph f) .B 4 { radio .txShared (some (2, 3)) with emitted := true }

/-- The relay engine enabled. -/
def meshing (s : State) : State := (s.wr A.MSH_CTRL 15 14 1).wr A.MSH_TSTAT 15 13 1

/-- A vault request's words (OP and flags first) and its entry; the vault enabled, enrolled, with an AES key in slot 20. -/
def words (op slot len aad param : Nat) : List W16 :=
  [0, BitVec.ofNat 16 op, BitVec.ofNat 16 slot, 0, 0x14, BitVec.ofNat 16 len, 0, 0x15, BitVec.ofNat 16 aad, 0, 0x16,
   BitVec.ofNat 16 param, 0, 0, 0, 0]
def request (ring : Nat) (ws : List W16) : VltOp :=
  ⟨bits (ws.getD 1 0).toNat 15 8, ring, 0, ws, false, false, 0, 0, [], if ring = 64 then List.replicate 20 9 else []⟩
def vault (s : State) : State :=
  let k : List KeySlot := [⟨20, 0x9E18, 3, 65536, 7, 111⟩, ⟨2, 0xB100, 1, 0, 0, 8⟩, ⟨3, 0xD100, 1, 0, 0, 8⟩]
  ({ s with vlt := { s.vlt with slots := k, stored := k, enrolled := true, pufGood := true } }.wr A.VLT_STAT 15 14 1).wr A.VLT_CTRL 15 14 1
def operating (o : VltOp) : State :=
  let s := posted awake 32 0 o.words true false
  vault { s with vlt := { s.vlt with ops := [o] } }

/-- A dictionary command's octets (R367): OP, ROLE, REQID, index, sub, LEN and its data. -/
def octets (op role reqid index sub len : Nat) (data : List Octet) : List Octet :=
  [BitVec.ofNat 8 op, BitVec.ofNat 8 (role * 16)] ++ toOctets 4 reqid ++ toOctets 2 index ++ [BitVec.ofNat 8 sub, 0, 0, 0] ++
    toOctets 2 len ++ data
def zeros (n : Nat) : List Octet := List.replicate n 0

/-- It stands at the head of ring 0 from the wire, with a tag of zeros; or as a HOLD frame from the mesh, opened by key 2. -/
def asked (s : State) (os : List Octet) : State :=
  let s := posted (s.putOctets 0x130000 0 (os ++ zeros 8)) 0 0
    [0, 0, 0x010F, BitVec.ofNat 16 (os.length + 8), 0, 0x13, 0, 0, 0, 0, 0, 2, 0, 0, 0, 0] false false
  s.setRing 0 { s.ring 0 with out := [] }
def mesh : Origin := .mesh 5 0x1234
def holdFrame (s : State) (os : List Octet) : State :=
  let s := posted s 0 0 [0, 0, 0x0102, 60, 0, 0x13, 0, 0, 0, 0, 0, 0, 0, 8, 0, 0] false false
  let s := (s.setRing 0 { s.ring 0 with out := [] }).wrw (A.LNK_KEYMAP 2) 2 0x50000005
  let frame := [0x09, 0x20, 1, 0, 0, 0, 0, 0, 0x30, 0x18, 0x05, 0xFF, 0, 0, 0x34, 0x12, 1, 0, 0xFF, 0xFF, 0, 0, 0, 0, 1, 0, 2, 0]
  { s with lnk := { s.lnk with control := [(0, frame ++ os)] } }.putSetting 0x1200 3 [4] 5

/-- Points 0101h.01 and 1100h.04: a master key and its slot, so that a tag needs a key. -/
def keyed (s : State) : State := (s.putSetting 0x0101 1 [1, 2, 3, 4] 5).putSetting 0x1100 4 [20] 6

/-- A journal entry with its check; the journal that holds it alone. -/
def entry (seq type op index sub : Nat) (org : BitVec 32) : List W16 :=
  jnlWords seq 99 ⟨6, type, 0, BitVec.ofNat 16 (0x4000 + op), org, 5, BitVec.ofNat 16 index, BitVec.ofNat 8 sub, 0, 0⟩
def journaled (e : List W16) : State := (awake.mramPuts (jnlAddr (jSeq e)) e).wrw A.JNL_HEAD 2 2

/-- A command from the wire that waits for its COMMAND entry, which is being written. -/
def command (op index sub : Nat) (data : List Octet) : DictCmd := ⟨op, .wire, 4, 5, index, sub, 0, data, 0, none⟩
def entryOf (c : DictCmd) : List W16 := entry 9 1 c.op c.index c.sub c.origin.code
def committing (c : DictCmd) : State :=
  { awake with dict := { awake.dict with waiting := [c], writing := some (entryOf c, ⟨6, 1, 0, 0x4003, 1, 2, 3, 4, 5, 6⟩) } }

/-- A start whose chains are calibrated. -/
def calibrating (s : State) : State := { s with upd := { s.upd with calibrated := [.A, .B] } }

/-- Ring n enabled, its reservation held by the receive engine. -/
def holding (s : State) (n : Nat) : State := (ringUp s n).setRing n { s.ring n with holder := some 8 }

/-- Without a grant pattern every phase of every bank is free. -/
theorem servable_of_no_pattern {s : State} (h : s.patterns = []) (p : Nat) (b : Nat) : s.servable p b = true := by
  have hc : ∀ f, s.codeAt f b = 15 := by
    intro f
    have hb : b % 4 < 4 := Nat.mod_lt _ (by omega)
    unfold State.codeAt
    simp only [h, cellsGet]
    generalize b % 4 = r at hb ⊢
    simp only [onesWord]
    match r, hb with
    | 0, _ | 1, _ | 2, _ | 3, _ => decide
  simp only [State.servable, hc, List.any_eq_true]
  exact ⟨0, by decide, by simp⟩

/-- Answers that carry no decidable equality. -/
theorem error_of {α : Type} {x : Except Nat α} {n : Nat}
    (h : (match x with | .error m => decide (m = n) | .ok _ => false) = true) : x = .error n := by
  cases x <;> simp_all
theorem ok_of {α : Type} [DecidableEq α] {x : Except Nat α} {p : α}
    (h : (match x with | .ok q => decide (q = p) | .error _ => false) = true) : x = .ok p := by
  cases x <;> simp_all

/-! ## Hypotheses that states meet -/

theorem test_hypotheses_StepRunsFront :
    (∃ (s : State) (c : Instr) (rest : List Instr), s.pending = c :: rest) ∧
    (∃ (s : State), s.pending = [] ∧ s.ntRun = true) ∧
    (∃ (s : State), s.pending = [] ∧ s.ntRun = false) :=
  ⟨⟨{ State.reset with pending := [.bypass] }, .bypass, [], by decide +kernel⟩,
   ⟨awake, by decide +kernel⟩,
   ⟨State.reset, by decide +kernel⟩⟩

theorem test_hypotheses_ResetRegisters :
    (∃ (d : Nat), d < 16) ∧
    (∃ (b : Nat), b < 32) ∧
    (∃ (a : Nat), a ≠ A.PWR_XSTAT) :=
  ⟨⟨15, by decide +kernel⟩,
   ⟨15, by decide +kernel⟩,
   ⟨15, by decide +kernel⟩⟩

theorem test_hypotheses_StepKeepsMemoryForm :
    ∃ (s : State) (t : State), s.memWf = true ∧ step s = .next t :=
  ⟨State.reset, State.reset, by decide +kernel, rfl⟩

theorem test_hypotheses_ResetCauses :
    (∃ (_s : State) (c : Instr), c ∈ [Instr.powerOnReset, Instr.brownOut, Instr.overTemperature,
      Instr.jtagSystemReset]) ∧
    (∃ (_s : State) (c : Instr), c ∈ [Instr.brownOut, Instr.overTemperature]) :=
  ⟨⟨awake, .powerOnReset, by decide +kernel⟩,
   ⟨awake, .brownOut, by decide +kernel⟩⟩

theorem test_hypotheses_CommitCheck :
    (∃ (s : State), s.quiet ∧ s.on 10 = true ∧ s.rd A.SEQ_STAT 11 10 = 1 ∧ s.commitFailure = none) ∧
    (∃ (s : State) (c : Nat) (i : Nat), s.quiet ∧ s.on 10 = true ∧ s.rd A.SEQ_STAT 11 10 = 1 ∧ s.commitFailure = some
      (c, i)) ∧
    (∃ (s : State), s.quiet ∧ s.on 10 = true ∧ s.rd A.SEQ_STAT 11 10 = 1 ∧ (∀ (n : Nat), n < 8 → s.lapOn n = false)) :=
  ⟨⟨checking, by unfold State.quiet; decide +kernel⟩,
   ⟨awake.wr A.SEQ_STAT 11 10 1, 9, 0, by unfold State.quiet; decide +kernel⟩,
   ⟨awake.wr A.SEQ_STAT 11 10 1, by unfold State.quiet; decide +kernel⟩⟩

theorem test_hypotheses_SlotStart :
    ∃ (s : State), s.quiet ∧ s.on 10 = true ∧ s.ntRun = true ∧ 2 ≤ s.rd A.SEQ_STAT 11 10 ∧ s.rdw A.SEQ_EPOCH 4 ≤ s.now :=
  ⟨running, by unfold State.quiet; decide +kernel⟩

theorem test_hypotheses_EntryFetch :
    ∃ (n : Fin 8) (s : State), s.on 10 = true ∧ 2 ≤ s.rd A.SEQ_STAT 11 10 ∧ s.lapOn n.val = true ∧ s.lapCount n.val ≠
      0 :=
  ⟨0, checking.wr A.SEQ_STAT 11 10 2, by decide +kernel⟩

theorem test_hypotheses_EntryFire :
    (∃ (s : State) (f : Fetched), s.on 10 = true ∧ s.ntRun = true ∧ 2 ≤ s.rd A.SEQ_STAT 11 10 ∧ s.seq.fetched = [f] ∧
      f.instant = s.now ∧ bit (ePlace f.words) (s.rd A.SEQ_STAT 9 6) = true ∧ s.seq.lastTick ≠ s.now ∧ s.seq.windows =
      [] ∧ s.seq.monitors.length < 32) ∧
    (∃ (s : State) (f : Fetched), s.on 10 = true ∧ s.ntRun = true ∧ 2 ≤ s.rd A.SEQ_STAT 11 10 ∧ s.seq.fetched = [f] ∧
      f.instant ≤ s.now ∧ bit (ePlace f.words) (s.rd A.SEQ_STAT 9 6) = false ∧ s.seq.lastTick = s.now) ∧
    (∃ (s : State), s.on 10 = true ∧ s.ntRun = true ∧ 2 ≤ s.rd A.SEQ_STAT 11 10 ∧ (∀ (f : Fetched), f ∈ s.seq.fetched
      → s.now < f.instant) ∧ s.seq.lastTick = s.now) :=
  ⟨⟨{ entries running [fetched 0x31FF 0] with seq := { running.seq with fetched := [fetched 0x31FF 0], lastTick := 7 } },
     fetched 0x31FF 0, by decide +kernel⟩,
   ⟨entries running [fetched 0x3000 0], fetched 0x3000 0, by decide +kernel⟩,
   ⟨running, by decide +kernel⟩⟩

theorem test_hypotheses_BudgetAndWindowEnds :
    (∃ (m : Fin 32) (x : Monitor) (s : State), s.seq.monitors[m.val]? = some x ∧ x.deadline ≤ s.now ∧ x.overrun =
      false ∧ s.on 10 = true ∧ x.kind ≠ 2) ∧
    (∃ (r : Octet) (w : Window) (s : State), List.find? (fun w => w.rwin == BitVec.toNat r) s.seq.windows = some w ∧
      w.stop ≤ s.now ∧ s.on 10 = true ∧ w.active = false) ∧
    (∃ (r : Octet) (w : Window) (s : State), List.find? (fun w => w.rwin == BitVec.toNat r) s.seq.windows = some w ∧
      w.stop ≤ s.now ∧ s.on 10 = true ∧ w.active = true ∧ w.run = none ∧ s.seq.mismatches = [] ∧ s.seq.deferred = []) ∧
    (∃ (r : Octet) (w : Window) (s : State), List.find? (fun w => w.rwin == BitVec.toNat r) s.seq.windows = some w ∧
      s.now < w.stop) :=
  ⟨⟨0, ⟨0, 1, 2, 3, 50, 5, 0, 0, false⟩,
     { awake with nt := 400, seq := { awake.seq with monitors := [⟨0, 1, 2, 3, 50, 5, 0, 0, false⟩] } },
     by decide +kernel⟩,
   ⟨255, ⟨255, 0, 1, 3, 1, 50, false, 0, 0, 0, none⟩,
     { awake with nt := 400, seq := { awake.seq with windows := [⟨255, 0, 1, 3, 1, 50, false, 0, 0, 0, none⟩] } },
     by decide +kernel⟩,
   ⟨255, ⟨255, 0, 1, 3, 1, 50, true, 0, 0, 0, none⟩,
     { awake with nt := 400, seq := { awake.seq with windows := [⟨255, 0, 1, 3, 1, 50, true, 0, 0, 0, none⟩] } },
     by decide +kernel⟩,
   ⟨255, ⟨255, 0, 1, 3, 1, 51, true, 0, 0, 0, none⟩,
     { awake with nt := 400, seq := { awake.seq with windows := [⟨255, 0, 1, 3, 1, 51, true, 0, 0, 0, none⟩] } },
     by decide +kernel⟩⟩

theorem test_hypotheses_EntryActions :
    (∃ (s : State) (a : EntryAct), List.find? (fun a => a.cons == 35) s.cbl.acts = some a ∧ s.heldOff (a.arg 0 % 16) =
      false ∧ (∀ (x : Transition), x ∈ s.pwr.queue → x.demand = true ∨ x.dom ≠ a.arg 0 % 16)) ∧
    (∃ (s : State) (a : EntryAct) (l : List Transition) (r : List Transition) (x : Transition), List.find?
      (fun a => a.cons == 35) s.cbl.acts = some a ∧ s.heldOff (a.arg 0 % 16) = false ∧ s.pwr.queue = l ++ x :: r ∧
      x.demand = false ∧ x.dom = a.arg 0 % 16 ∧ (∀ (y : Transition), y ∈ l → y.demand = true ∨ y.dom ≠ x.dom)) ∧
    (∃ (s : State) (a : EntryAct), List.find? (fun a => a.cons == 35) s.cbl.acts = some a ∧ s.heldOff (a.arg 0 % 16) =
      true) ∧
    (∃ (s : State) (a : EntryAct), List.find? (fun a => a.cons == 34) s.cbl.acts = some a ∧ s.on 8 = true) ∧
    (∃ (s : State) (a : EntryAct), List.find? (fun a => a.cons == 34) s.cbl.acts = some a ∧ s.on 8 = false) ∧
    (∃ (s : State) (a : EntryAct), List.find? (fun a => a.cons == 36) s.cbl.acts = some a ∧ s.flag A.CLK_STAT 15 =
      true ∧ s.clk.pllWait = false) ∧
    (∃ (s : State) (a : EntryAct), List.find? (fun a => a.cons == 36) s.cbl.acts = some a ∧ s.flag A.CLK_STAT 15 =
      false) ∧
    (∃ (s : State) (a : EntryAct), List.find? (fun a => a.cons == 37) s.cbl.acts = some a) ∧
    (∃ (s : State) (a : EntryAct), List.find? (fun a => a.cons == 38) s.cbl.acts = some a ∧ s.seq.confirmedOnce =
      false) ∧
    (∃ (s : State) (a : EntryAct), List.find? (fun a => a.cons == 38) s.cbl.acts = some a ∧ s.seq.confirmedOnce =
      true) ∧
    (∃ (s : State) (p : Instr × Nat), p ∈ [(Instr.grant, 34), (Instr.gear, 36), (Instr.wakecmp, 37),
      (Instr.startConfirmed, 38)] ∧ List.find? (fun a => a.cons == p.snd) s.cbl.acts = none) :=
  ⟨⟨acts awake [act 35 [0x23, 0, 0]], act 35 [0x23, 0, 0], by decide +kernel⟩,
   ⟨queued (acts awake [act 35 [0x23, 0, 0]]) [⟨3, 1, 0, true, none⟩, ⟨3, 0, 0, false, none⟩], act 35 [0x23, 0, 0],
     [⟨3, 1, 0, true, none⟩], [], ⟨3, 0, 0, false, none⟩, by decide +kernel⟩,
   ⟨acts (awake.setFlag A.ENG_RETIRED 3 true) [act 35 [0x23, 0, 0]], act 35 [0x23, 0, 0], by decide +kernel⟩,
   ⟨acts awake [act 34 [0x13, 0, 0]], act 34 [0x13, 0, 0], by decide +kernel⟩,
   ⟨acts State.reset [act 34 [0x13, 0, 0]], act 34 [0x13, 0, 0], by decide +kernel⟩,
   ⟨acts (awake.setFlag A.CLK_STAT 15 true) [act 36 [4, 0, 0]], act 36 [4, 0, 0], by decide +kernel⟩,
   ⟨acts awake [act 36 [4, 0, 0]], act 36 [4, 0, 0], by decide +kernel⟩,
   ⟨acts awake [act 37 [7, 0x1234, 5]], act 37 [7, 0x1234, 5], by decide +kernel⟩,
   ⟨acts awake [act 38 [0, 0, 0]], act 38 [0, 0, 0], by decide +kernel⟩,
   ⟨{ acts awake [act 38 [0, 0, 0]] with seq := { awake.seq with confirmedOnce := true } }, act 38 [0, 0, 0],
     by decide +kernel⟩,
   ⟨acts awake [act 35 [0x23, 0, 0]], (.grant, 34), by decide +kernel⟩⟩

theorem test_hypotheses_TransitionStart :
    (∃ (s : State) (x : Transition) (rest : List Transition), s.pwr.current = none ∧ s.pwr.queue = x :: rest ∧ x.dom ≠
      8 ∧ s.domState x.dom = x.target ∧ x.entry = none) ∧
    (∃ (s : State) (x : Transition) (rest : List Transition), s.pwr.current = none ∧ s.pwr.queue = x :: rest ∧ x.dom <
      16 ∧ x.dom ≠ 8 ∧ s.domState x.dom < x.target) ∧
    (∃ (s : State) (x : Transition) (rest : List Transition), s.pwr.current = none ∧ s.pwr.queue = x :: rest ∧ x.dom <
      16 ∧ x.dom ≠ 8 ∧ s.domState x.dom = 2 ∧ x.target < 2) ∧
    (∃ (s : State) (x : Transition) (rest : List Transition), s.pwr.current = none ∧ s.pwr.queue = x :: rest ∧ x.dom <
      16 ∧ x.dom ≠ 8 ∧ s.domState x.dom = 1 ∧ x.target = 0) ∧
    (∃ (s : State), (s.pwr.current ≠ none ∨ s.pwr.queue = [])) :=
  ⟨⟨queued awake [⟨3, 2, 0, false, none⟩], ⟨3, 2, 0, false, none⟩, [], by decide +kernel⟩,
   ⟨queued (awake.setDomState 3 1) [⟨3, 2, 0, false, none⟩], ⟨3, 2, 0, false, none⟩, [], by decide +kernel⟩,
   ⟨queued awake [⟨3, 1, 0, false, none⟩], ⟨3, 1, 0, false, none⟩, [], by decide +kernel⟩,
   ⟨queued (awake.setDomState 3 1) [⟨3, 0, 0, false, none⟩], ⟨3, 0, 0, false, none⟩, [], by decide +kernel⟩,
   ⟨awake, by decide +kernel⟩⟩

theorem test_hypotheses_WakeSteps :
    (∃ (s : State) (x : Transition) (k : Nat), s.pwr.current = some (x, XPhase.wake k) ∧ k < 3 ∧ ¬x.dom ∈ [8, 9, 14] ∧
      (k = 1 → s.flag A.CLK_STAT 15 = true ∨ s.flag A.CLK_STAT 14 = true)) ∧
    (∃ (s : State) (x : Transition), s.pwr.current = some (x, XPhase.wake 1) ∧ s.flag A.CLK_STAT 15 = false ∧ s.flag
      A.CLK_STAT 14 = false) ∧
    (∃ (s : State) (x : Transition), s.quiet ∧ s.serves = false ∧ s.pwr.current = some (x, XPhase.wake 3) ∧ x.dom < 16
      ∧ ¬x.dom ∈ [8, 9, 14] ∧ s.pwr.thenRetain = false) ∧
    (∃ (s : State) (x : Transition), s.pwr.current = some (x, XPhase.wake 3) ∧ s.pwr.thenRetain = true) :=
  ⟨⟨moves awake ⟨3, 2, 0, false, none⟩ (.wake 2), ⟨3, 2, 0, false, none⟩, 2, by decide +kernel⟩,
   ⟨moves awake ⟨3, 2, 0, false, none⟩ (.wake 1), ⟨3, 2, 0, false, none⟩, by decide +kernel⟩,
   ⟨moves (tasked awake 0 (some (task false))) ⟨3, 2, 0, false, none⟩ (.wake 3), ⟨3, 2, 0, false, none⟩,
     by unfold State.quiet; decide +kernel⟩,
   ⟨{ awake with pwr := { awake.pwr with current := some (⟨3, 2, 0, false, none⟩, .wake 3), thenRetain := true } },
     ⟨3, 2, 0, false, none⟩, by decide +kernel⟩⟩

theorem test_hypotheses_Entries :
    (∃ (s : State) (x : Transition), s.pwr.current = some (x, XPhase.prepare) ∧ s.refusers x.dom = [] ∧ (x.dom = 9 →
      s.dict.writing = none)) ∧
    (∃ (s : State) (x : Transition) (b : Nat) (l : List Nat) (_no : Option (BitVec 5)), s.pwr.current = some (x,
      XPhase.prepare) ∧ s.refusers x.dom = b :: l ∧ x.dom < 16 ∧ x.dom ≠ 9 ∧ b < 32) ∧
    (∃ (s : State) (x : Transition), s.pwr.current = some (x, XPhase.commit) ∧ x.dom < 16 ∧ x.dom ≠ 8 ∧ s.pwr.latched
      = none ∧ (∀ (w : Access), w ∈ s.waits → w.dom ≠ some x.dom) ∧ x.target < 2) ∧
    (∃ (s : State) (x : Transition) (k : Fin 8), s.pwr.current = some (x, XPhase.commit) ∧ x.dom = k.val ∧
      s.pwr.latched = none ∧ (∀ (w : Access), w ∈ s.waits → w.dom ≠ some x.dom)) :=
  ⟨⟨moves awake ⟨3, 1, 0, false, none⟩ .prepare, ⟨3, 1, 0, false, none⟩, by decide +kernel⟩,
   ⟨moves (tasked awake 3 (some (task false))) ⟨3, 1, 0, false, none⟩ .prepare, ⟨3, 1, 0, false, none⟩, 0x1F, [],
     none, by decide +kernel⟩,
   ⟨moves awake ⟨15, 0, 0, false, none⟩ .commit, ⟨15, 0, 0, false, none⟩, by decide +kernel⟩,
   ⟨moves awake ⟨3, 0, 0, false, none⟩ .commit, ⟨3, 0, 0, false, none⟩, 3, by decide +kernel⟩⟩

theorem test_hypotheses_PowerEvents :
    (∃ (n : Fin 4) (_level : Bool) (_w : Bool) (s : State), s.vio1 = true ∧ s.flag (A.PWR_WSRC (9 + n.val)) 15 = true
      ∧ s.flag (A.PWR_WSRC (9 + n.val)) 14 = false) ∧
    (∃ (n : Fin 4) (level : Bool) (s : State) (d : Nat), s.vio1 = true ∧ s.flag (A.PWR_WSRC (9 + n.val)) 15 = true ∧
      s.flag (A.PWR_WSRC (9 + n.val)) 14 = true ∧ level = !s.flag (A.PWR_WSRC (9 + n.val)) 13 ∧ s.pwr.pins.getLsbD
      n.val = !level ∧ s.pwr.current = none ∧ d ∈ s.wakeSet (9 + n.val) ∧ s.domState d < 2 ∧ s.heldOff d = false) ∧
    (∃ (d : Fin 16) (w : Access) (v : W16) (s : State), s.waits = [w] ∧ w.dom = some d.val ∧ w.kind = AccessKind.write
      v ∧ w.who = Initiator.debug ∧ s.on d.val = true ∧ regionOf w.addr = Region.register ∧ (s.addrDom w.who
      w.addr).fst = d.val ∧ s.vlt.dbglock = false ∧ d.val ≠ 8 ∧ d.val ≠ 14) ∧
    (∃ (d : Fin 16) (s : State), (∀ (w : Access), w ∈ s.waits → w.dom ≠ some d.val) ∧ (s.on d.val = false ∨ d.val ≠ 8
      ∧ d.val ≠ 14)) ∧
    (∃ (buf : Nat) (i : Nat) (os : List Octet) (s : State), s.waits = [] ∧ s.on 8 = true ∧ s.latePuts = [(buf, i, os)]
      ∧ s.lateDone = [] ∧ s.ramReady (buf + i / 2) ((i % 2 + os.length + 1) / 2) = true ∧ (∀ (c : Chain), (s.chain
      c).next = [] ∧ (s.chain c).waiting = none ∧ (s.chain c).op = none)) ∧
    (∃ (n : Fin 15) (s : State), s.flag A.CLK_GATE n.val = true ∧ s.flag A.CLK_GATESTAT n.val = false ∧ s.on 10 =
      true) ∧
    (∃ (s : State) (b : Nat), s.serves = true ∧ b < 32 ∧ s.on 8 = true ∧ s.bankState b = 2 ∧ s.bankLost b = true ∧
      s.rd (A.PWR_REBUILD b) 15 14 = 0) :=
  ⟨⟨0, true, true, { awake.setWord (A.PWR_WSRC 9) 0x8000 with vio1 := true }, by decide +kernel⟩,
   ⟨0, true,
     { ((awake.setWord (A.PWR_WSRC 9) 0xC000).setWord (A.PWR_WSET 0) 0x0008).setDomState 3 0 with vio1 := true }, 3,
     by decide +kernel⟩,
   ⟨10, ⟨.debug, 15, A.CAD_PPSCFG, .write 0x8005, some 10, 0⟩, 0x8005,
     { awake with waits := [⟨.debug, 15, A.CAD_PPSCFG, .write 0x8005, some 10, 0⟩] }, by decide +kernel⟩,
   ⟨10, { awake.setWord (A.PWR_WSRC 9) 0x8000 with vio1 := true }, by decide +kernel⟩,
   ⟨0x110000, 0, [1, 2], { awake with latePuts := [(0x110000, 0, [1, 2])] }, by decide +kernel, by decide +kernel,
     by decide +kernel, by decide +kernel, by decide +kernel, by intro c; cases c <;> decide +kernel⟩,
   ⟨14, awake.setWord A.CLK_GATE 0x4000, by decide +kernel⟩,
   ⟨awake.setWord (A.PWR_BANKLOST + 1) 0x8000, 31, by decide +kernel⟩⟩

theorem test_hypotheses_ClockSources :
    (∃ (s : State), s.flag A.PWR_GEAR 15 = true ∧ s.pwr.stepUp = true ∧ s.rd A.PWR_GEAR 2 0 < s.rd A.PWR_GEAR 6 4) ∧
    (∃ (s : State), s.flag A.PWR_GEAR 15 = true ∧ s.pwr.stepUp = false ∧ s.rd A.PWR_GEAR 6 4 ≤ s.rd A.PWR_GEAR 2 0) ∧
    (∃ (s : State), s.flag A.CLK_STAT 10 = true) ∧
    (∃ (s : State), s.clk.pllWait = true) ∧
    (∃ (s : State) (c : Instr), c ∈ [Instr.gearStepEnd, Instr.pllLockLost, Instr.pllRelock] ∧ s.flag A.PWR_GEAR 15 =
      false ∧ s.flag A.CLK_STAT 10 = false ∧ s.clk.pllWait = false) ∧
    (∃ (s : State) (v : W16), s.quiet ∧ s.clk.mRun = true ∧ s.flag A.CLK_STAT 15 = false ∧ s.clk.mGood = 1 ∧ 2017 ≤
      BitVec.toNat v ∧ BitVec.toNat v ≤ 2079) ∧
    (∃ (s : State) (_v : W16), s.quiet ∧ s.clk.mRun = true ∧ s.flag A.CLK_STAT 15 = false ∧ s.clk.mGood = 0) ∧
    (∃ (s : State) (v : W16), s.quiet ∧ s.clk.kRun = true ∧ s.flag A.CLK_STAT 13 = false ∧ s.clk.kGood = 1 ∧ 61 ≤
      BitVec.toNat v ∧ BitVec.toNat v ≤ 67) ∧
    (∃ (s : State) (v : W16), s.quiet ∧ s.clk.rcRun = true ∧ 3516 ≤ BitVec.toNat v ∧ BitVec.toNat v ≤ 4297) ∧
    (∃ (s : State), s.clk.mRun = true ∧ s.flag A.CLK_STAT 15 = true) ∧
    (∃ (s : State), s.clk.kRun = true ∧ s.flag A.CLK_STAT 13 = true) ∧
    (∃ (s : State), s.clk.rcRun = true ∧ s.flag A.CLK_STAT 15 = true) ∧
    (∃ (s : State), s.flag A.CLK_STAT 13 = false) ∧
    (∃ (s : State), s.flag A.CLK_STAT 15 = false) ∧
    (∃ (s : State) (n : Nat), n < 8 ∧ s.flag A.CAD_WCSTAT n = true ∧ s.rdw (A.CAD_WC n) 3 ≤ s.sleep.toNat + s.rd
      A.CLK_XLEAD 9 0) ∧
    (∃ (s : State), (∀ (n : Nat), n < 8 → s.flag A.CAD_WCSTAT n = false)) :=
  ⟨⟨{ awake.setWord A.PWR_GEAR 0x8040 with pwr := { awake.pwr with stepUp := true } }, by decide +kernel⟩,
   ⟨{ awake.setWord A.PWR_GEAR 0x8004 with pwr := { awake.pwr with stepUp := false } }, by decide +kernel⟩,
   ⟨awake.setFlag A.CLK_STAT 10 true, by decide +kernel⟩,
   ⟨{ awake with clk := { awake.clk with pllWait := true } }, by decide +kernel⟩,
   ⟨awake, .gearStepEnd, by decide +kernel⟩,
   ⟨{ awake with clk := { awake.clk with mRun := true, mGood := 1 } }, 2079, by unfold State.quiet; decide +kernel⟩,
   ⟨{ awake.setWord A.PWR_GEAR 0x8040 with pwr := { awake.pwr with stepUp := true } }, 61,
     by unfold State.quiet; decide +kernel⟩,
   ⟨{ awake with clk := { awake.clk with kRun := true, kGood := 1 } }, 61, by unfold State.quiet; decide +kernel⟩,
   ⟨{ awake.setWord A.PWR_GEAR 0x8040 with pwr := { awake.pwr with stepUp := true } }, 4297,
     by unfold State.quiet; decide +kernel⟩,
   ⟨{ awake.setFlag A.CLK_STAT 15 true with clk := { awake.clk with mRun := true } }, by decide +kernel⟩,
   ⟨{ awake.setFlag A.CLK_STAT 13 true with clk := { awake.clk with kRun := true } }, by decide +kernel⟩,
   ⟨{ awake.setFlag A.CLK_STAT 15 true with clk := { awake.clk with mRun := true } }, by decide +kernel⟩,
   ⟨{ awake.setWord A.PWR_GEAR 0x8040 with pwr := { awake.pwr with stepUp := true } }, by decide +kernel⟩,
   ⟨{ awake.setWord A.PWR_GEAR 0x8040 with pwr := { awake.pwr with stepUp := true } }, by decide +kernel⟩,
   ⟨awake.setFlag A.CAD_WCSTAT 7 true, 7, by decide +kernel⟩,
   ⟨{ awake.setWord A.PWR_GEAR 0x8040 with pwr := { awake.pwr with stepUp := true } }, by decide +kernel⟩⟩

theorem test_hypotheses_Dispatch :
    (∃ (k : Fin 8) (a : EntryAct) (s : State), List.find? (fun a => a.cons == k.val) s.cbl.acts = some a ∧ a.passed =
      [] ∧ bit (a.arg 1) 3 = false ∧ s.degraded = false ∧ s.retired (a.arg 1 % 8) = false ∧ s.on (a.arg 1 % 8) = true
      ∧ s.loaded (engIx (a.arg 1 % 8)) = true) ∧
    (∃ (k : Fin 8) (a : EntryAct) (s : State), let e := engIx (a.arg 1 % 8); let p := engIx (a.arg 1 / 16 % 8);
      List.find? (fun a => a.cons == k.val) s.cbl.acts = some a ∧ a.passed = [] ∧ bit (a.arg 1) 3 = true ∧ s.degraded
      = false ∧ e ≠ p ∧ s.retired ↑e = false ∧ s.retired ↑p = false ∧ s.on ↑e = true ∧ s.on ↑p = true ∧ s.loaded e =
      true ∧ s.loaded p = true ∧ (s.freeBuf e).isSome = true ∧ (s.freeBuf p).isSome = true) ∧
    (∃ (k : Fin 8) (a : EntryAct) (s : State), List.find? (fun a => a.cons == k.val) s.cbl.acts = some a ∧ a.passed =
      [] ∧ bit (a.arg 1) 3 = false ∧ s.degraded = false ∧ s.retired (a.arg 1 % 8) = true ∧ s.retired (a.arg 1 / 256 %
      8) = true ∧ s.on 10 = true) ∧
    (∃ (k : Fin 8) (a : EntryAct) (s : State), List.find? (fun a => a.cons == k.val) s.cbl.acts = some a ∧ a.passed =
      [] ∧ bit (a.arg 1) 3 = false ∧ s.degraded = false ∧ s.retired (a.arg 1 % 8) = false ∧ s.domState (a.arg 1 % 8) <
      2 ∧ s.pwr.current = none ∧ s.wakeAsked (a.arg 1 % 8) 0 = false) :=
  ⟨⟨3, act 3 [0x1205, 0x0003, 0x4567], loadedAll (acts awake [act 3 [0x1205, 0x0003, 0x4567]]), by decide +kernel⟩,
   ⟨3, act 3 [0x1205, 0x004B, 0x2801], loadedAll (acts awake [act 3 [0x1205, 0x004B, 0x2801]]), by decide +kernel⟩,
   ⟨3, act 3 [0x00FF, 0x0503, 5], (acts awake [act 3 [0x00FF, 0x0503, 5]]).setWord A.ENG_RETIRED 0x28,
     by decide +kernel⟩,
   ⟨3, act 3 [0x1205, 0x0003, 0x4567], (acts awake [act 3 [0x1205, 0x0003, 0x4567]]).setDomState 3 0,
     by decide +kernel⟩⟩

theorem test_hypotheses_EngineEvents :
    (∃ (r : Octet) (w : Window) (m : Mismatch) (s : State), List.find?
      (fun w => w.rwin == BitVec.toNat r && w.active && w.run.isNone) s.seq.windows = some w ∧ List.find?
      (fun m => m.rwin == w.rwin) s.seq.mismatches = some m ∧ s.on 10 = true ∧ s.on ↑w.engine = true ∧ s.flag
      A.PWR_GEAR 15 = false ∧ w.gear ≤ s.rd A.PWR_GEAR 2 0 ∧ s.retired ↑w.engine = false ∧ s.retOrder.length < 2 ∧
      s.cableOn ↑w.engine = true ∧ s.cablePasses ↑w.engine = true ∧ s.eng[w.engine].task = none ∧ s.selfTest = none ∧
      (s.freeBuf w.engine).isSome = true) ∧
    (∃ (_k : Fin 8) (s : State), s.on 10 = true) ∧
    (∃ (_pass : Bool) (k : Fin 8) (s : State), s.quiet ∧ s.selfTest = some k) ∧
    (∃ (_pass : Bool) (s : State), s.selfTest = none) :=
  ⟨⟨5, ⟨5, 0, 1, 4, 1, 40, true, 1, 0, 0, none⟩, ⟨5, 0x23, 0x1567, 1, 2, 0, 1, 0, 9⟩,
     { awake.setWord A.PWR_GEAR 0x11 with seq := { awake.seq with windows := [⟨5, 0, 1, 4, 1, 40, true, 1, 0, 0, none⟩], mismatches := [⟨5, 0x23, 0x1567, 1, 2, 0, 1, 0, 9⟩] } },
     by decide +kernel⟩,
   ⟨3,
     { awake.setWord A.PWR_GEAR 0x11 with seq := { awake.seq with windows := [⟨5, 0, 1, 4, 1, 40, true, 1, 0, 0, none⟩], mismatches := [⟨5, 0x23, 0x1567, 1, 2, 0, 1, 0, 9⟩] } },
     by decide +kernel⟩,
   ⟨true, 3, { awake with selfTest := some 3 }, by unfold State.quiet; decide +kernel⟩,
   ⟨true,
     { awake.setWord A.PWR_GEAR 0x11 with seq := { awake.seq with windows := [⟨5, 0, 1, 4, 1, 40, true, 1, 0, 0, none⟩], mismatches := [⟨5, 0x23, 0x1567, 1, 2, 0, 1, 0, 9⟩] } },
     by decide +kernel⟩⟩

theorem test_hypotheses_Starts :
    (∃ (s : State), s.upd.booting = BootStage.power ∧ s.on 0 = true ∧ (s.cause = 9 → s.upd.reint0 = false)) ∧
    (∃ (s : State), s.upd.booting = BootStage.image ∧ s.flag A.CLK_STAT 15 = false) ∧
    (∃ (s : State) (u : State), s.startable = true ∧ s.puf ≠ 2 ∧ s.resumeCopy = some u) ∧
    (∃ (s : State), s.startable = true ∧ s.puf = 2) ∧
    (∃ (s : State) (c : Instr), c ∈ [Instr.bootStart, Instr.startXoTimeout, Instr.startImageCheckDone] ∧ s.upd.booting
      = BootStage.done) :=
  ⟨⟨booting awake .power, by decide +kernel⟩,
   ⟨booting awake .image, by decide +kernel⟩,
   ⟨calibrating (booting (awake.setFlag A.CLK_STAT 15 true) .image), calibrating (booting (awake.setFlag A.CLK_STAT 15
     true) .image), by decide +kernel⟩,
   ⟨calibrating (booting ((awake.setFlag A.CLK_STAT 15 true).wr A.VLT_STAT 15 14 2) .image), by decide +kernel⟩,
   ⟨awake, .bootStart, by decide +kernel⟩⟩

theorem test_hypotheses_Activation :
    (∃ (s : State), s.upd.stState = 3 ∧ s.serves = true ∧ s.on 14 = true ∧ (s.inKick = true ∨ s.on 10 = true ∧
      s.upd.ta ≤ s.now)) ∧
    (∃ (s : State), s.upd.stState = 4 ∧ s.serves = true ∧ s.upd.section_ < 17) ∧
    (∃ (s : State), s.upd.stState = 4 ∧ s.serves = true ∧ 17 ≤ s.upd.section_ ∧ s.inKick = false) ∧
    (∃ (s : State), s.upd.stState = 4 ∧ s.serves = true ∧ 17 ≤ s.upd.section_ ∧ s.inKick = true) ∧
    (∃ (s : State), s.upd.stState = 5 ∧ s.upd.copied = true ∧ s.upd.switchAt = none ∧ s.upd.switching = false ∧
      s.serves = true ∧ s.on 10 = true ∧ s.rd A.SEQ_STAT 11 10 = 2 ∧ s.slotAfter s.upd.ts ≤ s.asnAt s.now + 1) ∧
    (∃ (s : State) (c : Instr), c ∈ [Instr.activationStart, Instr.sectionDone, Instr.switchRelease] ∧ s.upd.stState <
      3) :=
  ⟨⟨staging running 3 0, by decide +kernel⟩,
   ⟨staging running 4 16, by decide +kernel⟩,
   ⟨staging running 4 17, by decide +kernel⟩,
   ⟨(staging running 4 17).setFlag A.SYS_BOOTCNT 7 true, by decide +kernel⟩,
   ⟨staging running 5 17, by decide +kernel⟩,
   ⟨awake, .activationStart, by decide +kernel⟩⟩

theorem test_hypotheses_RadioListen :
    (∃ (c : Chain) (x : EntryAct) (s : State), s.on 11 = true ∧ List.find?
      (fun a => a.cons == 32 + c.ix && bits (a.arg 0) 15 13 == 2) s.cbl.acts = some x) ∧
    (∃ (c : Chain) (x : EntryAct) (s : State), s.on 11 = true ∧ List.find?
      (fun a => a.cons == 32 + c.ix && bits (a.arg 0) 15 13 == 3) s.cbl.acts = some x) ∧
    (∃ (c : Chain) (x : EntryAct) (s : State), s.on 11 = true ∧ List.find?
      (fun a => a.cons == 32 + c.ix && bits (a.arg 0) 15 13 == 5) s.cbl.acts = some x) ∧
    (∃ (c : Chain) (x : EntryAct) (s : State) (r : Instr × Nat), r ∈ [(Instr.radioTransmitDedicated c, 0),
      (Instr.radioTransmitShared c, 1), (Instr.radioReceive c, 2), (Instr.radioScan c, 3), (Instr.radioControlTransmit
      c, 4), (Instr.radioControlReceive c, 5)] ∧ s.on 11 = false ∧ List.find?
      (fun a => a.cons == 32 + c.ix && bits (a.arg 0) 15 13 == r.snd) s.cbl.acts = some x) :=
  ⟨⟨.A, cell .A 2 0 0x3FF, acts awake [cell .A 2 0 0x3FF], by decide +kernel⟩,
   ⟨.B, cell .B 3 0 0x3FF, acts awake [cell .B 3 0 0x3FF], by decide +kernel⟩,
   ⟨.A, cell .A 5 0 0x3FF, acts awake [cell .A 5 0 0x3FF], by decide +kernel⟩,
   ⟨.B, cell .B 0 0 0x3FF, acts State.reset [cell .B 0 0 0x3FF], (.radioTransmitDedicated .B, 0), by decide +kernel⟩⟩

theorem test_hypotheses_RadioTransmit :
    (∃ (c : Chain) (x : EntryAct) (s : State) (r : Instr × Nat × Option (Nat × Nat)), r ∈
      [(Instr.radioTransmitDedicated c, 0, s.pickData (s.cellOp c x)), (Instr.radioControlTransmit c, 4,
      s.pickControl)] ∧ s.on 11 = true ∧ List.find? (fun a => a.cons == 32 + c.ix && bits (a.arg 0) 15 13 ==
      r.snd.fst) s.cbl.acts = some x ∧ r.snd.snd = none) ∧
    (∃ (c : Chain) (x : EntryAct) (d : Nat × Nat) (s : State) (r : Instr × Nat × Option (Nat × Nat)), r ∈
      [(Instr.radioTransmitDedicated c, 0, s.pickData (s.cellOp c x)), (Instr.radioControlTransmit c, 4,
      s.pickControl)] ∧ s.on 11 = true ∧ List.find? (fun a => a.cons == 32 + c.ix && bits (a.arg 0) 15 13 ==
      r.snd.fst) s.cbl.acts = some x ∧ r.snd.snd = some d ∧ bit (s.descWord d 9) 7 = true ∧ (s.wasFetched d = true ∨
      s.badDescriptor c d = false) ∧ (d.fst = 0 ∨ s.ramReady (s.placeAddr d.fst d.snd) 16 = true) ∧ s.ramReady
      (s.descBuf d) ((s.descLength d + s.descMic d + 1) / 2) = true ∧ s.descLost d = false) ∧
    (∃ (c : Chain) (x : EntryAct) (d : Nat × Nat) (s : State), s.on 11 = true ∧ List.find?
      (fun a => a.cons == 32 + c.ix && bits (a.arg 0) 15 13 == 1) s.cbl.acts = some x ∧ s.vlt.drawWait.contains (bits
      (x.arg 0) 11 8) = false ∧ vget s.lnk.bc (bits (x.arg 0) 11 8) 0 = 0 ∧ s.pickData (s.cellOp c x) = some d ∧ bit
      (s.descWord d 9) 7 = true ∧ (s.wasFetched d = true ∨ s.badDescriptor c d = false) ∧ s.ramReady (s.placeAddr
      d.fst d.snd) 16 = true ∧ s.ramReady (s.descBuf d) ((s.descLength d + s.descMic d + 1) / 2) = true ∧ s.descLost d
      = false) ∧
    (∃ (c : Chain) (x : EntryAct) (s : State), s.on 11 = true ∧ List.find?
      (fun a => a.cons == 32 + c.ix && bits (a.arg 0) 15 13 == 1) s.cbl.acts = some x ∧ bits (x.arg 0) 11 8 < 16 ∧
      s.vlt.drawWait.contains (bits (x.arg 0) 11 8) = false ∧ 0 < vget s.lnk.bc (bits (x.arg 0) 11 8) 0) :=
  ⟨⟨.A, cell .A 0 0 0x3FF, acts awake [cell .A 0 0 0x3FF], (.radioTransmitDedicated .A, 0, none), by decide +kernel⟩,
   ⟨.A, cell .A 0 0 0x3FF, (2, 3), acts (posted awake 2 3 (sealed 0) true false) [cell .A 0 0 0x3FF],
     (.radioTransmitDedicated .A, 0, some (2, 3)), by decide +kernel⟩,
   ⟨.A, cell .A 1 0 0x3FF, (2, 3), acts (posted awake 2 3 (sealed 0) true false) [cell .A 1 0 0x3FF],
     by decide +kernel⟩,
   ⟨.A, cell .A 1 15 5, { acts awake [cell .A 1 15 5] with lnk := { awake.lnk with bc := vset awake.lnk.bc 15 4 } },
     by decide +kernel⟩⟩

theorem test_hypotheses_JudgeAckReserve :
    (∃ (j : Judged) (i : Nat) (s : State), let h := parseMhr j.octets; (s.lnk.judging.head? = some j ∧ s.msh.holdWait
      = none ∧ s.rd A.LNK_CTRL 15 14 = 1 ∧ h.sec = false ∧ h.payIes = false ∧ h.ftype = 1 ∧ h.ar = false ∧ s.nbrValid
      j.nbr = false ∧ j.frame.unplaced = false ∧ j.frame.place = some i ∧ j.frame.waitsPlace = false ∧ (s.ring (18 +
      j.lane.val)).holder = some 8 ∧ s.ringEn (18 + j.lane.val) = true ∧ s.ringReady (18 + j.lane.val) (s.ring (18 +
      j.lane.val)).pi.toNat = true ∧ (j.octets.drop h.hdrEnd = [] ∨ bits (oct j.octets h.hdrEnd) 3 0 ≠ 0) ∧ j.kind ≠
      .rxControl ∧ s.lnk.missDue = []) ∧ ∀ b, s.servable 8 b = true) ∧
    (∃ (j : Judged) (n : Nat) (s : State), s.lnk.judging.head? = some j ∧ s.msh.holdWait = none ∧ s.rd A.LNK_CTRL 15
      14 = 1 ∧ (parseMhr j.octets).sec = true ∧ s.on 14 = true ∧ j.frame.waitsPlace = false ∧ s.openJudged j (parseMhr
      j.octets) = Except.error n ∧ s.lnk.missDue = [] ∧ s.msh.nbrLate = []) ∧
    (∃ (j : Judged) (s : State), s.lnk.judging.head? = some j ∧ s.msh.holdWait = none ∧ s.rd A.LNK_CTRL 15 14 ≠ 1 ∧
      s.lnk.missDue = [] ∧ s.msh.nbrLate = []) ∧
    (∃ (j : Judged) (s : State), s.lnk.judging.head? = some j ∧ s.msh.holdWait = none ∧ s.rd A.LNK_CTRL 15 14 = 1 ∧
      (parseMhr j.octets).sec = true ∧ s.domState 14 < 2 ∧ s.pwr.current = none ∧ s.wakeAsked 14 0 = false) ∧
    (∃ (c : Chain) (_gnt : Bool) (a : AckOut) (o : RfOp) (s : State), vget s.lnk.ackOut c.ix none = some a ∧ (s.chain
      c).op = some o ∧ o.kind.sends = false ∧ s.rfState c = 4 ∧ s.airTaken c = false ∧ s.coexMode c = 0 ∧ a.sec =
      false) ∧
    (∃ (c : Chain) (_gnt : Bool) (a : AckOut) (o : RfOp) (s : State), vget s.lnk.ackOut c.ix none = some a ∧ (s.chain
      c).op = some o ∧ o.kind.sends = false ∧ s.rfState c ≠ 4) ∧
    (∃ (j : Fin 16) (p : Nat × Nat) (s : State), List.find? (fun p => p.fst == j.val) s.lnk.fcWait = some p ∧ s.on 9 =
      true ∧ s.upd.mwBusy = none ∧ (∀ (c : Chain), c ∈ [Chain.A, Chain.B] → (∀ (o : RfOp), o ∈ (s.chain c).next →
      o.sealWait = false) ∧ (∀ (o : RfOp), o ∈ (s.chain c).waiting → o.sealWait = false) ∧ ∀ (o : RfOp), o ∈ (s.chain
      c).op → o.sealWait = false)) :=
  ⟨⟨judged plainFrame, 2, holding (judging awake plainFrame) 21, by decide +kernel, servable_of_no_pattern rfl 8⟩,
   ⟨judged securedFrame, A.LNK_AUTHFAILCNT, judging awake securedFrame, by decide +kernel, by decide +kernel,
     by decide +kernel, by decide +kernel, by decide +kernel, by decide +kernel, error_of (by decide +kernel),
     by decide +kernel, by decide +kernel⟩,
   ⟨judged plainFrame, (judging awake plainFrame).wr A.LNK_CTRL 15 14 2, by decide +kernel⟩,
   ⟨judged securedFrame, (judging awake securedFrame).setDomState 14 0, by decide +kernel⟩,
   ⟨.A, true, ack, radio .receive none, acking (onAir awake .A 4 (radio .receive none)) .A, by decide +kernel⟩,
   ⟨.A, true, ack, radio .receive none, acking (onAir awake .A 5 (radio .receive none)) .A, by decide +kernel⟩,
   ⟨15, (15, 8000), { awake with lnk := { awake.lnk with fcWait := [(15, 8000)] } }, by decide +kernel,
     by decide +kernel, by decide +kernel, by intro c; cases c <;> decide +kernel⟩⟩

theorem test_hypotheses_CaptureByCable :
    (∃ (_n : Fin 8) (s : State), s.on 10 = true ∧ s.on 15 = true) ∧
    (∃ (n : Fin 8) (s : State), s.on 10 = true ∧ s.on 15 = true ∧ s.flag (A.CAD_CC_CFG n.val) 10 = true ∧ s.canReserve
      46 = true ∧ s.ringReady 46 (BitVec.toNat (s.ring 46).pi) = true) ∧
    (∃ (s : State), s.on 10 = true ∧ s.on 15 = true) :=
  ⟨⟨7, awake, by decide +kernel⟩,
   ⟨7, ringUp (awake.setWord (A.CAD_CC_CFG 7) 0x0400) 46, by decide +kernel⟩,
   ⟨awake, by decide +kernel⟩⟩

theorem test_hypotheses_CadenceCompares :
    (∃ (a : BitVec 48) (n : BitVec 67) (s : State), s.ntRun = false ∧ 2 ≤ s.domState 10 ∧ s.clocked = true ∧
      s.ntMayRun = true ∧ s.pair = some (a, n)) ∧
    (∃ (n : Fin 8) (s : State), s.flag A.CAD_WCSTAT n.val = true ∧ s.rdw (A.CAD_WC n.val) 3 ≤ s.sleep.toNat ∧ s.flag
      (A.PWR_WSRC n.val) 15 = false) ∧
    (∃ (n : Fin 8) (d : Nat) (s : State), s.flag A.CAD_WCSTAT n.val = true ∧ s.rdw (A.CAD_WC n.val) 3 ≤ s.sleep.toNat
      ∧ s.flag (A.PWR_WSRC n.val) 15 = true ∧ s.pwr.current = none ∧ d ∈ s.wakeSet n.val ∧ s.domState d < 2 ∧
      s.heldOff d = false) ∧
    (∃ (n : Fin 8) (s : State), s.flag A.CAD_WCSTAT n.val = false) ∧
    (∃ (n : Fin 8) (s : State), s.flag (A.CAD_CC_STAT n.val) 12 = true ∧ s.ccMode n.val = 1 ∧ s.on 10 = true ∧ s.on 15
      = true ∧ s.ntRun = true ∧ s.ccTarget n.val ≤ s.now) ∧
    (∃ (n : Fin 8) (s : State), s.flag (A.CAD_CC_STAT n.val) 12 = true ∧ s.ccMode n.val = 2 ∧ s.on 10 = true ∧ s.on 15
      = true ∧ s.ntRun = true ∧ s.ccTarget n.val ≤ s.now) ∧
    (∃ (n : Fin 8) (s : State), s.now < s.ccTarget n.val) :=
  ⟨⟨5, 77777, { awake.setFlag A.CLK_STAT 15 true with ntRun := false, pair := some (5, 77777) }, by decide +kernel⟩,
   ⟨7, (awake.setFlag A.CAD_WCSTAT 7 true), by decide +kernel⟩,
   ⟨7, 3, (((awake.setFlag A.CAD_WCSTAT 7 true).setWord (A.PWR_WSRC 7) 0x8000).setWord (A.PWR_WSET 0)
     0x0008).setDomState 3 0, by decide +kernel⟩,
   ⟨7, awake, by decide +kernel⟩,
   ⟨7, (awake.setWord (A.CAD_CC_CFG 7) 0x2000).setWord (A.CAD_CC_STAT 7) 0x1000, by decide +kernel⟩,
   ⟨7, (awake.setWord (A.CAD_CC_CFG 7) 0x4000).setWord (A.CAD_CC_STAT 7) 0x1000, by decide +kernel⟩,
   ⟨7, awake.setWord (A.CAD_CC_TGT 7) 1, by decide +kernel⟩⟩

theorem test_hypotheses_CadenceEdges :
    (∃ (n : Fin 8) (rising : Bool) (s : State), let up := rising != s.flag (A.CAD_CC_CFG n.val) 9;
      let e := s.rd (A.CAD_CC_CFG n.val) 12 11; s.ccMode n.val = 3 ∧ s.on 15 = true ∧ s.on 10 = true ∧ s.ntRun = true
      ∧ s.funcOn (capPin n.val) = true ∧ s.vio1 = true ∧ (e = 1 ∧ up = true ∨ e = 2 ∧ up = false)) ∧
    (∃ (n : Fin 8) (rising : Bool) (s : State), let up := rising != s.flag (A.CAD_CC_CFG n.val) 9;
      let e := s.rd (A.CAD_CC_CFG n.val) 12 11; s.ccMode n.val = 3 ∧ s.on 15 = true ∧ s.on 10 = true ∧ s.ntRun = true
      ∧ s.funcOn (capPin n.val) = true ∧ s.vio1 = true ∧ e = 3 ∧ up = true ∧ n.val < 8) ∧
    (∃ (n : Fin 8) (rising : Bool) (r : Nat) (s : State), s.ccMode n.val = 3 ∧ s.on 15 = true ∧ s.on 10 = true ∧
      s.ntRun = true ∧ s.funcOn (capPin n.val) = true ∧ s.vio1 = true ∧ s.rd (A.CAD_CC_CFG n.val) 12 11 = 3 ∧ (rising
      != s.flag (A.CAD_CC_CFG n.val) 9) = false ∧ (s.cc n.val).heldRise = some r ∧ r < 2 ^ 64) ∧
    (∃ (p : Nat) (s : State), let ch := BitVec.toNat (s.placeWord 47 p 2); s.on 15 = true ∧ s.nextDesc 47 = some p ∧
      s.isOut 47 p = true ∧ s.placeLost 47 p = false ∧ s.ringReady 47 p = true ∧ BitVec.toNat (s.placeWord 47 p 1) =
      256 ∧ s.genericOk 47 p = true ∧ ch < 8 ∧ s.ccCompares ch = true ∧ (s.ccMode ch = 2 → ofWords [s.placeWord 47 p
      7, s.placeWord 47 p 8] ≠ 0)) ∧
    (∃ (p : Nat) (s : State), s.on 15 = true ∧ s.nextDesc 47 = some p ∧ s.isOut 47 p = true ∧ s.placeLost 47 p = false
      ∧ s.ringReady 47 p = true ∧ BitVec.toNat (s.placeWord 47 p 1) = 512 ∧ s.genericOk 47 p = true ∧ BitVec.toNat
      (s.placeWord 47 p 2) < 8) ∧
    (∃ (s : State), s.on 10 = true ∧ s.on 15 = true ∧ s.cad.ppsHigh = false) ∧
    (∃ (s : State), s.on 10 = true ∧ s.on 15 = true ∧ s.cad.ppsHigh = true) ∧
    (∃ (s : State), s.flag A.CAD_PPSCFG 15 = true ∧ s.on 10 = true ∧ s.on 15 = true ∧ s.ntRun = true ∧ s.now %
      32000000 = 0 ∧ s.cad.ppsHigh = false) ∧
    (∃ (s : State), s.funcOn 22 = true ∧ s.flag A.CLK_STAT 9 = false ∧ s.vio1 = true ∧ s.on 10 = true ∧ s.on 15 = true
      ∧ s.cad.ppsHigh = false) ∧
    (∃ (_rising : Bool) (s : State), s.on 15 = true ∧ s.funcOn 23 = true ∧ s.vio1 = true) :=
  ⟨⟨7, true, capturing 0x6800, by decide +kernel⟩,
   ⟨7, true, capturing 0x7800, by decide +kernel⟩,
   ⟨7, false, 63,
     { capturing 0x7800 with cad := { awake.cad with cc := awake.cad.cc.map fun c => { c with heldRise := some 63 } } },
     by decide +kernel⟩,
   ⟨3, posted (awake.setWord (A.CAD_CC_CFG 3) 0x4000) 47 3 [0, 0x100, 3, 1, 2, 3, 4, 100, 0] false false,
     by decide +kernel⟩,
   ⟨3, posted awake 47 3 [0, 0x200, 3] false false, by decide +kernel⟩,
   ⟨capturing 0x6800, by decide +kernel⟩,
   ⟨{ awake with cad := { awake.cad with ppsHigh := true } }, by decide +kernel⟩,
   ⟨awake.setWord A.CAD_PPSCFG 0x8000, by decide +kernel⟩,
   ⟨capturing 0x6800, by decide +kernel⟩,
   ⟨true, capturing 0x6800, by decide +kernel⟩⟩

theorem test_hypotheses_ChainListens :
    (∃ (c : Chain) (_temp : BitVec 8) (_vpa : BitVec 12) (o : RfOp) (rest : List RfOp) (s : State), (s.chain c).next =
      o :: rest ∧ (s.chain c).op = none ∧ (s.chain c).waiting = none ∧ s.on (12 + c.ix) = true ∧ inBand c (s.freq c
      o.ch) = true ∧ s.flag A.CLK_STAT 15 = true ∧ s.rfState c ≠ 1 ∧ s.rfState c ≠ 7 ∧ s.flag (A.RF_STAT c) 11 = true
      ∧ (o.kind.sends = true →
      have u := match o.desc with | some d => airUnits (s.descAirtime d s.preamble) | none => 0;
      s.advanceAllDwell.overDwell o.hop u = false ∧ s.advanceAllDwell.overDwell (256 + c.ix) u = false)) ∧
    (∃ (c : Chain) (s : State), s.rfState c = 2) ∧
    (∃ (c : Chain) (gnt : Bool) (o : RfOp) (s : State), (s.chain c).op = some o ∧ o.kind.sends = false ∧ s.rfState c =
      3 ∧ (s.coexMode c ≠ 2 ∨ s.gntAsserted c gnt = true) ∧ s.blanked c = false ∧ o.listened = false) ∧
    (∃ (c : Chain) (o : RfOp) (s : State), (s.chain c).op = some o ∧ o.kind.sends = false ∧ o.listened = false ∧
      s.rfState c = 4) ∧
    (∃ (c : Chain) (o : RfOp) (s : State), (s.chain c).op = some o ∧ o.kind.sends = false ∧ o.listened = true ∧
      s.lanesBusy c = false ∧ vget s.lnk.ackOut c.ix none = none ∧ s.on (12 + c.ix) = true ∧ s.on 10 = true) :=
  ⟨⟨.A, 20, 0, radio .receive none, [], band.setChain .A { band.chain .A with next := [radio .receive none] },
     by decide +kernel⟩,
   ⟨.A, band.setRfState .A 2, by decide +kernel⟩,
   ⟨.A, true, radio .receive none, onAir awake .A 3 (radio .receive none), by decide +kernel⟩,
   ⟨.A, radio .receive none, onAir awake .A 4 (radio .receive none), by decide +kernel⟩,
   ⟨.A, { radio .receive none with listened := true }, onAir awake .A 4 { radio .receive none with listened := true },
     by decide +kernel⟩⟩

theorem test_hypotheses_ChainTransmits :
    (∃ (c : Chain) (gnt : Bool) (o : RfOp) (b : Bool) (s : State), s.txPending c = some (o, b) ∧ (s.coexMode c = 0 ∨
      s.gntAsserted c gnt = true) ∧ s.sameUnit c = none ∧ s.airTaken c = false) ∧
    (∃ (c : Chain) (_gnt : Bool) (o : RfOp) (s : State), s.txPending c = some (o, false) ∧ s.sameUnit c = none ∧
      s.airTaken c = true) ∧
    (∃ (c : Chain) (o : RfOp) (d : Nat × Nat) (s : State), s.txPending c = some (o, false) ∧ (s.rfState c = 3 ∨
      s.rfState c = 6) ∧ s.now ≤ o.instant ∧ o.desc = some d ∧ o.sealWait = false ∧ (d.fst = 0 → (s.msh.relays.any
      fun r => r.onRing == some d) = true) ∧ (d.fst ≠ 0 → s.isOut d.fst d.snd = true)) ∧
    (∃ (c : Chain) (o : RfOp) (s : State), s.txPending c = some (o, false) ∧ (s.rfState c ≠ 3 ∧ s.rfState c ≠ 6 ∨
      o.instant < s.now) ∧ (¬(s.rfState c = 5 ∧ o.emitted = true))) ∧
    (∃ (c : Chain) (o : RfOp) (d : Nat × Nat) (s : State), s.txPending c = some (o, false) ∧ s.rfState c = 5 ∧ o.desc
      = some d ∧ s.on (12 + c.ix) = true ∧ s.on 10 = true) ∧
    (∃ (c : Chain) (o : RfOp) (d : Nat × Nat) (s : State), (s.chain c).op = some o ∧ o.desc = some d ∧ s.rfState c = 5
      ∧ o.emitted = true ∧ s.descMsw d = true) ∧
    (∃ (c : Chain) (o : RfOp) (s : State), (s.chain c).op = some o ∧ s.rfState c = 5 ∧ o.emitted = true ∧ s.on (12 +
      c.ix) = true ∧ s.on 10 = true) ∧
    (∃ (c : Chain) (o : RfOp) (s : State), (s.chain c).op = some o ∧ s.rfState c = 6) ∧
    (∃ (c : Chain) (_p : BitVec 12) (o : RfOp) (d : Nat × Nat) (s : State), (s.chain c).op = some o ∧ s.rfState c = 4
      ∧ o.cca = true ∧ o.kind.sends = true ∧ o.emitted = false ∧ o.desc = some d) :=
  ⟨⟨.A, true, radio .txDedicated (some (2, 3)), false, onAir awake .A 3 (radio .txDedicated (some (2, 3))),
     by decide +kernel⟩,
   ⟨.A, true, radio .txDedicated (some (2, 3)), onAir (onAir awake .B 5 (radio .ack none)) .A 3 (radio .txDedicated
     (some (2, 3))), by decide +kernel⟩,
   ⟨.A, radio .txDedicated (some (2, 3)), (2, 3), onAir (posted awake 2 3 (sealed 0) true false) .A 3 (radio
     .txDedicated (some (2, 3))), by decide +kernel⟩,
   ⟨.A, radio .txDedicated (some (2, 3)), { onAir awake .A 3 (radio .txDedicated (some (2, 3))) with nt := 400008 },
     by decide +kernel⟩,
   ⟨.A, radio .txDedicated (some (2, 3)), (2, 3), onAir awake .A 5 (radio .txDedicated (some (2, 3))),
     by decide +kernel⟩,
   ⟨.A, { radio .txDedicated (some (2, 3)) with emitted := true }, (2, 3), onAir (posted awake 2 3 (sealed 9) true
     true) .A 5 { radio .txDedicated (some (2, 3)) with emitted := true }, by decide +kernel⟩,
   ⟨.A, { radio .txDedicated (some (2, 3)) with emitted := true }, onAir awake .A 5
     { radio .txDedicated (some (2, 3)) with emitted := true }, by decide +kernel⟩,
   ⟨.A, radio .txDedicated (some (2, 3)), onAir awake .A 6 (radio .txDedicated (some (2, 3))), by decide +kernel⟩,
   ⟨.A, 0, { radio .txShared (some (2, 3)) with cca := true }, (2, 3), onAir awake .A 4
     { radio .txShared (some (2, 3)) with cca := true }, by decide +kernel⟩⟩

theorem test_hypotheses_ChainLosses :
    (∃ (c : Chain) (o : RfOp) (s : State), (s.chain c).op = some o ∧ 3 ≤ s.rfState c ∧ s.rfState c ≤ 6) ∧
    (∃ (c : Chain) (s : State), s.rfState c < 3) ∧
    (∃ (c : Chain) (d : Nat × Nat) (s : State), s.on 10 = true ∧ s.on 11 = true ∧ List.findSome? (fun o => o.desc)
      ((s.chain c).op.toList ++ (s.chain c).waiting.toList ++ (s.chain c).next) = some d ∧ s.txCommitted d = false) ∧
    (∃ (c : Chain) (d : Nat × Nat) (s : State), s.on 10 = true ∧ s.on 11 = true ∧ List.findSome? (fun o => o.desc)
      ((s.chain c).op.toList ++ (s.chain c).waiting.toList ++ (s.chain c).next) = some d ∧ s.txCommitted d = true) ∧
    (∃ (c : Chain) (o : RfOp) (ack : Bool) (s : State), List.find? (fun p => !(s.chain c).coex.owners.contains
      (p.fst.a, p.snd)) (s.coexOps c) = some (o, ack)) ∧
    (∃ (c : Chain) (o : RfOp) (s : State), (s.chain c).op = some o ∧ s.requests c o = true ∧ (4 ≤ s.rfState c ∨
      o.granted.isSome = true) ∧ s.rfState c ≤ 6) ∧
    (∃ (c : Chain) (s : State), (s.chain c).op = none ∧ (s.chain c).waiting = none ∧ (s.chain c).next = [] ∧ s.rfState
      c ≠ 7) :=
  ⟨⟨.A, radio .txDedicated (some (2, 3)), onAir awake .A 6 (radio .txDedicated (some (2, 3))), by decide +kernel⟩,
   ⟨.B, onAir awake .A 6 (radio .txDedicated (some (2, 3))), by decide +kernel⟩,
   ⟨.A, (2, 3), onAir awake .A 6 (radio .txDedicated (some (2, 3))), by decide +kernel⟩,
   ⟨.A, (2, 3), onAir (posted awake 2 3 (sealed 0) true true) .A 5 (radio .txDedicated (some (2, 3))),
     by decide +kernel⟩,
   ⟨.A, radio .receive none, false, onAir (awake.setWord (A.RF_COEX .A) 0x8000) .A 4 (radio .receive none),
     by decide +kernel⟩,
   ⟨.A, radio .receive none, onAir (awake.setWord (A.RF_COEX .A) 0x8000) .A 4 (radio .receive none),
     by decide +kernel⟩,
   ⟨.B, onAir awake .A 6 (radio .txDedicated (some (2, 3))), by decide +kernel⟩⟩

theorem test_hypotheses_TunerAndCalibration :
    (∃ (c : Chain) (x : EntryAct) (s : State), List.find? (fun a => a.cons == 39 + c.ix) s.cbl.acts = some x ∧ s.on
      (12 + c.ix) = true ∧ s.rfState c = 0 ∧ s.flag (A.RF_STAT c) 10 = true ∧ s.flag A.CLK_STAT 15 = true) ∧
    (∃ (c : Chain) (x : EntryAct) (s : State), List.find? (fun a => a.cons == 39 + c.ix) s.cbl.acts = some x ∧ s.on
      (12 + c.ix) = true ∧ s.rfState c ≠ 0) ∧
    (∃ (c : Chain) (_temp : BitVec 8) (s : State), s.rfState c = 1 ∧ s.on 10 = true ∧ s.on (12 + c.ix) = true ∧
      s.startChains.contains c = false) ∧
    (∃ (_gammas : List Octet) (s : State), s.rfState Chain.A = 7 ∧ (s.chain Chain.A).waiting = none ∧ s.on 10 = true ∧
      s.on 12 = true) ∧
    (∃ (_gamma : Octet) (o : RfOp) (s : State), (s.chain Chain.A).op = some o ∧ s.rfState Chain.A = 5 ∧ o.emitted =
      true) :=
  ⟨⟨.A, ⟨0x27, 1, 5, [0, 0, 0, 0, 180, 1, 0, 0], 40000, 3, []⟩, acts ((awake.setFlag (A.RF_STAT .A) 10 true).setFlag
     A.CLK_STAT 15 true) [⟨0x27, 1, 5, [0, 0, 0, 0, 180, 1, 0, 0], 40000, 3, []⟩], by decide +kernel⟩,
   ⟨.A, ⟨0x27, 1, 5, [0, 0, 0, 0, 180, 1, 0, 0], 40000, 3, []⟩, (acts awake [⟨0x27, 1, 5, [0, 0, 0, 0, 180, 1, 0, 0],
     40000, 3, []⟩]).setRfState .A 1, by decide +kernel⟩,
   ⟨.A, 20, (acts awake [⟨0x27, 1, 5, [0, 0, 0, 0, 180, 1, 0, 0], 40000, 3, []⟩]).setRfState .A 1, by decide +kernel⟩,
   ⟨[], awake.setRfState .A 7, by decide +kernel⟩,
   ⟨20, { radio .txDedicated (some (2, 3)) with emitted := true }, onAir awake .A 5
     { radio .txDedicated (some (2, 3)) with emitted := true }, by decide +kernel⟩⟩

theorem test_hypotheses_GaugeConversions :
    (∃ (c : Conv) (s : State), s.on 10 = true ∧ s.on 15 = true ∧ s.conv c = none ∧ s.rd A.GAU_CTRL 15 14 = 1) ∧
    (∃ (c : Conv) (s : State), s.on 10 = true ∧ s.on 15 = true ∧ (s.conv c).isSome = true) ∧
    (∃ (c : Conv) (_raw : BitVec 24) (_sar : List W16) (_rf : Bool) (_xf : Bool) (_oi : Bool) (_ov : Bool) (v :
      Conversion) (s : State), s.conv c = some v ∧ s.on 10 = true ∧ s.on 15 = true ∧ s.canReserve 44 = true ∧
      s.ringReady 44 (BitVec.toNat (s.ring 44).pi) = true) ∧
    (∃ (c : Conv) (_raw : BitVec 24) (_sar : List W16) (_rf : Bool) (_xf : Bool) (_oi : Bool) (_ov : Bool) (v :
      Conversion) (s : State), s.conv c = some v ∧ s.ringEn 44 = false) ∧
    (∃ (p : Nat) (c : Conv) (s : State), s.on 15 = true ∧ s.rd A.GAU_CTRL 15 14 = 1 ∧ s.nextDesc 45 = some p ∧
      s.placeLost 45 p = false ∧ (s.fetchDesc 45 p).fst = true ∧ s.ring45Ok p = true ∧ bits (BitVec.toNat (s.placeWord
      45 p 1)) 15 8 = 1 ∧ BitVec.toNat (s.placeWord 45 p 2) = c.ix ∧ s.conv c = none) ∧
    (∃ (p : Nat) (n : Fin 2) (s : State), s.on 15 = true ∧ s.rd A.GAU_CTRL 15 14 = 1 ∧ s.nextDesc 45 = some p ∧
      s.placeLost 45 p = false ∧ (s.fetchDesc 45 p).fst = true ∧ s.ring45Ok p = true ∧ bits (BitVec.toNat (s.placeWord
      45 p 1)) 15 8 = 2 ∧ BitVec.toNat (s.placeWord 45 p 2) = n.val) ∧
    (∃ (_n : Fin 2) (s : State), s.on 10 = true ∧ s.on 15 = true) ∧
    (∃ (n : Fin 2) (ps : List Nat) (hop : Nat) (s : State), s.gau.dacBusy[n] = some (ps, hop) ∧ s.on 10 = true ∧ s.on
      15 = true) :=
  ⟨⟨.sd0, gauge, by decide +kernel⟩,
   ⟨.sd0, converting gauge, by decide +kernel⟩,
   ⟨.sd0, 0x800000, [], true, true, true, true, ⟨77, 0x12, true, 3, 0x1FF, none⟩, converting (ringUp gauge 44),
     by decide +kernel⟩,
   ⟨.sd0, 0x800000, [], true, true, true, true, ⟨77, 0x12, true, 3, 0x1FF, none⟩, converting gauge, by decide +kernel⟩,
   ⟨3, .sd0, posted gauge 45 3 [0, 0x100, 0] false false, by decide +kernel⟩,
   ⟨3, 1, posted gauge 45 3 [0, 0x200, 1] false false, by decide +kernel⟩,
   ⟨1, gauge, by decide +kernel⟩,
   ⟨1, [], 2, { gauge with gau := { gauge.gau with dacBusy := gauge.gau.dacBusy.set 1 (some ([], 2)) } },
     by decide +kernel⟩⟩

theorem test_hypotheses_PinsAndPwm :
    (∃ (n : Fin 4) (s : State), s.on 10 = true ∧ s.on 15 = true ∧ s.flag (A.GAU_PWM_CFG n.val) 15 = true) ∧
    (∃ (_n : Fin 2) (s : State), s.on 10 = true ∧ s.on 15 = true) ∧
    (∃ (pin : Fin 48) (rising : Bool) (s : State),
      let sel := s.rd (A.PER_P_EVT (pin.val / 8)) (2 * (pin.val % 8) + 1) (2 * (pin.val % 8)); s.on 10 = true ∧ s.on
      15 = true ∧ s.pinSupplied pin.val = true ∧ s.pinDriven pin.val = false ∧ (if rising = true then sel % 2 = 1 else
      2 ≤ sel) ∧ s.flag (A.PER_P_EVTFLAG (pin.val / 8)) (pin.val % 8) = false) ∧
    (∃ (pin : Fin 48) (q : Fin 48) (_rising : Bool) (_s : State), q ≠ pin) ∧
    (∃ (k : Fin 8) (s : State), let pin := s.rd (A.PER_TASK k.val) 5 0; s.on 10 = true ∧ s.on 15 = true ∧ pin < 48) ∧
    (∃ (s : State), s.on 10 = true ∧ s.on 15 = true) ∧
    (∃ (_second : Bool) (s : State) (pin : Fin 48), s.pinSupplied pin.val = false) :=
  ⟨⟨3, awake.setWord (A.GAU_PWM_CFG 3) 0x8000, by decide +kernel⟩,
   ⟨1, awake, by decide +kernel⟩,
   ⟨0, true, { (awake.setWord (A.PER_P_EVT 0) 0x5555) with vio1 := true, vio2 := true }, by decide +kernel⟩,
   ⟨0, 47, true, awake, by decide +kernel⟩,
   ⟨7, awake, by decide +kernel⟩,
   ⟨awake, by decide +kernel⟩,
   ⟨true, { awake with vio1 := false, vio2 := false }, 0, by decide +kernel⟩⟩

theorem test_hypotheses_WaifetiHeaders :
    (∃ (addr : BitVec 6) (type : BitVec 4) (len : BitVec 11) (fseq : BitVec 3) (hchk : Octet) (s : State), s.vio1 =
      true ∧ s.wfl.header = none ∧ (headerCheck addr.toNat type.toNat len.toNat fseq.toNat ≠ BitVec.toNat hchk ∨
      headerOk addr.toNat type.toNat len.toNat = false)) ∧
    (∃ (fseq : BitVec 3) (hchk : Octet) (s : State), s.vio1 = true ∧ s.wfl.header = none ∧ headerCheck 0 3 1
      fseq.toNat = BitVec.toNat hchk) ∧
    (∃ (addr : BitVec 6) (type : BitVec 4) (len : BitVec 11) (fseq : BitVec 3) (hchk : Octet) (s : State), s.vio1 =
      true ∧ s.wfl.header = none ∧ headerCheck addr.toNat type.toNat len.toNat fseq.toNat = BitVec.toNat hchk ∧
      headerOk addr.toNat type.toNat len.toNat = true ∧ type ≠ 3 ∧ (s.wflAddr = 0 ∨ addr.toNat ≠ 63 ∧ addr.toNat ≠
      s.wflAddr)) ∧
    (∃ (addr : BitVec 6) (type : BitVec 4) (len : BitVec 11) (fseq : BitVec 3) (hchk : Octet) (s : State), s.vio1 =
      true ∧ s.wfl.header = none ∧ headerCheck addr.toNat type.toNat len.toNat fseq.toNat = BitVec.toNat hchk ∧
      headerOk addr.toNat type.toNat len.toNat = true ∧ type ≠ 3 ∧ s.wflAddr ≠ 0 ∧ (addr.toNat = 63 ∨ addr.toNat =
      s.wflAddr) ∧ s.wflTakes type.toNat = true) ∧
    (∃ (addr : BitVec 6) (type : BitVec 4) (len : BitVec 11) (fseq : BitVec 3) (hchk : Octet) (s : State), s.vio1 =
      true ∧ s.wfl.header = none ∧ headerCheck addr.toNat type.toNat len.toNat fseq.toNat = BitVec.toNat hchk ∧
      headerOk addr.toNat type.toNat len.toNat = true ∧ type ≠ 3 ∧ s.wflAddr ≠ 0 ∧ (addr.toNat = 63 ∨ addr.toNat =
      s.wflAddr) ∧ s.on 15 = true ∧ s.rd A.WFL_CFG 15 14 = 0) ∧
    (∃ (s : State), s.on 10 = true ∧ s.on 15 = true) :=
  ⟨⟨63, 1, 1, 2, 0, wire 0, by decide +kernel⟩,
   ⟨2, BitVec.ofNat 8 (headerCheck 0 3 1 2), wire 0, by decide +kernel⟩,
   ⟨63, 1, 22, 2, BitVec.ofNat 8 (headerCheck 63 1 22 2), wire 0, by decide +kernel⟩,
   ⟨63, 1, 22, 2, BitVec.ofNat 8 (headerCheck 63 1 22 2), ringUp (wire 5) 0, by decide +kernel⟩,
   ⟨63, 1, 22, 2, BitVec.ofNat 8 (headerCheck 63 1 22 2), (wire 5).wr A.WFL_CFG 15 14 0, by decide +kernel⟩,
   ⟨wire 0, by decide +kernel⟩⟩

theorem test_hypotheses_WaifetiBodies :
    (∃ (body : List Octet) (crc : BitVec 16) (addr : Nat) (fseq : Nat) (s : State), s.wfl.header = some (addr, 1,
      body.length, fseq) ∧ s.vio1 = true ∧ fcs16 body ≠ crc.toNat) ∧
    (∃ (body : List Octet) (crc : BitVec 16) (addr : Nat) (fseq : Nat) (s : State), s.wfl.header = some (addr, 1,
      body.length, fseq) ∧ s.vio1 = true ∧ fcs16 body = crc.toNat ∧ s.wfl.lastCmd = some (fseq, crc)) ∧
    (∃ (body : List Octet) (crc : BitVec 16) (addr : Nat) (fseq : Nat) (i : Nat) (s : State), s.wfl.header = some
      (addr, 1, body.length, fseq) ∧ s.vio1 = true ∧ fcs16 body = crc.toNat ∧ s.wfl.lastCmd ≠ some (fseq, crc) ∧
      s.wfl.slot = some i ∧ s.on 10 = true ∧ s.on 15 = true ∧ s.ringEn 0 = true ∧ (s.ring 0).holder = some 10 ∧
      s.ringReady 0 (BitVec.toNat (s.ring 0).pi) = true) ∧
    (∃ (_value : Octet) (_crc : BitVec 16) (a : Nat) (l : Nat) (q : Nat) (s : State), s.wfl.header = some (a, 3, l, q)
      ∧ s.vio1 = true) ∧
    (∃ (_accept : Bool) (a : Nat) (l : Nat) (q : Nat) (s : State), s.wfl.header = some (a, 4, l, q) ∧ s.vio1 = true) ∧
    (∃ (a : Nat) (l : Nat) (q : Nat) (s : State), s.wfl.header = some (a, 6, l, q)) ∧
    (∃ (s : State), s.wfl.header.isSome = true ∧ s.on 15 = true) ∧
    (∃ (a : Nat) (y : Nat) (l : Nat) (q : Nat) (s : State), s.wfl.header = some (a, y, l, q) ∧ s.vio1 = true ∧ y ≠ 2 ∧
      y ≠ 4) ∧
    (∃ (a : Nat) (y : Nat) (l : Nat) (q : Nat) (s : State), s.wfl.header = some (a, y, l, q) ∧ (y = 2 ∨ y = 4)) :=
  ⟨⟨[1, 2, 3], 5, 5, 2, (ringUp (heard 5 1 3) 0).setRing 0 { (ringUp (heard 5 1 3) 0).ring 0 with holder := some 10 },
     by decide +kernel⟩,
   ⟨[1, 2, 3], BitVec.ofNat 16 (fcs16 [1, 2, 3]), 5, 2,
     { heard 5 1 3 with wfl := { (heard 5 1 3).wfl with lastCmd := some (2, BitVec.ofNat 16 (fcs16 [1, 2, 3])) } },
     by decide +kernel⟩,
   ⟨[1, 2, 3], BitVec.ofNat 16 (fcs16 [1, 2, 3]), 5, 2, 1, (ringUp (heard 5 1 3) 0).setRing 0
     { (ringUp (heard 5 1 3) 0).ring 0 with holder := some 10 }, by decide +kernel⟩,
   ⟨5, 5, 5, 1, 2, heard 5 3 1, by decide +kernel⟩,
   ⟨true, 5, 1, 2, heard 5 4 1, by decide +kernel⟩,
   ⟨5, 1, 2, heard 5 6 1, by decide +kernel⟩,
   ⟨(ringUp (heard 5 1 3) 0).setRing 0 { (ringUp (heard 5 1 3) 0).ring 0 with holder := some 10 }, by decide +kernel⟩,
   ⟨5, 1, 3, 2, (ringUp (heard 5 1 3) 0).setRing 0 { (ringUp (heard 5 1 3) 0).ring 0 with holder := some 10 },
     by decide +kernel⟩,
   ⟨5, 4, 1, 2, heard 5 4 1, by decide +kernel⟩⟩

theorem test_hypotheses_SumsAndDifferences :
    (∃ (k : Fin 8) (adv : BitVec 4) (d : BitVec 5) (x : BitVec 5) (y : BitVec 5) (who : Initiator) (s : State) (r :
      Instr × W16 × Bool × Bool), let b := s.due who; let X := b.g[x.toNat]; let Y := b.g[y.toNat];
      let c := (BitVec.getLsbD b.c[0] 0).toNat; s.single k who ∧ r ∈ [(Instr.add k adv d x y, X + Y, decide (65536 ≤
      BitVec.toNat X + BitVec.toNat Y), out16 (BitVec.toInt X + BitVec.toInt Y)), (Instr.adc k adv d x y, X + Y +
      BitVec.ofNat 16 c, decide (65536 ≤ BitVec.toNat X + BitVec.toNat Y + c), out16 (BitVec.toInt X + BitVec.toInt Y
      + ↑c)), (Instr.sub k adv d x y, X - Y, decide (BitVec.toNat X < BitVec.toNat Y), out16 (BitVec.toInt X -
      BitVec.toInt Y)), (Instr.sbc k adv d x y, X - Y - BitVec.ofNat 16 c, decide (BitVec.toNat X < BitVec.toNat Y +
      c), out16 (BitVec.toInt X - BitVec.toInt Y - ↑c)), (Instr.neg k adv d x, 0 - X, decide (X ≠ 0), decide (X =
      32768))]) ∧
    (∃ (k : Fin 8) (_adv : BitVec 4) (_d : BitVec 5) (_x : BitVec 5) (_imm : BitVec 12) (who : Initiator) (s : State),
      s.single k who) ∧
    (∃ (k : Fin 8) (adv : BitVec 4) (d : BitVec 5) (x : BitVec 5) (y : BitVec 5) (who : Initiator) (s : State) (r :
      Instr × Int), let b := s.due who; let X := BitVec.toInt b.g[x.toNat]; let Y := BitVec.toInt b.g[y.toNat];
      s.single k who ∧ r ∈ [(Instr.adds k adv d x y, X + Y), (Instr.subs k adv d x y, X - Y), (Instr.abs k adv d x,
      ↑X.natAbs)]) :=
  ⟨⟨3, 15, 31, 31, 31, .engine 3, tasked awake 3 (some (task false)), (.add 3 15 31 31 31, 0, false, false),
     by unfold State.single State.due; decide +kernel⟩,
   ⟨3, 15, 31, 31, 0, .engine 3, tasked awake 3 (some (task false)), by unfold State.single; decide +kernel⟩,
   ⟨3, 15, 31, 31, 31, .engine 3, tasked awake 3 (some (task false)), (.adds 3 15 31 31 31, 0),
     by unfold State.single State.due; decide +kernel⟩⟩

theorem test_hypotheses_LogicShiftsMoves :
    (∃ (k : Fin 8) (adv : BitVec 4) (d : BitVec 5) (x : BitVec 5) (y : BitVec 5) (who : Initiator) (s : State) (r :
      Instr × W16), let b := s.due who; let X := b.g[x.toNat]; let Y := b.g[y.toNat]; s.single k who ∧ (r ∈
      [(Instr.and k adv d x y, X &&& Y), (Instr.or k adv d x y, X ||| Y), (Instr.xor k adv d x y, X ^^^ Y),
      (Instr.andn k adv d x y, X &&& ~~~Y), (Instr.shl k adv d x y, if 16 ≤ BitVec.toNat Y % 32 then 0 else X <<<
      (BitVec.toNat Y % 32)), (Instr.shr k adv d x y, if 16 ≤ BitVec.toNat Y % 32 then 0 else X >>> (BitVec.toNat Y %
      32)), (Instr.sar k adv d x y, if 16 ≤ BitVec.toNat Y % 32 then if BitVec.msb X = true then 65535 else 0 else
      BitVec.sshiftRight X (BitVec.toNat Y % 32)), (Instr.rol k adv d x y, BitVec.rotateLeft X (BitVec.toNat Y %
      16))])) ∧
    (∃ (k : Fin 8) (adv : BitVec 4) (d : BitVec 5) (x : BitVec 5) (imm : BitVec 12) (who : Initiator) (s : State) (r :
      Instr × Bool × W16), let b := s.due who; let X := b.g[x.toNat]; let Z := BitVec.setWidth 16 imm; s.single k who
      ∧ r ∈ [(Instr.andi k adv d x imm, true, X &&& Z), (Instr.ori k adv d x imm, true, X ||| Z), (Instr.xori k adv d
      x imm, true, X ^^^ Z), (Instr.shli k adv d x imm, decide (imm.toNat < 16), X <<< imm.toNat), (Instr.shri k adv d
      x imm, decide (imm.toNat < 16), X >>> imm.toNat), (Instr.sari k adv d x imm, decide (imm.toNat < 16),
      BitVec.sshiftRight X imm.toNat)] ∧ r.snd.fst = true) ∧
    (∃ (k : Fin 8) (adv : BitVec 4) (d : BitVec 5) (x : BitVec 5) (y : BitVec 5) (imm : BitVec 12) (w : W16) (who :
      Initiator) (s : State) (r : Instr × W16), let b := s.due who; let X := b.g[x.toNat]; let Y := b.g[y.toNat];
      let I := BitVec.signExtend 16 imm; s.single k who ∧ (r ∈ [(Instr.min k adv d x y, if BitVec.toInt X <
      BitVec.toInt Y then X else Y), (Instr.max k adv d x y, if BitVec.toInt X < BitVec.toInt Y then Y else X),
      (Instr.minu k adv d x y, if BitVec.toNat X < BitVec.toNat Y then X else Y), (Instr.maxu k adv d x y, if
      BitVec.toNat X < BitVec.toNat Y then Y else X), (Instr.cmpeq k adv d x y, if X = Y then 1 else 0), (Instr.cmpne
      k adv d x y, if X = Y then 0 else 1), (Instr.cmplt k adv d x y, if BitVec.toInt X < BitVec.toInt Y then 1 else
      0), (Instr.cmpltu k adv d x y, if BitVec.toNat X < BitVec.toNat Y then 1 else 0), (Instr.cmpeqi k adv d x imm,
      if X = I then 1 else 0), (Instr.cmplti k adv d x imm, if BitVec.toInt X < BitVec.toInt I then 1 else 0),
      (Instr.pack k adv d x y, BitVec.ofNat 16 (256 * (BitVec.toNat Y % 256) + BitVec.toNat X % 256)), (Instr.unpkl k
      adv d x, BitVec.ofNat 16 (BitVec.toNat X % 256)), (Instr.unpkh k adv d x, BitVec.ofNat 16 (BitVec.toNat X /
      256)), (Instr.swapb k adv d x, BitVec.ofNat 16 (256 * (BitVec.toNat X % 256) + BitVec.toNat X / 256)),
      (Instr.sexb k adv d x, BitVec.signExtend 16 (BitVec.setWidth 8 X)), (Instr.clz k adv d x, if X = 0 then 16 else
      BitVec.ofNat 16 (15 - (BitVec.toNat X).log2)), (Instr.popc k adv d x, BitVec.ofNat 16 (List.map
      (fun i => BitVec.toNat X / 2 ^ i % 2) (List.range 16)).sum), (Instr.movi k adv d w, w)])) ∧
    (∃ (k : Fin 8) (adv : BitVec 4) (d : BitVec 5) (x : BitVec 5) (y : BitVec 5) (who : Initiator) (s : State) (r :
      Instr × Bool), let b := s.due who; s.single k who ∧ r ∈ [(Instr.movz k adv d x y, decide (b.g[y.toNat] = 0)),
      (Instr.movnz k adv d x y, decide (b.g[y.toNat] ≠ 0)), (Instr.nop k adv, false)]) ∧
    (∃ (k : Fin 8) (_adv : BitVec 4) (_d : BitVec 5) (_x : BitVec 5) (cr : BitVec 4) (who : Initiator) (s : State),
      s.single k who ∧ cr.toNat < 14) ∧
    (∃ (k : Fin 8) (_adv : BitVec 4) (_d : BitVec 5) (_x : BitVec 5) (cr : BitVec 4) (who : Initiator) (s : State),
      s.single k who ∧ cr.toNat < 14 ∧ (s.buffered who = false ∨ cr.toNat < 12)) :=
  ⟨⟨3, 15, 31, 31, 31, .engine 3, tasked awake 3 (some (task false)), (.and 3 15 31 31 31, 0),
     by unfold State.single State.due; decide +kernel⟩,
   ⟨3, 15, 31, 31, 0, .engine 3, tasked awake 3 (some (task false)), (.andi 3 15 31 31 0, true, 0),
     by unfold State.single State.due; decide +kernel⟩,
   ⟨3, 15, 31, 31, 31, 0, 0, .engine 3, tasked awake 3 (some (task false)), (.min 3 15 31 31 31, 0),
     by unfold State.single State.due; decide +kernel⟩,
   ⟨3, 15, 31, 31, 31, .engine 3, tasked awake 3 (some (task false)), (.nop 3 15, false),
     by unfold State.single State.due; decide +kernel⟩,
   ⟨3, 15, 31, 31, 0, .engine 3, tasked awake 3 (some (task false)), by unfold State.single; decide +kernel⟩,
   ⟨3, 15, 31, 31, 0, .engine 3, tasked awake 3 (some (task false)), by unfold State.single; decide +kernel⟩⟩

theorem test_hypotheses_MultiplyAccumulate :
    (∃ (k : Fin 8) (adv : BitVec 4) (d : BitVec 5) (x : BitVec 5) (y : BitVec 5) (ac : BitVec 2) (who : Initiator) (s
      : State) (r : Instr × BitVec 16), let b := s.due who; let X := b.g[x.toNat]; let Y := b.g[y.toNat];
      let A := b.acc[ac.toNat]; s.single k who ∧ r ∈ [(Instr.mul k adv d x y, BitVec.ofInt 16 (BitVec.toInt X *
      BitVec.toInt Y)), (Instr.mulh k adv d x y, BitVec.ofInt 16 (BitVec.toInt X * BitVec.toInt Y / 65536)),
      (Instr.mulhu k adv d x y, BitVec.ofNat 16 (BitVec.toNat X * BitVec.toNat Y / 65536)), (Instr.aextl k adv d ac,
      BitVec.ofNat 16 A.toNat), (Instr.aexth k adv d ac, BitVec.ofNat 16 (A.toNat / 65536)), (Instr.aextg k adv d ac,
      BitVec.ofInt 16 (A.toInt / 2 ^ 32))]) ∧
    (∃ (k : Fin 8) (adv : BitVec 4) (d : BitVec 5) (x : BitVec 5) (y : BitVec 5) (ac : BitVec 2) (imm : BitVec 5) (who
      : Initiator) (s : State) (r : Instr × Int), let b := s.due who; let A := b.acc[ac.toNat].toInt;
      let round := if imm = 0 ∨ BitVec.getLsbD b.c[1] 7 = true then 0 else 2 ^ (imm.toNat - 1); s.single k who ∧ r ∈
      [(Instr.mulq k adv d x y, (BitVec.toInt b.g[x.toNat] * BitVec.toInt b.g[y.toNat] + 16384) / 2 ^ 15), (Instr.aext
      k adv d ac imm, (A + round) / 2 ^ imm.toNat)]) ∧
    (∃ (k : Fin 8) (adv : BitVec 4) (x : BitVec 5) (y : BitVec 5) (ac : BitVec 2) (imm : BitVec 5) (who : Initiator)
      (s : State) (r : Instr × Bool × Int), let b := s.due who; let X := BitVec.toInt b.g[x.toNat];
      let Y := BitVec.toInt b.g[y.toNat]; let A := b.acc[ac.toNat].toInt; s.single k who ∧ r ∈ [(Instr.mpy k adv x y
      ac, true, X * Y), (Instr.mac k adv x y ac, true, A + X * Y), (Instr.msu k adv x y ac, true, A - X * Y),
      (Instr.macq k adv x y ac, true, A + 2 * (X * Y)), (Instr.ashl k adv ac imm, decide (imm ≠ 0), A * 2 ^
      imm.toNat), (Instr.aadd k adv ac imm, decide (imm.toNat < 4), A + (b.acc.toList.getD imm.toNat 0).toInt)] ∧
      r.snd.fst = true) ∧
    (∃ (k : Fin 8) (adv : BitVec 4) (x : BitVec 5) (y : BitVec 5) (ac : BitVec 2) (imm : BitVec 5) (who : Initiator)
      (s : State) (r : Instr × Bool × BitVec 40 × Bool), let b := s.due who; let A := b.acc[ac.toNat];
      let P := BitVec.toNat b.g[x.toNat] * BitVec.toNat b.g[y.toNat]; s.single k who ∧ r ∈ [(Instr.macu k adv x y ac,
      true, A + BitVec.ofNat 40 P, decide (2 ^ 40 ≤ A.toNat + P)), (Instr.aclr k adv ac, true, 0, false), (Instr.ashr
      k adv ac imm, decide (imm ≠ 0), A.sshiftRight imm.toNat, false), (Instr.ald k adv x y ac, true, BitVec.ofInt 40
      (BitVec.toInt b.g[y.toNat] * 65536 + ↑(BitVec.toNat b.g[x.toNat])), false)] ∧ r.snd.fst = true) :=
  ⟨⟨3, 15, 31, 31, 31, 3, .engine 3, tasked awake 3 (some (task false)), (.mul 3 15 31 31 31, 0),
     by unfold State.single State.due; decide +kernel⟩,
   ⟨3, 15, 31, 31, 31, 3, 31, .engine 3, tasked awake 3 (some (task false)), (.mulq 3 15 31 31 31, 0),
     by unfold State.single State.due; decide +kernel⟩,
   ⟨3, 15, 31, 31, 3, 31, .engine 3, tasked awake 3 (some (task false)), (.mpy 3 15 31 31 3, true, 0),
     by unfold State.single State.due; decide +kernel⟩,
   ⟨3, 15, 31, 31, 3, 31, .engine 3, tasked awake 3 (some (task false)), (.aclr 3 15 3, true, 0, false),
     by unfold State.single State.due; decide +kernel⟩⟩

theorem test_hypotheses_LoadsAndStores :
    (∃ (k : Fin 8) (adv : BitVec 4) (a : BitVec 3) (a' : BitVec 3) (x : BitVec 5) (y : BitVec 5) (g : BitVec 5) (imm :
      Addr) (w : W16) (h : Bool) (who : Initiator) (s : State) (r : Instr × Landing), let b := s.due who; s.single k
      who ∧ (r ∈ [(Instr.la k adv a imm, Landing.a a imm), (Instr.ada k adv a a' w, Landing.a a (b.a[a'.toNat] +
      BitVec.signExtend 24 w)), (Instr.movga k adv a x y, Landing.a a (BitVec.ofNat 24 (65536 * (BitVec.toNat
      b.g[y.toNat] % 256) + BitVec.toNat b.g[x.toNat]))), (Instr.movag k adv g a h, Landing.g g (BitVec.ofNat 16 (if h
      = true then BitVec.toNat b.a[a.toNat] / 65536 else BitVec.toNat b.a[a.toNat])))])) ∧
    (∃ (k : Fin 8) (_adv : BitVec 4) (_g : BitVec 5) (x : BitVec 5) (who : Initiator) (s : State), let b := s.due who;
      let i := BitVec.toNat b.g[x.toNat]; s.single k who ∧ i < 24576 ∧ (∀ (e : EccErr), e ∈ s.ecc → e.mem ≠ k.val + 1
      ∨ e.addr ≠ i / 2)) ∧
    (∃ (k : Fin 8) (_adv : BitVec 4) (_g : BitVec 5) (a : BitVec 3) (mode : BitVec 2) (imm : BitVec 12) (who :
      Initiator) (s : State), let b := s.due who; let A := b.a[a.toNat];
      let ea := BitVec.toNat (if mode = 0 then A + BitVec.signExtend 24 imm else if mode = 1 then A else A + BitVec.setWidth 24 b.g[imm.toNat % 32]);
      s.single k who ∧ mode ≠ 3 ∧ (mode = 2 → imm.toNat < 32) ∧ ea < 32768 ∧ (∀ (e : EccErr), e ∈ s.ecc → e.mem ≠
      k.val + 9 ∨ e.addr ≠ ea)) ∧
    (∃ (k : Fin 8) (adv : BitVec 4) (_g : BitVec 5) (a : BitVec 3) (mode : BitVec 2) (imm : BitVec 12) (who :
      Initiator) (s : State), let b := s.due who; let A := b.a[a.toNat];
      let ea := BitVec.toNat (if mode = 0 then A + BitVec.signExtend 24 imm else if mode = 1 then A else A + BitVec.setWidth 24 b.g[imm.toNat % 32]);
      s.single k who ∧ mode ≠ 3 ∧ (mode = 2 → imm.toNat < 32) ∧ s.inSlot adv k ea ∧ s.buffered who = false ∧
      s.bankLost (bankOf ea) = false ∧ (∀ (e : EccErr), e ∈ s.ecc → e.mem ≠ 0 ∨ e.addr ≠ ea)) ∧
    (∃ (k : Fin 8) (_adv : BitVec 4) (_g : BitVec 5) (a : BitVec 3) (mode : BitVec 2) (imm : BitVec 12) (who :
      Initiator) (s : State), let b := s.due who; let A := b.a[a.toNat];
      let ea := BitVec.toNat (if mode = 0 then A + BitVec.signExtend 24 imm else if mode = 1 then A else A + BitVec.setWidth 24 b.g[imm.toNat % 32]);
      s.single k who ∧ mode ≠ 3 ∧ (mode = 2 → imm.toNat < 32) ∧ ea < 32768 ∧ s.ecc = []) ∧
    (∃ (k : Fin 8) (adv : BitVec 4) (_g : BitVec 5) (a : BitVec 3) (mode : BitVec 2) (imm : BitVec 12) (who :
      Initiator) (s : State), let b := s.due who; let A := b.a[a.toNat];
      let ea := BitVec.toNat (if mode = 0 then A + BitVec.signExtend 24 imm else if mode = 1 then A else A + BitVec.setWidth 24 b.g[imm.toNat % 32]);
      s.single k who ∧ mode ≠ 3 ∧ (mode = 2 → imm.toNat < 32) ∧ s.inSlot adv k ea ∧ s.buffered who = false ∧ s.ecc =
      []) ∧
    (∃ (k : Fin 8) (_adv : BitVec 4) (_g : BitVec 5) (a : BitVec 3) (mode : BitVec 2) (imm : BitVec 12) (who :
      Initiator) (s : State) (u : Machine.Task), let b := s.due who; let A := b.a[a.toNat];
      let ea := BitVec.toNat (if mode = 0 then A + BitVec.signExtend 24 imm else if mode = 1 then A else A + BitVec.setWidth 24 b.g[imm.toNat % 32]);
      s.single k who ∧ mode ≠ 3 ∧ (mode = 2 → imm.toNat < 32) ∧ inSram ea = true ∧ u ∈ s.taskOfWho who ∧ u.buffered =
      true ∧ (s.cbuf k u.buf).ents.length < 512) :=
  ⟨⟨3, 15, 7, 7, 31, 31, 31, 0, 0, false, .engine 3, tasked awake 3 (some (task false)), (.la 3 15 7 0, .a 7 0),
     by unfold State.single State.due; decide +kernel⟩,
   ⟨3, 15, 31, 31, .engine 3, tasked awake 3 (some (task false)), by unfold State.single State.due; decide +kernel⟩,
   ⟨3, 15, 31, 7, 0, 0, .engine 3, tasked awake 3 (some (task false)),
     by unfold State.single State.due; decide +kernel⟩,
   ⟨3, 15, 31, 7, 0, 0, .engine 3, basing (granting (tasked awake 3 (some (task false)))),
     by unfold State.single State.inSlot State.due; decide +kernel⟩,
   ⟨3, 15, 31, 7, 0, 0, .engine 3, tasked awake 3 (some (task false)),
     by unfold State.single State.due; decide +kernel⟩,
   ⟨3, 15, 31, 7, 0, 0, .engine 3, basing (granting (tasked awake 3 (some (task false)))),
     by unfold State.single State.inSlot State.due; decide +kernel⟩,
   ⟨3, 15, 31, 7, 0, 0, .engine 3, basing (tasked awake 3 (some (task true))), task true,
     by unfold State.single State.due; decide +kernel⟩⟩

theorem test_hypotheses_BranchesAndTraps :
    (∃ (k : Fin 8) (adv : BitVec 4) (g : BitVec 5) (T : BitVec 14) (who : Initiator) (s : State) (r : Instr × Bool),
      let b := s.due who; let G := b.g[g.toNat]; s.single k who ∧ (s.due who).target = none ∧ T.toNat < 12288 ∧ r ∈
      [(Instr.br k adv T, true), (Instr.bz k adv g T, decide (G = 0)), (Instr.bnz k adv g T, decide (G ≠ 0)),
      (Instr.bltz k adv g T, BitVec.msb G), (Instr.bgez k adv g T, !BitVec.msb G)]) ∧
    (∃ (k : Fin 8) (_adv : BitVec 4) (_g : BitVec 5) (T : BitVec 14) (who : Initiator) (s : State), s.single k who ∧
      (s.due who).target = none ∧ T.toNat < 12288) ∧
    (∃ (k : Fin 8) (_adv : BitVec 4) (_g : BitVec 5) (T : BitVec 14) (who : Initiator) (s : State),
      let b := s.due who; let f := fetchBundle (s.syllable k) (b.pc + 1).toNat; s.single k who ∧ (s.due who).target =
      none ∧ T.toNat < 12288 ∧ f.beyond = false ∧ BitVec.msb (s.syllable k ((b.pc + 1).toNat + f.size - 1)).fst =
      true) ∧
    (∃ (k : Fin 8) (_adv : BitVec 4) (_code : Octet) (who : Initiator) (s : State), s.single k who ∧ (s.due
      who).target = none ∧ BitVec.getLsbD (s.due who).c[1] 6 = false) ∧
    (∃ (k : Fin 8) (_adv : BitVec 4) (who : Initiator) (s : State), s.single k who ∧ (s.due who).target = none) ∧
    (∃ (k : Fin 8) (_adv : BitVec 4) (u : Machine.Task) (s : State), s.single k (Initiator.engine k) ∧ s.eng[k].task =
      some u ∧ u.buffered = false ∧ (s.due (Initiator.engine k)).target = none) ∧
    (∃ (_adv : BitVec 4) (s : State), s.single 0 Initiator.service ∧ (s.due Initiator.service).target = none) :=
  ⟨⟨3, 15, 31, 0x2FFF, .engine 3, tasked awake 3 (some (task false)), (.br 3 15 0x2FFF, true),
     by unfold State.single State.due; decide +kernel⟩,
   ⟨3, 15, 31, 0x2FFF, .engine 3, tasked awake 3 (some (task false)),
     by unfold State.single State.due; decide +kernel⟩,
   ⟨3, 15, 31, 0x2FFF, .engine 3, coded (tasked awake 3 (some (task false))) [(1, 0x8000), (3, 0x8000)],
     by unfold State.single State.due; decide +kernel⟩,
   ⟨3, 15, 0, .engine 3, tasked awake 3 (some (task false)), by unfold State.single State.due; decide +kernel⟩,
   ⟨3, 15, .engine 3, tasked awake 3 (some (task false)), by unfold State.single State.due; decide +kernel⟩,
   ⟨3, 15, task false, tasked awake 3 (some (task false)), by unfold State.single State.due; decide +kernel⟩,
   ⟨15, { awake with svcRun := true }, by unfold State.single State.due; decide +kernel⟩⟩

theorem test_hypotheses_RingOperations :
    (∃ (k : Fin 8) (adv : BitVec 4) (g : BitVec 5) (a : BitVec 3) (n : BitVec 6) (who : Initiator) (s : State) (x :
      Instr × Bool × Landing), let r := s.ring n.toNat; s.single k who ∧ s.ringEn n.toNat = true ∧ s.inSlot adv k
      (s.idxAddr n.toNat) ∧ s.inSlot adv k (s.idxAddr n.toNat + 1) ∧ s.inSlot adv k (s.idxAddr n.toNat + 3) ∧ (x ∈
      [(Instr.qavl k adv g n, true, Landing.g g (if isRequest n.toNat = true then r.cqw - r.cqr else r.pi - r.ci)),
      (Instr.qspace k adv g n, decide (ringClass n.toNat ≠ 0), Landing.g g (BitVec.ofNat 16 (s.ringSize n.toNat -
      BitVec.toNat (r.pi - r.ci)))), (Instr.qhead k adv a n, true, Landing.a a (BitVec.ofNat 24 (s.placeAddr n.toNat
      (if isRequest n.toNat = true then r.recs.headD (BitVec.toNat r.ci) else BitVec.toNat r.ci)))), (Instr.qtail k
      adv a n, decide (ringClass n.toNat ≠ 0), Landing.a a (BitVec.ofNat 24 (s.placeAddr n.toNat (BitVec.toNat
      r.pi))))]) ∧ x.snd.fst = true) ∧
    (∃ (k : Fin 8) (adv : BitVec 4) (n : BitVec 6) (c : BitVec 11) (who : Initiator) (s : State), s.single k who ∧
      s.buffered who = false ∧ s.ringEn n.toNat = true ∧ s.inSlot adv k (s.idxAddr n.toNat) ∧ 1 ≤ c.toNat ∧ c.toNat ≤
      1024 ∧ ringClass n.toNat ≠ 0 ∧ c.toNat ≤ s.ringSpace n.toNat ∧ (isRequest n.toNat = true → s.outstanding +
      c.toNat ≤ 512)) ∧
    (∃ (k : Fin 8) (adv : BitVec 4) (n : BitVec 6) (c : BitVec 11) (who : Initiator) (s : State), s.single k who ∧
      s.buffered who = false ∧ s.ringEn n.toNat = true ∧ (s.inSlot adv k (s.idxAddr n.toNat + if isRequest n.toNat =
      true then 3 else 1)) ∧ 1 ≤ c.toNat ∧ c.toNat ≤ 1024 ∧ (c.toNat ≤ if isRequest n.toNat = true then (s.ring
      n.toNat).ready else (s.ring n.toNat).used)) ∧
    (∃ (k : Fin 8) (_adv : BitVec 4) (_n : BitVec 6) (c : BitVec 11) (u : Machine.Task) (s : State), s.single k
      (Initiator.engine k) ∧ s.eng[k].task = some u ∧ u.buffered = true ∧ (s.cbuf k u.buf).ents.length < 512 ∧ 1 ≤
      c.toNat ∧ c.toNat ≤ 1024) ∧
    (∃ (k : Fin 8) (_adv : BitVec 4) (_n : BitVec 2) (who : Initiator) (s : State), s.single k who ∧ s.buffered who =
      false ∧ s.on 10 = true) :=
  ⟨⟨3, 15, 31, 7, 45, .engine 3, granting (ringUp (tasked awake 3 (some (task false))) 45), (.qavl 3 15 31 45, true,
     .g 31 0), by unfold State.single State.inSlot; decide +kernel⟩,
   ⟨3, 15, 45, 1, .engine 3, granting (ringUp (tasked awake 3 (some (task false))) 45),
     by unfold State.single State.inSlot; decide +kernel⟩,
   ⟨3, 15, 18, 1, .engine 3, granting (ready (ringUp (tasked awake 3 (some (task false))) 18) 18),
     by unfold State.single State.inSlot; decide +kernel⟩,
   ⟨3, 15, 45, 1, task true, tasked awake 3 (some (task true)), by unfold State.single; decide +kernel⟩,
   ⟨3, 15, 3, .engine 3, tasked awake 3 (some (task false)), by unfold State.single; decide +kernel⟩⟩

theorem test_hypotheses_EngineCycles :
    (∃ (k : Fin 8) (_adv : BitVec 4) (_d : BitVec 5) (_a : BitVec 3) (_v : W16) (_m : W16) (_z : W16) (_x : Addr) (_n
      : Nat) (who : Initiator) (s : State), s.single k who) ∧
    (∃ (k : Fin 8) (_adv : BitVec 4) (x : Syll) (who : Initiator) (s : State), s.single k who ∧ s.ecc = [] ∧
      fetchBundle (s.syllable k) (s.bankOfWho who).pc.toNat = fetchOne x) ∧
    (∃ (k : Fin 8) (adv : BitVec 4) (d : BitVec 5) (x : BitVec 5) (y : BitVec 5) (a : BitVec 3) (m : BitVec 2) (i :
      BitVec 12) (n : BitVec 6) (c : BitVec 11) (T : BitVec 14) (code : Octet) (_s : State) (r : Instr × Syll), r ∈
      [(Instr.add k adv d x y, Syll.a (ASyl.ar ArOp.add d x y)), (Instr.and k adv d x y, Syll.a (ASyl.ar ArOp.and d x
      y)), (Instr.ld k adv d a m i, Syll.l (LSyl.ld d a m i)), (Instr.st k adv d a m i, Syll.l (LSyl.st d a m i)),
      (Instr.qpost k adv n c, Syll.q (QSyl.qpost n c)), (Instr.br k adv T, Syll.b (BSyl.br T)), (Instr.trap k adv
      code, Syll.b (BSyl.trap code))]) ∧
    (∃ (k : Fin 8) (_adv : BitVec 4) (d : BitVec 5) (x : BitVec 5) (y : BitVec 5) (who : Initiator) (s : State),
      s.single k who ∧ s.ecc = [] ∧ fetchBundle (s.syllable k) (s.bankOfWho who).pc.toNat = fetchOne (Syll.a (ASyl.ar
      ArOp.add d x y))) ∧
    (∃ (k : Fin 8) (_adv : BitVec 4) (i : Nat) (who : Initiator) (s : State),
      let f := fetchBundle (s.syllable k) (s.due who).pc.toNat; s.single k who ∧ s.ecc = [] ∧ (s.due who).target =
      none ∧ BitVec.getLsbD (s.due who).c[1] 6 = false ∧ f.undef = some i ∧ f.memerr = false ∧ f.beyond = false ∧ i <
      256) ∧
    (∃ (k : Fin 8) (_adv : BitVec 4) (cause : BitVec 4) (code : BitVec 8) (x : Addr) (who : Initiator) (s : State),
      s.runner k = some who ∧ s.stalledWho who = false ∧ (s.bankOfWho who).flight =
      [{ left := 1, land := Landing.trap cause code x }] ∧ (s.bankOfWho who).ending = false ∧ (s.bankOfWho who).hold ≤
      1 ∧ BitVec.getLsbD (s.bankOfWho who).c[1] 6 = false ∧ s.ecc = [] ∧ (∀ (u : Machine.Task), u ∈ s.taskOfWho who →
      u.mate = none) ∧ (s.bankOfWho who).target = none ∧ (s.bundleTraps who (have __src := s.bankOfWho who;
      { g := __src.g, a := __src.a, acc := __src.acc, c := __src.c, pc := __src.pc, target := __src.target, cyc := __src.cyc, flight := [], hold := __src.hold, ending := __src.ending })
      (fetchBundle (s.syllable k) (s.bankOfWho who).pc.toNat) = [])) ∧
    (∃ (_n : Fin 16) (s : State), s.on 10 = true ∧ s.on 0 = true) ∧
    (∃ (_k : Fin 8) (_halting : Bool) (s : State), s.vlt.dbglock = false) ∧
    (∃ (_k : Fin 8) (_halting : Bool) (s : State), s.vlt.dbglock = true) :=
  ⟨⟨3, 15, 31, 7, 0, 0, 0, 0, 0, .engine 3, tasked awake 3 (some (task false)),
     by unfold State.single; decide +kernel⟩,
   ⟨3, 15, .a (.ar .add 31 31 31), .engine 3, coded (tasked awake 3 (some (task false))) [(0, 0xFF80), (1, 0x807F)],
     by unfold State.single; decide +kernel⟩,
   ⟨3, 15, 31, 31, 31, 7, 3, 0, 45, 1, 0x2FFF, 0, tasked awake 3 (some (task false)), (.add 3 15 31 31 31, .a (.ar
     .add 31 31 31)), by decide +kernel⟩,
   ⟨3, 15, 31, 31, 31, .engine 3, coded (tasked awake 3 (some (task false))) [(0, 0xFF80), (1, 0x807F)],
     by unfold State.single; decide +kernel⟩,
   ⟨3, 15, 0, .engine 3, coded (tasked awake 3 (some (task false))) [(0, 0xFFFF), (1, 0xFFFF)],
     by unfold State.single State.due; decide +kernel⟩,
   ⟨3, 15, 15, 0, 0, .engine 3, landing (coded (tasked awake 3 (some (task false))) [(1, 0x8000)]) (.trap 15 0 0),
     by decide +kernel⟩,
   ⟨15, tasked awake 3 (some (task false)), by decide +kernel⟩,
   ⟨3, false, tasked awake 3 (some (task false)), by decide +kernel⟩,
   ⟨3, false, { awake with vlt := { awake.vlt with dbglock := true } }, by decide +kernel⟩⟩

theorem test_hypotheses_CrossbarAndDrain :
    (∃ (port : BitVec 4) (adv : BitVec 4) (g : BitVec 5) (k : Fin 8) (w : Access) (s : State), s.slotWait port.toNat =
      some w ∧ w.kind = AccessKind.load g ∧ w.who = Initiator.engine k ∧ (∀ (u : Machine.Task), u ∈ s.eng[k].task →
      u.buffered = false ∧ u.mate = none) ∧ s.sameAccess w = [w] ∧ inSram w.addr = true ∧ (s.cycles adv).mayUse
      port.toNat w.bank = true ∧ s.bankLost (bankOf w.addr) = false ∧ s.ecc = [] ∧ s.eng[k].bank.ending = false) ∧
    (∃ (port : BitVec 4) (adv : BitVec 4) (v : W16) (k : Fin 8) (w : Access) (s : State), s.slotWait port.toNat = some
      w ∧ w.kind = AccessKind.store v ∧ w.who = Initiator.engine k ∧ s.sameAccess w = [w] ∧ inSram w.addr = true ∧
      (s.cycles adv).mayUse port.toNat w.bank = true ∧ s.eng[k].bank.ending = false) ∧
    (∃ (port : BitVec 4) (k : Fin 8) (w : Access) (s : State), s.slotWait port.toNat = some w ∧ w.who =
      Initiator.engine k ∧ s.sameAccess w = [w] ∧ s.ownPhase port.toNat w.bank = false ∧ s.eng[k].bank.ending = false) ∧
    (∃ (k : Fin 8) (adv : BitVec 4) (i : Fin 2) (x : Addr) (v : W16) (e : BufEntry) (rest : List BufEntry) (s :
      State), s.drainBuf k = some i ∧ (s.cbuf k i).ents = BufEntry.store x v :: e :: rest ∧ inSram (BitVec.toNat x) =
      true ∧ s.on 8 = true ∧ (s.cycles adv).drainMayUse k (bankOf (BitVec.toNat x)) = true) ∧
    (∃ (k : Fin 8) (i : Fin 2) (x : Addr) (v : W16) (e : BufEntry) (rest : List BufEntry) (s : State), s.drainBuf k =
      some i ∧ (s.cbuf k i).ents = BufEntry.store x v :: e :: rest ∧ inSram (BitVec.toNat x) = true ∧ s.ownPhase
      (k.val) (bankOf (BitVec.toNat x)) = false ∧ s.on 10 = true) :=
  ⟨⟨3, 3, 31, 3, ⟨.engine 3, 3, 0x110100, .load 31, none, 2⟩,
     { granting (tasked awake 3 (some (task false))) with waits := [⟨.engine 3, 3, 0x110100, .load 31, none, 2⟩] },
     by decide +kernel⟩,
   ⟨3, 3, 0x8001, 3, ⟨.engine 3, 3, 0x110100, .store 0x8001, none, 2⟩,
     { granting (tasked awake 3 (some (task false))) with waits := [⟨.engine 3, 3, 0x110100, .store 0x8001, none, 2⟩] },
     by decide +kernel⟩,
   ⟨3, 3, ⟨.engine 3, 3, 0x110100, .load 31, none, 2⟩,
     { tasked awake 3 (some (task false)) with patterns := (List.range 128).map fun i => (i, 0x4444), waits := [⟨.engine 3, 3, 0x110100, .load 31, none, 2⟩] },
     by decide +kernel⟩,
   ⟨3, 3, 0, 0x110000, 0x8001, .store 0x110100 7, [], draining (granting awake), by decide +kernel⟩,
   ⟨3, 0, 0x110000, 0x8001, .store 0x110100 7, [], draining
     { awake with patterns := (List.range 128).map fun i => (i, 0x4444) }, by decide +kernel⟩⟩

theorem test_hypotheses_RingsAndStore :
    (∃ (ring : BitVec 6) (port : Nat) (ws : List W16) (rest : List RingWait) (s : State), (s.ring ring.toNat).waiting
      = RingWait.record port ws :: rest ∧ s.ringRoom ring.toNat = true ∧ (s.ring ring.toNat).holder = none ∧
      s.ringReady ring.toNat (BitVec.toNat (s.ring ring.toNat).pi) = true ∧ s.regionErr port (s.placeAddr ring.toNat
      (BitVec.toNat (s.ring ring.toNat).pi)) ws.length = false) ∧
    (∃ (ring : BitVec 6) (k : Fin 10) (f : LaneFrame) (rest : List RingWait) (s : State), (s.ring ring.toNat).waiting
      = RingWait.lane k :: rest ∧ s.ringRoom ring.toNat = true ∧ (s.ring ring.toNat).holder = none ∧ s.lane[k].frame =
      some f ∧ f.waitsPlace = true ∧ s.lnk.judging = []) ∧
    (∃ (ring : BitVec 6) (s : State), (s.ring ring.toNat).holder ≠ none) ∧
    (∃ (ring : BitVec 6) (s : State), s.consumerEn ring.toNat ≠ 1 ∧ (∀ (d : Nat × Bool × Bool), d ∈ (s.ring
      ring.toNat).out → s.ringReady ring.toNat d.fst = true)) ∧
    (∃ (n : Nat) (place : Nat) (s : State), s.abortReq = some (n, place) ∧ n < 64 ∧ s.ringEn n = true ∧ isRequest n =
      true) ∧
    (∃ (ring : Fin 4) (p : Nat) (s : State), s.on 15 = true ∧ s.nextDesc (40 + ring.val) = some p ∧ s.placeLost (40 +
      ring.val) p = false ∧ s.genericOk (40 + ring.val) p = true ∧ (s.fetchDesc (40 + ring.val) p).fst = true) ∧
    (∃ (ring : Fin 4) (_status : StoreResult) (_result : W16) (o : Nat × Nat × List W16) (s : State), s.on 10 = true ∧
      s.on 15 = true ∧ List.find? (fun o => o.fst == 40 + ring.val) s.pan = some o ∧ s.isOut (40 + ring.val) o.snd.fst
      = true ∧ s.ringReady (40 + ring.val) o.snd.fst = true) :=
  ⟨⟨46, 3, [1, 2, 3], [], (ringUp awake 46).setRing 46 { awake.ring 46 with waiting := [.record 3 [1, 2, 3]] },
     by decide +kernel⟩,
   ⟨27, 9, { inFrame 4 with waitsPlace := true }, [], ((ringUp (inPhase awake 4 (some
     { inFrame 4 with waitsPlace := true })) 27).setRing 27 { awake.ring 27 with waiting := [.lane 9] }),
     by decide +kernel⟩,
   ⟨46, awake.setRing 46 { awake.ring 46 with holder := some 4 }, by decide +kernel⟩,
   ⟨2, awake.wr A.LNK_CTRL 15 14 0, by decide +kernel⟩,
   ⟨2, 3, { ringUp awake 2 with abortReq := some (2, 3) }, by decide +kernel⟩,
   ⟨0, 3, posted awake 40 3 [0, 1, 2] false false, by decide +kernel⟩,
   ⟨0, .ok, 0, (40, 3, [1]), { posted awake 40 3 [0, 1, 2] true true with pan := [(40, 3, [1])] }, by decide +kernel⟩⟩

theorem test_hypotheses_SerialUnits :
    (∃ (u : Fin 6) (s : State), s.on 10 = true ∧ s.on 15 = true ∧ s.unitBusy u.val = false ∧ s.rd (A.PER_S_CFG u.val)
      15 14 = 1) ∧
    (∃ (u : Fin 6) (s : State), s.on 10 = true ∧ s.on 15 = true ∧ s.unitBusy u.val = true) ∧
    (∃ (u : Fin 6) (_got : List W16) (_w : WireResult) (s : State), s.unitBusy u.val = true ∧ s.on 10 = true ∧ s.on 15
      = true) ∧
    (∃ (second : Bool) (_bad : Bool) (_octet : Octet) (s : State), let u := if second = true then 5 else 4; s.on 15 =
      true ∧ s.rd (A.PER_S_CFG u) 15 14 = 1) :=
  ⟨⟨5, awake.wr (A.PER_S_CFG 5) 15 14 1, by decide +kernel⟩,
   ⟨5, (awake.wr (A.PER_S_CFG 5) 15 14 1).setFlag (A.PER_S_STAT 5) 15 true, by decide +kernel⟩,
   ⟨5, [], .ok, (awake.wr (A.PER_S_CFG 5) 15 14 1).setFlag (A.PER_S_STAT 5) 15 true, by decide +kernel⟩,
   ⟨true, true, 255, awake.wr (A.PER_S_CFG 5) 15 14 1, by decide +kernel⟩⟩

theorem test_hypotheses_RegisterWriteStores :
    (∃ (who : Initiator) (addr : Addr) (r : Reg) (k : Nat) (s : State), findReg addr.toNat = some (r, k, 0) ∧ r.words
      = 1 ∧ r.base ∉ actingBases ∧ addr.toNat ≠ A.JNL_STAGE 15 ∧ s.reaches who r.dom) ∧
    (∃ (who : Initiator) (addr : Addr) (r : Reg) (k : Nat) (s : State), findReg addr.toNat = some (r, k, 0) ∧ r.words
      = 1 ∧ r.base ∈ sideBases ∧ s.reaches who r.dom) ∧
    (∃ (who : Initiator) (addr : Addr) (_v : W16) (s : State) (w : Nat), regionOf (BitVec.toNat addr) = Region.hole w
      ∧ s.shutOut who = false) ∧
    (∃ (who : Initiator) (addr : Addr) (_v : W16) (s : State), regionOf (BitVec.toNat addr) = Region.unmapped ∧
      s.shutOut who = false) ∧
    (∃ (_addr : Addr) (_v : W16) (s : State), s.vlt.dbglock = true) :=
  ⟨⟨.debug, 0x403100, ⟨_, _, _, _, _, _, _⟩, _, awake, rfl, rfl, by decide +kernel, by decide +kernel,
     by unfold State.reaches; decide +kernel⟩,
   ⟨.debug, 4247593, _, _, awake, rfl, rfl, by decide +kernel, by unfold State.reaches; decide +kernel⟩,
   ⟨.debug, 0x401F00, 0, awake, 1, by decide +kernel⟩,
   ⟨.debug, 0x5AAAAA, 0, awake, by decide +kernel⟩,
   ⟨0x403100, 0, { awake with vlt := { awake.vlt with dbglock := true } }, by decide +kernel⟩⟩

theorem test_hypotheses_DataRegisters :
    (∃ (who : Initiator) (_v : W16) (s : State), s.reaches who 10) ∧
    (∃ (who : Initiator) (s : State), s.reaches who 10) ∧
    (∃ (who : Initiator) (_v : W16) (s : State), s.reaches who 11) ∧
    (∃ (who : Initiator) (s : State), s.reaches who 11) ∧
    (∃ (who : Initiator) (_v : W16) (s : State), s.reaches who 8) ∧
    (∃ (who : Initiator) (s : State), s.reaches who 8) ∧
    (∃ (who : Initiator) (v : W16) (s : State), let w := s.rd A.MSH_NBRADDR 13 0 % 16; s.reaches who 11 ∧
      s.lnk.judging = [] ∧ (¬(w = 0 ∧ v = 0))) ∧
    (∃ (who : Initiator) (v : W16) (s : State), let i := s.rd A.MSH_NBRADDR 13 0; s.reaches who 11 ∧ i % 16 = 0 ∧ v =
      0) ∧
    (∃ (who : Initiator) (v : W16) (s : State), let i := s.rd A.MSH_NBRADDR 13 0; s.reaches who 11 ∧ s.lnk.judging ≠
      [] ∧ (¬(i % 16 = 0 ∧ v = 0))) :=
  ⟨⟨.debug, 0, awake, by unfold State.reaches; decide +kernel⟩,
   ⟨.debug, awake, by unfold State.reaches; decide +kernel⟩,
   ⟨.debug, 0, awake, by unfold State.reaches; decide +kernel⟩,
   ⟨.debug, awake, by unfold State.reaches; decide +kernel⟩,
   ⟨.debug, 0, awake, by unfold State.reaches; decide +kernel⟩,
   ⟨.debug, awake, by unfold State.reaches; decide +kernel⟩,
   ⟨.debug, 1, awake, by unfold State.reaches; decide +kernel⟩,
   ⟨.debug, 0, awake, by unfold State.reaches; decide +kernel⟩,
   ⟨.debug, 1, judging awake plainFrame, by unfold State.reaches; decide +kernel⟩⟩

theorem test_hypotheses_SequencerAndRingWrites :
    (∃ (who : Initiator) (s : State), s.reaches who 10) ∧
    (∃ (who : Initiator) (s : State), s.reaches who 10 ∧ 1 ≤ s.seq.log.length ∧ s.seq.log.length ≤ 16) ∧
    (∃ (who : Initiator) (p : BitVec 7) (s : State), s.reaches who 10 ∧ p.toNat < 96) ∧
    (∃ (who : Initiator) (p : BitVec 7) (s : State), s.reaches who 10 ∧ 96 ≤ p.toNat) ∧
    (∃ (who : Initiator) (_p : BitVec 6) (s : State), s.reaches who 8) ∧
    (∃ (who : Initiator) (_r : BitVec 6) (_p : BitVec 10) (s : State), s.reaches who 8 ∧ s.flag A.RING_ABORTSTAT 15 =
      false) ∧
    (∃ (who : Initiator) (_r : BitVec 6) (_p : BitVec 10) (s : State), s.reaches who 8 ∧ s.flag A.RING_ABORTSTAT 15 =
      true) :=
  ⟨⟨.debug, awake, by unfold State.reaches; decide +kernel⟩,
   ⟨.debug, { awake with seq := { awake.seq with log := [[]] } }, by unfold State.reaches; decide +kernel⟩,
   ⟨.debug, 95, awake, by unfold State.reaches; decide +kernel⟩,
   ⟨.debug, 96, awake, by unfold State.reaches; decide +kernel⟩,
   ⟨.debug, 63, awake, by unfold State.reaches; decide +kernel⟩,
   ⟨.debug, 63, 3, awake, by unfold State.reaches; decide +kernel⟩,
   ⟨.debug, 63, 3, awake.setFlag A.RING_ABORTSTAT 15 true, by unfold State.reaches; decide +kernel⟩⟩

theorem test_hypotheses_EngineAndPowerWrites :
    (∃ (who : Initiator) (_v : W16) (s : State), let k := engIx (s.rd A.ENG_LDCTL 2 0);
      let spad := s.flag A.ENG_LDCTL 4; let a := s.rd A.ENG_LDADDR 14 0; s.shutOut who = false ∧ s.on ↑k = true ∧
      s.engIdle k = true ∧ a < memWords spad) ∧
    (∃ (who : Initiator) (_v : W16) (s : State), let k := engIx (s.rd A.ENG_LDCTL 2 0);
      let spad := s.flag A.ENG_LDCTL 4; let a := s.rd A.ENG_LDADDR 14 0; s.shutOut who = false ∧ (s.on ↑k = false ∨
      s.engIdle k = false ∨ memWords spad ≤ a)) ∧
    (∃ (who : Initiator) (k : Fin 8) (s : State), s.shutOut who = false ∧ k.val ≠ 0) ∧
    (∃ (who : Initiator) (_k : Fin 8) (s : State), s.shutOut who = false) ∧
    (∃ (who : Initiator) (c : Octet) (k : Fin 8) (s : State), s.shutOut who = false ∧ c = 165 ∧ s.retired k.val = true
      ∧ s.provenSince k = true) ∧
    (∃ (who : Initiator) (c : Octet) (k : Fin 8) (s : State), s.shutOut who = false ∧ (c ≠ 165 ∨ s.retired k.val =
      false ∨ s.provenSince k = false)) ∧
    (∃ (who : Initiator) (_set : BitVec 8) (s : State), s.shutOut who = false ∧ s.rd A.SEQ_STAT 11 10 = 0) ∧
    (∃ (who : Initiator) (_set : BitVec 8) (s : State), s.shutOut who = false ∧ s.rd A.SEQ_STAT 11 10 ≠ 0) ∧
    (∃ (who : Initiator) (d : Fin 16) (st : BitVec 2) (s : State),
      let held := s.heldOff d.val = true ∧ who ≠ Initiator.service;
      let locked := s.committed = true ∧ st = 0 ∧ (d.val = 8 ∨ d.val = 10 ∨ d.val = 11); s.shutOut who = false ∧ st ≠
      3 ∧ ¬held ∧ ¬locked) ∧
    (∃ (who : Initiator) (d : Fin 16) (st : BitVec 2) (s : State),
      let held := s.heldOff d.val = true ∧ who ≠ Initiator.service;
      let locked := s.committed = true ∧ st = 0 ∧ (d.val = 8 ∨ d.val = 10 ∨ d.val = 11); s.shutOut who = false ∧ (st =
      3 ∨ held ∨ locked)) ∧
    (∃ (who : Initiator) (g : BitVec 3) (s : State), s.shutOut who = false ∧ s.rd A.SEQ_STAT 11 10 = 0 ∧ g.toNat ≤ 4 ∧
      s.flag A.CLK_STAT 15 = true ∧ s.clk.pllWait = false) ∧
    (∃ (who : Initiator) (g : BitVec 3) (s : State), s.shutOut who = false ∧ (s.rd A.SEQ_STAT 11 10 ≠ 0 ∨ 4 <
      g.toNat)) ∧
    (∃ (who : Initiator) (g : BitVec 3) (s : State), s.shutOut who = false ∧ s.rd A.SEQ_STAT 11 10 = 0 ∧ g.toNat ≤ 4 ∧
      s.flag A.CLK_STAT 15 = false) ∧
    (∃ (who : Initiator) (_m : BitVec 15) (s : State), s.shutOut who = false) ∧
    (∃ (who : Initiator) (s : State), s.shutOut who = false) :=
  ⟨⟨.debug, 0, awake, by decide +kernel⟩,
   ⟨.debug, 0, (awake.wr A.ENG_LDCTL 4 0 3).wr A.ENG_LDADDR 14 0 0x7FFF, by decide +kernel⟩,
   ⟨.debug, 3, awake, by decide +kernel⟩,
   ⟨.debug, 0, awake, by decide +kernel⟩,
   ⟨.debug, 0xA5, 3, ((passed 3).setFlag (A.ENG_STAT 3) 10 true).setFlag (A.ENG_STAT 3) 9 true, by decide +kernel⟩,
   ⟨.debug, 0xA5, 0, awake, by decide +kernel⟩,
   ⟨.debug, 0xA5, awake, by decide +kernel⟩,
   ⟨.debug, 0xA5, running, by decide +kernel⟩,
   ⟨.debug, 3, 0, awake, by decide +kernel⟩,
   ⟨.debug, 3, 3, awake, by decide +kernel⟩,
   ⟨.debug, 4, awake.setFlag A.CLK_STAT 15 true, by decide +kernel⟩,
   ⟨.debug, 5, awake, by decide +kernel⟩,
   ⟨.debug, 4, awake, by decide +kernel⟩,
   ⟨.debug, 0, awake, by decide +kernel⟩,
   ⟨.debug, awake, by decide +kernel⟩⟩

theorem test_hypotheses_TargetsTakeEffectAtTheHighestWord :
    (∃ (who : Initiator) (n : Fin 8) (w : Fin 2) (addr : Addr) (_v : W16) (s : State), BitVec.toNat addr = A.CAD_WC
      n.val + w.val ∧ s.shutOut who = false) ∧
    (∃ (who : Initiator) (n : Fin 8) (w : Fin 3) (addr : Addr) (_v : W16) (s : State), BitVec.toNat addr =
      A.CAD_CC_TGT n.val + w.val ∧ s.reaches who 15) ∧
    (∃ (who : Initiator) (n : Fin 8) (addr : Addr) (_v : W16) (s : State), BitVec.toNat addr = A.CAD_CC_PER n.val ∧
      s.reaches who 15) ∧
    (∃ (who : Initiator) (_n : Fin 8) (_v : W16) (s : State), s.shutOut who = false) ∧
    (∃ (who : Initiator) (_n : Fin 8) (_v : W16) (s : State), s.reaches who 15) :=
  ⟨⟨.debug, 7, 1, BitVec.ofNat 24 (A.CAD_WC 7 + 1), 0, awake, by decide +kernel⟩,
   ⟨.debug, 7, 2, BitVec.ofNat 24 (A.CAD_CC_TGT 7 + 2), 0, awake, by unfold State.reaches; decide +kernel⟩,
   ⟨.debug, 7, BitVec.ofNat 24 (A.CAD_CC_PER 7), 0, awake, by unfold State.reaches; decide +kernel⟩,
   ⟨.debug, 7, 0, awake, by decide +kernel⟩,
   ⟨.debug, 7, 0, awake, by unfold State.reaches; decide +kernel⟩⟩

theorem test_hypotheses_CadenceGaugeAndRfWrites :
    (∃ (who : Initiator) (_n : Fin 8) (_v : W16) (s : State), s.reaches who 15) ∧
    (∃ (who : Initiator) (_n : Fin 8) (s : State), s.reaches who 15) ∧
    (∃ (who : Initiator) (s : State), s.reaches who 10) ∧
    (∃ (who : Initiator) (_n : Fin 2) (s : State), s.reaches who 15) ∧
    (∃ (who : Initiator) (s : State), s.reaches who 15 ∧ s.rd A.GAU_CTRL 15 14 = 1) ∧
    (∃ (who : Initiator) (u : Fin 6) (_began : Bool) (s : State), s.reaches who 15 ∧ s.rd (A.PER_S_CFG u.val) 15 14 =
      1 ∧ s.unitBusy u.val = false) ∧
    (∃ (who : Initiator) (u : Fin 6) (began : Bool) (s : State), s.reaches who 15 ∧ s.rd (A.PER_S_CFG u.val) 15 14 = 1
      ∧ s.unitBusy u.val = true ∧ began = true) ∧
    (∃ (who : Initiator) (u : Fin 6) (began : Bool) (s : State), s.reaches who 15 ∧ s.rd (A.PER_S_CFG u.val) 15 14 = 1
      ∧ s.unitBusy u.val = true ∧ began = false) ∧
    (∃ (who : Initiator) (c : Chain) (s : State), (s.reaches who (if c = Chain.A then 12 else 13))) ∧
    (∃ (who : Initiator) (s : State), s.reaches who 12) :=
  ⟨⟨.debug, 7, 0, awake, by unfold State.reaches; decide +kernel⟩,
   ⟨.debug, 7, awake, by unfold State.reaches; decide +kernel⟩,
   ⟨.debug, awake, by unfold State.reaches; decide +kernel⟩,
   ⟨.debug, 1, awake, by unfold State.reaches; decide +kernel⟩,
   ⟨.debug, awake, by unfold State.reaches; decide +kernel⟩,
   ⟨.debug, 5, true, awake.wr (A.PER_S_CFG 5) 15 14 1, by unfold State.reaches; decide +kernel⟩,
   ⟨.debug, 5, true, (awake.wr (A.PER_S_CFG 5) 15 14 1).setFlag (A.PER_S_STAT 5) 15 true,
     by unfold State.reaches; decide +kernel⟩,
   ⟨.debug, 5, false, (awake.wr (A.PER_S_CFG 5) 15 14 1).setFlag (A.PER_S_STAT 5) 15 true,
     by unfold State.reaches; decide +kernel⟩,
   ⟨.debug, Sys2Proof.Chain.A, awake, by unfold State.reaches; decide +kernel⟩,
   ⟨.debug, awake, by unfold State.reaches; decide +kernel⟩⟩

theorem test_hypotheses_DisablesAndBlockWrites :
    (∃ (who : Initiator) (k : Fin 10) (s : State), s.reaches who 11 ∧ s.rd (A.RXE_LANE_CFG k.val) 15 14 = 1) ∧
    (∃ (who : Initiator) (s : State), s.reaches who 11 ∧ s.rd A.LNK_CTRL 15 14 = 1 ∧ ¬A.LNK_CTRL ∈ s.again) ∧
    (∃ (who : Initiator) (s : State), s.reaches who 11 ∧ s.rd A.MSH_CTRL 15 14 = 1 ∧ ¬A.MSH_CTRL ∈ s.again) ∧
    (∃ (who : Initiator) (v : W16) (s : State), let role := bits (BitVec.toNat v) 1 0;
      let set := s.rdw A.MSH_STAGESET 2;
      let ok := bits (BitVec.toNat v) 15 8 = 165 ∧ role ≠ 3 ∧ (role = 1 → s.stage < set); s.reaches who 11 ∧ ok ∧ role
      = 1) ∧
    (∃ (who : Initiator) (v : W16) (s : State), let role := bits (BitVec.toNat v) 1 0;
      let set := s.rdw A.MSH_STAGESET 2;
      let ok := bits (BitVec.toNat v) 15 8 = 165 ∧ role ≠ 3 ∧ (role = 1 → s.stage < set); s.reaches who 11 ∧ ok ∧ role
      ≠ 1) ∧
    (∃ (who : Initiator) (v : W16) (s : State), let role := bits (BitVec.toNat v) 1 0;
      let set := s.rdw A.MSH_STAGESET 2;
      let ok := bits (BitVec.toNat v) 15 8 = 165 ∧ role ≠ 3 ∧ (role = 1 → s.stage < set); s.reaches who 11 ∧ ¬ok) ∧
    (∃ (who : Initiator) (s : State), s.reaches who 14) ∧
    (∃ (who : Initiator) (s : State), s.reaches who 14 ∧ s.rd A.VLT_CTRL 15 14 = 1 ∧ ¬A.VLT_CTRL ∈ s.again ∧
      s.vlt.svcDone = [] ∧ s.vlt.svcWait = [] ∧ (∀ (o : VltOp), o ∈ s.vlt.ops → o.ring ≠ 64)) ∧
    (∃ (who : Initiator) (s : State), s.reaches who 15 ∧ s.rd A.WFL_CFG 15 14 = 1 ∧ ¬A.WFL_CFG ∈ s.again) ∧
    (∃ (who : Initiator) (_slot : Fin 4) (_len : BitVec 11) (s : State), s.reaches who 15) ∧
    (∃ (who : Initiator) (_m : BitVec 4) (s : State), s.reaches who 15) ∧
    (∃ (who : Initiator) (_c : Octet) (s : State), s.shutOut who = false) ∧
    (∃ (who : Initiator) (s : State), s.reaches who 9) ∧
    (∃ (who : Initiator) (_v : W16) (s : State), s.shutOut who = false) :=
  ⟨⟨.debug, 9, awake, by unfold State.reaches; decide +kernel⟩,
   ⟨.debug, awake, by unfold State.reaches; decide +kernel⟩,
   ⟨.debug, awake, by unfold State.reaches; decide +kernel⟩,
   ⟨.debug, 0xA501, awake.wrw A.MSH_STAGESET 2 99999, by unfold State.reaches; decide +kernel⟩,
   ⟨.debug, 0xA500, awake, by unfold State.reaches; decide +kernel⟩,
   ⟨.debug, 0, awake, by unfold State.reaches; decide +kernel⟩,
   ⟨.debug, awake, by unfold State.reaches; decide +kernel⟩,
   ⟨.debug, awake, by unfold State.reaches; decide +kernel⟩,
   ⟨.debug, awake, by unfold State.reaches; decide +kernel⟩,
   ⟨.debug, 3, 26, awake, by unfold State.reaches; decide +kernel⟩,
   ⟨.debug, 15, awake, by unfold State.reaches; decide +kernel⟩,
   ⟨.debug, 0xA5, awake, by decide +kernel⟩,
   ⟨.debug, awake, by unfold State.reaches; decide +kernel⟩,
   ⟨.debug, 0, awake, by decide +kernel⟩⟩

theorem test_hypotheses_LaneReception :
    (∃ (k : Fin 10) (_p : BitVec 12) (s : State), (s.phase' k.val = 1 ∨ s.phase' k.val = 5) ∧ (s.laneOf k.val).frame =
      none) ∧
    (∃ (k : Fin 10) (_p : BitVec 12) (s : State), ((s.laneOf k.val).frame ≠ none ∨ s.phase' k.val ≠ 1 ∧ s.phase' k.val
      ≠ 5)) ∧
    (∃ (k : Fin 10) (e : SyncAt) (f : LaneFrame) (s : State), (s.laneOf k.val).frame = some f ∧ f.sub = 2 ∧ s.seeksSfd
      (k.val) (BitVec.toNat f.mode) e.group e.coded = true) ∧
    (∃ (k : Fin 10) (e : SyncAt) (f : LaneFrame) (s : State), (s.laneOf k.val).frame = some f ∧ f.sub = 2 ∧ s.seeksSfd
      (k.val) (BitVec.toNat f.mode) e.group e.coded = false) ∧
    (∃ (k : Fin 10) (_e : SyncAt) (s : State), (∀ (f : LaneFrame), f ∈ (s.laneOf k.val).frame → f.sub ≠ 2)) ∧
    (∃ (k : Fin 10) (o : RfOp) (f : LaneFrame) (s : State), laneListens s k o ∧ (s.laneOf k.val).frame = some f ∧
      f.sub = 2 ∧ f.place = none ∧ f.waitsPlace = false) ∧
    (∃ (k : Fin 10) (_h : PhyHeader) (o : RfOp) (f : LaneFrame) (s : State), laneListens s k o ∧ (s.laneOf
      k.val).frame = some f ∧ f.sub = 3 ∧ f.place = none ∧ f.waitsPlace = false) ∧
    (∃ (k : Fin 10) (_h : PhyHeader) (s : State), (∀ (f : LaneFrame), f ∈ (s.laneOf k.val).frame → f.sub ≠ 3)) ∧
    (∃ (k : Fin 10) (o : RfOp) (s : State), laneListens s k o ∧ s.phase' k.val = 5 ∧ (∀ (f : LaneFrame), f ∈ (s.laneOf
      k.val).frame → f.sub ≠ 4 ∧ f.place = none ∧ f.waitsPlace = false)) ∧
    (∃ (k : Fin 10) (s : State), (s.phase' k.val ≠ 5 ∨ ∃ f, f ∈ (s.laneOf k.val).frame ∧ f.sub = 4)) ∧
    (∃ (k : Fin 10) (seen : List (BitVec 12 × Nat)) (_got : List Octet) (_snr : BitVec 12) (_fo : BitVec 24) (f :
      LaneFrame) (p : Int) (s : State), (s.laneOf k.val).frame = some f ∧ strongest (BitVec.toNat f.mode) seen = some
      p ∧ takesOver s k f p) ∧
    (∃ (k : Fin 10) (seen : List (BitVec 12 × Nat)) (_got : List Octet) (_snr : BitVec 12) (_fo : BitVec 24) (f :
      LaneFrame) (p : Int) (s : State), (s.laneOf k.val).frame = some f ∧ strongest (BitVec.toNat f.mode) seen = some
      p ∧ (f.sub = 2 ∨ f.sub = 3 ∨ f.sub = 4) ∧ ¬takesOver s k f p) ∧
    (∃ (k : Fin 10) (seen : List (BitVec 12 × Nat)) (_got : List Octet) (_snr : BitVec 12) (_fo : BitVec 24) (p : Int)
      (s : State), (s.laneOf k.val).frame = none ∧ strongest (BitVec.toNat (s.laneOf k.val).searchMode) seen = some p
      ∧ (s.phase' k.val = 1 ∨ s.phase' k.val = 5) ∧ (s.laneOf k.val).past ≠ LanePast.none) ∧
    (∃ (k : Fin 10) (seen : List (BitVec 12 × Nat)) (_got : List Octet) (_snr : BitVec 12) (_fo : BitVec 24) (p : Int)
      (s : State), (s.laneOf k.val).frame = none ∧ strongest (BitVec.toNat (s.laneOf k.val).searchMode) seen = some p
      ∧ (s.phase' k.val ≠ 1 ∧ s.phase' k.val ≠ 5 ∨ (s.laneOf k.val).past = LanePast.none)) ∧
    (∃ (k : Fin 10) (seen : List (BitVec 12 × Nat)) (_got : List Octet) (_snr : BitVec 12) (_fo : BitVec 24) (s :
      State), strongest (BitVec.toNat ((s.laneOf k.val).frame.elim (s.laneOf k.val).searchMode LaneFrame.mode)) seen =
      none) :=
  ⟨⟨9, 0x7FF, listening 1 none, by decide +kernel⟩,
   ⟨9, 0x7FF, listening 2 (some (inFrame 2)), by decide +kernel⟩,
   ⟨9, ⟨5000, false, false⟩, inFrame 2, listening 2 (some (inFrame 2)), by decide +kernel⟩,
   ⟨9, ⟨5000, true, false⟩, inFrame 2, listening 2 (some (inFrame 2)), by decide +kernel⟩,
   ⟨9, ⟨5000, false, false⟩, listening 1 none, by decide +kernel⟩,
   ⟨9, radio .receive none, inFrame 2, listening 2 (some (inFrame 2)), by unfold laneListens; decide +kernel⟩,
   ⟨9, .fsk true true false 20, radio .receive none, inFrame 3, listening 3 (some (inFrame 3)),
     by unfold laneListens; decide +kernel⟩,
   ⟨9, .fsk true true false 20, listening 1 none, by decide +kernel⟩,
   ⟨9, radio .receive none, listening 5 none, by unfold laneListens; decide +kernel⟩,
   ⟨9, listening 1 none, by decide +kernel⟩,
   ⟨9, [(50, 1000000)], plainFrame, 0x7FF, 0, inFrame 2, 50, listening 2 (some (inFrame 2)),
     by unfold takesOver; decide +kernel⟩,
   ⟨9, [(50, 1000000)], plainFrame, 0x7FF, 0, inFrame 4, 50, awaiting 4 (some (inFrame 4)),
     by unfold takesOver; decide +kernel⟩,
   ⟨9, [(50, 1000000)], plainFrame, 0x7FF, 0, 50, (listening 1 none).setLane 9
     { (listening 1 none).laneOf 9 with past := .ended }, by decide +kernel⟩,
   ⟨9, [(50, 1000000)], plainFrame, 0x7FF, 0, 50, listening 1 none, by decide +kernel⟩,
   ⟨9, [], plainFrame, 0x7FF, 0, listening 1 none, by decide +kernel⟩⟩

theorem test_hypotheses_FrameEndAndAckWait :
    (∃ (k : Fin 10) (_x : RxPsdu) (_snr : BitVec 12) (_fo : BitVec 24) (o : RfOp) (f : LaneFrame) (s : State),
      laneListens s k o ∧ (s.laneOf k.val).frame = some f ∧ f.sub = 4) ∧
    (∃ (k : Fin 10) (_x : RxPsdu) (_snr : BitVec 12) (_fo : BitVec 24) (s : State), (∀ (f : LaneFrame), f ∈ (s.laneOf
      k.val).frame → f.sub ≠ 4)) ∧
    (∃ (k : Fin 10) (_x : RxPsdu) (_snr : BitVec 12) (_fo : BitVec 24) (o : RfOp) (d : Nat × Nat) (f : LaneFrame) (s :
      State), s.laneOp k.val = some o ∧ o.kind.sends = true ∧ o.emitted = true ∧ o.desc = some d ∧ (s.laneOf
      k.val).frame = some f ∧ f.sub = 4) ∧
    (∃ (c : Chain) (o : RfOp) (s : State), (s.chain c).op = some o ∧ o.kind.sends = true ∧ o.emitted = true ∧
      s.rfState c = 4) ∧
    (∃ (c : Chain) (s : State), (s.rfState c ≠ 4 ∨ ∀ (o : RfOp), o ∈ (s.chain c).op → o.kind.sends = false ∨ o.emitted
      = false)) :=
  ⟨⟨9, .octets plainFrame, 0x7FF, 0, radio .receive none, inFrame 4, listening 4 (some (inFrame 4)),
     by unfold laneListens; decide +kernel⟩,
   ⟨9, .octets plainFrame, 0x7FF, 0, listening 1 none, by decide +kernel⟩,
   ⟨9, .octets plainFrame, 0x7FF, 0, { radio .txShared (some (2, 3)) with emitted := true }, (2, 3), inFrame 4,
     awaiting 4 (some (inFrame 4)), by decide +kernel⟩,
   ⟨.B, { radio .txShared (some (2, 3)) with emitted := true }, awaiting 4 (some (inFrame 4)), by decide +kernel⟩,
   ⟨.B, listening 1 none, by decide +kernel⟩⟩

theorem test_hypotheses_MeshTimeStageAndCache :
    (∃ (s : State), s.on 11 = true ∧ s.serves = true ∧ s.msh.storeDue = true ∧ s.msh.restoreDue = false) ∧
    (∃ (s : State), (s.on 11 = false ∨ s.serves = false ∨ s.msh.storeDue = false ∨ s.msh.restoreDue = true)) ∧
    (∃ (s : State), s.on 11 = true ∧ s.serves = true ∧ s.msh.restoreDue = true) ∧
    (∃ (s : State), (s.on 11 = false ∨ s.serves = false ∨ s.msh.restoreDue = false)) ∧
    (∃ (_set : BitVec 12) (s : State), s.on 11 = true) ∧
    (∃ (s : State), s.on 11 = true) ∧
    (∃ (_set : BitVec 12) (s : State), s.on 11 = false) :=
  ⟨⟨{ awake with msh := { awake.msh with storeDue := true } }, by decide +kernel⟩,
   ⟨{ awake with msh := { awake.msh with step := [(0, 1, -5, 70000000)] } }, by decide +kernel⟩,
   ⟨{ awake with msh := { awake.msh with restoreDue := true } }, by decide +kernel⟩,
   ⟨{ awake with msh := { awake.msh with step := [(0, 1, -5, 70000000)] } }, by decide +kernel⟩,
   ⟨0xFFF, { awake with msh := { awake.msh with step := [(0, 1, -5, 70000000)] } }, by decide +kernel⟩,
   ⟨{ awake with msh := { awake.msh with step := [(0, 1, -5, 70000000)] } }, by decide +kernel⟩,
   ⟨0xFFF, State.reset, by decide +kernel⟩⟩

theorem test_hypotheses_RelaysHoldsAndOriginations :
    (∃ (r : Relay) (s : State), List.find? (fun r => r.onRing.isNone) s.msh.relays = some r) ∧
    (∃ (s : State), (∀ (r : Relay), r ∈ s.msh.relays → r.onRing ≠ none)) ∧
    (∃ (c : Instr) (p : Nat) (s : State), let o := s.origination p; s.rd A.MSH_CTRL 15 14 = 1 ∧ s.nextDesc 29 = some p
      ∧ s.isOut 29 p = true ∧ s.ringReady 29 p = true ∧ (o.kind ≠ 2 ∧ o.kind ≠ 3 ∧ c = Instr.originateFlood ∨ o.kind =
      2 ∧ c = Instr.originatePath)) ∧
    (∃ (s : State), (s.rd A.MSH_CTRL 15 14 ≠ 1 ∨ s.nextDesc 29 = none)) ∧
    (∃ (p : Nat) (s : State), let o := s.origination p; s.msh.holdWait = none ∧ s.rd A.MSH_CTRL 15 14 = 1 ∧ s.nextDesc
      29 = some p ∧ s.isOut 29 p = true ∧ s.originLost p = false ∧ (s.fetchOrigin p).fst = true ∧ o.kind = 3) ∧
    (∃ (s : State), s.msh.holdWait ≠ none) ∧
    (∃ (h : HoldWait) (s : State), s.msh.holdWait = some h ∧ (∀ (w : List W16 × JnlReq), w ∈ s.dict.writing →
      w.snd.source ≠ 2) ∧ (∀ (r : JnlReq), r ∈ s.dict.jnl → r.source ≠ 2)) ∧
    (∃ (s : State), (s.msh.holdWait = none ∨ (∃ r, r ∈ s.dict.jnl ∧ r.source = 2) ∨ ∃ w, w ∈ s.dict.writing ∧
      w.snd.source = 2)) :=
  ⟨⟨⟨3, 1, 2, 3, false, 4, [0, 0x0013, 1, 2], none, false⟩,
     { awake with msh := { awake.msh with relays := [⟨3, 1, 2, 3, false, 4, [0, 0x0013, 1, 2], none, false⟩] } },
     by decide +kernel⟩,
   ⟨awake, by decide +kernel⟩,
   ⟨.originateFlood, 3, meshing (posted awake 29 3 [0, 0x1304, 0xFFFF, 0, 0, 10, 0x8000, 0x11] false false),
     by decide +kernel⟩,
   ⟨{ awake with msh := { awake.msh with relays := [⟨3, 1, 2, 3, false, 4, [0, 0x0013, 1, 2], none, false⟩] } },
     by decide +kernel⟩,
   ⟨3, meshing (posted awake 29 3 [0, 0x3004, 0xFFFF, 0, 0, 10, 0x8000, 0x11] false false), by decide +kernel⟩,
   ⟨{ awake with msh := { awake.msh with holdWait := some ⟨0x00FF, 7, [], none⟩ } }, by decide +kernel⟩,
   ⟨⟨0x00FF, 7, [], none⟩, { awake with msh := { awake.msh with holdWait := some ⟨0x00FF, 7, [], none⟩ } },
     by decide +kernel⟩,
   ⟨{ awake with msh := { awake.msh with relays := [⟨3, 1, 2, 3, false, 4, [0, 0x0013, 1, 2], none, false⟩] } },
     by decide +kernel⟩⟩

theorem test_hypotheses_VaultRequests :
    (∃ (c : Instr) (op : Nat) (o : VltOp) (s : State), (c, op) ∈ vaultRows ∧ s.on 14 = true ∧ s.rd A.VLT_CTRL 15 14 =
      1 ∧ o.op = op ∧ nextRequest s o ∧ o.ring ≠ 64 ∧ s.isOut o.ring o.place = true) ∧
    (∃ (c : Instr) (op : Nat) (o : VltOp) (k : KeySlot) (s : State), (c, op) ∈ vaultRows ∧ s.on 14 = true ∧ s.rd
      A.VLT_CTRL 15 14 = 1 ∧ o.op = op ∧ op ∈ [1, 4, 33] ∧ nextRequest s o ∧ o.ring ≠ 64 ∧ s.isOut o.ring o.place =
      true ∧ (∀ (x : VltOp), x ∈ s.vlt.ops → (x.ring, x.place) ≠ (o.ring, o.place)) ∧ readable s o ∧ s.vaultCheck o =
      0 ∧ s.keySlot o.slot = some k) ∧
    (∃ (o : VltOp) (s : State), s.on 14 = true ∧ s.rd A.VLT_CTRL 15 14 = 1 ∧ o.op = 48 ∧ nextRequest s o ∧ o.ring ≠ 64
      ∧ s.isOut o.ring o.place = true ∧ (∀ (x : VltOp), x ∈ s.vlt.ops → (x.ring, x.place) ≠ (o.ring, o.place)) ∧
      readable s o ∧ s.vaultCheck o = 0) ∧
    (∃ (c : Instr) (op : Nat) (o : VltOp) (s : State), (c, op) ∈ vaultRows ∧ s.on 14 = true ∧ s.rd A.VLT_CTRL 15 14 =
      1 ∧ o.op = op ∧ nextRequest s o ∧ o.ring = 64 ∧ s.vaultCheck o = 0 ∧ ¬op ∈ [1, 4, 33, 48]) ∧
    (∃ (c : Instr) (op : Nat) (s : State), (c, op) ∈ vaultRows ∧ (s.on 14 = false ∨ s.rd A.VLT_CTRL 15 14 ≠ 1) ∧
      s.vlt.svcDone = []) :=
  ⟨⟨.ccmSeal, 1, request 32 (words 0x100 20 20 4 4), vault (posted awake 32 0 (words 0x100 20 20 4 4) false false),
     by unfold nextRequest; decide +kernel⟩,
   ⟨.ccmSeal, 1, request 32 (words 0x100 20 20 4 4), ⟨20, 0x9E18, 3, 65536, 7, 111⟩, vault (posted awake 32 0 (words
     0x100 20 20 4 4) false false), by unfold nextRequest readable; decide +kernel⟩,
   ⟨request 32 (words 0x3000 0 64 0 0), vault (posted awake 32 0 (words 0x3000 0 64 0 0) false false),
     by unfold nextRequest readable; decide +kernel⟩,
   ⟨.sha256, 0x10, request 64 (words 0x1003 0 20 0 0),
     { vault awake with vlt := { (vault awake).vlt with svcWait := [request 64 (words 0x1003 0 20 0 0)] } },
     by unfold nextRequest; decide +kernel⟩,
   ⟨.ccmSeal, 1, State.reset, by decide +kernel⟩⟩

theorem test_hypotheses_VaultCompletions :
    (∃ (u : Fin 3) (o : VltOp) (s : State), s.on 14 = true ∧ List.find? (fun o => o.unit == u.val && !o.waiting)
      s.vlt.ops = some o ∧ o.ring ≠ 64 ∧ s.isOut o.ring o.place = true ∧ s.vlt.svcDone = [] ∧ s.ringReady o.ring
      o.place = true ∧ s.targetHeld o = false) ∧
    (∃ (u : Fin 3) (s : State), (s.on 14 = false ∨ ∀ (o : VltOp), o ∈ s.vlt.ops → o.unit ≠ u.val ∨ o.waiting = true ∨
      s.targetHeld o = true) ∧ s.vlt.svcDone = []) ∧
    (∃ (n : Octet) (p : Nat × Nat) (s : State), List.find? (fun p => p.fst == BitVec.toNat n) s.vlt.nonceWait = some p
      ∧ s.on 9 = true ∧ (∀ (o : VltOp), o ∈ s.vlt.ops → o.waiting = true → o.op = 48 ∨ o.slot ≠ BitVec.toNat n)) ∧
    (∃ (n : Octet) (p : Nat × Nat) (o : VltOp) (k : KeySlot) (s : State), List.find?
      (fun p => p.fst == BitVec.toNat n) s.vlt.nonceWait = some p ∧ s.on 9 = true ∧ s.vlt.ops = [o] ∧ o.waiting = true
      ∧ o.op ≠ 48 ∧ o.slot = BitVec.toNat n ∧ s.keySlot o.slot = some k ∧ k.counter < p.snd ∧ k.counter ≠ 2 ^ 64 - 1) ∧
    (∃ (n : Octet) (s : State), (s.on 9 = false ∨ ∀ (p : Nat × Nat), p ∈ s.vlt.nonceWait → p.fst ≠ BitVec.toNat n)) ∧
    (∃ (o : VltOp) (s : State), s.on 9 = true ∧ List.find? (fun o => o.op == 48 && o.waiting) s.vlt.ops = some o) ∧
    (∃ (s : State), (s.on 9 = false ∨ ∀ (o : VltOp), o ∈ s.vlt.ops → o.op ≠ 48 ∨ o.waiting = false)) ∧
    (∃ (s : State), s.on 14 = true) ∧
    (∃ (s : State), s.on 14 = false) :=
  ⟨⟨0, request 32 (words 0x100 20 20 4 4), operating (request 32 (words 0x100 20 20 4 4)), by decide +kernel⟩,
   ⟨1, operating (request 32 (words 0x100 20 20 4 4)), by decide +kernel⟩,
   ⟨20, (20, 131072), { vault awake with vlt := { (vault awake).vlt with nonceWait := [(20, 131072)] } },
     by decide +kernel⟩,
   ⟨20, (20, 131072), { request 32 (words 0x100 20 20 4 4) with waiting := true }, ⟨20, 0x9E18, 3, 65536, 7, 111⟩,
     { operating { request 32 (words 0x100 20 20 4 4) with waiting := true } with vlt := { (operating { request 32 (words 0x100 20 20 4 4) with waiting := true }).vlt with nonceWait := [(20, 131072)] } },
     by decide +kernel⟩,
   ⟨20, operating (request 32 (words 0x100 20 20 4 4)), by decide +kernel⟩,
   ⟨{ request 32 (words 0x3000 0 64 0 0) with waiting := true }, operating
     { request 32 (words 0x3000 0 64 0 0) with waiting := true }, by decide +kernel⟩,
   ⟨operating (request 32 (words 0x100 20 20 4 4)), by decide +kernel⟩,
   ⟨operating (request 32 (words 0x100 20 20 4 4)), by decide +kernel⟩,
   ⟨State.reset, by decide +kernel⟩⟩

theorem test_hypotheses_DictionaryCommands :
    (∃ (p : Instr × Nat) (a : Nat) (s : State), p ∈ dictRows ∧ commandHere s p.snd ∧ s.judge s.incoming =
      Verdict.refuse a ∧ s.dict.responses = []) ∧
    (∃ (p : Instr × Nat) (s : State), p ∈ dictRows ∧ commandHere s p.snd ∧ s.judge s.incoming = Verdict.take ∧
      s.incoming.journaled = true ∧ s.incoming.hold = false) ∧
    (∃ (p : PointInfo) (s : State), commandHere s 1 ∧ s.judge s.incoming = Verdict.take ∧ s.point s.incoming.index
      s.incoming.sub = Except.ok p ∧ s.dict.responses = []) ∧
    (∃ (s : State), commandHere s 4 ∧ s.judge s.incoming = Verdict.take ∧ s.dict.responses = []) ∧
    (∃ (s : State) (e : List W16), commandHere s 5 ∧ s.judge s.incoming = Verdict.take ∧ s.incoming.hold = true ∧
      s.dict.responses = [] ∧ s.commandEntry s.incoming.origin.code.toNat s.incoming.reqid = some e) ∧
    (∃ (p : Instr × Nat) (e : List W16) (s : State), p ∈ dictRows ∧ commandHere s p.snd ∧ s.judge s.incoming =
      Verdict.again e ∧ s.dict.responses = []) ∧
    (∃ (p : Instr × Nat) (s : State), p ∈ dictRows ∧ (s.headReady = false ∨ s.headReset = false ∧ s.incoming.row ≠ 0 ∧
      s.incoming.row ≠ p.snd)) ∧
    (∃ (p : Instr × Nat) (s : State), p ∈ dictRows ∧ s.headReady = true ∧ s.headReset = false ∧ s.incoming.row = p.snd
      ∧ (s.tagSlot s.incoming).isSome = true ∧ s.on 14 = false) ∧
    (∃ (c : Incoming) (_s : State), c.octets.length < 14) ∧
    (∃ (c : Incoming) (s : State), c.formCode = 0 ∧ s.tagOk c = false) ∧
    (∃ (c : Incoming) (s : State), c.formCode = 0 ∧ s.tagOk c = true ∧ (c.role = 0 ∨ 4 < c.role)) ∧
    (∃ (c : Incoming) (s : State), c.formCode = 0 ∧ s.tagOk c = true ∧ s.roleOk c = true ∧ s.awaitsHold c = false ∧
      c.op = 1 ∧ 57344 ≤ c.index) ∧
    (∃ (c : Incoming) (_s : State), 14 ≤ c.octets.length ∧ (c.octets.length = 14 + c.len + if c.wire = true then 8
      else 0) ∧ c.len ≤ 1024 ∧ oct c.octets 1 % 16 = 0 ∧ oct c.octets 9 = 0 ∧ (c.op = 0 ∨ 6 < c.op)) ∧
    (∃ (j : Fin 4) (s : State), s.dict.responses = [] ∧ (∃ p, p ∈ s.wfl.pend ∧ p.slot = j.val) ∧ s.on 15 = true) ∧
    (∃ (j : Fin 4) (s : State), s.dict.responses = [] ∧ (s.on 15 = false ∨ ∀ (p : WflRsp), p ∈ s.wfl.pend → p.slot ≠
      j.val)) :=
  ⟨⟨(.read, 1), 0x02000003, asked awake (octets 1 1 5 0xE000 1 0 []), by unfold commandHere; decide +kernel⟩,
   ⟨(.write, 2), asked awake (octets 2 4 5 0x0101 2 2 [5, 0]), by unfold commandHere; decide +kernel⟩,
   ⟨{ type := 4,   read := 1,   write := 0,   cls := 1,   kick := true,   size := 4,   dflt := [0x52#8, 0x5a#8, 0x53#8, 0x49#8],   target := none },
     asked awake (octets 1 1 5 0x0100 1 0 []), by unfold commandHere; decide +kernel, by decide +kernel, ok_of
     (by decide +kernel), by decide +kernel⟩,
   ⟨asked awake (octets 4 1 5 0 0 5 [1, 0, 0, 0, 4]), by unfold commandHere; decide +kernel⟩,
   ⟨holdFrame (journaled (entry 1 0x14 0 0 0 mesh.code)) (octets 5 4 5 0 0 0 []), entry 1 0x14 0 0 0 mesh.code,
     by unfold commandHere; decide +kernel⟩,
   ⟨(.reintegrateEngine, 0x201002), entry 1 1 3 0x2010 2 Origin.wire.code, asked (journaled (entry 1 1 3 0x2010 2
     Origin.wire.code)) (octets 3 4 5 0x2010 2 1 [3]), by unfold commandHere; decide +kernel⟩,
   ⟨(.write, 2), asked awake (octets 1 1 5 0xE000 1 0 []), by decide +kernel⟩,
   ⟨(.read, 1), (asked (keyed awake) (octets 1 4 5 0x0100 1 0 [])).setDomState 14 1, by decide +kernel⟩,
   ⟨⟨.wire, true, [], none, none, false, false⟩, asked awake (octets 1 1 5 0xE000 1 0 []), by decide +kernel⟩,
   ⟨⟨.wire, true, octets 1 1 5 0 0 0 [] ++ zeros 7 ++ [1], none, none, false, false⟩, (asked (keyed awake) (octets 1 4
     5 0x0100 1 0 [])).setDomState 14 1, by decide +kernel⟩,
   ⟨⟨.wire, true, octets 1 0 5 0 0 0 [] ++ zeros 8, none, none, false, false⟩, asked awake (octets 1 1 5 0xE000 1 0
     []), by decide +kernel⟩,
   ⟨⟨.wire, true, octets 1 1 5 0xE000 1 0 [] ++ zeros 8, none, none, false, false⟩, asked awake (octets 1 1 5 0xE000 1
     0 []), by decide +kernel⟩,
   ⟨⟨.wire, true, octets 7 1 5 0 0 0 [] ++ zeros 8, none, none, false, false⟩, asked awake (octets 1 1 5 0xE000 1 0
     []), by decide +kernel⟩,
   ⟨3, { awake with wfl := { awake.wfl with pend := [⟨3, 30⟩] } }, by decide +kernel⟩,
   ⟨3, asked awake (octets 1 1 5 0xE000 1 0 []), by decide +kernel⟩⟩

theorem test_hypotheses_CommandsCommit :
    (∃ (c : DictCmd) (e : List W16) (p : PointInfo) (s : State), commits s c e ∧ c.op = 2 ∧ s.point c.index c.sub =
      Except.ok p ∧ p.cls = Cl.persistent ∧ p.type ≠ T.OCTETS ∧ c.index ≠ 53264 ∧ s.pointOn c.index c.sub p = false) ∧
    (∃ (c : DictCmd) (e : List W16) (s : State), commits s c e ∧ c.op = 2 ∧ c.index = 53264 ∧ c.sub = 3) ∧
    (∃ (c : DictCmd) (e : List W16) (s : State), commits s c e ∧ c.op = 3 ∧ c.index = 36865) ∧
    (∃ (c : DictCmd) (e : List W16) (s : State), commits s c e ∧ c.op = 3 ∧ (c.index = 45056 ∨ c.index = 45058)) ∧
    (∃ (c : DictCmd) (e : List W16) (s : State), commits s c e ∧ c.op = 3 ∧ (c.index = 53248 ∧ (c.sub = 3 ∨ c.sub = 4)
      ∨ c.index = 8208 ∧ oct c.data 0 = 0)) ∧
    (∃ (c : DictCmd) (e : List W16) (k : Fin 8) (s : State), commits s c e ∧ c.op = 3 ∧ c.index = 8208 ∧ oct c.data 0
      = k.val ∧ k ≠ 0) ∧
    (∃ (c : DictCmd) (e : List W16) (s : State), commits s c e ∧ c.op = 3 ∧ c.index = 53264 ∧ c.sub = 2) ∧
    (∃ (c : DictCmd) (e : List W16) (s : State), commits s c e ∧ c.op = 3 ∧ c.index = 53264 ∧ c.sub = 5) ∧
    (∃ (c : DictCmd) (e : List W16) (s : State), commits s c e ∧ c.op = 3 ∧ c.index = 53265 ∧ c.sub = 1) ∧
    (∃ (c : DictCmd) (e : List W16) (s : State), commits s c e ∧ c.op = 5) ∧
    (∃ (c : DictCmd) (e : List W16) (s : State), commits s c e ∧ c.op = 6) :=
  ⟨⟨command 2 0x4000 1 [5], entryOf (command 2 0x4000 1 [5]),
     { type := 2, read := 1, write := 3, cls := 3, kick := false, size := 1, dflt := [0x28#8], target := none },
     (committing (command 2 0x4000 1 [5])).setDomState 12 1, by unfold commits; decide +kernel, by decide +kernel,
     ok_of (by decide +kernel), by decide +kernel, by decide +kernel, by decide +kernel, by decide +kernel⟩,
   ⟨command 2 0xD010 3 [0, 0, 0, 0, 1, 2], entryOf (command 2 0xD010 3 [0, 0, 0, 0, 1, 2]), committing (command 2
     0xD010 3 [0, 0, 0, 0, 1, 2]), by unfold commits; decide +kernel⟩,
   ⟨command 3 0x9001 1 [0, 0], entryOf (command 3 0x9001 1 [0, 0]), committing (command 3 0x9001 1 [0, 0]),
     by unfold commits; decide +kernel⟩,
   ⟨command 3 0xB000 1 (zeros 32), entryOf (command 3 0xB000 1 (zeros 32)), committing (command 3 0xB000 1 (zeros
     32)), by unfold commits; decide +kernel⟩,
   ⟨command 3 0xD000 3 [], entryOf (command 3 0xD000 3 []), committing (command 3 0xD000 3 []),
     by unfold commits; decide +kernel⟩,
   ⟨command 3 0x2010 2 [3], entryOf (command 3 0x2010 2 [0]), 3, committing (command 3 0x2010 2 [3]),
     by unfold commits; decide +kernel⟩,
   ⟨command 3 0xD010 2 [], entryOf (command 3 0xD010 2 []), committing (command 3 0xD010 2 []),
     by unfold commits; decide +kernel⟩,
   ⟨command 3 0xD010 5 [], entryOf (command 3 0xD010 5 []), committing (command 3 0xD010 5 []),
     by unfold commits; decide +kernel⟩,
   ⟨command 3 0xD011 1 (zeros 17), entryOf (command 3 0xD011 1 (zeros 17)), committing (command 3 0xD011 1 (zeros
     17)), by unfold commits; decide +kernel⟩,
   ⟨command 5 0 0 [1, 0, 2, 0], entryOf (command 5 0 0 [1, 0, 2, 0]), committing (command 5 0 0 [1, 0, 2, 0]),
     by unfold commits; decide +kernel⟩,
   ⟨command 6 0 0 [77, 0, 0, 0], entryOf (command 6 0 0 [77, 0, 0, 0]), committing (command 6 0 0 [77, 0, 0, 0]),
     by unfold commits; decide +kernel⟩⟩

theorem test_hypotheses_JournalAndMram :
    (∃ (l : List JnlReq) (m : List JnlReq) (r : JnlReq) (s : State), s.on 9 = true ∧ s.flag A.JNL_STAT 13 = true ∧
      s.pd9Moving = false ∧ s.dict.writing = none ∧ s.dict.jnl = l ++ r :: m ∧ (∀ (x : JnlReq), x ∈ l → r.source <
      x.source) ∧ (∀ (x : JnlReq), x ∈ m → r.source ≤ x.source) ∧ r.type < 256 ∧ r.status < 256) ∧
    (∃ (s : State), (s.on 9 = false ∨ s.flag A.JNL_STAT 13 = false ∨ s.pd9Moving = true ∨ s.dict.writing.isSome = true
      ∨ s.dict.jnl = [])) ∧
    (∃ (e : List W16) (r : JnlReq) (s : State), s.dict.writing = some (e, r) ∧ s.dict.waiting = [] ∧ (jType e ≠ 3 ∨
      s.upd.booting ≠ BootStage.commit)) ∧
    (∃ (s : State), s.dict.writing = none) ∧
    (∃ (c : DictCmd) (rest : List DictCmd) (s : State), s.dict.waiting = c :: rest ∧ s.dict.responses = []) ∧
    (∃ (s : State), s.dict.waiting = []) ∧
    (∃ (r : MwReq) (s : State), s.upd.mwBusy = some r ∧ s.on 9 = true) ∧
    (∃ (s : State), (s.upd.mwBusy = none ∧ s.upd.mwq = [] ∨ s.upd.mwBusy ≠ none ∧ s.on 9 = false)) :=
  ⟨⟨[⟨6, 1, 0, 3, 4, 5, 6, 7, 8, 9⟩], [], ⟨2, 0x14, 7, 3, 4, 5, 6, 7, 8, 9⟩,
     { awake.setFlag A.JNL_STAT 13 true with dict := { awake.dict with jnl := [⟨6, 1, 0, 3, 4, 5, 6, 7, 8, 9⟩, ⟨2, 0x14, 7, 3, 4, 5, 6, 7, 8, 9⟩] } },
     by decide +kernel⟩,
   ⟨awake, by decide +kernel⟩,
   ⟨entry 1 1 3 0x2010 2 Origin.wire.code, ⟨6, 1, 0, 3, 4, 5, 6, 7, 8, 9⟩,
     { awake with dict := { awake.dict with writing := some (entry 1 1 3 0x2010 2 Origin.wire.code, ⟨6, 1, 0, 3, 4, 5, 6, 7, 8, 9⟩) } },
     by decide +kernel⟩,
   ⟨{ awake.setFlag A.JNL_STAT 13 true with dict := { awake.dict with jnl := [⟨6, 1, 0, 3, 4, 5, 6, 7, 8, 9⟩, ⟨2, 0x14, 7, 3, 4, 5, 6, 7, 8, 9⟩] } },
     by decide +kernel⟩,
   ⟨command 2 0x4000 1 [5], [], { awake with dict := { awake.dict with waiting := [command 2 0x4000 1 [5]] } },
     by decide +kernel⟩,
   ⟨{ awake.setFlag A.JNL_STAT 13 true with dict := { awake.dict with jnl := [⟨6, 1, 0, 3, 4, 5, 6, 7, 8, 9⟩, ⟨2, 0x14, 7, 3, 4, 5, 6, 7, 8, 9⟩] } },
     by decide +kernel⟩,
   ⟨⟨2, 0x3D1005, 77⟩, { awake with upd := { awake.upd with mwBusy := some ⟨2, 0x3D1005, 77⟩ } }, by decide +kernel⟩,
   ⟨{ awake.setFlag A.JNL_STAT 13 true with dict := { awake.dict with jnl := [⟨6, 1, 0, 3, 4, 5, 6, 7, 8, 9⟩, ⟨2, 0x14, 7, 3, 4, 5, 6, 7, 8, 9⟩] } },
     by decide +kernel⟩⟩

/-! ## Well-formed commands: one that is too long or misplaced for each check -/

theorem test_wf_refuses_engine_word : (Instr.engineEccWriteBack 3 false 0x4000).wf = false := by decide
theorem test_wf_accepts_engine_word : (Instr.engineEccWriteBack 3 false 0x3FFF).wf = true := by decide
theorem test_wf_refuses_sram_word : (Instr.sramEccWriteBack 0x0FFFFF).wf = false ∧ (Instr.sramEccWriteBack 0x200000).wf = false := by
  decide
theorem test_wf_refuses_conversion :
    (Instr.conversionDone .sar 0 (List.replicate 10 0) false false false false).wf = false := by decide
theorem test_wf_refuses_transfer : (Instr.transferEnd 0 (List.replicate 17 0) .ok).wf = false := by decide
theorem test_wf_refuses_search : (Instr.searchDone (List.replicate 102 0)).wf = false := by decide
theorem test_wf_refuses_candidate : (Instr.candidate 0 [] (List.replicate 2048 0) 0 0).wf = false := by decide +kernel
theorem test_wf_refuses_frame : (Instr.frameEnd 0 (.octets (List.replicate 2048 0)) 0 0).wf = false := by decide +kernel
theorem test_wf_refuses_candidates : (Instr.candidate 0 (List.replicate 65 (0, 0)) [] 0 0).wf = false := by decide +kernel
theorem test_wf_refuses_soft_value : (Instr.frameEnd 0 (.soft [[8]]) 0 0).wf = false ∧
    (Instr.frameEnd 0 (.fskCoded [-8]) 0 0).wf = false ∧ (Instr.headerCheck 0 (.sprint (List.replicate 96 8))).wf = false := by
  decide +kernel
theorem test_wf_refuses_header : (Instr.headerCheck 0 (.sprint (List.replicate 95 1))).wf = false ∧
    (Instr.headerCheck 0 (.fskCoded (List.replicate 81 1))).wf = false ∧ (Instr.headerCheck 0 (.sprintRaw [] [] [])).wf = false := by
  decide +kernel
theorem test_wf_accepts_header : (Instr.headerCheck 0 (.sprint (List.replicate 96 7))).wf = true := by decide +kernel
theorem test_wf_refuses_cmd : (Instr.cmd (List.replicate 2048 0) 0).wf = false := by decide +kernel
theorem test_wf_refuses_reset : (Instr.reset (List.replicate 2048 0) 0).wf = false := by decide +kernel

/-! ## The spec's worked examples -/

/-- Cable 0B7h joins CC2 to GAU_SD0, 109h CC2 to CAD_CAP3, 110h CC3 to CAD_CAP2 (R264). -/
theorem test_cable_numbers : cableEnds 0xB7 = (0x32, 0x29) ∧ cableEnds 0x109 = (0x32, 0x37) ∧ cableEnds 0x110 = (0x33, 0x36) := by
  decide
/-- 4-FSK at 200 kbit/s, 8 octets of preamble, a PSDU of 48 octets, uncoded: 2,400 µs (R145). -/
theorem test_fsk_airtime : airtime 3 8 48 = 2400 * perUs := by decide
/-- A Sprint frame of 127 octets at MCS 5: 8 symbols, 544 µs (R154, R160). -/
theorem test_sprint_airtime : sprintSymbols 5 127 = 8 ∧ airtime 0xC5 0 127 = 544 * perUs := by decide
/-- Its header bits b0 to b25 with SEED 0A5h (R157). -/
theorem test_sprint_header : (sprintHeader 5 127 false 0xA5).take 26 = ([1, 0, 1, 1, 1, 1, 1, 1, 1, 1, 0, 0, 0, 0, 0,
    1, 0, 1, 0, 0, 1, 0, 1, 0, 0, 0].map (· == 1)) := by decide
/-- The two generators of the rate 1/2 coder, 133 and 171 octal, are its answers to a single 1 (R161). -/
theorem test_coder_impulse : (encodePairs 0 [true, false, false, false, false, false, false]).map (fun p => (p.1.toNat, p.2.toNat)) =
    [(1, 1), (0, 1), (1, 1), (1, 1), (0, 0), (1, 0), (1, 1)] := by decide
/-- Channel 17 of a 400 kHz plan from 902.2 MHz lies at 909.0 MHz, in units of 62.5 Hz (R125). -/
theorem test_channel_plan :
    ((awake.wrw (A.RF_CHBASE .A) 2 14435200).setWord (A.RF_CHSPACE .A) 32).freq .A 17 = 909000000 * 2 / 125 := by
  decide +kernel
/-- An offset of 73 fractions over 2 s changes the trim by −36 (R218). -/
theorem test_trim_change : trimChange 73 64000000 = -36 := by decide

/-! ## Single commands -/

/-- ADDI of −1 to a register of 0: the result FFFFh lands in the next cycle, without carry or overflow, negative (R102). -/
theorem test_addi_wraps :
    (match exec (.addi 3 0 1 2 0xFFF) (tasked awake 3 (some (task false))) with
     | .next t => t.eng[3].bank.flight.map (·.land) == [.g 1 0xFFFF, .flags 0x000F 4 0]
     | _ => false) = true := by decide +kernel
/-- A write that nothing may make is refused with WRITE_REJECTED: a gear above G4 (R291). -/
theorem test_gear_above_four :
    (match exec (.pwrGearsetWrite .debug 5) awake with
     | .next t => t.rd A.PWR_GEAR 6 4 == awake.rd A.PWR_GEAR 6 4
     | _ => false) = true := by decide +kernel
/-- The queue gives its front command to the step and keeps the rest. -/
theorem test_step_takes_front :
    (match step { awake with pending := [.trimFraction, .bypass] } with
     | .next t => t.pending == [.bypass]
     | _ => false) = true := by decide +kernel
/-- No row of the table has bits, so no word spells a command. -/
theorem test_no_word_is_a_command : decodeTableWord 16 0 = none ∧ State.reset.withFetchWord 16 0 = State.reset := ⟨rfl, rfl⟩

end Sys2Proof.Tests
end

section
/-!
SUPPORT. The reset state (O2): its register list holds one entry, PWR_XSTAT, so every other word reads its reset value.
-/
namespace Sys2Proof.Machine

/-- The one register word that the reset state lists: QUEUED of PWR_XSTAT counts the start set. -/
theorem State.reset_regs : State.reset.regs = [(A.PWR_XSTAT, 5)] := rfl

theorem State.reset_word_ne {a : Nat} (ha : a ≠ A.PWR_XSTAT) : State.reset.word a = regDefault a := by
  simp [State.word, State.reset_regs, cellsGet, Ne.symm ha]

/-- Every domain and bank of the reset state is off (R406). -/
theorem State.reset_domState : ∀ d < 16, State.reset.domState d = 0 := by decide +kernel

theorem State.reset_bankState : ∀ b < 32, State.reset.bankState b = 0 := by decide +kernel

/-- No bank of the reset state is LOST (R285). -/
theorem State.reset_bankLost (b : Nat) : State.reset.bankLost b = false := by
  have h : State.reset.rdw A.PWR_BANKLOST 2 = 0 := by decide +kernel
  rw [State.bankLost, h, Nat.zero_testBit]

theorem State.reset_sramGet (a : Nat) : State.reset.sramGet a = 0 := by
  unfold State.sramGet
  rw [State.reset_bankLost]
  split <;> rfl

/-- The memories of the reset state list nothing but the queued count, which is not its reset value. -/
theorem State.reset_memWf : State.reset.memWf = true := by decide +kernel

/-- Settles O2: the register words by `State.reset_word_ne`, the memories because they list nothing. -/
theorem resetRegisters : Obligations.ResetRegisters := by
  exact ⟨State.reset_domState, State.reset_bankState, by decide +kernel, by decide +kernel, rfl,
    fun _ => State.reset_word_ne, by decide +kernel, by decide +kernel, rfl, State.reset_sramGet, fun _ => rfl, fun _ => rfl,
    State.reset_memWf⟩

end Sys2Proof.Machine
end

section
/-!
SUPPORT. Every command of the table leaves the queue and keeps the canonical form of the memories (O3): each arm cites the
lemma of Laws/Kept* about the operation its meaning is.
-/
namespace Sys2Proof.Machine

variable {p : List Instr} {s : State}

/-- Every command answers a next state, and the queue and the canonical form of the memories are kept by it. -/
theorem exec_kept (c : Instr) (hs : Kept p s) : ∃ t, exec c s = .next t ∧ Kept p t := by
  cases c with
  | registerWrite | seqCtrlCommit | seqCtrlRelease | seqCtrlPop | seqCtrlClrcnt | cblFireWrite | engLddataWrite
  | engLdctlDone | engTestStart | engReintWrite | engRetsetWrite | ringGpcurWrite | ringAbortWrite | pwrDomcmdWrite
  | pwrGearsetWrite | clkGateWrite | clkCtrlRecheck | cadWcWrite | cadCcTgtWrite | cadCcPerWrite | cadCcCfgWrite
  | gauDacLoadnow | rfxCtrlCalreq | rfaCtrlSearch | linkDisable | mshStagectlWrite | jnlCtrlCommit | wflRspctlWrite
  | wflRxfreeWrite | wflAddrctlRelease | sysMwdataWrite | sysE0lddataWrite =>
    exact ⟨_, rfl, State.initWrite_kept hs⟩
  | debugResume => exact ⟨_, rfl, debugResumeEffect_kept hs⟩
  | samplePreload => exact ⟨_, rfl, samplePreloadEffect_kept hs⟩
  | demandWakeComplete => exact ⟨_, rfl, demandWakeCompleteEffect_kept hs⟩
  | seqTbldataAccess | cblLvdataAccess | ringGpdataAccess | lnkHopdataAccess | mshPathdataAccess | mshNbrdataAccess =>
    exact ⟨_, rfl, State.initAccess_kept hs⟩
  | entryFetch => exact ⟨_, rfl, entryFetchEffect_kept hs⟩
  | budgetExpiry => exact ⟨_, rfl, budgetExpiryEffect_kept hs⟩
  | reserveWindowEnd => exact ⟨_, rfl, reserveWindowEndEffect_kept hs⟩
  | thirdRunStart => exact ⟨_, rfl, thirdRunStartEffect_kept hs⟩
  | dispatch => exact ⟨_, rfl, dispatchEffect_kept hs⟩
  | fcReservationDurable => exact ⟨_, rfl, fcReservationDurableEffect_kept hs⟩
  | calibrationGap => exact ⟨_, rfl, calibrationGapEffect_kept hs⟩
  | engFlag => exact ⟨_, rfl, engFlagEffect_kept hs⟩
  | e0Svc => exact ⟨_, rfl, e0SvcEffect_kept hs⟩
  | conversionStart => exact ⟨_, rfl, conversionStartEffect_kept hs⟩
  | gauDacLoad => exact ⟨_, rfl, gauDacLoadEffect_kept hs⟩
  | gauPwmRestart => exact ⟨_, rfl, gauPwmRestartEffect_kept hs⟩
  | gauIexToggle => exact ⟨_, rfl, gauIexToggleEffect_kept hs⟩
  | cadCap => exact ⟨_, rfl, cadCapEffect_kept hs⟩
  | gpioTask => exact ⟨_, rfl, gpioTaskEffect_kept hs⟩
  | lnkAbort => exact ⟨_, rfl, lnkAbortEffect_kept hs⟩
  | bundleIssue => exact ⟨_, rfl, bundleIssueEffect_kept hs⟩
  | dataTrap => exact ⟨_, rfl, dataTrapEffect_kept hs⟩
  | engineEccWriteBack => exact ⟨_, rfl, engineEccWriteBackEffect_kept hs⟩
  | nop | add | adc | sub | sbc | adds | subs | and | or | xor | andn | shl | shr | sar | rol | min | max | minu
  | maxu | abs | neg | cmpeq | cmpne | cmplt | cmpltu | movz | movnz | pack | unpkl | unpkh | swapb | sexb | clz
  | popc | addi | andi | ori | xori | shli | shri | sari | cmpeqi | cmplti | movi | movc | movtc | mul | mulh
  | mulhu | mulq | mpy | mac | msu | macu | macq | aclr | ashl | ashr | aadd | ald | aext | aextl | aexth | aextg
  | la | ld | st | ldim | ada | movga | movag | qavl | qspace | qhead | qtail | qpost | qfetch | qevt | br | bz
  | bnz | bltz | bgez | bdec | call | jr | trap | rett | tend | brk => exact ⟨_, rfl, issueOne_kept hs⟩
  | offSlotServed => exact ⟨_, rfl, offSlotServedEffect_kept hs⟩
  | crossbarTimeout => exact ⟨_, rfl, crossbarTimeoutEffect_kept hs⟩
  | drainEntry => exact ⟨_, rfl, drainEntryEffect_kept hs⟩
  | drainEntryTimeout => exact ⟨_, rfl, drainEntryTimeoutEffect_kept hs⟩
  | selfTestDone => exact ⟨_, rfl, selfTestDoneEffect_kept hs⟩
  | reservationGrant => exact ⟨_, rfl, reservationGrantEffect_kept hs⟩
  | cancelOnPost => exact ⟨_, rfl, cancelOnPostEffect_kept hs⟩
  | prepareDone => exact ⟨_, rfl, prepareDoneEffect_kept hs⟩
  | wakeCompareMatch => exact ⟨_, rfl, wakeCompareMatchEffect_kept hs⟩
  | wakePin => exact ⟨_, rfl, wakePinEffect_kept hs⟩
  | sramEccWriteBack => exact ⟨_, rfl, sramEccWriteBackEffect_kept hs⟩
  | gateClose => exact ⟨_, rfl, gateCloseEffect_kept hs⟩
  | gateRefused => exact ⟨_, rfl, gateRefusedEffect_kept hs⟩
  | clockSourceFailure => exact ⟨_, rfl, clockSourceFailureEffect_kept hs⟩
  | primaryRestart => exact ⟨_, rfl, primaryRestartEffect_kept hs⟩
  | compareFire => exact ⟨_, rfl, compareFireEffect_kept hs⟩
  | captureEdge => exact ⟨_, rfl, captureEdgeEffect_kept hs⟩
  | captureLatchRead | snapLatchRead => exact ⟨_, rfl, State.initRead_kept hs⟩
  | ppsInputEdge => exact ⟨_, rfl, ppsInputEdgeEffect_kept hs⟩
  | conversionDone => exact ⟨_, rfl, conversionDoneEffect_kept hs⟩
  | dacSettled => exact ⟨_, rfl, dacSettledEffect_kept hs⟩
  | pwmPeriodStart => exact ⟨_, rfl, pwmPeriodStartEffect_kept hs⟩
  | gaugeDisable | laneDisable | relayDisable | waifetiDisable => exact ⟨_, rfl, State.writeOff_kept hs⟩
  | gpioEdge => exact ⟨_, rfl, gpioEdgeEffect_kept hs⟩
  | transferStart => exact ⟨_, rfl, transferStartEffect_kept hs⟩
  | transferEnd => exact ⟨_, rfl, transferEndEffect_kept hs⟩
  | uartRxOctet => exact ⟨_, rfl, uartRxOctetEffect_kept hs⟩
  | serialDisable => exact ⟨_, rfl, serialDisableEffect_kept hs⟩
  | settleStart => exact ⟨_, rfl, settleStartEffect_kept hs⟩
  | lockLost => exact ⟨_, rfl, lockLostEffect_kept hs⟩
  | grantCheck => exact ⟨_, rfl, grantCheckEffect_kept hs⟩
  | paEnable => exact ⟨_, rfl, paEnableEffect_kept hs⟩
  | txFirstSymbol => exact ⟨_, rfl, txFirstSymbolEffect_kept hs⟩
  | txEnd => exact ⟨_, rfl, txEndEffect_kept hs⟩
  | modeSwitchCarrierEnd => exact ⟨_, rfl, modeSwitchCarrierEndEffect_kept hs⟩
  | turnaroundDone => exact ⟨_, rfl, turnaroundDoneEffect_kept hs⟩
  | receiveStart => exact ⟨_, rfl, receiveStartEffect_kept hs⟩
  | listenEnd => exact ⟨_, rfl, listenEndEffect_kept hs⟩
  | receiveEnd => exact ⟨_, rfl, receiveEndEffect_kept hs⟩
  | mismatchMeasure => exact ⟨_, rfl, mismatchMeasureEffect_kept hs⟩
  | searchDone => exact ⟨_, rfl, searchDoneEffect_kept hs⟩
  | coexRequest => exact ⟨_, rfl, coexRequestEffect_kept hs⟩
  | coexGntDeassert => exact ⟨_, rfl, coexGntDeassertEffect_kept hs⟩
  | coexRelease => exact ⟨_, rfl, coexReleaseEffect_kept hs⟩
  | detection => exact ⟨_, rfl, detectionEffect_kept hs⟩
  | syncEvent => exact ⟨_, rfl, syncEventEffect_kept hs⟩
  | syncLost => exact ⟨_, rfl, syncLostEffect_kept hs⟩
  | headerCheck => exact ⟨_, rfl, headerCheckEffect_kept hs⟩
  | modeSwitchTimeout => exact ⟨_, rfl, modeSwitchTimeoutEffect_kept hs⟩
  | candidate => exact ⟨_, rfl, candidateEffect_kept hs⟩
  | frameEnd => exact ⟨_, rfl, frameEndEffect_kept hs⟩
  | rssinowUpdate => exact ⟨_, rfl, rssinowUpdateEffect_kept hs⟩
  | ackTransmit => exact ⟨_, rfl, ackTransmitEffect_kept hs⟩
  | ackWaitExpiry => exact ⟨_, rfl, ackWaitExpiryEffect_kept hs⟩
  | ccaEnd => exact ⟨_, rfl, ccaEndEffect_kept hs⟩
  | seenScrub => exact ⟨_, rfl, seenScrubEffect_kept hs⟩
  | nonceReservationDurable => exact ⟨_, rfl, nonceReservationDurableEffect_kept hs⟩
  | frameHeader => exact ⟨_, rfl, frameHeaderEffect_kept hs⟩
  | cmd => exact ⟨_, rfl, State.wflBody_kept hs⟩
  | assign => exact ⟨_, rfl, assignEffect_kept hs⟩
  | responseExpiry => exact ⟨_, rfl, State.flushResponses_kept (responseExpiryEffect_kept hs)⟩
  | pannierStoreRequest => exact ⟨_, rfl, pannierStoreRequestEffect_kept hs⟩
  | pannierStoreCompletion => exact ⟨_, rfl, pannierStoreCompletionEffect_kept hs⟩
  | powerOnReset | brownOut | overTemperature => exact ⟨_, rfl, State.powerOn_kept hs⟩
  | jtagSystemReset => exact ⟨_, rfl, State.softReset_kept hs⟩
  | bypass | extest | clamp | highz => exact ⟨_, rfl, State.setIr_kept hs⟩
  | entryFire => exact ⟨_, rfl, entryFireEffect_kept hs⟩
  | grant => exact ⟨_, rfl, grantEffect_kept hs⟩
  | domain => exact ⟨_, rfl, domainEffect_kept hs⟩
  | gear => exact ⟨_, rfl, gearEffect_kept hs⟩
  | wakecmp => exact ⟨_, rfl, wakecmpEffect_kept hs⟩
  | startConfirmed => exact ⟨_, rfl, startConfirmedEffect_kept hs⟩
  | cadPpsout => exact ⟨_, rfl, cadPpsoutEffect_kept hs⟩
  | cadNtsnap => exact ⟨_, rfl, cadNtsnapEffect_kept hs⟩
  | perGpiosnap => exact ⟨_, rfl, perGpiosnapEffect_kept hs⟩
  | wflIrq => exact ⟨_, rfl, wflIrqEffect_kept hs⟩
  | abortRequestArrival => exact ⟨_, rfl, abortRequestArrivalEffect_kept hs⟩
  | transitionStart => exact ⟨_, rfl, transitionStartEffect_kept hs⟩
  | entryComplete => exact ⟨_, rfl, entryCompleteEffect_kept hs⟩
  | gearStepEnd => exact ⟨_, rfl, gearStepEndEffect_kept hs⟩
  | pllLockLost => exact ⟨_, rfl, pllLockLostEffect_kept hs⟩
  | bankRebuild => exact ⟨_, rfl, bankRebuildEffect_kept hs⟩
  | xoPrestart => exact ⟨_, rfl, xoPrestartEffect_kept hs⟩
  | ntRebuild => exact ⟨_, rfl, ntRebuildEffect_kept hs⟩
  | arm | disarm => exact ⟨_, rfl, State.ring47_kept hs⟩
  | ppsAuto => exact ⟨_, rfl, ppsAutoEffect_kept hs⟩
  | ppsPulseEnd => exact ⟨_, rfl, ppsPulseEndEffect_kept hs⟩
  | convert | dacset => exact ⟨_, rfl, State.ring45_kept hs⟩
  | acceptDecision => exact ⟨_, rfl, acceptDecisionEffect_kept hs⟩
  | dwellSubwindowAdvance => exact ⟨_, rfl, dwellSubwindowAdvanceEffect_kept hs⟩
  | timeStep => exact ⟨_, rfl, timeStepEffect_kept hs⟩
  | trimFraction => exact ⟨_, rfl, trimFractionEffect_kept hs⟩
  | stageStore => exact ⟨_, rfl, stageStoreEffect_kept hs⟩
  | stageRestore => exact ⟨_, rfl, stageRestoreEffect_kept hs⟩
  | holdoffEnd => exact ⟨_, rfl, holdoffEndEffect_kept hs⟩
  | relayPost => exact ⟨_, rfl, relayPostEffect_kept hs⟩
  | holdApply => exact ⟨_, rfl, holdApplyEffect_kept hs⟩
  | holdCountdown => exact ⟨_, rfl, holdCountdownEffect_kept hs⟩
  | originateHold => exact ⟨_, rfl, originateHoldEffect_kept hs⟩
  | ccmSeal | ccmDecrypt | ccmOpen | gcmSeal | gcmDecrypt | gcmOpen | cmacGen | cmacVerify | sha256 | sha384
  | ecdsaSign | ecdsaVerify | lmsVerify | dualVerify | keyInstall | keyExport | keyErase | keyGenerate | pubkeyRead
  | random | enrol | attest | extend | debugUnlock => exact ⟨_, rfl, State.vaultRow_kept hs⟩
  | lmsReservationDurable => exact ⟨_, rfl, lmsReservationDurableEffect_kept hs⟩
  | reseedComplete => exact ⟨_, rfl, reseedCompleteEffect_kept hs⟩
  | read | write | journalRead | hold | cancel | reintegrateEngine | commitSheet | releaseSheet | attestExec
  | debugUnlockExec | leaveKickstand | systemReset | openStaging | bodyChunk | closeStaging | activate =>
    exact ⟨_, rfl, State.dictRow_kept hs⟩
  | activationStart => exact ⟨_, rfl, activationStartEffect_kept hs⟩
  | sectionDone => exact ⟨_, rfl, sectionDoneEffect_kept hs⟩
  | switchRelease => exact ⟨_, rfl, switchReleaseEffect_kept hs⟩
  | journalAccept => exact ⟨_, rfl, journalAcceptEffect_kept hs⟩
  | journalTimeout => exact ⟨_, rfl, journalTimeoutEffect_kept hs⟩
  | ping => exact ⟨_, rfl, pingEffect_kept hs⟩
  | frameAbandon => exact ⟨_, rfl, frameAbandonEffect_kept hs⟩
  | idleResync => exact ⟨_, rfl, idleResyncEffect_kept hs⟩
  | bootStart => exact ⟨_, rfl, bootStartEffect_kept hs⟩
  | startImageCheckDone => exact ⟨_, rfl, startImageCheckDoneEffect_kept hs⟩
  | startXoTimeout => exact ⟨_, rfl, startXoTimeoutEffect_kept hs⟩
  | mramWordDurable => exact ⟨_, rfl, mramWordDurableEffect_kept hs⟩
  | pllRelock => exact ⟨_, rfl, pllRelockEffect_kept hs⟩
  | entropyHealthFailure => exact ⟨_, rfl, entropyHealthFailureEffect_kept hs⟩
  | sleepCounterEdge => exact ⟨_, rfl, sleepCounterEdgeEffect_kept hs⟩
  | radioTransmitDedicated | radioControlTransmit =>
    exact ⟨_, rfl, State.onRadio_kept hs fun _ _ h => State.takePick_kept h⟩
  | radioReceive | radioScan | radioControlReceive =>
    exact ⟨_, rfl, State.onRadio_kept hs fun _ _ h => State.addOp_kept h⟩
  | radioTransmitShared =>
    refine ⟨_, rfl, State.onRadio_kept hs fun z o h => ?_⟩
    have hd : Kept p (if z.vlt.drawWait.contains o.txClass then z.drawBackoff o.txClass else z) :=
      kept_ite (State.drawBackoff_kept h) h
    exact kept_ite hd (kept_ite (State.setBackoff_kept hd) (State.takePick_kept hd))
  | lockQualified => exact ⟨_, rfl, kept_ite (State.setRfState_kept hs) hs⟩
  | frequencyCount src count =>
    have ht := frequencyCountEffect_kept (v0 := src) (v1 := count) hs
    exact ⟨_, rfl, kept_ite ht (State.startCals_kept (kept_ite (State.gearSet_kept ht) ht))⟩
  | calibrationDone c temp =>
    have ht := calibrationDoneEffect_kept (v0 := c) (v1 := temp) hs
    exact ⟨_, rfl, kept_ite (State.kickReady_kept (kept_mk ht)) ht⟩
  | vaultCompletion => exact ⟨_, rfl, State.settleSvc_kept (vaultCompletionEffect_kept hs)⟩
  | vltCtrlReseed => exact ⟨_, rfl, State.initWrite_kept hs⟩
  | vaultDisable => exact ⟨_, rfl, State.settleSvc_kept (State.initWrite_kept hs)⟩
  | fetch => exact ⟨_, rfl, State.wflBack_kept hs fun _ h => State.flushResponses_kept (kept_mk h)⟩
  | status => exact ⟨_, rfl, State.wflBack_kept hs fun _ h => State.setFlag_kept h⟩
  | reset body crc =>
    have ht := State.wflBody_kept (v1 := 5) (v2 := body) (v3 := crc) hs
    exact ⟨_, rfl, kept_ite (State.judgeReset_kept ht) ht⟩
  | chainInChange => exact ⟨_, rfl, kept_mk hs⟩
  | vioSupplyLoss | vioSupplyReturn => exact ⟨_, rfl, kept_ite (kept_mk hs) (kept_mk hs)⟩
  | commitCheckComplete =>
    have ht := commitCheckCompleteEffect_kept hs
    exact ⟨_, rfl, kept_ite (State.commitOver_kept ht) ht⟩
  | slotStart =>
    refine ⟨_, rfl, ?_⟩
    have ht := State.slotStarts_kept hs
    split
    · exact kept_ite (State.switchGap_kept ht) ht
    · exact State.postBeacon_kept ht
  | wakeStepReady =>
    refine ⟨_, rfl, ?_⟩
    have ht := wakeStepReadyEffect_kept hs
    split
    · exact kept_ite (State.onReady_kept ht) ht
    · exact ht
  | originateFlood | originatePath => exact ⟨_, rfl, State.originNow_kept hs⟩
  | journalEntryDurable =>
    refine ⟨_, rfl, ?_⟩
    split
    case h_1 e _ n t _ hd => exact State.entryStands_kept (State.jnlDurable_kept hs _ hd)
    case h_2 => exact hs

/-- `Kept` is irreducible: this opens it. -/
theorem kept_iff : Kept p s ↔ s.pending = p ∧ s.memWf = true := by unfold Kept; exact Iff.rfl

/-- A step answers a next state, takes the front command and keeps the canonical form: the command by `exec_kept`, the
idle step by `State.tick_kept`. -/
theorem step_kept (hw : s.memWf = true) : ∃ t, step s = .next t ∧ Kept s.pending.tail t := by
  unfold step
  split
  case h_1 hp => exact ⟨_, rfl, State.tick_kept (kept_iff.2 ⟨by simp [hp], hw⟩)⟩
  case h_2 c rest hp =>
    have hs : Kept rest { s with pending := rest } := kept_iff.2 ⟨rfl, hw⟩
    simpa [hp] using exec_kept c hs

/-- Settles O3: by `step_kept`, which splits over the commands of the table. -/
theorem stepKeepsMemoryForm : Obligations.StepKeepsMemoryForm := by
  intro s t hw ht
  obtain ⟨u, hu, hk⟩ := step_kept hw
  obtain rfl : u = t := by simpa [hu] using ht
  exact (kept_iff.1 hk).2

end Sys2Proof.Machine
end

section
/-!
SUPPORT. Fields of a register word: what a bit of a replaced field is, and what a read of a field, a flag or a register
word finds after a write.
-/
namespace Sys2Proof.Machine

/-! ## Bits -/

theorem testBit_bits (v hi lo i : Nat) : (bits v hi lo).testBit i = (decide (i < hi + 1 - lo) && v.testBit (i + lo)) := by
  rw [bits, Nat.testBit_mod_two_pow, Nat.testBit_div_two_pow]

/-- A replaced field, as three runs of bits one above the other. -/
theorem putBits_eq (v hi lo f : Nat) : putBits v hi lo f =
    2 ^ lo * (2 ^ (hi + 1 - lo) * (v / 2 ^ lo / 2 ^ (hi + 1 - lo)) + f % 2 ^ (hi + 1 - lo)) + v % 2 ^ lo := by
  have hv := Nat.div_add_mod v (2 ^ lo)
  have hq := Nat.div_add_mod (v / 2 ^ lo) (2 ^ (hi + 1 - lo))
  unfold putBits bits
  generalize v / 2 ^ lo = q at *
  generalize 2 ^ (hi + 1 - lo) = n at *
  generalize 2 ^ lo = m at *
  rw [Nat.mul_add, Nat.mul_comm m (f % n)]
  have hm : m * q = m * (n * (q / n)) + q % n * m :=
    calc m * q = m * (n * (q / n) + q % n) := congrArg (m * ·) hq.symm
      _ = m * (n * (q / n)) + q % n * m := by rw [Nat.mul_add, Nat.mul_comm m (q % n)]
  omega

theorem testBit_putBits (v hi lo f i : Nat) : (putBits v hi lo f).testBit i =
    if lo ≤ i ∧ i < lo + (hi + 1 - lo) then f.testBit (i - lo) else v.testBit i := by
  rw [putBits_eq, Nat.testBit_two_pow_mul_add _ (Nat.mod_lt _ (Nat.two_pow_pos _)),
    Nat.testBit_two_pow_mul_add _ (Nat.mod_lt _ (Nat.two_pow_pos _)), Nat.testBit_mod_two_pow, Nat.testBit_mod_two_pow,
    Nat.testBit_div_two_pow, Nat.testBit_div_two_pow]
  by_cases hlo : i < lo
  · simp [hlo, Nat.not_le.2 hlo]
  · by_cases hhi : i - lo < hi + 1 - lo
    · simp [hlo, hhi, Nat.not_lt.1 hlo, show i < lo + (hi + 1 - lo) by omega]
    · simp [hlo, hhi, show ¬ i < lo + (hi + 1 - lo) by omega,
        show i - lo - (hi + 1 - lo) + (hi + 1 - lo) + lo = i by omega]

/-- A replaced field leaves a field that lies apart from it. -/
theorem bits_putBits_apart {v hi lo f h l : Nat} (hap : h < lo ∨ hi < l) : bits (putBits v hi lo f) h l = bits v h l := by
  refine Nat.eq_of_testBit_eq fun i => ?_
  rw [testBit_bits, testBit_bits, testBit_putBits]
  by_cases hi' : i < h + 1 - l
  · rw [if_neg (by omega)]
  · simp [hi']

theorem bits_putBits_bits (v hi lo x : Nat) : bits (putBits v hi lo (bits x hi lo)) hi lo = bits x hi lo := by
  rw [bits_putBits, Nat.mod_eq_of_lt (bits_lt ..)]

/-- The low n bits keep every field that lies in them. -/
theorem bits_mod_two_pow {v hi lo n : Nat} (hh : hi < n) : bits (v % 2 ^ n) hi lo = bits v hi lo := by
  refine Nat.eq_of_testBit_eq fun i => ?_
  rw [testBit_bits, testBit_bits, Nat.testBit_mod_two_pow]
  by_cases hi' : i < hi + 1 - lo
  · simp [show i + lo < n by omega]
  · simp [hi']

/-- The bits below a field are none of its own. -/
theorem bits_mod_below (v hi lo : Nat) : bits (v % 2 ^ lo) hi lo = 0 := by
  rw [bits, Nat.div_eq_of_lt (Nat.mod_lt _ (Nat.two_pow_pos _)), Nat.zero_mod]

/-- The word keeps every field that lies in it. -/
theorem bits_ofNat {v hi lo : Nat} (hh : hi < 16) : bits (BitVec.ofNat 16 v).toNat hi lo = bits v hi lo := by
  rw [BitVec.toNat_ofNat, bits_mod_two_pow hh]

/-! ## Fields of a register word -/

theorem State.rd_setWord (s : State) (a hi lo : Nat) (v : W16) : (s.setWord a v).rd a hi lo = bits v.toNat hi lo := by
  rw [State.rd, State.word_setWord_same]

theorem State.rd_wr (s : State) {a hi lo v : Nat} (hh : hi < 16) :
    (s.wr a hi lo v).rd a hi lo = v % 2 ^ (hi + 1 - lo) := by
  rw [State.wr, State.rd_setWord, bits_ofNat hh, bits_putBits]

theorem State.rd_wr_apart (s : State) {a hi lo v h l : Nat} (hh : h < 16) (hap : h < lo ∨ hi < l) :
    (s.wr a hi lo v).rd a h l = s.rd a h l := by
  rw [State.wr, State.rd_setWord, bits_ofNat hh, bits_putBits_apart hap, State.rd]

theorem State.flag_setFlag (s : State) {a b : Nat} {v : Bool} (hb : b < 16) : (s.setFlag a b v).flag a b = v := by
  have ht : v.toNat.testBit 0 = v := by cases v <;> rfl
  rw [State.flag, State.setFlag, State.wr, State.word_setWord_same, bit, BitVec.toNat_ofNat, Nat.testBit_mod_two_pow,
    testBit_putBits]
  simp [hb, ht]

theorem State.flag_setWord_ne (s : State) {a x : Nat} (v : W16) (b : Nat) (h : x ≠ a) :
    (s.setWord a v).flag x b = s.flag x b := by
  rw [State.flag, State.flag, State.word_setWord_ne _ _ h]

theorem State.flag_wr_ne (s : State) {a x : Nat} (hi lo v b : Nat) (h : x ≠ a) : (s.wr a hi lo v).flag x b = s.flag x b :=
  s.flag_setWord_ne _ _ h

theorem State.rd_lt (s : State) (a hi lo : Nat) : s.rd a hi lo < 2 ^ (hi + 1 - lo) := bits_lt ..

/-! ## Register words that an operation leaves -/

/-- The word at a may change: it lies in one of the windows ws, or is one of the addresses own. -/
abbrev mayChange (ws own : List Nat) (a : Nat) : Prop := (∃ w ∈ ws, windowOf a = some w) ∨ a ∈ own

theorem State.regsKept.refl {s : State} {ws own : List Nat} : s.regsKept s ws own := fun _ _ _ => rfl

theorem State.regsKept.trans {s t u : State} {ws own : List Nat} (h : s.regsKept t ws own) (h' : t.regsKept u ws own) :
    s.regsKept u ws own := fun a hw ho => (h' a hw ho).trans (h a hw ho)

theorem State.regsKept.mono {s t : State} {ws own ws' own' : List Nat} (h : s.regsKept t ws own) (hw : ws ⊆ ws')
    (ho : own ⊆ own') : s.regsKept t ws' own' := fun a hw' ho' => h a (fun w hm => hw' w (hw hm)) fun hm => ho' (ho hm)

/-- Equal register lists: every word is as it was. -/
theorem State.regsKept_of_regs {s t : State} {ws own : List Nat} (h : t.regs = s.regs) : s.regsKept t ws own :=
  fun a _ _ => by rw [State.word, State.word, h]

theorem State.regsKept_setWord {s : State} {ws own : List Nat} {a : Nat} {v : W16} (h : mayChange ws own a) :
    s.regsKept (s.setWord a v) ws own := by
  intro x hw ho
  refine s.word_setWord_ne v fun hx => ?_
  subst hx
  exact h.elim (fun ⟨w, hm, he⟩ => hw w hm he) ho

theorem State.regsKept_wr {s : State} {ws own : List Nat} {a hi lo v : Nat} (h : mayChange ws own a) :
    s.regsKept (s.wr a hi lo v) ws own := State.regsKept_setWord h

theorem mayChange_own {ws own : List Nat} {a : Nat} (h : a ∈ own) : mayChange ws own a := .inr h

theorem mayChange_window {ws own : List Nat} {a w : Nat} (hw : windowOf a = some w) (h : w ∈ ws) : mayChange ws own a :=
  .inl ⟨w, h, hw⟩

/-- A word outside what an operation may change reads as it did. -/
theorem State.regsKept.word {s t : State} {ws own : List Nat} (h : s.regsKept t ws own) {a : Nat}
    (ha : ¬ mayChange ws own a) : t.word a = s.word a :=
  h a (fun w hm he => ha (.inl ⟨w, hm, he⟩)) fun ho => ha (.inr ho)

theorem State.regsKept.rd {s t : State} {ws own : List Nat} (h : s.regsKept t ws own) {a : Nat}
    (ha : ¬ mayChange ws own a) (hi lo : Nat) : t.rd a hi lo = s.rd a hi lo := by
  rw [State.rd, State.rd, h.word ha]

end Sys2Proof.Machine
end

section
/-!
SUPPORT. Where an address lies and what an access that reaches its register does there (R18 to R25): the access goes
straight to the register's own write or read.
-/
namespace Sys2Proof.Machine

/-! ## Addresses -/

theorem windowOf_some {a w : Nat} (h : windowOf a = some w) : 0x400000 ≤ a ∧ a < 0x414000 ∧ w = (a - 0x400000) / 0x1000 := by
  unfold windowOf at h
  split at h
  · exact ⟨by omega, by omega, (Option.some.inj h).symm⟩
  · cases h

theorem windowOf_lt {a w : Nat} (h : windowOf a = some w) : w < 20 := by
  obtain ⟨_, _, rfl⟩ := windowOf_some h
  omega

/-- A register found in the map is one of its window's, and the word lies in it. -/
theorem findReg_some {a k i : Nat} {r : Reg} (h : findReg a = some (r, k, i)) :
    ∃ w, windowOf a = some w ∧ r ∈ windowRegs w ∧ r.locate a = some (k, i) := by
  unfold findReg at h
  split at h
  · cases h
  case h_2 w hw =>
    obtain ⟨q, hq, he⟩ := List.exists_of_findSome?_eq_some h
    obtain ⟨p, hp, he⟩ := Option.map_eq_some_iff.1 he
    cases he
    exact ⟨w, hw, hq, hp⟩

/-- An address of a window lies in no memory. -/
theorem regionOf_window {a w : Nat} (h : windowOf a = some w) :
    regionOf a = if (findReg a).isSome then .register else .hole w := by
  obtain ⟨hlo, hhi, -⟩ := windowOf_some h
  have h1 : ¬ a < 0x8000 := by omega
  have h2 : inSram a = false := by simp [inSram]; omega
  have h3 : (decide (0x200000 ≤ a) && decide (a < 0x400000)) = false := by simp; omega
  simp [regionOf, h1, h2, h3, h]

theorem regionOf_register {a k i : Nat} {r : Reg} (h : findReg a = some (r, k, i)) : regionOf a = .register := by
  obtain ⟨w, hw, -, -⟩ := findReg_some h
  simp [regionOf_window hw, h]

/-- A hole lies in its window and in no register map. -/
theorem windowOf_hole {a w : Nat} (h : regionOf a = .hole w) : windowOf a = some w := by
  unfold regionOf at h
  split at h
  · cases h
  split at h
  · cases h
  split at h
  · cases h
  split at h
  · cases h
  case h_2 w' hw =>
    split at h
    · cases h
    · cases h
      exact hw

theorem inSram_register {a k i : Nat} {r : Reg} (h : findReg a = some (r, k, i)) : inSram a = false := by
  obtain ⟨w, hw, -, -⟩ := findReg_some h
  obtain ⟨hlo, -, -⟩ := windowOf_some hw
  simp [inSram]
  omega

/-! ## An access that is served at once (R18) -/

theorem State.reach_on {s : State} {d : Nat} (h : s.on d = true) (bank block port : Nat) :
    s.reach d bank false block port = (.served, s) := by
  have hd : s.domState d = 2 := by simpa [State.on] using h
  simp [State.reach, h, hd]

theorem State.addrDom_register (s : State) (who : Initiator) {a k i : Nat} {r : Reg} (h : findReg a = some (r, k, i)) :
    s.addrDom who a = (r.dom, 0) := by
  simp [State.addrDom, regionOf_register h, h]

/-- A write that reaches a register is the register's write. -/
theorem State.initWrite_register {s : State} {who : Initiator} {a k i : Nat} {r : Reg} (h : findReg a = some (r, k, i))
    (hr : s.reaches who r.dom) (v : W16) : s.initWrite who a v = s.regWrite who a v := by
  obtain ⟨hs, hon⟩ := hr
  simp [State.initWrite, hs, State.writeDom, regionOf_register h, s.addrDom_register who h, inSram_register h,
    State.reach_on hon, State.writeNow, State.writeWord]

/-- A read that reaches a register is the register's read; the word goes to the initiator. -/
theorem State.initRead_register {s : State} {who : Initiator} {a k i : Nat} {r : Reg} (h : findReg a = some (r, k, i))
    (hr : s.reaches who r.dom) : s.initRead who a = { (s.regRead a).2 with lastRead := (s.regRead a).1 } := by
  obtain ⟨hs, hon⟩ := hr
  simp [State.initRead, hs, regionOf_register h, s.addrDom_register who h, inSram_register h,
    State.reach_on hon, State.readNow, State.readWord]

/-- A write outside memory and registers is answered with an error; a hole's window flags it (R19, R25). -/
theorem State.initWrite_hole {s : State} {who : Initiator} {a w : Nat} (h : regionOf a = .hole w)
    (hs : s.shutOut who = false) (v : W16) : s.initWrite who a v = (s.rejectIn a).errorTo := by
  simp [State.initWrite, hs, State.writeDom, State.addrDom, h, State.reach, State.writeNow, State.writeWord]

theorem State.initWrite_unmapped {s : State} {who : Initiator} {a : Nat} (h : regionOf a = .unmapped)
    (hs : s.shutOut who = false) (v : W16) : s.initWrite who a v = s.errorTo := by
  simp [State.initWrite, hs, State.writeDom, State.addrDom, h, State.reach, State.writeNow, State.writeWord]

/-- A locked debug port is answered with an error (R355). -/
theorem State.initWrite_shutOut {s : State} {who : Initiator} (hs : s.shutOut who = true) (a : Nat) (v : W16) :
    s.initWrite who a v = s.errorTo := by simp [State.initWrite, hs]

/-! ## WRITE_REJECTED (R25) -/

theorem windowOf_flags {w : Nat} (hw : w < 20) : windowOf (A.FLAGS w) = some w := by
  rw [A.FLAGS, Nat.mod_eq_of_lt hw, windowOf, if_pos (by omega)]
  congr 1
  omega

theorem State.rejectIn_eq {s : State} {a w : Nat} (hw : windowOf a = some w) :
    s.rejectIn a = if s.on (windowDom w) then s.rejected w else s := by simp [State.rejectIn, hw]

/-- A refused write changes at most the flag register of its window. -/
theorem State.rejectIn_regs (s : State) (a : Nat) : s.rejectIn a = { s with regs := (s.rejectIn a).regs } := by
  unfold State.rejectIn
  split
  · split <;> rfl
  · rfl

theorem State.rejectIn_regsKept {s : State} {a w : Nat} {ws own : List Nat} (hw : windowOf a = some w)
    (h : mayChange ws own (A.FLAGS w)) : s.regsKept (s.rejectIn a) ws own := by
  rw [State.rejectIn_eq hw]
  split
  · exact State.regsKept_wr h
  · exact State.regsKept.refl

theorem State.rejectIn_flag {s : State} {a w : Nat} (hw : windowOf a = some w) (hon : s.on (windowDom w) = true) :
    (s.rejectIn a).flag (A.FLAGS w) 0 = true := by
  rw [State.rejectIn_eq hw, if_pos hon]
  exact s.flag_setFlag (by decide)

end Sys2Proof.Machine
end

section
/-!
SUPPORT. A register word written field by field (R11, R13): what each field reads afterwards, when the window flags a
refusal, and what else changes.
-/
namespace Sys2Proof.Machine

/-! ## Fields that lie apart -/

/-- The fields lie in one word, no two with a bit in common. -/
def fieldsApart : List Field → Bool
  | [] => true
  | f :: t => decide (f.hi < 16) && (t.all fun g => decide (g.hi < f.lo) || decide (f.hi < g.lo)) && fieldsApart t

theorem fieldsApart_cons {f : Field} {t : List Field} (h : fieldsApart (f :: t) = true) :
    f.hi < 16 ∧ (∀ g ∈ t, g.hi < f.lo ∨ f.hi < g.lo) ∧ fieldsApart t = true := by
  simpa [fieldsApart, and_assoc] using h

theorem fieldsApart_hi {f : Field} {t : List Field} (h : fieldsApart t = true) (hf : f ∈ t) : f.hi < 16 := by
  induction t with
  | nil => cases hf
  | cons g t ih =>
    obtain ⟨hg, -, ht⟩ := fieldsApart_cons h
    rcases List.mem_cons.1 hf with rfl | hf
    · exact hg
    · exact ih ht hf

/-- Every register of one word in the map has such fields. -/
theorem fieldsApart_map : ∀ w < 20, ∀ r ∈ windowRegs w, r.words = 1 → fieldsApart r.fields = true := by decide +kernel

/-! ## One field -/

theorem State.fieldWrite_apart {s : State} {r : Reg} {k v old : Nat} {f : Field} {h l : Nat} (hap : h < f.lo ∨ f.hi < l) :
    bits (s.fieldWrite r k v old f).1 h l = bits old h l := by
  unfold State.fieldWrite
  split
  · rfl
  · rfl
  · exact bits_putBits_apart hap
  · split
    · exact bits_putBits_apart hap
    · rfl
  · split
    · exact bits_putBits_apart hap
    · rfl

/-- The field itself, by its access code. -/
theorem State.fieldWrite_field {s : State} {r : Reg} {k a old : Nat} {v : W16} {f : Field}
    (h : bits old f.hi f.lo = s.rd a f.hi f.lo) :
    bits (s.fieldWrite r k v.toNat old f).1 f.hi f.lo = fieldAfter s r k a v f := by
  have hx : bits v.toNat f.hi f.lo % 2 ^ (f.hi + 1 - f.lo) = bits v.toNat f.hi f.lo := Nat.mod_eq_of_lt (bits_lt ..)
  unfold State.fieldWrite fieldAfter
  cases hacc : f.acc with
  | ro => exact h
  | wo => exact h
  | w1c =>
    rw [bits_putBits, h, Nat.mod_eq_of_lt]
    exact Nat.lt_of_le_of_lt Nat.and_le_left (s.rd_lt ..)
  | rw =>
    by_cases he : s.encOk r k f v.toNat = true
    · simp [he, bits_putBits, hx]
    · simp [he, h]
  | rwl =>
    by_cases he : s.encOk r k f v.toNat = true <;> by_cases hc : s.committed = true
    · simp [he, hc, h]
    · simp [he, hc, bits_putBits, hx]
    · simp [he, h]
    · simp [he, h]

/-- A write that the field refuses (R13): a locked field, or a reserved encoding. -/
def fieldRefuses (s : State) (r : Reg) (k : Nat) (v : W16) (f : Field) : Prop :=
  (f.acc = .rwl ∧ s.committed = true) ∨ (f.acc = .rw ∨ f.acc = .rwl ∨ f.acc = .wo) ∧ s.encOk r k f v.toNat = false

theorem State.fieldWrite_refused {s : State} {r : Reg} {k old : Nat} {v : W16} {f : Field} (h : fieldRefuses s r k v f) :
    (s.fieldWrite r k v.toNat old f).2 = true := by
  unfold State.fieldWrite
  rcases h with ⟨ha, hc⟩ | ⟨ha | ha | ha, he⟩
  · simp [ha, hc]
  · simp [ha, he]
  · simp [ha, he]
  · simp [ha, he]

/-! ## All fields of a register -/

theorem State.fieldsWrite_apart {s : State} {r : Reg} {k v old : Nat} {fs : List Field} {h l : Nat}
    (hap : ∀ g ∈ fs, h < g.lo ∨ g.hi < l) : bits (s.fieldsWrite r k v old fs).1 h l = bits old h l := by
  induction fs generalizing old with
  | nil => rfl
  | cons g t ih =>
    simp only [State.fieldsWrite]
    rw [ih fun x hx => hap x (List.mem_cons_of_mem _ hx), State.fieldWrite_apart (hap g (List.mem_cons_self ..))]

theorem State.fieldsWrite_field {s : State} {r : Reg} {k a old : Nat} {v : W16} {fs : List Field}
    (hap : fieldsApart fs = true) (h : ∀ f ∈ fs, bits old f.hi f.lo = s.rd a f.hi f.lo) :
    ∀ f ∈ fs, bits (s.fieldsWrite r k v.toNat old fs).1 f.hi f.lo = fieldAfter s r k a v f := by
  induction fs generalizing old with
  | nil => intro f hf; cases hf
  | cons g t ih =>
    obtain ⟨-, hg, ht⟩ := fieldsApart_cons hap
    simp only [State.fieldsWrite]
    intro f hf
    rcases List.mem_cons.1 hf with rfl | hf
    · rw [State.fieldsWrite_apart fun x hx => (hg x hx).symm, State.fieldWrite_field (h f (List.mem_cons_self ..))]
    · refine ih ht (fun x hx => ?_) f hf
      rw [State.fieldWrite_apart (hg x hx), h x (List.mem_cons_of_mem _ hx)]

theorem State.fieldsWrite_refused {s : State} {r : Reg} {k old : Nat} {v : W16} {fs : List Field}
    (h : ∃ f ∈ fs, fieldRefuses s r k v f) : (s.fieldsWrite r k v.toNat old fs).2 = true := by
  induction fs generalizing old with
  | nil => obtain ⟨f, hf, -⟩ := h; cases hf
  | cons g t ih =>
    simp only [State.fieldsWrite, Bool.or_eq_true]
    obtain ⟨f, hf, hr⟩ := h
    rcases List.mem_cons.1 hf with rfl | hf
    · exact .inl (State.fieldWrite_refused hr)
    · exact .inr (ih ⟨f, hf, hr⟩)

/-- Sticky fields refuse nothing. -/
theorem State.fieldsWrite_w1c {s : State} {r : Reg} {k v old : Nat} {fs : List Field} (h : ∀ f ∈ fs, f.acc = .w1c) :
    (s.fieldsWrite r k v old fs).2 = false := by
  induction fs generalizing old with
  | nil => rfl
  | cons g t ih =>
    simp only [State.fieldsWrite, Bool.or_eq_false_iff]
    exact ⟨by simp [State.fieldWrite, h g (List.mem_cons_self ..)], ih fun x hx => h x (List.mem_cons_of_mem _ hx)⟩

/-! ## A register of one word -/

/-- The flag register of a window has sticky fields alone. -/
theorem flags_w1c : ∀ w < 20, ((findReg (A.FLAGS w)).all fun p => p.1.fields.all fun f => f.acc == .w1c) = true := by
  decide +kernel

/-- Bits that a serial unit does not have concern the registers of the serial units alone. -/
theorem serialMask_other {b u v : Nat} (h1 : b ≠ A.PER_S_CFG 0) (h2 : b ≠ A.PER_S_CTRL 0) (h3 : b ≠ A.PER_S_AUX 0) :
    serialMask b u v = v := by simp [serialMask, h1, h2, h3]

/-- The domains' states stand in window PWR, which is AON: a write elsewhere turns nothing on or off. -/
theorem State.on_setWord {s : State} {a w : Nat} (hw : windowOf a = some w) (hp : w ≠ Win.PWR) (v : W16) (d : Nat) :
    (s.setWord a v).on d = s.on d := by
  have hne : A.PWR_DSTAT (d / 8) ≠ a := by
    rintro rfl
    obtain ⟨-, -, rfl⟩ := windowOf_some hw
    simp only [A.PWR_DSTAT, Win.PWR] at hp
    omega
  rw [State.on, State.on, State.domState, State.domState, State.rd_setWord_ne _ _ _ _ hne]

/-- The domain of a window's flag register is as it was after a write in the window. -/
theorem State.on_window_setWord {s : State} {a w : Nat} (hw : windowOf a = some w) (v : W16) :
    (s.setWord a v).on (windowDom w) = s.on (windowDom w) := by
  by_cases hp : w = Win.PWR
  · subst hp
    rfl
  · exact State.on_setWord hw hp v _

section
variable {s : State} {r : Reg} {k a w : Nat} (v : W16)

/-- A store writes the register list alone. -/
theorem State.regStore_regs (hr : r.words = 1) : s.regStore r k 0 a v = { s with regs := (s.regStore r k 0 a v).regs } := by
  simp only [State.regStore, hr, Nat.le_refl, if_true]
  split
  · rw [State.rejectIn_regs]
    rfl
  · rfl

/-- A store changes its own word and, where it is refused, the flag register of its window. -/
theorem State.regStore_regsKept (hr : r.words = 1) (hw : windowOf a = some w) :
    s.regsKept (s.regStore r k 0 a v) [] [a, A.FLAGS w] := by
  simp only [State.regStore, hr, Nat.le_refl, if_true]
  have h1 : s.regsKept (s.setWord a (BitVec.ofNat 16
      (s.fieldsWrite r k (serialMask r.base k v.toNat) (s.word a).toNat r.fields).1)) [] [a, A.FLAGS w] :=
    State.regsKept_setWord (mayChange_own (by simp))
  split
  · exact h1.trans (State.rejectIn_regsKept hw (mayChange_own (by simp)))
  · exact h1

variable (hr : r.words = 1) (hmask : serialMask r.base k v.toNat = v.toNat)
include hr hmask

/-- Each field of a stored word reads as its access code says. -/
theorem State.regStore_field (hfind : findReg a = some (r, k, 0)) :
    ∀ f ∈ r.fields, (s.regStore r k 0 a v).rd a f.hi f.lo = fieldAfter s r k a v f := by
  obtain ⟨w, hw, hmem, -⟩ := findReg_some hfind
  have hap := fieldsApart_map w (windowOf_lt hw) r hmem hr
  intro f hf
  have hval := State.fieldsWrite_field (r := r) (k := k) (v := v) (old := (s.word a).toNat) hap (fun _ _ => rfl) f hf
  simp only [State.regStore, hr, Nat.le_refl, if_true, hmask]
  split
  case isTrue hrej =>
    have hne : a ≠ A.FLAGS w := by
      rintro rfl
      have hall := flags_w1c w (windowOf_lt hw)
      simp only [hfind, Option.all_some, List.all_eq_true, beq_iff_eq] at hall
      rw [State.fieldsWrite_w1c hall] at hrej
      cases hrej
    rw [State.rejectIn_eq hw]
    split
    · rw [State.rejected, State.setFlag, State.rd_wr_ne _ _ _ _ _ _ hne, State.rd_setWord,
        bits_ofNat (fieldsApart_hi hap hf), hval]
    · rw [State.rd_setWord, bits_ofNat (fieldsApart_hi hap hf), hval]
  case isFalse => rw [State.rd_setWord, bits_ofNat (fieldsApart_hi hap hf), hval]

/-- A refused field is flagged while the window's flag register is on. -/
theorem State.regStore_flag (hw : windowOf a = some w) (hon : s.on (windowDom w) = true)
    (hf : ∃ f ∈ r.fields, fieldRefuses s r k v f) : (s.regStore r k 0 a v).flag (A.FLAGS w) 0 = true := by
  have hrej := State.fieldsWrite_refused (old := (s.word a).toNat) hf
  simp only [State.regStore, hr, Nat.le_refl, if_true, hmask, hrej]
  exact State.rejectIn_flag hw ((State.on_window_setWord hw _).trans hon)

end

end Sys2Proof.Machine
end

section
/-!
SUPPORT. What the write of a register does beside the store of its fields: nothing for most; for a few it moves state that
no register holds, or makes edges of pins, whose events enter the cable matrix (R25, R265, R325).
-/
namespace Sys2Proof.Machine

/-! ## The cable matrix -/

/-- t differs from s in the cable matrix, its window and the register words `own` alone. -/
def State.cableChange (own : List Nat) (s t : State) : Prop :=
  (∃ rs c, t = { s with regs := rs, cbl := c }) ∧ s.regsKept t [Win.CBL] own

section
variable {own : List Nat} {s t u : State}

theorem State.cableChange.refl : s.cableChange own s := ⟨⟨s.regs, s.cbl, rfl⟩, State.regsKept.refl⟩

theorem State.cableChange.trans (h : s.cableChange own t) (h' : t.cableChange own u) : s.cableChange own u := by
  obtain ⟨⟨rs, c, rfl⟩, hk⟩ := h
  obtain ⟨⟨rs', c', rfl⟩, hk'⟩ := h'
  exact ⟨⟨rs', c', rfl⟩, hk.trans hk'⟩

theorem State.cableChange.ite {c : Prop} [Decidable c] (ht : s.cableChange own t) (hu : s.cableChange own u) :
    s.cableChange own (if c then t else u) := by
  split
  · exact ht
  · exact hu

theorem State.cableChange_wr {a hi lo v : Nat} (h : mayChange [Win.CBL] own a) : s.cableChange own (s.wr a hi lo v) :=
  ⟨⟨_, s.cbl, rfl⟩, State.regsKept_wr h⟩

theorem State.cableChange_foldl {α : Type} {f : State → α → State} {l : List α}
    (hf : ∀ (s : State), ∀ x ∈ l, s.cableChange own (f s x)) : s.cableChange own (l.foldl f s) := by
  induction l generalizing s with
  | nil => exact .refl
  | cons x l ih =>
    exact (hf s x (List.mem_cons_self ..)).trans (ih fun t y hy => hf t y (List.mem_cons_of_mem _ hy))

theorem windowOf_cons (c : Nat) : windowOf (A.CBL_CONS c) = some Win.CBL := by
  rw [A.CBL_CONS, windowOf, if_pos (by omega), Win.CBL]
  congr 1
  omega

theorem mayChange_cons (c : Nat) : mayChange [Win.CBL] own (A.CBL_CONS c) :=
  mayChange_window (windowOf_cons c) (by simp)

theorem State.missed_cableChange (c : Nat) : s.cableChange own (s.missed c) := State.cableChange_wr (mayChange_cons c)

/-- An event on one cable: dropped, ignored, or on its way. -/
theorem State.enterCable_cableChange (hop : Nat) (p : State × List Nat) (c : Nat) :
    p.1.cableChange own (State.enterCable hop p c).1 := by
  unfold State.enterCable
  extract_lets s cons s' e
  split
  · exact .refl
  · split
    · exact .refl
    · split
      · refine State.cableChange.trans ?_ (State.missed_cableChange cons)
        exact .ite .refl (State.cableChange_wr (mayChange_cons _))
      · exact ⟨⟨s.regs, _, rfl⟩, State.regsKept_of_regs rfl⟩

theorem State.forkOnce_cableChange (p hop : Nat) : s.cableChange own (s.forkOnce p hop).1 := by
  have h : ∀ (l : List Nat) (q : State × List Nat), q.1.cableChange own (l.foldl (State.enterCable hop) q).1 := by
    intro l
    induction l with
    | nil => exact fun _ => .refl
    | cons c l ih => exact fun q => (State.enterCable_cableChange hop q c).trans (ih _)
  exact h _ (s, [])

/-- An event that is forked, and the loop cut it may meet (R265). -/
theorem State.fork_cableChange (p hop : Nat) : s.cableChange own (s.fork p hop) := by
  unfold State.fork
  split
  · exact .refl
  · extract_lets r
    have hr : s.cableChange own r.1 := State.forkOnce_cableChange p hop
    split
    · exact hr
    · have hw : ∀ a ∈ [A.CBL_STAT, A.CBL_CUTCNT, A.CBL_CUTCABLE], mayChange [Win.CBL] own a := by
        intro a ha
        refine mayChange_window (w := Win.CBL) ?_ (by simp)
        revert a
        decide
      have h1 : r.1.cableChange own (r.1.setFlag A.CBL_STAT 0 true) := State.cableChange_wr (hw _ (by simp))
      have h2 := h1.trans (u := (r.1.setFlag A.CBL_STAT 0 true).bump A.CBL_CUTCNT)
        ⟨⟨_, _, rfl⟩, State.regsKept_setWord (hw _ (by simp))⟩
      exact ((hr.trans h2).trans (State.cableChange_wr (hw _ (by simp)))).trans (State.forkOnce_cableChange _ _)

/-- A producer that fires changes the cable matrix and its window alone (R262). -/
theorem State.fire_cableChange (p hop : Nat) : s.cableChange own (s.fire p hop) := by
  unfold State.fire
  split
  · exact State.fork_cableChange p hop
  · exact .refl

end

/-! ## Pins (R325) -/

/-- The flag registers of the six ports' edges. -/
def evtFlags : List Nat := (List.range 6).map fun p => A.PER_P_EVTFLAG p

theorem mem_evtFlags (p : Nat) : A.PER_P_EVTFLAG p ∈ evtFlags := by
  rw [show A.PER_P_EVTFLAG p = A.PER_P_EVTFLAG (p % 6) by simp [A.PER_P_EVTFLAG]]
  exact List.mem_map_of_mem (List.mem_range.2 (Nat.mod_lt _ (by decide)))

theorem State.pinEdge_cableChange (s : State) (pin : Nat) (rising : Bool) :
    s.cableChange evtFlags (s.pinEdge pin rising) := by
  unfold State.pinEdge
  exact .ite ((State.cableChange_wr (mayChange_own (mem_evtFlags _))).trans (State.fire_cableChange _ _)) .refl

theorem State.ownEdges_cableChange (s was : State) : s.cableChange evtFlags (s.ownEdges was) := by
  exact State.cableChange_foldl fun t pin _ => .ite .refl (t.pinEdge_cableChange pin _)

/-! ## What a side action leaves -/

/-- No memory, ring, engine or part of the power controller has changed, and of the registers the cable window and the
edge flags of the ports at most. -/
structure State.sideKept (s t : State) : Prop where
  mem : s.memKept t
  rings : t.rings = s.rings
  eng : t.eng = s.eng
  pwr : t.pwr = s.pwr
  regs : s.regsKept t [Win.CBL] evtFlags

theorem State.memKept.refl {s : State} : s.memKept s := ⟨rfl, rfl, rfl, fun _ => ⟨rfl, rfl⟩⟩

theorem State.sideKept_of_cableChange {s t : State} (h : s.cableChange evtFlags t) : s.sideKept t := by
  obtain ⟨⟨rs, c, rfl⟩, hk⟩ := h
  exact ⟨.refl, rfl, rfl, rfl, hk⟩

theorem State.coexOff_sideKept (s : State) (c : Chain) : s.sideKept (s.coexOff c) := by
  unfold State.coexOff
  split <;> exact ⟨.refl, rfl, rfl, rfl, State.regsKept_of_regs rfl⟩

/-- New limits change the gauge's own record alone (R318). -/
theorem State.limitsEnabled_gau (s : State) (old : Nat) : ∃ g, s.limitsEnabled old = { s with gau := g } := by
  unfold State.limitsEnabled
  generalize List.range 3 = l
  induction l generalizing s with
  | nil => exact ⟨s.gau, rfl⟩
  | cons i l ih =>
    rw [List.foldl_cons]
    split
    · obtain ⟨g, hg⟩ := ih { s with gau := { s.gau with inside := vset s.gau.inside i true } }
      exact ⟨g, hg⟩
    · exact ih s

theorem State.limitsEnabled_sideKept (s : State) (old : Nat) : s.sideKept (s.limitsEnabled old) := by
  obtain ⟨g, hg⟩ := s.limitsEnabled_gau old
  rw [hg]
  exact ⟨.refl, rfl, rfl, rfl, State.regsKept_of_regs rfl⟩

/-! ## Registers without an action, and those with a side action -/

/-- A register lies in the window of its first copy. -/
theorem windowOf_base : ∀ w < 20, ∀ r ∈ windowRegs w, windowOf r.base = some w := by decide +kernel

theorem windowOf_findReg {a k i : Nat} {r : Reg} (h : findReg a = some (r, k, i)) : windowOf a = windowOf r.base := by
  obtain ⟨w, hw, hr, -⟩ := findReg_some h
  rw [hw, windowOf_base w (windowOf_lt hw) r hr]

/-- The registers whose words are written through `State.dataWrite`, but for the last word of the journal's stage. -/
def dataBases : List Nat :=
  [A.SEQ_TBLDATA, A.RING_GPDATA, A.CBL_LVDATA, A.LNK_HOPDATA, A.MSH_PATHDATA, A.MSH_NBRDATA, A.CLK_GATE, A.CBL_LEVERS]

/-- Each of them is a register of its own. -/
theorem findReg_dataBases : ∀ a ∈ dataBases, (findReg a).map (·.1.base) = some a := by decide +kernel

theorem State.dataWrite_none (s : State) {a k i : Nat} {r : Reg} (h : findReg a = some (r, k, i)) (hb : r.base ∉ dataBases)
    (hj : a ≠ A.JNL_STAGE 15) (v : W16) : s.dataWrite a v = none := by
  have ha : a ∉ dataBases := by
    intro hm
    have hbase := findReg_dataBases a hm
    rw [h] at hbase
    cases Option.some.inj hbase
    exact hb hm
  simp only [dataBases, List.mem_cons, List.not_mem_nil, or_false, not_or] at ha
  simp [State.dataWrite, ha, hj]

/-- PER of a periodic channel and the dwell profiles are wider than a word. -/
theorem wide_bases : ∀ w < 20, ∀ r ∈ windowRegs w, r.words = 1 → r.base ≠ A.LNK_DWPROF 1 ∧ r.base ≠ A.CAD_CC_PER 0 := by
  decide +kernel

section
variable {s : State} {r : Reg} {k a : Nat} (who : Initiator) (v : W16)
variable (hfind : findReg a = some (r, k, 0)) (hr : r.words = 1)
include hfind hr

theorem wide_base_ne : r.base ≠ A.LNK_DWPROF 1 ∧ r.base ≠ A.CAD_CC_PER 0 := by
  obtain ⟨w, hw, hm, -⟩ := findReg_some hfind
  exact wide_bases w (windowOf_lt hw) r hm hr

/-- The write of a register that has no action is its store. -/
theorem State.regWrite_store (hb : r.base ∉ actingBases) (hj : a ≠ A.JNL_STAGE 15) :
    s.regWrite who a v = s.regStore r k 0 a v := by
  obtain ⟨hdw, hper⟩ := wide_base_ne hfind hr
  have hdata : r.base ∉ dataBases := fun h => hb ((by decide : dataBases ⊆ actingBases) h)
  have hen : r.base ∉ enBases := fun h => hb ((by decide : enBases ⊆ actingBases) h)
  simp only [actingBases, List.mem_cons, List.not_mem_nil, or_false, not_or] at hb
  have hzero : s.zeroPeriod r.base k v = false := by simp [State.zeroPeriod, hper]
  simp only [State.regWrite, s.dataWrite_none hfind hdata hj v, hfind, hzero]
  -- No branch of any block's actions names the register.
  simp [hen, State.actControl, State.actCadence, State.actRadio, State.actPeripheral, State.actSystem, hb, hdw]
  split <;> rfl

/-- The write of a register with a side action is its store, followed by the action. -/
theorem State.regWrite_side (hb : r.base ∈ sideBases) : (s.regStore r k 0 a v).sideKept (s.regWrite who a v) := by
  have hw := windowOf_findReg hfind
  have hdata : r.base ∉ dataBases := (by decide : ∀ b ∈ sideBases, b ∉ dataBases) _ hb
  have hen : r.base ∉ enBases := (by decide : ∀ b ∈ sideBases, b ∉ enBases) _ hb
  have hj : a ≠ A.JNL_STAGE 15 := by
    rintro rfl
    exact (by decide : ∀ b ∈ sideBases, windowOf b ≠ windowOf (A.JNL_STAGE 15)) _ hb hw.symm
  obtain ⟨-, hper⟩ := wide_base_ne hfind hr
  have hzero : s.zeroPeriod r.base k v = false := by simp [State.zeroPeriod, hper]
  have hedge := State.sideKept_of_cableChange ((s.regStore r k 0 a v).ownEdges_cableChange s)
  simp only [State.regWrite, s.dataWrite_none hfind hdata hj v, hfind, hzero, hw, List.contains_iff_mem, hen, if_false]
  simp only [sideBases, List.mem_cons, List.not_mem_nil, or_false] at hb
  rcases hb with hb | hb | hb | hb | hb | hb | hb <;> simp only [hb]
  · exact State.coexOff_sideKept _ .A
  · exact State.coexOff_sideKept _ .B
  · exact State.limitsEnabled_sideKept _ _
  · exact hedge
  · exact hedge
  · exact hedge
  · exact hedge

end

end Sys2Proof.Machine
end

section
/-!
SUPPORT. Writes to the word address map (O45): a register that stores its fields alone, one with a side action, a hole, an
unmapped address, and a locked debug port.
-/
namespace Sys2Proof.Machine

theorem exec_registerWrite (who : Initiator) (addr : Addr) (v : W16) (s : State) :
    exec (.registerWrite who addr v) s = .next (s.initWrite who addr.toNat v) := rfl

/-- The flag registers of the ports' edges are registers of their own. -/
theorem findReg_evtFlags : ∀ a ∈ evtFlags, (findReg a).map (·.1.base) = some (A.PER_P_EVTFLAG 0) := by decide +kernel

/-- A register with a side action is neither in the cable window nor an edge flag. -/
theorem not_mayChange_side {a k i : Nat} {r : Reg} (hfind : findReg a = some (r, k, i)) (hb : r.base ∈ sideBases) :
    ¬ mayChange [Win.CBL] evtFlags a := by
  rintro (⟨w, hm, hw⟩ | hm)
  · rw [List.mem_singleton.1 hm, windowOf_findReg hfind] at hw
    exact (by decide : ∀ b ∈ sideBases, windowOf b ≠ some Win.CBL) _ hb hw
  · have hbase := findReg_evtFlags a hm
    rw [hfind] at hbase
    exact (by decide : ∀ b ∈ sideBases, b ≠ A.PER_P_EVTFLAG 0) _ hb (Option.some.inj hbase)

section
variable {s : State} {who : Initiator} {addr : Addr} {v : W16} {r : Reg} {k : Nat}
variable (hfind : findReg addr.toNat = some (r, k, 0)) (hr : r.words = 1) (hreach : s.reaches who r.dom)
include hfind hr hreach

/-- A register whose write has no action of its own stores its fields and changes nothing else. -/
theorem execRegisterWrite_store (hb : r.base ∉ actingBases) (hj : addr.toNat ≠ A.JNL_STAGE 15) :
    ∃ t, exec (.registerWrite who addr v) s = .next t ∧ t = { s with regs := t.regs } ∧
      (∀ f ∈ r.fields, t.rd addr.toNat f.hi f.lo = fieldAfter s r k addr.toNat v f) ∧
      (∀ w, windowOf addr.toNat = some w → s.regsKept t [] [addr.toNat, A.FLAGS w]) ∧
      (∀ w, windowOf addr.toNat = some w → s.on (windowDom w) = true → (∃ f ∈ r.fields, fieldRefuses s r k v f) →
        t.flag (A.FLAGS w) 0 = true) := by
  have hmask : serialMask r.base k v.toNat = v.toNat := by
    have hne := (by decide : ∀ b ∈ [A.PER_S_CFG 0, A.PER_S_CTRL 0, A.PER_S_AUX 0], b ∈ actingBases)
    exact serialMask_other (fun h => hb (h ▸ hne _ (by simp))) (fun h => hb (h ▸ hne _ (by simp)))
      fun h => hb (h ▸ hne _ (by simp))
  refine ⟨s.regStore r k 0 addr.toNat v, ?_, State.regStore_regs v hr, State.regStore_field v hr hmask hfind,
    fun _ hw => State.regStore_regsKept v hr hw, fun _ hw hon hf => State.regStore_flag v hr hmask hw hon hf⟩
  rw [exec_registerWrite, State.initWrite_register hfind hreach, State.regWrite_store who v hfind hr hb hj]

/-- A register with a side action stores its fields the same way; the action moves no memory, ring, engine or power state
and of other registers the edge flags and the cable window alone. -/
theorem execRegisterWrite_side (hb : r.base ∈ sideBases) :
    ∃ t, exec (.registerWrite who addr v) s = .next t ∧ s.memKept t ∧ t.rings = s.rings ∧ t.eng = s.eng ∧ t.pwr = s.pwr ∧
      (∀ f ∈ r.fields, t.rd addr.toNat f.hi f.lo = fieldAfter s r k addr.toNat v f) ∧
      ∀ w, windowOf addr.toNat = some w →
        s.regsKept t [Win.CBL] ([addr.toNat, A.FLAGS w] ++ (List.range 6).map fun p => A.PER_P_EVTFLAG p) := by
  have hne := (by decide : ∀ b ∈ sideBases, b ∉ [A.PER_S_CFG 0, A.PER_S_CTRL 0, A.PER_S_AUX 0]) _ hb
  simp only [List.mem_cons, List.not_mem_nil, or_false, not_or] at hne
  have hmask : serialMask r.base k v.toNat = v.toNat := serialMask_other hne.1 hne.2.1 hne.2.2
  obtain ⟨hmem, hrings, heng, hpwr, hregs⟩ := State.regWrite_side (s := s) who v hfind hr hb
  have hown : ¬ mayChange [Win.CBL] evtFlags addr.toNat := not_mayChange_side hfind hb
  have hstore := State.regStore_regs (s := s) (k := k) (a := addr.toNat) v hr
  refine ⟨s.regWrite who addr.toNat v, ?_, ?_, ?_, ?_, ?_, fun f hf => ?_, fun w hw => ?_⟩
  · rw [exec_registerWrite, State.initWrite_register hfind hreach]
  · rw [hstore] at hmem
    exact hmem
  · rw [hrings, hstore]
  · rw [heng, hstore]
  · rw [hpwr, hstore]
  · rw [hregs.rd hown, State.regStore_field v hr hmask hfind f hf]
  · exact ((State.regStore_regsKept v hr hw).mono (by simp) (by simp)).trans (hregs.mono (by simp) (by simp [evtFlags]))

end

/-- Settles O45: one lemma for each kind of address, `execRegisterWrite_store` for a register without an action. -/
theorem registerWriteStores : Obligations.RegisterWriteStores := by
  refine ⟨fun who addr v s r k hfind hr hb hj hreach => execRegisterWrite_store hfind hr hreach hb hj,
    fun who addr v s r k hfind hr hb hreach => execRegisterWrite_side hfind hr hreach hb,
    fun who addr v s w hole hs => ?_, fun who addr v s hun hs => ?_, fun addr v s hlock => ?_⟩
  · have hw := windowOf_hole hole
    refine ⟨(s.rejectIn addr.toNat).errorTo, by rw [exec_registerWrite, State.initWrite_hole hole hs], ?_,
      State.rejectIn_regsKept hw (mayChange_own (by simp)), fun hon => State.rejectIn_flag hw hon⟩
    rw [State.errorTo, State.rejectIn_regs]
  · rw [exec_registerWrite, State.initWrite_unmapped hun hs, State.errorTo]
  · rw [exec_registerWrite, State.initWrite_shutOut (by simp [State.shutOut, hlock]), State.errorTo]

end Sys2Proof.Machine
end

section
/-!
SUPPORT. Data registers behind address registers (O46): the access reaches `State.dataWrite` or `State.dataRead`, which
write or show the word that the address register selects and move it on.
-/
namespace Sys2Proof.Machine

/-! ## How the access gets there -/

theorem State.regWrite_data {s t : State} {a : Nat} {v : W16} (h : s.dataWrite a v = some t) (who : Initiator) :
    s.regWrite who a v = t := by simp [State.regWrite, h]

section
variable {s : State} {who : Initiator} {a d : Nat} (hd : (findReg a).map (·.1.dom) = some d) (hr : s.reaches who d)
include hd hr

theorem State.initWrite_data {t : State} {v : W16} (h : s.dataWrite a v = some t) : s.initWrite who a v = t := by
  obtain ⟨⟨r, k, i⟩, hfind, hdom⟩ := Option.map_eq_some_iff.1 hd
  subst hdom
  rw [State.initWrite_register hfind hr, State.regWrite_data h]

theorem State.initRead_data {x : W16} {t : State} (h : s.dataRead a = some (x, t)) :
    s.initRead who a = { t with lastRead := x } := by
  obtain ⟨⟨r, k, i⟩, hfind, hdom⟩ := Option.map_eq_some_iff.1 hd
  subst hdom
  rw [State.initRead_register hfind hr, State.regRead, h]

/-- The row of a data register, given the word it writes. -/
theorem access_write {t : State} {v : W16} (h : s.dataWrite a v = some t) :
    (.next (s.initAccess who a (some v)) : Host.Outcome State Fault Refusal) = .next t :=
  congrArg _ (State.initWrite_data hd hr h)

/-- The row of a data register that is read. -/
theorem access_read {x : W16} {t : State} (h : s.dataRead a = some (x, t)) :
    (.next (s.initAccess who a none) : Host.Outcome State Fault Refusal) = .next { t with lastRead := x } :=
  congrArg _ (State.initRead_data hd hr h)

end

/-! ## The word read goes to the initiator, and no register sees it -/

theorem State.rd_lastRead (t : State) (x : W16) (a hi lo : Nat) : { t with lastRead := x }.rd a hi lo = t.rd a hi lo := rfl

theorem State.word_lastRead (t : State) (x : W16) (a : Nat) : { t with lastRead := x }.word a = t.word a := rfl

theorem State.regsKept.lastRead {s t : State} {ws own : List Nat} (h : s.regsKept t ws own) (x : W16) :
    s.regsKept { t with lastRead := x } ws own := h

/-! ## An address register moves on -/

theorem State.rd_nextAddr (s : State) {a hi n : Nat} (hh : hi < 16) (hn : 0 < n) (hle : n ≤ 2 ^ (hi + 1)) :
    (s.nextAddr a hi n).rd a hi 0 = (s.rd a hi 0 + 1) % n := by
  rw [State.nextAddr, s.rd_wr hh, Nat.sub_zero]
  exact Nat.mod_eq_of_lt (Nat.lt_of_lt_of_le (Nat.mod_lt _ hn) hle)

theorem State.regsKept_nextAddr {s : State} {a hi n : Nat} {ws own : List Nat} (h : mayChange ws own a) :
    s.regsKept (s.nextAddr a hi n) ws own := State.regsKept_wr h

/-! ## A refused write -/

/-- A write that is refused in a window whose flag register is on. -/
theorem State.rejectIn_on {s : State} {a w : Nat} (hw : windowOf a = some w) (hon : s.on (windowDom w) = true) :
    s.rejectIn a = s.rejected w := by rw [State.rejectIn_eq hw, if_pos hon]

theorem State.flag_rejected (s : State) (w : Nat) : (s.rejected w).flag (A.FLAGS w) 0 = true := s.flag_setFlag (by decide)

theorem State.regsKept_rejected {s : State} {w : Nat} {ws own : List Nat} (h : mayChange ws own (A.FLAGS w)) :
    s.regsKept (s.rejected w) ws own := State.regsKept_wr h

theorem State.rd_rejected (s : State) {w a : Nat} (h : a ≠ A.FLAGS w) (hi lo : Nat) :
    (s.rejected w).rd a hi lo = s.rd a hi lo := s.rd_wr_ne _ _ _ _ _ h

theorem State.word_rejected (s : State) {w a : Nat} (h : a ≠ A.FLAGS w) : (s.rejected w).word a = s.word a :=
  s.word_wr_ne _ _ _ h

/-! ## The route-sheet table (R39) -/

section
variable {s : State} {who : Initiator} (hr : s.reaches who 10)
include hr

theorem execSeqTbldata_write (v : W16) :
    ∃ t, exec (.seqTbldataAccess who (some v)) s = .next t ∧
      (∀ a, cellsGet zeroWord t.seq.table a =
        if a = (s.word A.SEQ_TBLADDR).toNat ∧ s.committed = false then v else cellsGet zeroWord s.seq.table a) ∧
      t.word A.SEQ_TBLADDR = s.word A.SEQ_TBLADDR + 1 ∧ (s.committed = true → t.flag (A.FLAGS 0) 0 = true) ∧
      t = { s with regs := t.regs, seq := { s.seq with table := t.seq.table } } ∧
      s.regsKept t [] ([A.SEQ_TBLADDR] ++ if s.committed then [A.FLAGS 0] else []) := by
  refine ⟨_, access_write (a := A.SEQ_TBLDATA) (by decide +kernel) hr rfl, ?_⟩
  cases hc : s.committed with
  | false =>
    refine ⟨fun a => ?_, State.word_setWord_same .., fun h => (by cases h), rfl,
      State.regsKept_setWord (mayChange_own (by simp))⟩
    simp only [and_true]
    exact cellsGet_put ..
  | true =>
    have hrej : s.rejectIn A.SEQ_TBLDATA = s.rejected 0 := State.rejectIn_on (by decide) hr.2
    simp only [if_true, hrej]
    refine ⟨fun a => by simp; rfl, ?_, fun _ => ?_, rfl, ?_⟩
    · rw [State.tblNext, State.word_setWord_same, s.word_rejected (by decide)]
    · rw [State.tblNext, State.flag_setWord_ne _ _ _ (by decide), s.flag_rejected]
    · exact (State.regsKept_rejected (mayChange_own (by simp))).trans (State.regsKept_setWord (mayChange_own (by simp)))

theorem execSeqTbldata_read :
    ∃ t, exec (.seqTbldataAccess who none) s = .next t ∧
      t.lastRead = cellsGet zeroWord s.seq.table (s.word A.SEQ_TBLADDR).toNat ∧
      t.word A.SEQ_TBLADDR = s.word A.SEQ_TBLADDR + 1 ∧ t = { s with regs := t.regs, lastRead := t.lastRead } ∧
      s.regsKept t [] [A.SEQ_TBLADDR] :=
  ⟨_, access_read (a := A.SEQ_TBLDATA) (by decide +kernel) hr rfl, rfl,
    (State.word_lastRead ..).trans (State.word_setWord_same ..), rfl,
    (State.regsKept_setWord (mayChange_own (by simp))).lastRead _⟩

end

end Sys2Proof.Machine
end

section
/-!
SUPPORT. The data registers of the cable gates, the hop table, the grant patterns and the path table (O46).
-/
namespace Sys2Proof.Machine

/-! ## The gate words of the cables (R266) -/

theorem lowBits_five (v : W16) : BitVec.ofNat 16 (v.toNat % 32) = v &&& 0x1F := by
  refine BitVec.eq_of_toNat_eq ?_
  rw [BitVec.toNat_and, show (0x1F : W16).toNat = 2 ^ 5 - 1 from rfl, Nat.and_two_pow_sub_one_eq_mod, BitVec.toNat_ofNat]
  omega

theorem State.dataWrite_lvdata (s : State) (v : W16) : s.dataWrite A.CBL_LVDATA v =
    some ((if s.committed then s.rejectIn A.CBL_LVDATA
      else { s with cbl := { s.cbl with
        gate := cellsPut zeroWord s.cbl.gate (s.rd A.CBL_LVADDR 9 0) (v &&& 0x1F) } }).nextAddr A.CBL_LVADDR 9 640) := by
  rw [← lowBits_five]
  rfl

section
variable {s : State} {who : Initiator} (hr : s.reaches who 10)
include hr

theorem execCblLvdata_write (v : W16) :
    ∃ t, exec (.cblLvdataAccess who (some v)) s = .next t ∧
      (∀ c, cellsGet zeroWord t.cbl.gate c =
        if c = s.rd A.CBL_LVADDR 9 0 ∧ s.committed = false then v &&& 0x1F else cellsGet zeroWord s.cbl.gate c) ∧
      t.rd A.CBL_LVADDR 9 0 = (s.rd A.CBL_LVADDR 9 0 + 1) % 640 ∧ (s.committed = true → t.flag (A.FLAGS 4) 0 = true) ∧
      t = { s with regs := t.regs, cbl := { s.cbl with gate := t.cbl.gate } } ∧
      s.regsKept t [] ([A.CBL_LVADDR] ++ if s.committed then [A.FLAGS 4] else []) := by
  refine ⟨_, access_write (by decide +kernel) hr (s.dataWrite_lvdata v), ?_⟩
  cases hc : s.committed with
  | false =>
    refine ⟨fun a => ?_, State.rd_nextAddr _ (by decide) (by decide) (by decide), fun h => (by cases h), rfl,
      State.regsKept_nextAddr (mayChange_own (by simp))⟩
    simp only [and_true]
    exact cellsGet_put ..
  | true =>
    have hrej : s.rejectIn A.CBL_LVDATA = s.rejected 4 := State.rejectIn_on (by decide) hr.2
    simp only [if_true, hrej]
    refine ⟨fun a => by simp; rfl, ?_, fun _ => ?_, rfl, ?_⟩
    · rw [State.rd_nextAddr _ (by decide) (by decide) (by decide), s.rd_rejected (by decide)]
    · rw [State.nextAddr, State.flag_wr_ne _ _ _ _ _ (by decide), s.flag_rejected]
    · exact (State.regsKept_rejected (mayChange_own (by simp))).trans (State.regsKept_nextAddr (mayChange_own (by simp)))

theorem execCblLvdata_read :
    ∃ t, exec (.cblLvdataAccess who none) s = .next t ∧ t.lastRead = cellsGet zeroWord s.cbl.gate (s.rd A.CBL_LVADDR 9 0) ∧
      t.rd A.CBL_LVADDR 9 0 = (s.rd A.CBL_LVADDR 9 0 + 1) % 640 ∧ t = { s with regs := t.regs, lastRead := t.lastRead } ∧
      s.regsKept t [] [A.CBL_LVADDR] :=
  ⟨_, access_read (a := A.CBL_LVDATA) (by decide +kernel) hr rfl, rfl,
    (State.rd_lastRead ..).trans (s.rd_nextAddr (by decide) (by decide) (by decide)), rfl,
    (State.regsKept_nextAddr (mayChange_own (by simp))).lastRead _⟩

end

/-! ## The hop table (R192, R215) -/

theorem State.rd_hopNext (s : State) : s.hopNext.rd A.LNK_HOPADDR 6 0 = (s.rd A.LNK_HOPADDR 6 0 + 1) % 128 := by
  rw [State.hopNext, s.rd_wr (by decide)]
  exact Nat.mod_mod _ _

/-- CHAIN stays while ENTRY moves on. -/
theorem State.rd_hopNext_chain (s : State) : s.hopNext.rd A.LNK_HOPADDR 7 7 = s.rd A.LNK_HOPADDR 7 7 :=
  s.rd_wr_apart (by decide) (.inr (by decide))

theorem State.dataWrite_hopdata (s : State) (v : W16) : s.dataWrite A.LNK_HOPDATA v =
    some ((if s.committed then s.rejectIn A.LNK_HOPDATA
      else { s with lnk := { s.lnk with
        hops := cellsPut zeroWord s.lnk.hops (s.rd A.LNK_HOPADDR 7 0) (v &&& 0xC3FF) } }).hopNext) := rfl

section
variable {s : State} {who : Initiator} (hr : s.reaches who 11)
include hr

theorem execLnkHopdata_write (v : W16) :
    ∃ t, exec (.lnkHopdataAccess who (some v)) s = .next t ∧
      (∀ i, cellsGet zeroWord t.lnk.hops i =
        if i = s.rd A.LNK_HOPADDR 7 0 ∧ s.committed = false then v &&& 0xC3FF else cellsGet zeroWord s.lnk.hops i) ∧
      t.rd A.LNK_HOPADDR 6 0 = (s.rd A.LNK_HOPADDR 6 0 + 1) % 128 ∧ t.rd A.LNK_HOPADDR 7 7 = s.rd A.LNK_HOPADDR 7 7 ∧
      (s.committed = true → t.flag (A.FLAGS 10) 0 = true) ∧
      t = { s with regs := t.regs, lnk := { s.lnk with hops := t.lnk.hops } } ∧
      s.regsKept t [] ([A.LNK_HOPADDR] ++ if s.committed then [A.FLAGS 10] else []) := by
  refine ⟨_, access_write (by decide +kernel) hr (s.dataWrite_hopdata v), ?_⟩
  cases hc : s.committed with
  | false =>
    refine ⟨fun a => ?_, State.rd_hopNext _, State.rd_hopNext_chain _, fun h => (by cases h), rfl,
      State.regsKept_wr (mayChange_own (by simp))⟩
    simp only [and_true]
    exact cellsGet_put ..
  | true =>
    have hrej : s.rejectIn A.LNK_HOPDATA = s.rejected 10 := State.rejectIn_on (by decide) hr.2
    simp only [if_true, hrej]
    refine ⟨fun a => by simp; rfl, ?_, ?_, fun _ => ?_, rfl, ?_⟩
    · rw [State.rd_hopNext, s.rd_rejected (by decide)]
    · rw [State.rd_hopNext_chain, s.rd_rejected (by decide)]
    · rw [State.hopNext, State.flag_wr_ne _ _ _ _ _ (by decide), s.flag_rejected]
    · exact (State.regsKept_rejected (mayChange_own (by simp))).trans (State.regsKept_wr (mayChange_own (by simp)))

theorem execLnkHopdata_read :
    ∃ t, exec (.lnkHopdataAccess who none) s = .next t ∧ t.lastRead = cellsGet zeroWord s.lnk.hops (s.rd A.LNK_HOPADDR 7 0) ∧
      t.rd A.LNK_HOPADDR 6 0 = (s.rd A.LNK_HOPADDR 6 0 + 1) % 128 ∧ t.rd A.LNK_HOPADDR 7 7 = s.rd A.LNK_HOPADDR 7 7 ∧
      t = { s with regs := t.regs, lastRead := t.lastRead } ∧ s.regsKept t [] [A.LNK_HOPADDR] :=
  ⟨_, access_read (a := A.LNK_HOPDATA) (by decide +kernel) hr rfl, rfl,
    (State.rd_lastRead ..).trans s.rd_hopNext, (State.rd_lastRead ..).trans s.rd_hopNext_chain, rfl,
    (State.regsKept_wr (mayChange_own (by simp))).lastRead _⟩

end

/-! ## The grant patterns (R69) -/

/-- Nibbles replaced one by one: each of the first n that `ok` lets through reads what was put there, every other one as
it was. -/
theorem bits_foldl_nibbles (ok : Nat → Bool) (c : Nat → Nat) (old n m : Nat) :
    bits ((List.range n).foldl (fun w j => if ok j then putBits w (4 * j + 3) (4 * j) (c j) else w) old) (4 * m + 3) (4 * m) =
      if m < n ∧ ok m = true then c m % 16 else bits old (4 * m + 3) (4 * m) := by
  induction n with
  | zero => simp
  | succ n ih =>
    rw [List.range_succ, List.foldl_append, List.foldl_cons, List.foldl_nil]
    by_cases hmn : m = n
    · subst hmn
      cases hok : ok m with
      | true =>
        have hwidth : 4 * m + 3 + 1 - 4 * m = 4 := by omega
        rw [if_pos rfl, bits_putBits, if_pos ⟨by omega, rfl⟩]
        exact congrArg (fun width => c m % 2 ^ width) hwidth
      | false => simpa [hok] using ih
    · have hlt : m < n + 1 ↔ m < n := by omega
      simp only [hlt]
      rw [← ih]
      split
      · exact bits_putBits_apart (by omega)
      · rfl

/-- Code m of a pattern word is not a reserved one. -/
def codeOk (v m : Nat) : Bool := bits v (4 * m + 3) (4 * m) < 12 || bits v (4 * m + 3) (4 * m) = 15

/-- The pattern word that a write of v over the word old leaves. -/
def patternWord (v old : Nat) : Nat :=
  (List.range 4).foldl
    (fun w m => if codeOk v m then putBits w (4 * m + 3) (4 * m) (bits v (4 * m + 3) (4 * m)) else w) old

/-- Each of its four codes is the one written, or, where that is reserved, as it was. -/
theorem bits_patternWord (v old : Nat) {m : Nat} (hm : m < 4) :
    bits (BitVec.ofNat 16 (patternWord v old)).toNat (4 * m + 3) (4 * m) =
      if bits v (4 * m + 3) (4 * m) < 12 ∨ bits v (4 * m + 3) (4 * m) = 15 then bits v (4 * m + 3) (4 * m)
      else bits old (4 * m + 3) (4 * m) := by
  have hlt : bits v (4 * m + 3) (4 * m) < 16 := by
    simpa [show 4 * m + 3 + 1 - 4 * m = 4 by omega] using bits_lt v (4 * m + 3) (4 * m)
  rw [bits_ofNat (by omega), patternWord, bits_foldl_nibbles, Nat.mod_eq_of_lt hlt]
  simp [hm, codeOk]

/-- A write of a pattern word stores it, and flags a reserved code. -/
theorem State.patternWrite_eq {s : State} (hon : s.on 8 = true) (v : W16) : ∃ rs ec, s.patternWrite v =
      { s with regs := rs, ecc := ec,
               patterns := cellsPut onesWord s.patterns (s.rd A.RING_GPADDR 12 0) (BitVec.ofNat 16
                 (patternWord v.toNat (cellsGet onesWord s.patterns (s.rd A.RING_GPADDR 12 0)).toNat)) } ∧
    s.regsKept (s.patternWrite v) [] [A.FLAGS 3] := by
  unfold State.patternWrite
  extract_lets i old ok new u
  split
  · exact ⟨s.regs, _, rfl, State.regsKept_of_regs rfl⟩
  · rw [State.rejectIn_on (w := 3) (by decide) (show u.on 8 = true from hon)]
    exact ⟨_, _, rfl, (State.regsKept_rejected (mayChange_own (by simp)) : u.regsKept _ _ _)⟩

theorem State.dataWrite_gpdata (s : State) (v : W16) : s.dataWrite A.RING_GPDATA v =
    some ((if s.committed then s.rejectIn A.RING_GPDATA else s.patternWrite v).nextAddr A.RING_GPADDR 12 8192) := rfl

/-- A read meets a bit error at most: it counts one, and changes no word. -/
theorem State.eccMeets_eq (s : State) (mem a counter : Nat) : ∃ rs ec, (s.eccMeets mem a counter).2 =
    { s with regs := rs, ecc := ec } ∧ s.regsKept (s.eccMeets mem a counter).2 [] [counter] := by
  unfold State.eccMeets
  split
  · exact ⟨_, _, rfl, State.regsKept.refl⟩
  · split
    · exact ⟨_, _, rfl, State.regsKept.refl⟩
    · split
      · exact ⟨_, _, rfl, State.regsKept.refl⟩
      · refine ⟨_, _, rfl, ?_⟩
        exact State.regsKept.trans (State.regsKept_of_regs rfl) (State.regsKept_setWord (mayChange_own (by simp)))

section
variable {s : State} {who : Initiator} (hr : s.reaches who 8)
include hr

theorem execRingGpdata_write (v : W16) :
    (let i := s.rd A.RING_GPADDR 12 0
     ∃ t, exec (.ringGpdataAccess who (some v)) s = .next t ∧
       (∀ m, m < 4 → (let c := bits v.toNat (4 * m + 3) (4 * m)
         bits (cellsGet onesWord t.patterns i).toNat (4 * m + 3) (4 * m) =
           if s.committed = false ∧ (c < 12 ∨ c = 15) then c
           else bits (cellsGet onesWord s.patterns i).toNat (4 * m + 3) (4 * m))) ∧
       (∀ a, a ≠ i → cellsGet onesWord t.patterns a = cellsGet onesWord s.patterns a) ∧
       t.rd A.RING_GPADDR 12 0 = (i + 1) % 8192 ∧ (s.committed = true → t.flag (A.FLAGS 3) 0 = true) ∧ t.sram = s.sram ∧
       t.mram = s.mram ∧ t.rings = s.rings ∧ s.regsKept t [] [A.RING_GPADDR, A.FLAGS 3]) := by
  intro i
  refine ⟨_, access_write (by decide +kernel) hr (s.dataWrite_gpdata v), ?_⟩
  cases hc : s.committed with
  | false =>
    obtain ⟨rs, ec, he, hk⟩ := State.patternWrite_eq hr.2 v
    have hpat : ∀ a, cellsGet onesWord (s.patternWrite v).patterns a = if a = i then BitVec.ofNat 16
        (patternWord v.toNat (cellsGet onesWord s.patterns i).toNat) else cellsGet onesWord s.patterns a := by
      rw [he]
      exact fun a => cellsGet_put ..
    simp only [Bool.false_eq_true, if_false]
    refine ⟨fun m hm => ?_, fun a ha => ?_, ?_, fun h => h.elim, ?_, ?_, ?_, ?_⟩
    · simp only [true_and]
      rw [← bits_patternWord v.toNat _ hm]
      exact congrArg (fun x : W16 => bits x.toNat _ _) ((hpat i).trans (if_pos rfl))
    · exact (hpat a).trans (if_neg ha)
    · rw [State.rd_nextAddr _ (by decide) (by decide) (by decide), hk.rd (by decide)]
    · show (s.patternWrite v).sram = s.sram
      rw [he]
    · show (s.patternWrite v).mram = s.mram
      rw [he]
    · show (s.patternWrite v).rings = s.rings
      rw [he]
    · exact (hk.mono (List.Subset.refl _) (by simp)).trans (State.regsKept_nextAddr (mayChange_own (by simp)))
  | true =>
    have hrej : s.rejectIn A.RING_GPDATA = s.rejected 3 := State.rejectIn_on (by decide) hr.2
    simp only [if_true, hrej]
    refine ⟨fun m hm => by simp; rfl, fun a _ => rfl, ?_, fun _ => ?_, rfl, rfl, rfl, ?_⟩
    · rw [State.rd_nextAddr _ (by decide) (by decide) (by decide), s.rd_rejected (by decide)]
    · rw [State.nextAddr, State.flag_wr_ne _ _ _ _ _ (by decide), s.flag_rejected]
    · exact (State.regsKept_rejected (mayChange_own (by simp))).trans (State.regsKept_nextAddr (mayChange_own (by simp)))

theorem execRingGpdata_read :
    ∃ t, exec (.ringGpdataAccess who none) s = .next t ∧ t.lastRead = cellsGet onesWord s.patterns (s.rd A.RING_GPADDR 12 0) ∧
      t.rd A.RING_GPADDR 12 0 = (s.rd A.RING_GPADDR 12 0 + 1) % 8192 ∧ s.memKept t ∧ t.rings = s.rings ∧
      s.regsKept t [] [A.RING_GPADDR, A.PWR_ECCCNT] := by
  obtain ⟨rs, ec, he, hk⟩ := s.eccMeets_eq 0 (s.rd A.RING_GPADDR 12 0) A.PWR_ECCCNT
  refine ⟨_, access_read (a := A.RING_GPDATA) (by decide +kernel) hr rfl, rfl, ?_, ?_, ?_, ?_⟩
  · rw [State.rd_lastRead, State.rd_nextAddr _ (by decide) (by decide) (by decide), hk.rd (by decide)]
  · rw [he]
    exact .refl
  · rw [he]
    rfl
  · exact (hk.mono (List.Subset.refl _) (by simp)).trans
      ((State.regsKept_nextAddr (mayChange_own (by simp))).lastRead _)

end

end Sys2Proof.Machine
end

section
/-!
SUPPORT. What a hardware post and what comes with it (R252: accesses through a port, demand wakes, refused entries, breach
records, events) leave: MRAM, the neighbour table, and every register outside four windows. Each lemma follows a state t
that has kept them so far through one operation more.
-/
namespace Sys2Proof.Machine

/-- An address between a window's first word and its last lies in it (R24). -/
theorem windowOf_eq {a w : Nat} (hw : w < 20) (hlo : 0x400000 + w * 0x1000 ≤ a) (hhi : a < 0x401000 + w * 0x1000) :
    windowOf a = some w := by
  rw [windowOf, if_pos (by omega)]
  congr 1
  omega

/-- The windows of the sequencer, the power controller, the rings and the cables. -/
def postWindows : List Nat := [Win.SEQ, Win.PWR, Win.RING, Win.CBL]

/-- t has the neighbour table and MRAM of s, and its registers outside those windows and `own`. -/
structure State.postKept (own : List Nat) (s t : State) : Prop where
  nbr : t.msh.nbr = s.msh.nbr
  mram : t.mram = s.mram
  regs : s.regsKept t postWindows own

variable {own : List Nat} {s t u : State}

namespace State.postKept

theorem refl : s.postKept own s := ⟨rfl, rfl, .refl⟩

theorem trans (h : s.postKept own t) (h' : t.postKept own u) : s.postKept own u :=
  ⟨h'.nbr.trans h.nbr, h'.mram.trans h.mram, h.regs.trans h'.regs⟩

theorem ite {c : Prop} [Decidable c] (ht : s.postKept own t) (hu : s.postKept own u) :
    s.postKept own (if c then t else u) := by
  split
  · exact ht
  · exact hu

theorem foldl {α : Type} {f : State → α → State} (hf : ∀ (t : State) (x : α), s.postKept own t → s.postKept own (f t x))
    (l : List α) (h : s.postKept own t) : s.postKept own (l.foldl f t) := by
  induction l generalizing t with
  | nil => exact h
  | cons x l ih => exact ih (hf t x h)

/-- A change that is no register's, MRAM's or the neighbour table's. -/
theorem other (h : s.postKept own t) (hn : u.msh.nbr = t.msh.nbr) (hm : u.mram = t.mram) (hr : u.regs = t.regs) :
    s.postKept own u := h.trans ⟨hn, hm, State.regsKept_of_regs hr⟩

theorem setWord {a : Nat} {v : W16} (ha : mayChange postWindows own a) (h : s.postKept own t) :
    s.postKept own (t.setWord a v) := h.trans ⟨rfl, rfl, State.regsKept_setWord ha⟩

theorem wr {a hi lo v : Nat} (ha : mayChange postWindows own a) (h : s.postKept own t) : s.postKept own (t.wr a hi lo v) :=
  h.setWord ha

end State.postKept

/-- An address of one of the four windows. -/
theorem mayChange_post {a w : Nat} (hw : w ∈ postWindows) (hlo : 0x400000 + w * 0x1000 ≤ a)
    (hhi : a < 0x401000 + w * 0x1000) : mayChange postWindows own a :=
  mayChange_window (windowOf_eq ((by decide : ∀ w ∈ postWindows, w < 20) w hw) hlo hhi) hw

theorem mayChange_SEQ {a : Nat} (hlo : 0x400000 ≤ a) (hhi : a < 0x401000) : mayChange postWindows own a :=
  mayChange_post (w := Win.SEQ) (by decide) hlo hhi

theorem mayChange_PWR {a : Nat} (hlo : 0x401000 ≤ a) (hhi : a < 0x402000) : mayChange postWindows own a :=
  mayChange_post (w := Win.PWR) (by decide) hlo hhi

theorem mayChange_RING {a : Nat} (hlo : 0x403000 ≤ a) (hhi : a < 0x404000) : mayChange postWindows own a :=
  mayChange_post (w := Win.RING) (by decide) hlo hhi

/-! ## Breach records, events and the power controller's queue -/

theorem State.fire_postKept {p hop : Nat} (h : s.postKept own t) : s.postKept own (t.fire p hop) := by
  obtain ⟨⟨rs, c, he⟩, hk⟩ := State.fire_cableChange (own := []) (s := t) p hop
  refine h.trans ⟨?_, ?_, hk.mono (by decide) (by simp)⟩
  · rw [he]
  · rw [he]

theorem State.breach_postKept {cls status task unit : Nat} {entry : Option (Nat × Nat)} (h : s.postKept own t) :
    s.postKept own (t.breach cls status entry task unit) := by
  have hcnt : mayChange postWindows own (A.SEQ_BRCNT cls) := by
    apply mayChange_SEQ <;> simp only [A.SEQ_BRCNT] <;> omega
  have hlog : mayChange postWindows own A.SEQ_BRLOGSTAT := mayChange_SEQ (by decide) (by decide)
  unfold State.breach
  refine .ite h ?_
  extract_lets w1 r x log y
  have hx : s.postKept own x := h.setWord hcnt
  have hy : s.postKept own y := .ite (.wr hlog (hx.other rfl rfl rfl)) (hx.wr hlog)
  exact State.fire_postKept hy

theorem State.setQueue_postKept {q : List Transition} (h : s.postKept own t) : s.postKept own (t.setQueue q) :=
  .wr (mayChange_PWR (by decide) (by decide)) (h.other rfl rfl rfl)

theorem State.demandWake_postKept {d bank port task : Nat} {entry : Option (Nat × Nat)} (h : s.postKept own t) :
    s.postKept own (t.demandWake d bank port entry task) :=
  State.setQueue_postKept (State.breach_postKept (.setWord (mayChange_PWR (by decide) (by decide))
    (h.setWord (mayChange_PWR (by decide) (by decide)))))

theorem State.wakeFor_postKept {d bank port task : Nat} {entry : Option (Nat × Nat)} (h : s.postKept own t) :
    s.postKept own (t.wakeFor d bank port entry task) := .ite h (State.demandWake_postKept h)

theorem State.setBankState_postKept {b v : Nat} (h : s.postKept own t) : s.postKept own (t.setBankState b v) := by
  refine h.wr ?_
  apply mayChange_PWR <;> simp only [A.PWR_BANKSTATE] <;> omega

theorem State.setDomState_postKept {d v : Nat} (h : s.postKept own t) : s.postKept own (t.setDomState d v) := by
  refine .ite h (h.wr ?_)
  apply mayChange_PWR <;> simp only [A.PWR_DSTAT] <;> omega

theorem State.endTransition_postKept (h : s.postKept own t) : s.postKept own t.endTransition :=
  .wr (mayChange_PWR (by decide) (by decide)) (h.other rfl rfl rfl)

theorem State.abortEntry_postKept (h : s.postKept own t) : s.postKept own t.abortEntry := by
  unfold State.abortEntry
  split
  · exact h
  · exact State.endTransition_postKept (State.setDomState_postKept
      (.foldl (fun _ _ => State.setBankState_postKept) _ h))

theorem State.refuseEntry_postKept {reason block : Nat} (h : s.postKept own t) :
    s.postKept own (t.refuseEntry reason block) := by
  unfold State.refuseEntry
  split
  · exact h
  · exact State.abortEntry_postKept (State.fire_postKept (.setWord (mayChange_PWR (by decide) (by decide))
      (.setWord (mayChange_PWR (by decide) (by decide)) (State.breach_postKept h))))

/-! ## Accesses through a port (R18, R19, R70) -/

theorem State.reach_postKept {d bank block port : Nat} {ram : Bool} (h : s.postKept own t) :
    s.postKept own (t.reach d bank ram block port).2 := by
  unfold State.reach
  split
  · exact h
  extract_lets down
  split
  · split
    · exact State.refuseEntry_postKept h
    · exact h
  split
  · exact h
  split
  · exact h
  · exact State.wakeFor_postKept h

theorem State.portReach_postKept {port bank : Nat} (h : s.postKept own t) : s.postKept own (t.portReach port bank) :=
  .ite ((State.reach_postKept h).other rfl rfl rfl) (State.reach_postKept h)

theorem State.offSlotRecords_postKept {n : Nat} (h : s.postKept own t) : s.postKept own (t.offSlotRecords n) := by
  induction n generalizing t with
  | zero => exact h
  | succ n ih => exact ih (State.breach_postKept h)

theorem State.portTouch_postKept {port a n : Nat} (h : s.postKept own t) : s.postKept own (t.portTouch port a n) := by
  have hw : s.postKept own (t.portWake port a n) := .ite h (.foldl (fun _ _ => State.portReach_postKept) _ h)
  exact .ite (State.offSlotRecords_postKept hw) hw

/-! ## The post -/

theorem State.setRing_postKept {n : Nat} {r : Ring} (h : s.postKept own t) : s.postKept own (t.setRing n r) :=
  h.other rfl rfl rfl

theorem State.sramPut_postKept {a : Nat} {v : W16} (h : s.postKept own t) : s.postKept own (t.sramPut a v) :=
  .ite (h.other rfl rfl rfl) h

theorem State.sramPuts_postKept {a : Nat} {ws : List W16} (h : s.postKept own t) : s.postKept own (t.sramPuts a ws) := by
  induction ws generalizing t a with
  | nil => exact h
  | cons w ws ih => exact ih (State.sramPut_postKept h)

theorem State.setRingFlag_postKept {n b : Nat} {v : Bool} (h : s.postKept own t) :
    s.postKept own (t.setFlag (A.RING_STAT n) b v) := by
  refine h.wr ?_
  apply mayChange_RING <;> simp only [A.RING_STAT] <;> omega

theorem State.touchPost_postKept {n port : Nat} (h : s.postKept own t) : s.postKept own (t.touchPost n port) :=
  State.portTouch_postKept (State.portTouch_postKept h)

theorem State.ringEvent_postKept {n : Nat} (h : s.postKept own t) : s.postKept own (t.ringEvent n) :=
  .ite (State.fire_postKept h) h

theorem State.postReserved_postKept {n : Nat} {ws : List W16} (h : s.postKept own t) :
    s.postKept own (t.postReserved n ws) := by
  unfold State.postReserved
  split
  · exact h
  · have hp := fun port => State.touchPost_postKept (n := n) (port := port) h
    refine .ite h (.ite (State.setRing_postKept (hp _)) (State.ringEvent_postKept (State.sramPut_postKept
      (State.setRing_postKept (State.setRingFlag_postKept (State.setRing_postKept ?_))))))
    exact .ite (hp _) (State.sramPuts_postKept (hp _))

theorem State.post_postKept {n port : Nat} {ws : List W16} (h : s.postKept own t) : s.postKept own (t.post n port ws).2 := by
  unfold State.post
  split
  · exact h
  split
  · exact State.postReserved_postKept (State.setRingFlag_postKept (State.setRing_postKept h))
  · exact State.setRing_postKept (.ite (State.touchPost_postKept h) h)

/-! ## Mesh events (R243, R244) -/

/-- The registers of the mesh that an event of a node losing its time source changes. -/
def meshOwn : List Nat := [A.MSH_TSTAT, A.MSH_EVTDROPCNT]

theorem State.meshEvent_postKept {evt status nbr origin seq : Nat} {value : Int} (h : s.postKept meshOwn t) :
    s.postKept meshOwn (t.meshEvent evt status nbr origin seq value) := by
  unfold State.meshEvent
  extract_lets ws p
  have hp : s.postKept meshOwn p.2 := State.post_postKept h
  exact .ite (State.fire_postKept (hp.other rfl rfl rfl)) (h.setWord (mayChange_own (by decide)))

/-- A node that is left without a time source (R225). -/
theorem State.checkSynced_postKept (h : s.postKept meshOwn t) : s.postKept meshOwn t.checkSynced := by
  unfold State.checkSynced
  exact .ite (State.meshEvent_postKept (h.wr (mayChange_own (by decide)))) h

/-- A node that is neither synced nor lead has nothing to lose. -/
theorem State.checkSynced_of_stat (h : s.rd A.MSH_TSTAT 15 13 = 0 ∨ s.rd A.MSH_TSTAT 15 13 = 2) : s.checkSynced = s := by
  rcases h with h | h <;> simp [State.checkSynced, h]

end Sys2Proof.Machine
end

section
/-!
SUPPORT. The data registers of the path and neighbour tables (O46), and the obligation itself.
-/
namespace Sys2Proof.Machine

/-! ## The path table (R235, R246) -/

/-- The path word that a write of x over the word old leaves: VALID as written, and CLASS and NBR unless the values
written are reserved. -/
def pathEntry (x old : Nat) : Nat :=
  let w := putBits old 15 15 (bits x 15 15)
  let w := if bits x 13 10 ≠ 0 then putBits w 13 10 (bits x 13 10) else w
  if bits x 9 0 ≠ 0x3FF then putBits w 9 0 (bits x 9 0) else w

theorem pathEntry_valid (x old : Nat) : bits (pathEntry x old) 15 15 = bits x 15 15 := by
  have h9 (w f : Nat) : bits (putBits w 9 0 f) 15 15 = bits w 15 15 := bits_putBits_apart (.inr (by decide))
  have h13 (w f : Nat) : bits (putBits w 13 10 f) 15 15 = bits w 15 15 := bits_putBits_apart (.inr (by decide))
  unfold pathEntry
  by_cases hc : bits x 13 10 = 0 <;> by_cases hn : bits x 9 0 = 0x3FF <;> simp [hc, hn, h9, h13, bits_putBits_bits]

theorem pathEntry_class (x old : Nat) :
    bits (pathEntry x old) 13 10 = if bits x 13 10 = 0 then bits old 13 10 else bits x 13 10 := by
  have h9 (w f : Nat) : bits (putBits w 9 0 f) 13 10 = bits w 13 10 := bits_putBits_apart (.inr (by decide))
  have h15 (w f : Nat) : bits (putBits w 15 15 f) 13 10 = bits w 13 10 := bits_putBits_apart (.inl (by decide))
  unfold pathEntry
  by_cases hc : bits x 13 10 = 0 <;> by_cases hn : bits x 9 0 = 0x3FF <;> simp [hc, hn, h9, h15, bits_putBits_bits]

theorem pathEntry_nbr (x old : Nat) :
    bits (pathEntry x old) 9 0 = if bits x 9 0 = 0x3FF then bits old 9 0 else bits x 9 0 := by
  have h13 (w f : Nat) : bits (putBits w 13 10 f) 9 0 = bits w 9 0 := bits_putBits_apart (.inl (by decide))
  have h15 (w f : Nat) : bits (putBits w 15 15 f) 9 0 = bits w 9 0 := bits_putBits_apart (.inl (by decide))
  unfold pathEntry
  by_cases hc : bits x 13 10 = 0 <;> by_cases hn : bits x 9 0 = 0x3FF <;> simp [hc, hn, h13, h15, bits_putBits_bits]

section
variable {s : State} {who : Initiator} (hr : s.reaches who 11)
include hr

/-- A write of a path entry stores it, and flags a reserved CLASS or NBR. -/
theorem State.pathWrite_eq (v : W16) : ∃ rs, s.pathWrite v = { s with regs := rs, msh := { s.msh with
      path := cellsPut zeroWord s.msh.path (s.rd A.MSH_PATHADDR 7 0)
        (BitVec.ofNat 16 (pathEntry v.toNat (s.pathWord (s.rd A.MSH_PATHADDR 7 0)))) } } ∧
    s.regsKept (s.pathWrite v) [] [A.FLAGS 11] ∧
    (bits v.toNat 13 10 = 0 ∨ bits v.toNat 9 0 = 0x3FF → (s.pathWrite v).flag (A.FLAGS 11) 0 = true) := by
  unfold State.pathWrite
  extract_lets i x okC okN w1 w2 w3 m u
  split
  case isTrue h =>
    refine ⟨s.regs, rfl, State.regsKept_of_regs rfl, fun hres => ?_⟩
    simp only [okC, okN, x, Bool.and_eq_true, decide_eq_true_eq] at h
    exact absurd hres (not_or.2 h)
  case isFalse =>
    rw [State.rejectIn_on (w := 11) (by decide) (show u.on 11 = true from hr.2)]
    exact ⟨_, rfl, (State.regsKept_rejected (mayChange_own (by simp)) : u.regsKept _ _ _), fun _ => u.flag_rejected 11⟩

theorem execMshPathdata_write (v : W16) :
    (let p := s.rd A.MSH_PATHADDR 7 0
     ∃ t, exec (.mshPathdataAccess who (some v)) s = .next t ∧ bits (t.pathWord p) 15 15 = bits v.toNat 15 15 ∧
       bits (t.pathWord p) 13 10 = (if bits v.toNat 13 10 = 0 then bits (s.pathWord p) 13 10 else bits v.toNat 13 10) ∧
       bits (t.pathWord p) 9 0 = (if bits v.toNat 9 0 = 0x3FF then bits (s.pathWord p) 9 0 else bits v.toNat 9 0) ∧
       (∀ q, q ≠ p → t.pathWord q = s.pathWord q) ∧ t.rd A.MSH_PATHADDR 7 0 = (p + 1) % 256 ∧
       (bits v.toNat 13 10 = 0 ∨ bits v.toNat 9 0 = 0x3FF → t.flag (A.FLAGS 11) 0 = true) ∧
       t = { s with regs := t.regs, msh := { s.msh with path := t.msh.path } } ∧
       s.regsKept t [] [A.MSH_PATHADDR, A.FLAGS 11]) := by
  intro p
  have hdata : s.dataWrite A.MSH_PATHDATA v = some ((s.pathWrite v).nextAddr A.MSH_PATHADDR 7 256) := rfl
  obtain ⟨rs, he, hk, hf⟩ := State.pathWrite_eq hr v
  generalize s.pathWrite v = u at he hk hf hdata
  have hpath (q : Nat) : (u.nextAddr A.MSH_PATHADDR 7 256).pathWord q =
      if q = p then (BitVec.ofNat 16 (pathEntry v.toNat (s.pathWord p))).toNat else s.pathWord q := by
    show (cellsGet zeroWord u.msh.path q).toNat = _
    rw [he]
    exact (congrArg BitVec.toNat (cellsGet_put ..)).trans (apply_ite BitVec.toNat ..)
  refine ⟨_, access_write (by decide +kernel) hr hdata, ?_, ?_, ?_, fun q hq => ?_, ?_, fun h => ?_, ?_, ?_⟩
  · rw [hpath, if_pos rfl, bits_ofNat (by decide), pathEntry_valid]
  · rw [hpath, if_pos rfl, bits_ofNat (by decide), pathEntry_class]
  · rw [hpath, if_pos rfl, bits_ofNat (by decide), pathEntry_nbr]
  · rw [hpath, if_neg hq]
  · rw [State.rd_nextAddr _ (by decide) (by decide) (by decide), hk.rd (by decide)]
  · rw [State.nextAddr, State.flag_wr_ne _ _ _ _ _ (by decide), hf h]
  · rw [he]
    rfl
  · exact (hk.mono (List.Subset.refl _) (by simp)).trans (State.regsKept_nextAddr (mayChange_own (by simp)))

theorem execMshPathdata_read :
    ∃ t, exec (.mshPathdataAccess who none) s = .next t ∧ t.lastRead.toNat = s.pathWord (s.rd A.MSH_PATHADDR 7 0) ∧
      t.rd A.MSH_PATHADDR 7 0 = (s.rd A.MSH_PATHADDR 7 0 + 1) % 256 ∧ t = { s with regs := t.regs, lastRead := t.lastRead } ∧
      s.regsKept t [] [A.MSH_PATHADDR] := by
  refine ⟨_, access_read (a := A.MSH_PATHDATA) (by decide +kernel) hr rfl, ?_,
    (State.rd_lastRead ..).trans (s.rd_nextAddr (by decide) (by decide) (by decide)), rfl,
    (State.regsKept_nextAddr (mayChange_own (by simp))).lastRead _⟩
  exact congrArg BitVec.toNat (BitVec.ofNat_toNat ..)

end

/-! ## The neighbour table (R245, R246) -/

/-- Word w of entry n as a write of x keeps it, old being word 5: the defined bits of words 5, 6, 14 and 15, a reserved MISS
as it was, and no VALID in entry 3FFh. -/
def nbrEntry (n w x old : Nat) : Nat :=
  let y := if w = 5 then
      (if 5 ≤ bits x 11 9 then putBits (x - bits x 8 8 * 256) 11 9 (bits old 11 9) else x - bits x 8 8 * 256)
    else if w = 6 then bits x 15 12 * 4096
    else if w = 14 then bits x 15 8 * 256
    else if w = 15 then 0
    else x
  if n % 1024 = 1023 && w = 5 then y % 32768 else y

theorem nbrEntry_plain {n w x old : Nat} (h5 : w ≠ 5) (h6 : w ≠ 6) (h14 : w < 14) : nbrEntry n w x old = x := by
  simp [nbrEntry, h5, h6, show w ≠ 14 by omega, show w ≠ 15 by omega]

theorem nbrEntry_six (n x old : Nat) : nbrEntry n 6 x old = bits x 15 12 * 4096 := by simp [nbrEntry]

theorem nbrEntry_fourteen (n x old : Nat) : nbrEntry n 14 x old = bits x 15 8 * 256 := by simp [nbrEntry]

theorem nbrEntry_fifteen (n x old : Nat) : nbrEntry n 15 x old = 0 := by simp [nbrEntry]

/-- Bit 8 of word 5 is reserved. -/
theorem clearBit8 (x : Nat) : x - bits x 8 8 * 256 = putBits x 8 8 0 := by simp [putBits]

section
variable (n x old : Nat)

/-- A field of word 5 below VALID reads as it was put together. -/
theorem bits_nbrEntry_five {hi lo : Nat} (hh : hi < 15) : bits (nbrEntry n 5 x old) hi lo =
    bits (if 5 ≤ bits x 11 9 then putBits (putBits x 8 8 0) 11 9 (bits old 11 9) else putBits x 8 8 0) hi lo := by
  unfold nbrEntry
  simp only [if_true, clearBit8]
  split
  · exact bits_mod_two_pow (n := 15) hh
  · rfl

theorem nbrEntry_five_valid {n : Nat} (hn : n < 1024) :
    bits (nbrEntry n 5 x old) 15 15 = if n = 0x3FF then 0 else bits x 15 15 := by
  have h8 : bits (putBits x 8 8 0) 15 15 = bits x 15 15 := bits_putBits_apart (.inr (by decide))
  have h11 (w f : Nat) : bits (putBits w 11 9 f) 15 15 = bits w 15 15 := bits_putBits_apart (.inr (by decide))
  unfold nbrEntry
  simp only [if_true, clearBit8, Nat.mod_eq_of_lt hn]
  by_cases h : n = 1023
  · simp only [h, decide_true, Bool.and_self, if_true]
    exact bits_mod_below _ 15 15
  · by_cases hm : 5 ≤ bits x 11 9 <;> simp [h, hm, h8, h11]

theorem nbrEntry_five_high : bits (nbrEntry n 5 x old) 14 12 = bits x 14 12 := by
  have h8 : bits (putBits x 8 8 0) 14 12 = bits x 14 12 := bits_putBits_apart (.inr (by decide))
  have h11 (w f : Nat) : bits (putBits w 11 9 f) 14 12 = bits w 14 12 := bits_putBits_apart (.inr (by decide))
  rw [bits_nbrEntry_five n x old (by decide)]
  by_cases hm : 5 ≤ bits x 11 9 <;> simp [hm, h8, h11]

theorem nbrEntry_five_reserved : bits (nbrEntry n 5 x old) 8 8 = 0 := by
  have h8 : bits (putBits x 8 8 0) 8 8 = 0 := bits_putBits ..
  have h11 (w f : Nat) : bits (putBits w 11 9 f) 8 8 = bits w 8 8 := bits_putBits_apart (.inl (by decide))
  rw [bits_nbrEntry_five n x old (by decide)]
  by_cases hm : 5 ≤ bits x 11 9 <;> simp [hm, h8, h11]

theorem nbrEntry_five_low : bits (nbrEntry n 5 x old) 7 0 = bits x 7 0 := by
  have h8 : bits (putBits x 8 8 0) 7 0 = bits x 7 0 := bits_putBits_apart (.inl (by decide))
  have h11 (w f : Nat) : bits (putBits w 11 9 f) 7 0 = bits w 7 0 := bits_putBits_apart (.inl (by decide))
  rw [bits_nbrEntry_five n x old (by decide)]
  by_cases hm : 5 ≤ bits x 11 9 <;> simp [hm, h8, h11]

/-- MISS, its values 5 to 7 being reserved. -/
theorem nbrEntry_five_miss : bits (nbrEntry n 5 x old) 11 9 = if bits x 11 9 < 5 then bits x 11 9 else bits old 11 9 := by
  have h8 : bits (putBits x 8 8 0) 11 9 = bits x 11 9 := bits_putBits_apart (.inr (by decide))
  rw [bits_nbrEntry_five n x old (by decide)]
  by_cases hm : 5 ≤ bits x 11 9
  · simp [hm, Nat.not_lt.2 hm, bits_putBits_bits]
  · simp [hm, Nat.not_le.1 hm, h8]

end

section
variable {s : State} {who : Initiator}

/-- A stored word of the table changes the mesh state alone; then the node may lose its time source. -/
theorem State.nbrStore_eq (i : Nat) (v : W16) : ∃ m : Msh, s.nbrStore i v = { s with msh := m }.checkSynced ∧
    m.nbr = cellsPut zeroWord s.msh.nbr (i / 16 % 1024 * 16 + i % 16)
      (BitVec.ofNat 16 (nbrEntry (i / 16) (i % 16) v.toNat (s.nbr (i / 16) 5))) := by
  unfold State.nbrStore
  extract_lets a m b
  refine ⟨b.msh, congrArg State.checkSynced ?_, ?_⟩ <;> simp only [b] <;> split <;> rfl

/-- A refused encoding is flagged; nothing else of the state sees it. -/
theorem State.nbrWrite_eq {u : State} {v : W16} (h : ¬ (s.rd A.MSH_NBRADDR 13 0 % 16 = 0 ∧ v = 0))
    (hu : u = if s.lnk.judging.isEmpty then s.nbrStore (s.rd A.MSH_NBRADDR 13 0) v
      else { s with msh := { s.msh with nbrLate := s.msh.nbrLate ++ [(s.rd A.MSH_NBRADDR 13 0, v)] } }) :
    ∃ rs, s.nbrWrite v = { u with regs := rs } ∧ u.regsKept (s.nbrWrite v) [] [A.FLAGS 11] := by
  have hs : (decide (s.rd A.MSH_NBRADDR 13 0 % 16 = 0) && decide (v = 0)) = false := by simpa using h
  unfold State.nbrWrite
  simp only [hs, Bool.false_eq_true, if_false, Bool.false_or, ← hu]
  split
  · exact ⟨_, u.rejectIn_regs _, State.rejectIn_regsKept (w := 11) (by decide) (mayChange_own (by simp))⟩
  · exact ⟨_, rfl, .refl⟩

theorem State.dataWrite_nbrdata (s : State) (v : W16) : s.dataWrite A.MSH_NBRDATA v =
    some ((s.nbrWrite v).nextAddr A.MSH_NBRADDR 13 16384) := rfl

/-- What the table shows after a word of it was put. -/
theorem State.nbr_put {t : State} {n w : Nat} {x : W16} (hn : n < 1024) (hw : w < 16)
    (ht : t.msh.nbr = cellsPut zeroWord s.msh.nbr (n % 1024 * 16 + w) x) :
    t.nbr n w = x.toNat ∧ ∀ m j, m < 1024 → j < 16 → (m, j) ≠ (n, w) → t.nbr m j = s.nbr m j := by
  refine ⟨?_, fun m j hm hj hne => ?_⟩
  · rw [State.nbr, ht, cellsGet_put, if_pos rfl]
  · have hmn : m % 1024 * 16 + j ≠ n % 1024 * 16 + w := by
      rw [Nat.mod_eq_of_lt hm, Nat.mod_eq_of_lt hn]
      intro he
      exact hne (Prod.ext (by dsimp only; omega) (by dsimp only; omega))
    rw [State.nbr, ht, cellsGet_put, if_neg hmn, State.nbr]

variable (hr : s.reaches who 11)
include hr

/-- A word stored while no frame is judged: the table, and what may follow where the node is synced or lead. -/
theorem execMshNbrdata_store (v : W16) (hj : s.lnk.judging = [])
    (h0 : ¬ (s.rd A.MSH_NBRADDR 13 0 % 16 = 0 ∧ v = 0)) :
    ∃ t, exec (.mshNbrdataAccess who (some v)) s = .next t ∧
      t.msh.nbr = cellsPut zeroWord s.msh.nbr
        (s.rd A.MSH_NBRADDR 13 0 / 16 % 1024 * 16 + s.rd A.MSH_NBRADDR 13 0 % 16)
        (BitVec.ofNat 16 (nbrEntry (s.rd A.MSH_NBRADDR 13 0 / 16) (s.rd A.MSH_NBRADDR 13 0 % 16) v.toNat
          (s.nbr (s.rd A.MSH_NBRADDR 13 0 / 16) 5))) ∧
      t.rd A.MSH_NBRADDR 13 0 = (s.rd A.MSH_NBRADDR 13 0 + 1) % 16384 ∧ t.mram = s.mram ∧
      (s.rd A.MSH_TSTAT 15 13 = 0 ∨ s.rd A.MSH_TSTAT 15 13 = 2 → s.memKept t ∧ t.rings = s.rings ∧
        s.regsKept t [] [A.MSH_NBRADDR, A.FLAGS 11]) := by
  obtain ⟨m, hstore, hm⟩ := s.nbrStore_eq (s.rd A.MSH_NBRADDR 13 0) v
  have hk := State.checkSynced_postKept (s := { s with msh := m }) .refl
  obtain ⟨rs, hw, hrs⟩ := State.nbrWrite_eq h0 (v := v) (s := s) rfl
  rw [hj, List.isEmpty_nil, if_pos rfl, hstore] at hw hrs
  have haddr : (s.nbrWrite v).rd A.MSH_NBRADDR 13 0 = s.rd A.MSH_NBRADDR 13 0 :=
    (hrs.rd (by decide) 13 0).trans (hk.regs.rd (by decide) 13 0)
  refine ⟨_, access_write (by decide +kernel) hr (s.dataWrite_nbrdata v), ?_, ?_, ?_, fun hstat => ?_⟩
  · show (s.nbrWrite v).msh.nbr = _
    rw [hw, ← hm]
    exact hk.nbr
  · rw [State.rd_nextAddr _ (by decide) (by decide) (by decide), haddr]
  · show (s.nbrWrite v).mram = _
    rw [hw]
    exact hk.mram
  · rw [State.checkSynced_of_stat (s := { s with msh := m }) hstat] at hw hrs
    refine ⟨?_, ?_, ?_⟩
    · show s.memKept (s.nbrWrite v)
      rw [hw]
      exact .refl
    · show (s.nbrWrite v).rings = _
      rw [hw]
    · have hs : s.regsKept (s.nbrWrite v) [] [A.FLAGS 11] := hrs
      exact (hs.mono (List.Subset.refl _) (by simp)).trans (State.regsKept_nextAddr (mayChange_own (by simp)))

/-- 0000h is no SHORT: nothing is stored (R3). -/
theorem execMshNbrdata_short (v : W16) (h0 : s.rd A.MSH_NBRADDR 13 0 % 16 = 0) (hv : v = 0) :
    ∃ t, exec (.mshNbrdataAccess who (some v)) s = .next t ∧ t.flag (A.FLAGS 11) 0 = true ∧
      t.rd A.MSH_NBRADDR 13 0 = (s.rd A.MSH_NBRADDR 13 0 + 1) % 16384 ∧
      t = { s with regs := t.regs } ∧ s.regsKept t [] [A.MSH_NBRADDR, A.FLAGS 11] := by
  have hw : s.nbrWrite v = s.rejected 11 := by
    simp only [State.nbrWrite, h0, hv, decide_true, Bool.and_self, if_true, Bool.true_or]
    exact State.rejectIn_on (by decide) hr.2
  refine ⟨_, access_write (by decide +kernel) hr (s.dataWrite_nbrdata v), ?_⟩
  rw [hw]
  refine ⟨?_, ?_, rfl, ?_⟩
  · rw [State.nextAddr, State.flag_wr_ne _ _ _ _ _ (by decide), s.flag_rejected]
  · rw [State.rd_nextAddr _ (by decide) (by decide) (by decide), s.rd_rejected (by decide)]
  · exact (State.regsKept_rejected (mayChange_own (by simp))).trans (State.regsKept_nextAddr (mayChange_own (by simp)))

/-- A write that comes while a frame is judged is kept until the judgement is over (R246). -/
theorem execMshNbrdata_late (v : W16) (hj : s.lnk.judging ≠ []) (h0 : ¬ (s.rd A.MSH_NBRADDR 13 0 % 16 = 0 ∧ v = 0)) :
    ∃ t, exec (.mshNbrdataAccess who (some v)) s = .next t ∧
      t.rd A.MSH_NBRADDR 13 0 = (s.rd A.MSH_NBRADDR 13 0 + 1) % 16384 ∧
      t = { s with regs := t.regs, msh := { s.msh with nbrLate := s.msh.nbrLate ++ [(s.rd A.MSH_NBRADDR 13 0, v)] } } ∧
      s.regsKept t [] [A.MSH_NBRADDR, A.FLAGS 11] := by
  obtain ⟨rs, hw, hrs⟩ := State.nbrWrite_eq h0 (v := v) (s := s) rfl
  rw [if_neg (by simpa using hj)] at hw hrs
  have hs : s.regsKept (s.nbrWrite v) [] [A.FLAGS 11] := hrs
  refine ⟨_, access_write (by decide +kernel) hr (s.dataWrite_nbrdata v), ?_, ?_, ?_⟩
  · rw [State.rd_nextAddr _ (by decide) (by decide) (by decide), hs.rd (by decide)]
  · rw [hw]
    rfl
  · exact (hs.mono (List.Subset.refl _) (by simp)).trans (State.regsKept_nextAddr (mayChange_own (by simp)))

theorem execMshNbrdata_read :
    ∃ t, exec (.mshNbrdataAccess who none) s = .next t ∧
      t.lastRead.toNat = s.nbr (s.rd A.MSH_NBRADDR 13 0 / 16) (s.rd A.MSH_NBRADDR 13 0 % 16) ∧
      t.rd A.MSH_NBRADDR 13 0 = (s.rd A.MSH_NBRADDR 13 0 + 1) % 16384 ∧ t = { s with regs := t.regs, lastRead := t.lastRead } ∧
      s.regsKept t [] [A.MSH_NBRADDR] := by
  refine ⟨_, access_read (a := A.MSH_NBRDATA) (by decide +kernel) hr rfl, ?_,
    (State.rd_lastRead ..).trans (s.rd_nextAddr (by decide) (by decide) (by decide)), rfl,
    (State.regsKept_nextAddr (mayChange_own (by simp))).lastRead _⟩
  have hlt : s.rd A.MSH_NBRADDR 13 0 < 2 ^ 14 := s.rd_lt ..
  have haddr : s.rd A.MSH_NBRADDR 13 0 / 16 % 1024 * 16 + s.rd A.MSH_NBRADDR 13 0 % 16 = s.rd A.MSH_NBRADDR 13 0 := by omega
  rw [State.nbr, haddr]

/-- What the table shows of the word written, by its number; every other word is as it was. -/
theorem execMshNbrdata_write (v : W16) :
    (let n := s.rd A.MSH_NBRADDR 13 0 / 16
     let w := s.rd A.MSH_NBRADDR 13 0 % 16
     s.lnk.judging = [] → ¬ (w = 0 ∧ v = 0) →
     ∃ t, exec (.mshNbrdataAccess who (some v)) s = .next t ∧
       (w ≠ 5 → w ≠ 6 → w < 14 → t.nbr n w = v.toNat) ∧ (w = 6 → t.nbr n w = bits v.toNat 15 12 * 4096) ∧
       (w = 14 → t.nbr n w = bits v.toNat 15 8 * 256) ∧ (w = 15 → t.nbr n w = 0) ∧
       (w = 5 → bits (t.nbr n 5) 15 15 = (if n = 0x3FF then 0 else bits v.toNat 15 15) ∧ bits (t.nbr n 5) 14 12 = bits v.toNat 14 12 ∧
         bits (t.nbr n 5) 8 8 = 0 ∧ bits (t.nbr n 5) 7 0 = bits v.toNat 7 0 ∧
         bits (t.nbr n 5) 11 9 = (if bits v.toNat 11 9 < 5 then bits v.toNat 11 9 else bits (s.nbr n 5) 11 9)) ∧
       (∀ m j, m < 1024 → j < 16 → (m, j) ≠ (n, w) → t.nbr m j = s.nbr m j) ∧
       t.rd A.MSH_NBRADDR 13 0 = (s.rd A.MSH_NBRADDR 13 0 + 1) % 16384 ∧ t.mram = s.mram ∧
       (s.rd A.MSH_TSTAT 15 13 = 0 ∨ s.rd A.MSH_TSTAT 15 13 = 2 → s.memKept t ∧ t.rings = s.rings ∧
         s.regsKept t [] [A.MSH_NBRADDR, A.FLAGS 11])) := by
  intro n w hj h0
  obtain ⟨t, hexec, hput, haddr, hmram, hkept⟩ := execMshNbrdata_store hr v hj h0
  have hlt : s.rd A.MSH_NBRADDR 13 0 < 2 ^ 14 := s.rd_lt ..
  have hn : n < 1024 := by omega
  have hw : w < 16 := by omega
  have hsame : t.nbr n w = (BitVec.ofNat 16 (nbrEntry n w v.toNat (s.nbr n 5))).toNat := (State.nbr_put hn hw hput).1
  have hbits {hi lo : Nat} (hh : hi < 16) : bits (t.nbr n w) hi lo = bits (nbrEntry n w v.toNat (s.nbr n 5)) hi lo := by
    rw [hsame, bits_ofNat hh]
  refine ⟨t, hexec, fun h5 h6 h14 => ?_, fun h6 => ?_, fun h14 => ?_, fun h15 => ?_, fun h5 => ?_,
    (State.nbr_put hn hw hput).2, haddr, hmram, hkept⟩
  · rw [hsame, nbrEntry_plain h5 h6 h14, BitVec.ofNat_toNat, BitVec.setWidth_eq]
  · have hfit : bits v.toNat 15 12 < 2 ^ 4 := bits_lt ..
    rw [hsame, h6, nbrEntry_six, BitVec.toNat_ofNat, Nat.mod_eq_of_lt (by omega)]
  · have hfit : bits v.toNat 15 8 < 2 ^ 8 := bits_lt ..
    rw [hsame, h14, nbrEntry_fourteen, BitVec.toNat_ofNat, Nat.mod_eq_of_lt (by omega)]
  · rw [hsame, h15, nbrEntry_fifteen]
    rfl
  · rw [h5] at hbits
    exact ⟨(hbits (by decide)).trans (nbrEntry_five_valid _ _ hn), (hbits (by decide)).trans (nbrEntry_five_high ..),
      (hbits (by decide)).trans (nbrEntry_five_reserved ..), (hbits (by decide)).trans (nbrEntry_five_low ..),
      (hbits (by decide)).trans (nbrEntry_five_miss ..)⟩

end

/-- Settles O46: a write and a read lemma for each data register. -/
theorem dataRegisters : Obligations.DataRegisters :=
  ⟨fun _ v _ hr => execSeqTbldata_write hr v, fun _ _ hr => execSeqTbldata_read hr,
    fun _ v _ hr => execCblLvdata_write hr v, fun _ _ hr => execCblLvdata_read hr,
    fun _ v _ hr => execLnkHopdata_write hr v, fun _ _ hr => execLnkHopdata_read hr,
    fun _ v _ hr => execRingGpdata_write hr v, fun _ _ hr => execRingGpdata_read hr,
    fun _ v _ hr => execMshPathdata_write hr v, fun _ _ hr => execMshPathdata_read hr,
    fun _ v _ hr => execMshNbrdata_write hr v, fun _ v _ hr => ⟨execMshNbrdata_short hr v, execMshNbrdata_late hr v⟩,
    fun _ _ hr => execMshNbrdata_read hr⟩

end Sys2Proof.Machine
end
